-- ==== Sys2Proof/Word.lean ====
section
/-! DEFINITION. The word types of the device and the plain shapes of data that hold sparse things (R6, R7, R14). -/

namespace Sys2Proof

/-- One byte (R7). -/
abbrev Byte := BitVec 8
/-- A 16-bit field. -/
abbrev W16 := BitVec 16
/-- A 32-bit word. -/
abbrev W32 := BitVec 32
/-- A 64-bit word: the width of jig registers and host registers. -/
abbrev W64 := BitVec 64
/-- A 128-bit word: the width of W128 values and of HTL headers. -/
abbrev W128 := BitVec 128
/-- A SHA-384 digest (R495, R498). -/
abbrev Digest := BitVec 384

/-- A string of bytes, the lowest address (or the first byte sent) first. -/
abbrev Bytes := List Byte

/-- Data by number: pairs of a key and a value, keys rising. A key that is not listed has a default that the reader names. -/
abbrev Tbl (α : Type) := List (Nat × α)

/-- A value for each bench lane, or for each word of a staging row: `base` everywhere but at the places listed in `exc`
(keys rising). -/
structure Lanes (α : Type) where
  base : α
  exc : Tbl α
  deriving DecidableEq, Repr

/-- The rounding modes of R40 and R55. -/
inductive RMode where
  | rne | rtz | rup | rdn | sr
  deriving DecidableEq, Repr

end Sys2Proof
end

