-- ==== Sys2Proof/Syntax.lean ====
section
/-! DEFINITION. The commands of the device: one constructor for each row of spec/opcode_table.json, with its operands. What a
row's occurrence depends on and the device itself knows (a slot's next issue, an oldest mailbox) is no operand. -/

namespace Sys2Proof

/-- A job slot, 0 to 63 (R32). -/
abbrev SlotId := Fin 64
/-- A mailbox: 0 the system mailbox, 1 + s the job mailbox of slot s (R438). -/
abbrev MbxId := Fin 65
/-- A port, named by its lowest lane (R21). -/
abbrev PortId := Fin 512
/-- A main lane (R21). -/
abbrev LaneId := Fin 512
/-- A lane's index in its port (R381). -/
abbrev LaneIx := Fin 4
/-- A spoke link (R396). -/
abbrev LinkId := Fin 8
/-- A tile (R19). -/
abbrev TileId := Fin 128
/-- An HBM channel (R411). -/
abbrev ChanId := Fin 1024
/-- A byte address within a channel of 2 GiB (R411). -/
abbrev ChanAddr := BitVec 31
/-- An HBM stack (R17). -/
abbrev StackId := Fin 32
/-- A power domain (R29). -/
abbrev DomainId := Fin 50
/-- A host UCIe module (R433). -/
abbrev ModuleId := Fin 2
/-- A die-to-die link, in the order of R16. -/
abbrev DieLink := Fin 10
/-- Why a channel is mapped out (R431). -/
abbrev MapReason := Fin 4
/-- Why a last gasp begins (R467, R468). -/
abbrev GaspCause := Fin 4

/-- An HTL packet from the host (R434): the module it arrives on, its header and its payload. -/
structure HtlReq where
  mdl : ModuleId
  hdr : W128
  payload : Bytes
  deriving DecidableEq, Repr

/-- How the HTL accesses of a command to its host buffer ended (R447): whether every one returned OK, and the bytes read. -/
structure HostBuf where
  ok : Bool
  bytes : Bytes
  deriving DecidableEq, Repr

/-- A ULP frame as a port receives it (R351): header, payload, frame check sequence, and whether an FEC codeword of the header
or of the payload is marked uncorrectable (R385). -/
structure RxFrame where
  port : PortId
  hdr : BitVec 512
  payload : Bytes
  fcs : W64
  hdrBad : Bool
  payBad : Bool
  deriving DecidableEq, Repr

/-- A sequence as a spoke link receives it (R398): its K-symbol, SSEQ and body, and whether it passed its CRC and code checks. -/
structure SpokeRx where
  link : LinkId
  ksym : Byte
  sseq : Byte
  body : Bytes
  good : Bool
  deriving DecidableEq, Repr

/-- The commands of the device. -/
inductive Instr where
  /-- HOST_READ (R435): A host HTL READ to a window register or mailbox is served and completed in order on its module. -/
  | hostRead (req : HtlReq)
  /-- REGISTER_WRITE (R506): A host write to a register or mailbox slot that has no row of its own sets the RW fields, or completes UNSUPPORTED or is discarded. -/
  | registerWrite (req : HtlReq)
  /-- APERTURE_READ (R440): A host read through the HBM aperture maps its offset by the selected view and returns data, zeros, REFUSED or DATA_ERROR. -/
  | apertureRead (req : HtlReq)
  /-- APERTURE_WRITE (R440): A host write through the HBM aperture is applied where the view allows it; a write to PRIMARY or EMEM marks the slot HOST_WRITTEN. -/
  | apertureWrite (req : HtlReq)
  /-- APERTURE_ADD (R423): A host ADD to a host region applies a memory-side ADD_W128, ADD_I64 or ADD_F32, or is refused. -/
  | apertureAdd (req : HtlReq)
  /-- DEVICE_RESET (R511): Writing 0xA5C3 to GLB_RESET completes the write, sends LEAVE if slots are open, and resets the device. -/
  | deviceReset (req : HtlReq)
  /-- BOOT_GO (R512): Writing GO in GLB_BOOT_LEN during SECURE_BOOT with BOOT_SEL 1 starts the HTL read of the boot image. -/
  | bootGo (req : HtlReq)
  /-- EVENT_RING_ENABLE (R449): Setting MBX_EVT_CTL.EN from 0 to 1 enables the event ring and sets HEAD and TAIL to 0. -/
  | eventRingEnable (req : HtlReq)
  /-- EVENT_RING_TAIL_WRITE (R450): A host write to MBX_EVT_TAIL frees ring room, after which a RING_OVERFLOW record is written if events were lost. -/
  | eventRingTailWrite (req : HtlReq)
  /-- HTL_ERR_READ (R510): A read of GLB_HTL_ERR returns and clears the UNSUPPORTED and REFUSED counts. -/
  | htlErrRead (req : HtlReq)
  /-- INPUT_PEAK_READ (R513): A host read of PWR_INPUT returns and clears PEAK. -/
  | inputPeakRead (req : HtlReq)
  /-- MBX_DISCARDED_READ (R442): A read of MBX_CTL returns and clears the DISCARDED count of the mailbox. -/
  | mbxDiscardedRead (req : HtlReq)
  /-- EVENT_LOST_READ (R449): A read of MBX_EVT_LOST returns and clears the count of events not posted. -/
  | eventLostRead (req : HtlReq)
  /-- TRACE_LOST_READ (R516): A read of TRC_LOST returns and clears TRACE_LOST. -/
  | traceLostRead (req : HtlReq)
  /-- LGASP_CLEAR (R516): Writing 1 to TRC_LGASP_STATUS.VALID clears it and zeroes TRC_LGASP. -/
  | lgaspClear (req : HtlReq)
  /-- TRACE_WINDOW_READ (R517): A read of the trace readout window returns one record whole as of one cycle, or all 0xFF when the record is not held. -/
  | traceWindowRead (req : HtlReq)
  /-- HTL_COMPLETION (R434): A COMPLETION from the host for a device-issued read or write of a mailbox buffer or the event ring is taken. -/
  | htlCompletion (req : HtlReq)
  /-- EVENT_HOLDOFF_EXPIRY (R451): At the end of an interrupt hold-off in which HEAD advanced, one more vector-0 INTERRUPT is sent. -/
  | eventHoldoffExpiry
  /-- UCIE_MODULE_DOWN (R436): A host UCIe module goes down; its outstanding requests are not completed and device requests move to the other module. -/
  | ucieModuleDown (mdl : ModuleId)
  /-- SIDEBAND_ACCESS (R437): A 4- or 8-byte register read or write over the UCIe sideband to offsets below 0x0002_0000 is served. -/
  | sidebandAccess (req : HtlReq)
  /-- DEVICE_INFO_IDENTITY (R454): DEVICE_INFO with FORM 0 returns the device identity, capacity and status. -/
  | deviceInfoIdentity
  /-- DEVICE_INFO_CHANNELS (R431): DEVICE_INFO with FORM 1 writes the 1,024 channel records to the host buffer. -/
  | deviceInfoChannels (buf : HostBuf)
  /-- JOB_OPEN (R455): JOB_OPEN checks the open block and maps a job ID to a slot, advancing its generation and entering OPEN, or refuses or holds. -/
  | jobOpen (buf : HostBuf)
  /-- JOB_CLOSE (R34): JOB_CLOSE ends OPEN for the slot and starts DRAINING, or is held while the slot is SEALED. -/
  | jobClose
  /-- SHARD_PLACE (R98): SHARD_PLACE sets the index limit, loads the shard map and allocates state, scratch, error-memory and host-region space. -/
  | shardPlace (buf : HostBuf)
  /-- TANDEM_BIND (R262): TANDEM_BIND sets PARTNER and MIRROR_OF, starting a resync to a new partner and requesting one from a new MIRROR_OF. -/
  | tandemBind
  /-- TANDEM_UNBIND (R262): TANDEM_BIND with UNBIND set removes the slot's tandem binding. -/
  | tandemUnbind
  /-- SPARE_ADMIT (R279): SPARE_ADMIT names the lost device and the source partner whose mirror becomes the spare's primary shard. -/
  | spareAdmit
  /-- GROUP_DEFINE (R228): GROUP_DEFINE checks and writes a new group entry and member list at generation 1. -/
  | groupDefine (buf : HostBuf)
  /-- GROUP_REGEN (R230): GROUP_REGEN checks and stages a replacement member list with the next generation, or its removal. -/
  | groupRegen (buf : HostBuf)
  /-- PROGRAM_LOAD (R539): PROGRAM_LOAD checks a version image and loads it into a region, extending the slot measurement. -/
  | programLoad (buf : HostBuf)
  /-- PROGRAM_SELECT (R152): PROGRAM_SELECT marks a READY, RETIRED or IN_USE version for the next arming. -/
  | programSelect
  /-- STEP_ARM (R460): STEP_ARM checks sequence and slot, makes the step current on its first use, and arms its bucket descriptors in turn. -/
  | stepArm (buf : HostBuf)
  /-- STEP_STATUS (R457): STEP_STATUS captures the slot's records and writes them, with bucket records and log entries, to the host buffer. -/
  | stepStatus (buf : HostBuf)
  /-- STEP_STATUS_CLEAR_FLAGS (R457): STEP_STATUS with CLEAR_FLAGS also clears the numeric flag word after the capture. -/
  | stepStatusClearFlags (buf : HostBuf)
  /-- ROLLBACK (R460): ROLLBACK with RESOLVE 0 aborts a DRY_FIT step with cause HOST_ROLLBACK. -/
  | rollback
  /-- ROLLBACK_RESOLVE_GLUED (R278): ROLLBACK with RESOLVE 1 applies a glue-up to a step left SEALED. -/
  | rollbackResolveGlued
  /-- ROLLBACK_RESOLVE_ABORTED (R278): ROLLBACK with RESOLVE 2 applies an abort to a step left SEALED. -/
  | rollbackResolveAborted
  /-- HEALTH_READ (R298): HEALTH_READ writes the health record of each scored subject to the host buffer. -/
  | healthRead (buf : HostBuf)
  /-- BRAKE_SET (R461): BRAKE_SET checks and replaces the masked coalescing, accuser, score, decay and brake settings. -/
  | brakeSet
  /-- REHEARSAL_SET (R299): REHEARSAL_SET sets the rehearsal interval, kinds and seed of the slot. -/
  | rehearsalSet
  /-- TRACE_SET (R330): TRACE_SET sets the trace ring size and mode and writes the selected filters, restarting their counts. -/
  | traceSet (buf : HostBuf)
  /-- LINK_CONFIG_DEVICE (R458): LINK_CONFIG form DEVICE sets the device ID, accumulation area and pool carving, and the time root or parent. -/
  | linkConfigDevice (buf : HostBuf)
  /-- LINK_CONFIG_PORT (R458): LINK_CONFIG form PORT sets a port's enable, role, width, medium, modes, weights, credits, idle and congestion settings. -/
  | linkConfigPort (buf : HostBuf)
  /-- LINK_CONFIG_LANE (R458): LINK_CONFIG form LANE sets a lane's polarity, loopback and test pattern. -/
  | linkConfigLane (buf : HostBuf)
  /-- LINK_CONFIG_READ (R458): A read form of LINK_CONFIG writes the time, slice, port, protocol, lane or spoke records to the host buffer. -/
  | linkConfigRead (buf : HostBuf)
  /-- LINK_CONFIG_CLEAR (R458): LINK_CONFIG with CLEAR clears the counts of the records read. -/
  | linkConfigClear (buf : HostBuf)
  /-- POWER_POLICY_READ (R453): POWER_POLICY with SET 0 returns input power, voltage and hottest junction. -/
  | powerPolicyRead
  /-- POWER_POLICY_SET (R472): POWER_POLICY with SET 1 replaces the power caps, burst budget and sleep mask. -/
  | powerPolicySet
  /-- ATTEST (R498): ATTEST builds the attestation report, signs it with a fresh LMS leaf and ECDSA, and writes it to the host buffer, or is held or refused. -/
  | attest (buf : HostBuf)
  /-- BAD_COMMAND (R453): A mailbox command with an undefined opcode is refused with BAD_COMMAND. -/
  | badCommand
  /-- HELD_COMMAND_RESUME (R444): A HELD command, such as a queued JOB_OPEN, a JOB_CLOSE on a SEALED slot or an ATTEST awaiting a commit, finishes once its condition is met. -/
  | heldCommandResume (mbx : MbxId) (buf : HostBuf)
  /-- KEEPER_WATCHDOG (R481): The keeper watchdog finds no kick for 10 ms; DRY_FIT steps abort and the standby core boots. -/
  | keeperWatchdog
  /-- TAKEOVER (R28): The standby core, having verified the Gorirgen image, posts TAKEOVER and serves the mailboxes under R445. -/
  | takeover
  /-- JIG_ADD (R163): Jig ADD writes G[ra] + G[rb] to G[rd]. -/
  | jigAdd (slot : SlotId)
  /-- JIG_SUB (R163): Jig SUB writes G[ra] - G[rb] to G[rd]. -/
  | jigSub (slot : SlotId)
  /-- JIG_AND (R163): Jig AND writes the bitwise AND of two G registers. -/
  | jigAnd (slot : SlotId)
  /-- JIG_OR (R163): Jig OR writes the bitwise OR of two G registers. -/
  | jigOr (slot : SlotId)
  /-- JIG_XOR (R163): Jig XOR writes the bitwise XOR of two G registers. -/
  | jigXor (slot : SlotId)
  /-- JIG_SLL (R163): Jig SLL shifts G[ra] left by G[rb][5:0]. -/
  | jigSll (slot : SlotId)
  /-- JIG_SRL (R163): Jig SRL shifts G[ra] right logically by G[rb][5:0]. -/
  | jigSrl (slot : SlotId)
  /-- JIG_SRA (R163): Jig SRA shifts G[ra] right arithmetically by G[rb][5:0]. -/
  | jigSra (slot : SlotId)
  /-- JIG_MUL (R163): Jig MUL writes the low 64 bits of the product, taking 4 cycles. -/
  | jigMul (slot : SlotId)
  /-- JIG_MULHU (R163): Jig MULHU writes the high 64 bits of the unsigned product. -/
  | jigMulhu (slot : SlotId)
  /-- JIG_SLT (R163): Jig SLT writes 1 when G[ra] is less than G[rb] signed. -/
  | jigSlt (slot : SlotId)
  /-- JIG_SLTU (R163): Jig SLTU writes 1 when G[ra] is less than G[rb] unsigned. -/
  | jigSltu (slot : SlotId)
  /-- JIG_MIN (R163): Jig MIN writes the signed minimum. -/
  | jigMin (slot : SlotId)
  /-- JIG_MAX (R163): Jig MAX writes the signed maximum. -/
  | jigMax (slot : SlotId)
  /-- ADDI (R163): ADDI adds a sign-extended immediate. -/
  | jigAddi (slot : SlotId)
  /-- ANDI (R163): ANDI ANDs a zero-extended immediate. -/
  | jigAndi (slot : SlotId)
  /-- ORI (R163): ORI ORs a zero-extended immediate. -/
  | jigOri (slot : SlotId)
  /-- XORI (R163): XORI XORs a zero-extended immediate. -/
  | jigXori (slot : SlotId)
  /-- SLLI (R163): SLLI shifts left by an immediate. -/
  | jigSlli (slot : SlotId)
  /-- SRLI (R163): SRLI shifts right logically by an immediate. -/
  | jigSrli (slot : SlotId)
  /-- SRAI (R163): SRAI shifts right arithmetically by an immediate. -/
  | jigSrai (slot : SlotId)
  /-- LUI (R163): LUI writes the immediate shifted left by 32. -/
  | jigLui (slot : SlotId)
  /-- SLTI (R163): SLTI compares G[ra] with a sign-extended immediate. -/
  | jigSlti (slot : SlotId)
  /-- ASET (R163): ASET sets an address register and its stride register. -/
  | jigAset (slot : SlotId)
  /-- AADD (R163): AADD adds a sign-extended immediate to an address register. -/
  | jigAadd (slot : SlotId)
  /-- ARD (R163): ARD reads an address register into G[rd]. -/
  | jigArd (slot : SlotId)
  /-- SRD (R163): SRD reads a stride register into G[rd]. -/
  | jigSrd (slot : SlotId)
  /-- LSET (R163): LSET sets a loop counter. -/
  | jigLset (slot : SlotId)
  /-- LRD (R163): LRD reads a loop counter into G[rd]. -/
  | jigLrd (slot : SlotId)
  /-- BEQ (R163): BEQ branches when two G registers are equal. -/
  | jigBeq (slot : SlotId)
  /-- BNE (R163): BNE branches when two G registers differ. -/
  | jigBne (slot : SlotId)
  /-- BLT (R163): BLT branches on signed less than. -/
  | jigBlt (slot : SlotId)
  /-- BGE (R163): BGE branches on signed greater or equal. -/
  | jigBge (slot : SlotId)
  /-- BLTU (R163): BLTU branches on unsigned less than. -/
  | jigBltu (slot : SlotId)
  /-- BGEU (R163): BGEU branches on unsigned greater or equal. -/
  | jigBgeu (slot : SlotId)
  /-- JMP (R163): JMP branches always. -/
  | jigJmp (slot : SlotId)
  /-- LOOP (R165): LOOP decrements a loop counter and branches while it is nonzero, faulting LOOP_ZERO on a zero counter. -/
  | jigLoop (slot : SlotId)
  /-- LDC (R166): LDC reads a word of the version's constant pool, faulting CONST_RANGE beyond it. -/
  | jigLdc (slot : SlotId)
  /-- RDSPR (R159): RDSPR reads a special value such as STEP, ATTEMPT or OFFSET. -/
  | jigRdspr (slot : SlotId)
  /-- RDCAD (R166): RDCAD reads a cadence result entry, faulting CADENCE_NOT_DONE when it is not valid. -/
  | jigRdcad (slot : SlotId)
  /-- PACE (R167): PACE holds the jig until the segment offset reaches its operand. -/
  | jigPace (slot : SlotId)
  /-- REP (R172): REP sets count and interval for the next push, which must follow. -/
  | jigRep (slot : SlotId)
  /-- PUSH_BENCH (R171): PUSH.BENCH captures a Septone command and queues its issues on BENCH after the push checks. -/
  | jigPushBench (slot : SlotId)
  /-- PUSH_BLK (R170): PUSH.BLK queues a command block on BENCH after checking the block. -/
  | jigPushBlk (slot : SlotId)
  /-- PUSH_MOVE (R169): PUSH.MOVE queues MOVE.IN or MOVE.OUT issues after the push checks. -/
  | jigPushMove (slot : SlotId)
  /-- PUSH_DRAIN (R169): PUSH.DRAIN queues DRAIN issues after the push checks. -/
  | jigPushDrain (slot : SlotId)
  /-- PUSH_EMIT (R169): PUSH.EMIT queues EMIT.STATE or EMIT.SERVE issues after the push checks. -/
  | jigPushEmit (slot : SlotId)
  /-- PUSH_CADENCE (R169): PUSH.CADENCE checks a cadence operation word and queues its launch, invalidating its result entry. -/
  | jigPushCadence (slot : SlotId)
  /-- AWAIT (R145): AWAIT ends the segment and holds the bench until in-flight commands complete and its token is posted. -/
  | jigAwait (slot : SlotId)
  /-- AWAIT_Y (R146): AWAIT.Y ends the segment at a yield point, makes registers UNWRITTEN and lets the arbiter choose a holder. -/
  | jigAwaitY (slot : SlotId)
  /-- YIELD (R146): YIELD is a yield point without token. -/
  | jigYield (slot : SlotId)
  /-- ARM (R174): The jig ARM instruction arms one bucket of the current step from G registers, or faults ARM_REFUSED. -/
  | jigArm (slot : SlotId)
  /-- END (R175): END ends the step program, or a mirror pass, once in-flight commands complete. -/
  | jigEnd (slot : SlotId)
  /-- NOP (R163): NOP does nothing for one cycle. -/
  | jigNop (slot : SlotId)
  /-- ILLEGAL_OPCODE (R176): An opcode marked illegal raises SCHEDULE_FAULT ILLEGAL_OPCODE. -/
  | jigIllegalOpcode (slot : SlotId)
  /-- FADD (R185): FADD issues an FP32 addition in every lane. -/
  | sepFadd (slot : SlotId)
  /-- FSUB (R185): FSUB issues an FP32 subtraction. -/
  | sepFsub (slot : SlotId)
  /-- FMUL (R185): FMUL issues an FP32 multiplication. -/
  | sepFmul (slot : SlotId)
  /-- FFMA (R185): FFMA issues an FP32 fused multiply-add. -/
  | sepFfma (slot : SlotId)
  /-- FFNMA (R185): FFNMA issues a negated FP32 fused multiply-add. -/
  | sepFfnma (slot : SlotId)
  /-- FMIN (R185): FMIN issues the IEEE FP32 minimum. -/
  | sepFmin (slot : SlotId)
  /-- FMAX (R185): FMAX issues the IEEE FP32 maximum. -/
  | sepFmax (slot : SlotId)
  /-- FABS (R185): FABS clears the sign of an FP32 value. -/
  | sepFabs (slot : SlotId)
  /-- FNEG (R185): FNEG inverts the sign of an FP32 value. -/
  | sepFneg (slot : SlotId)
  /-- FSIGN (R185): FSIGN writes the sign of an FP32 value as ±1.0. -/
  | sepFsign (slot : SlotId)
  /-- FCMP (R186): FCMP writes a predicate from an FP32 comparison. -/
  | sepFcmp (slot : SlotId)
  /-- SEL (R184): SEL selects a or b by a predicate. -/
  | sepSel (slot : SlotId)
  /-- MOV (R184): MOV copies operand b or the scalar. -/
  | sepMov (slot : SlotId)
  /-- PLOG (R184): PLOG writes a predicate from a truth table of two predicates. -/
  | sepPlog (slot : SlotId)
  /-- IADD (R184): IADD adds 32-bit integers. -/
  | sepIadd (slot : SlotId)
  /-- ISUB (R184): ISUB subtracts 32-bit integers. -/
  | sepIsub (slot : SlotId)
  /-- AND (R184): Septone AND takes the bitwise AND in each lane. -/
  | sepAnd (slot : SlotId)
  /-- OR (R184): Septone OR takes the bitwise OR in each lane. -/
  | sepOr (slot : SlotId)
  /-- XOR (R184): Septone XOR takes the bitwise XOR in each lane. -/
  | sepXor (slot : SlotId)
  /-- SHL (R184): SHL shifts left in each lane. -/
  | sepShl (slot : SlotId)
  /-- SHR (R184): SHR shifts right logically in each lane. -/
  | sepShr (slot : SlotId)
  /-- SAR (R184): SAR shifts right arithmetically in each lane. -/
  | sepSar (slot : SlotId)
  /-- BCAST_I (R180): BCAST.I writes a 32-bit immediate to every lane. -/
  | sepBcastI (slot : SlotId)
  /-- CVT_TO (R187): CVT.TO rounds an FP32 value to a short format code, drawing dither in SR mode. -/
  | sepCvtTo (slot : SlotId)
  /-- CVT_FROM (R187): CVT.FROM decodes a short format code exactly to FP32. -/
  | sepCvtFrom (slot : SlotId)
  /-- CVT_F2I (R185): CVT.F2I converts FP32 to a saturating signed integer. -/
  | sepCvtF2i (slot : SlotId)
  /-- CVT_I2F (R185): CVT.I2F converts a signed integer to FP32. -/
  | sepCvtI2f (slot : SlotId)
  /-- DADD (R185): DADD issues an FP64 addition. -/
  | sepDadd (slot : SlotId)
  /-- DSUB (R185): DSUB issues an FP64 subtraction. -/
  | sepDsub (slot : SlotId)
  /-- DMUL (R185): DMUL issues an FP64 multiplication. -/
  | sepDmul (slot : SlotId)
  /-- DFMA (R185): DFMA issues an FP64 fused multiply-add. -/
  | sepDfma (slot : SlotId)
  /-- DMIN (R185): DMIN issues the FP64 minimum. -/
  | sepDmin (slot : SlotId)
  /-- DMAX (R185): DMAX issues the FP64 maximum. -/
  | sepDmax (slot : SlotId)
  /-- DCMP (R186): DCMP writes a predicate from an FP64 comparison. -/
  | sepDcmp (slot : SlotId)
  /-- CVT_S2D (R185): CVT.S2D widens FP32 to FP64 exactly. -/
  | sepCvtS2d (slot : SlotId)
  /-- CVT_D2S (R185): CVT.D2S rounds FP64 to FP32. -/
  | sepCvtD2s (slot : SlotId)
  /-- SHCHK (R206): SHCHK compares FP32 results with FP64 references on guarded lanes and posts one SHADOW event on disagreement. -/
  | sepShchk (slot : SlotId)
  /-- FDIV (R185): FDIV issues an FP32 division. -/
  | sepFdiv (slot : SlotId)
  /-- FSQRT (R185): FSQRT issues an FP32 square root. -/
  | sepFsqrt (slot : SlotId)
  /-- DDIV (R185): DDIV issues an FP64 division. -/
  | sepDdiv (slot : SlotId)
  /-- DSQRT (R185): DSQRT issues an FP64 square root. -/
  | sepDsqrt (slot : SlotId)
  /-- RCP_S (R191): RCP.S writes a reciprocal seed. -/
  | sepRcpS (slot : SlotId)
  /-- RCP_N (R192): RCP.N refines a reciprocal estimate once. -/
  | sepRcpN (slot : SlotId)
  /-- RSQ_S (R193): RSQ.S writes a reciprocal square-root seed. -/
  | sepRsqS (slot : SlotId)
  /-- RSQ_N (R194): RSQ.N refines a reciprocal square-root estimate once. -/
  | sepRsqN (slot : SlotId)
  /-- LOAD (R189): LOAD reads one staging word per lane into a register. -/
  | sepLoad (slot : SlotId)
  /-- LOAD_D (R190): LOAD.D reads one FP64 element of a two-row array into a register pair. -/
  | sepLoadD (slot : SlotId)
  /-- STORE (R189): STORE writes a register into one staging word per lane. -/
  | sepStore (slot : SlotId)
  /-- STORE_D (R190): STORE.D writes a register pair into one FP64 element of a two-row array. -/
  | sepStoreD (slot : SlotId)
  /-- SHSEL (R205): SHSEL sets a predicate to the shadow sample bit of a staging row's chunk. -/
  | sepShsel (slot : SlotId)
  /-- ECLR (R197): ECLR resets an exponent accumulator to EXP_ZERO. -/
  | sepEclr (slot : SlotId)
  /-- WSET (R197): WSET zeroes a sum accumulator and sets its window from the scalar. -/
  | sepWset (slot : SlotId)
  /-- MAXEXP (R198): MAXEXP folds the exponents of every lane's terms into an exponent accumulator. -/
  | sepMaxexp (slot : SlotId)
  /-- MAXEXP_ALL (R200): MAXEXP.ALL folds exponents and then launches a max-exponent reduction of the accumulator. -/
  | sepMaxexpAll (slot : SlotId)
  /-- SUM (R199): SUM adds every lane's value exactly into a sum accumulator. -/
  | sepSum (slot : SlotId)
  /-- SUM_ALL (R200): SUM.ALL adds exactly and then launches an exact sum of the accumulator. -/
  | sepSumAll (slot : SlotId)
  /-- NORM (R199): NORM adds every lane's square exactly into a sum accumulator. -/
  | sepNorm (slot : SlotId)
  /-- NORM_ALL (R200): NORM.ALL adds squares exactly and then launches an exact sum. -/
  | sepNormAll (slot : SlotId)
  /-- DOT (R199): DOT adds every lane's product exactly into a sum accumulator. -/
  | sepDot (slot : SlotId)
  /-- DOT_ALL (R200): DOT.ALL adds products exactly and then launches an exact sum. -/
  | sepDotAll (slot : SlotId)
  /-- BARRIER_STEP (R203): BARRIER.STEP launches a barrier of the slot on a group at T + 80. -/
  | sepBarrierStep (slot : SlotId)
  /-- FUSED_COLLECTIVE_LAUNCH (R200): At T + 80 a fused command captures its accumulator, or a barrier, and launches the cadence operation. -/
  | fusedCollectiveLaunch (slot : SlotId)
  /-- MOVE_IN (R133): A MOVE.IN issues, after the tag and hazard checks, reading one HBM row into a staging row. -/
  | moveIn (slot : SlotId)
  /-- MOVE_OUT (R133): A MOVE.OUT issues, writing a staging row to an HBM row, marking it dirty and entering a pending write. -/
  | moveOut (slot : SlotId)
  /-- DRAIN (R133): A DRAIN issues, copying the rounded results of a LINE row into staging. -/
  | drain (slot : SlotId)
  /-- EMIT_STATE (R268): An EMIT.STATE issues, sending a staging row to the tandem partner as a SHIP frame. -/
  | emitState (slot : SlotId)
  /-- EMIT_SERVE (R105): An EMIT.SERVE issues, marking a primary row's chunk servable at T + 64. -/
  | emitServe (slot : SlotId)
  /-- MOVE_IN_DONE (R138): At T + 1,000 the MOVE.IN data must be in staging, or MEM_LATE aborts the step. -/
  | moveInDone (slot : SlotId) (tile : TileId) (late : Bool)
  /-- MOVE_OUT_DONE (R140): At T + 1,000 the MOVE.OUT write completes and leaves the pending-write table, or MEM_LATE aborts the step. -/
  | moveOutDone (slot : SlotId) (tile : TileId) (late : Bool)
  /-- CHUNK_SERVABLE (R114): A chunk becomes servable, and fetch entries waiting on it enter CASTING. -/
  | chunkServable (slot : SlotId)
  /-- CAD_BARRIER (R234): A program BARRIER cadence operation is launched on a group. -/
  | cadBarrier (slot : SlotId)
  /-- MAX_I64 (R234): A MAX_I64 cadence operation is launched. -/
  | maxI64 (slot : SlotId)
  /-- MIN_I64 (R234): A MIN_I64 cadence operation is launched. -/
  | minI64 (slot : SlotId)
  /-- SUM_I64 (R234): A SUM_I64 cadence operation is launched. -/
  | sumI64 (slot : SlotId)
  /-- AND_U64 (R234): An AND_U64 cadence operation is launched. -/
  | andU64 (slot : SlotId)
  /-- OR_U64 (R234): An OR_U64 cadence operation is launched. -/
  | orU64 (slot : SlotId)
  /-- CAD_MAXEXP (R234): A program MAXEXP cadence operation is launched. -/
  | cadMaxexp (slot : SlotId)
  /-- SUM_F32 (R234): A two-phase SUM_F32 cadence operation is launched. -/
  | sumF32 (slot : SlotId)
  /-- CADENCE_UP (R237): A cadence UP message is received and combined, creating a context if needed and forwarding to the parent or sending DOWN at the root. -/
  | cadenceUp (rx : SpokeRx)
  /-- CADENCE_DOWN (R237): A cadence DOWN message is received, its result written, CADENCE token posted and forwarded to children. -/
  | cadenceDown (rx : SpokeRx)
  /-- CADENCE_FAIL (R240): A cadence FAIL message is received; the operation fails, FAIL is forwarded and the step aborts. -/
  | cadenceFail (rx : SpokeRx)
  /-- CADENCE_DEADLINE (R241): A cadence operation's deadline window ends without a result; it fails with CAD_DEADLINE. -/
  | cadenceDeadline (slot : SlotId)
  /-- CADENCE_HELD_EXPIRY (R239): A cadence message held for a newer step is dropped when its hold time ends. -/
  | cadenceHeldExpiry (slot : SlotId)
  /-- SEGMENT_BEGIN (R144): A slot's new segment begins once in-flight commands complete, its token is present and it holds the bench. -/
  | segmentBegin (slot : SlotId)
  /-- TURN_OVERRUN (R149): A slot's turn reaches 2^24 schedule cycles and raises TURN_OVERRUN. -/
  | turnOverrun (slot : SlotId)
  /-- CONTRIBUTE (R70): A CONTRIBUTE frame is checked and its elements placed, parked or refused. -/
  | contribute (rx : RxFrame)
  /-- ACCUMULATE (R81): An ACCUMULATE partial or half is checked and added into the line, or dropped, NACKed or aborts the step. -/
  | accumulate (rx : RxFrame)
  /-- WINDOW_PROPOSAL (R65): A member's WINDOW proposal is checked and its exponent recorded. -/
  | windowProposal (rx : RxFrame)
  /-- PLACEMENT_COMPLETE (R72): The placements of a chunk complete with every expected bit set, and the chunk goes COMPLETE. -/
  | placementComplete (slot : SlotId) (bucket : W16) (chunk : W16)
  /-- PARTIAL_SEND (R80): A COMPLETE non-owner chunk is encoded in kerf or T1 and sent downstream once a buffer is granted. -/
  | partialSend (slot : SlotId) (bucket : W16) (chunk : W16)
  /-- PARTIAL_RESEND (R369): 1 µs after an UNARMED or WINDOW_PENDING NACK the partial is sent again as a new frame. -/
  | partialResend (slot : SlotId) (bucket : W16) (chunk : W16)
  /-- CHUNK_ROUND (R89): A COMPLETE chunk at its owner is rounded once to FP32, its CRC formed and its STATE frame sent. -/
  | chunkRound (slot : SlotId) (bucket : W16) (chunk : W16)
  /-- BUCKET_DEADLINE (R95): A bucket's deadline window ends with a chunk not past OPEN; the step aborts. -/
  | bucketDeadline (slot : SlotId) (bucket : W16)
  /-- GATHER (R110): A member's GATHER is checked and each chunk served, merged or fetched. -/
  | gather (rx : RxFrame)
  /-- DEVICE_GATHER (R113): A device-level GATHER from a child is checked and its chunk served, merged or fetched. -/
  | deviceGather (rx : RxFrame)
  /-- GATHER_RESEND (R370): 1 µs after TABLE_FULL the device-level GATHER is sent again. -/
  | gatherResend (slot : SlotId)
  /-- DELIVER (R114): A DELIVER into a FETCHING entry is forwarded cut-through, CRC-checked and the entry FILLED. -/
  | deliver (rx : RxFrame)
  /-- CAST_COMPLETE (R114): A cast unit finishes a chunk image and its CRC; copies go to children and ports and the entry is FILLED. -/
  | castComplete (slot : SlotId)
  /-- GATHER_DEADLINE (R123): An owner's fetch entry is not FILLED by the end of its gather deadline; the step aborts. -/
  | gatherDeadline (slot : SlotId)
  /-- STEP_DONE (R253): A member's STEP_DONE for the step and attempt is checked and recorded. -/
  | stepDone (rx : RxFrame)
  /-- STATE_PENDING (R264): A PENDING STATE frame writes a pending record, checking its chunk CRC, or is held. -/
  | statePending (rx : RxFrame)
  /-- STATE_EMEM (R87): An EMEM STATE frame writes error-memory words beside the mirror. -/
  | stateEmem (rx : RxFrame)
  /-- STATE_SHIP (R268): A SHIP STATE frame is held in the shipment area, or aborts with SHIP_OVERFLOW. -/
  | stateShip (rx : RxFrame)
  /-- STATE_RESTORE (R274): A RESTORE STATE frame writes a primary row from the mirror and clears its dirty bit. -/
  | stateRestore (rx : RxFrame)
  /-- STATE_RESYNC (R269): A RESYNC STATE frame writes a mirror row, and the last one makes the mirror CURRENT. -/
  | stateResync (rx : RxFrame)
  /-- STATE_RESYNC_EMEM (R269): A RESYNC_EMEM STATE frame writes glued error-memory words to the mirror. -/
  | stateResyncEmem (rx : RxFrame)
  /-- PARTNER_REPORT (R255): A partner report is compared with the partner's own counts and digests, or aborts with DIGEST_MISMATCH. -/
  | partnerReport (rx : RxFrame)
  /-- SEGMENT_REPORT (R255): A segment report is compared with the receiver's own count and digest. -/
  | segmentReport (rx : RxFrame)
  /-- PARTNER_REPORT_SEND (R254): Once program end and buckets hold, the owner sends its partner report. -/
  | partnerReportSend (slot : SlotId)
  /-- RESTORE_REQ (R274): A RESTORE_REQ asks the partner for dirty rows, which it serves, defers or refuses. -/
  | restoreReq (rx : RxFrame)
  /-- RESTORE_ROW_SEND (R274): The partner reads a requested mirror row and sends it as a RESTORE frame. -/
  | restoreRowSend (slot : SlotId)
  /-- RESYNC_REQ (R269): A RESYNC_REQ starts or restarts a resync to the requester. -/
  | resyncReq (rx : RxFrame)
  /-- RESYNC_ROW_SEND (R269): A resync reads the next primary row and sends it as C4 STATE. -/
  | resyncRowSend (slot : SlotId)
  /-- RESTORE_REFUSE (R277): A RESTORE_REFUSE makes the slot LOST when no mirror can supply the rows. -/
  | restoreRefuse (rx : RxFrame)
  /-- STEP_SEAL (R253): Every readiness condition holds; the device seals and sends READY when its children have. -/
  | stepSeal (slot : SlotId)
  /-- READY_SEQ (R257): A READY sequence from a cadence child is taken; the device forwards READY or, at the root, decides GLUE or ABORT. -/
  | readySeq (rx : SpokeRx)
  /-- GLUE_SEQ (R260): A GLUE sequence is received and flooded, and the device enters GLUED and performs the glue-up actions. -/
  | glueSeq (rx : SpokeRx)
  /-- ABORT_SEQ (R271): An ABORT sequence is received and flooded, and the device enters ROLLING_BACK. -/
  | abortSeq (rx : SpokeRx)
  /-- ROLLBACK_CLEARED (R272): Transient state is cleared and the slot enters ROLLED_BACK. -/
  | rollbackCleared (slot : SlotId)
  /-- LEAVE_SEQ (R273): A LEAVE sequence is received; each entry aborts, applies a decision or is ignored. -/
  | leaveSeq (rx : SpokeRx)
  /-- STEP_DEADLINE (R249): A device's step window ends in DRY_FIT; it aborts with STEP_DEADLINE. -/
  | stepDeadline (slot : SlotId)
  /-- ROOT_DEADLINE (R258): The root's step window ends without READY from every child; it decides ABORT. -/
  | rootDeadline (slot : SlotId)
  /-- SLOT_DRAIN_DONE (R540): The scrub of a draining slot completes and the slot becomes FREE. -/
  | slotDrainDone (slot : SlotId)
  /-- SLOT_DRAIN_TIMEOUT (R540): Draining has not finished 50 ms after its start; a slot drain timeout is posted. -/
  | slotDrainTimeout (slot : SlotId)
  /-- INCIDENT_CLOSE (R288): An incident's coalescing time ends; it is posted and sent to the cadence parent. -/
  | incidentClose
  /-- INCIDENT_SEQ (R289): An incident record from a child is taken, acknowledged and merged. -/
  | incidentSeq (rx : SpokeRx)
  /-- INCIDENT_RETRANSMIT (R402): An incident record is sent again 10 µs after buffer-full or no answer, and dropped after 8 sends. -/
  | incidentRetransmit (link : LinkId)
  /-- LINKCTL_ACK (R402): A spoke LINKCTL ACK is taken, freeing an incident record or completing HELLO. -/
  | linkctlAck (rx : SpokeRx)
  /-- SCORE_DECAY (R294): At each decay period every score below 1,023 moves toward full health. -/
  | scoreDecay (slot : SlotId)
  /-- BRAKE_WINDOW (R296): At a brake-window boundary HELD subjects are considered again against a fresh budget. -/
  | brakeWindow (slot : SlotId)
  /-- ACCUSE_WINDOW (R291): At an accuse-window boundary each accuser's set of named suspects is cleared. -/
  | accuseWindow (slot : SlotId)
  /-- REHEARSAL_INJECT (R299): A drawn rehearsal injection fires in a DRY_FIT attempt-0 step. -/
  | rehearsalInject (slot : SlotId)
  /-- REHEARSAL_SKIP (R299): A rehearsal window ends without its injection having fired, which is counted as skipped. -/
  | rehearsalSkip (slot : SlotId)
  /-- LINK_DROP_END (R299): 100 µs after a LINK_DROP injection the port stops discarding the slot's frames. -/
  | linkDropEnd (port : PortId) (slot : SlotId)
  /-- FRAME_SEND (R306): At a frame boundary or idle cycle an egress port chooses and sends a link frame or the next class frame. -/
  | frameSend (port : PortId)
  /-- CREDIT_SEND (R319): Within 200 ns of buffer releases the device sends a coalesced CREDIT with increments and ACK_SEQ. -/
  | creditSend (port : PortId)
  /-- CREDIT (R360): A CREDIT frame is taken, adding hop credits and window units and acknowledging class frames. -/
  | credit (rx : RxFrame)
  /-- NACK (R376): A NACK frame is taken and acted on by its code. -/
  | nack (rx : RxFrame)
  /-- HELLO (R358): A LINK_CTRL HELLO is taken, learning the far endpoint and bringing the port up or down and up. -/
  | hello (rx : RxFrame)
  /-- CREDIT_INIT (R358): A LINK_CTRL CREDIT_INIT sets initial credits and may bring the port up. -/
  | creditInit (rx : RxFrame)
  /-- JOB_ANNOUNCE (R359): A LINK_CTRL JOB_ANNOUNCE records the generation that the far device uses for a job. -/
  | jobAnnounce (rx : RxFrame)
  /-- JOB_WITHDRAW (R359): A LINK_CTRL JOB_WITHDRAW records that the far device's slot has left OPEN. -/
  | jobWithdraw (rx : RxFrame)
  /-- CORRUPT_FRAME (R365): A frame with a failed header, an uncorrectable codeword or a sequence gap is discarded and NACK REPLAY sent. -/
  | corruptFrame (rx : RxFrame)
  /-- REPLAY_TIMEOUT (R365): The oldest unacknowledged class frame has waited 3 µs; the sender replays from it. -/
  | replayTimeout (port : PortId)
  /-- LINK_FRAME_REPLAY (R367): 2 µs after last sending the oldest unacknowledged link frame, the sender replays its link frames. -/
  | linkFrameReplay (port : PortId)
  /-- BARE_CREDIT (R367): A receiver that took a link frame and sent none for 500 ns sends a bare CREDIT. -/
  | bareCredit (port : PortId)
  /-- PORT_DOWN (R335): A port goes down; linked frames are released and slot steps using it abort LINK_DOWN. -/
  | portDown (port : PortId)
  /-- K_ADAPT (R325): At the end of each adapt period a LEARN port updates its congestion threshold K. -/
  | kAdapt (port : PortId)
  /-- POOL_WAIT_RETRY (R343): A waiting requester asks again when a buffer of its pools is released or its quota falls. -/
  | poolWaitRetry
  /-- BUFFER_RELEASE (R345): A holder releases a buffer, which is freed or refused DOUBLE_FREE or FOREIGN_FREE. -/
  | bufferRelease (buf : Nat) (holder : Nat)
  /-- BUFFER_UNLINK (R345): A destination unlinks a shared buffer after its copy. -/
  | bufferUnlink (buf : Nat) (holder : Nat)
  /-- SLICE_MAPOUT (R327): A buffer slice is mapped out, aborting DRY_FIT steps and moving its tile to a helper. -/
  | sliceMapout (tile : TileId)
  /-- DIE_LINK_FAIL (R26): A die-to-die link fails; DRY_FIT steps abort and routes are reprogrammed or the device fails. -/
  | dieLinkFail (dlink : DieLink)
  /-- TRAINING_FRAME (R387): A lane training frame's request is applied or refused and answered in STATUS. -/
  | trainingFrame (lane : LaneId) (request : W32) (status : W32)
  /-- TRAINING_COMPLETE (R387): Training ends on a lane after 64 frames of RX_READY each way, and codewords begin. -/
  | trainingComplete (lane : LaneId)
  /-- TRAINING_TIMEOUT (R388): A lane misses its training bound and restarts, the port going down after eight failures. -/
  | trainingTimeout (lane : LaneId)
  /-- CODEWORD_LOCK (R388): A lane locks its codeword boundaries. -/
  | codewordLock (lane : LaneId) (rxLane : LaneIx) (skew : W16)
  /-- PORT_DESKEWED (R388): A port's lanes are deskewed on AM codewords and HELLO is sent. -/
  | portDeskewed (port : PortId)
  /-- LANE_FAULT (R389): A lane loses lock, signal or AM, or exceeds uncorrectables, and takes its port down. -/
  | laneFault (lane : LaneId)
  /-- IDLE_ENTRY (R390): A quiet transmit direction sends EI codewords after IDLE_ENTRY and stops driving. -/
  | idleEntry (port : PortId)
  /-- IDLE_EXIT (R391): Something queued for an idle direction starts a training burst and AM. -/
  | idleExit (port : PortId)
  /-- SPOKE_ALIGN (R403): A spoke receiver aligns on commas and, after 64 good idle sets, sends HELLO. -/
  | spokeAlign (link : LinkId)
  /-- SPOKE_HELLO (R403): A spoke LINKCTL HELLO names the far device and is acknowledged. -/
  | spokeHello (rx : SpokeRx)
  /-- SPOKE_LINK_DOWN (R403): A spoke link goes down, failing cadence operations, and may cause holdover or DECISION_LOST. -/
  | spokeLinkDown (link : LinkId)
  /-- TIME_EXCHANGE (R405): Every 100 µs a non-root device sends TIME REQ on its parent link. -/
  | timeExchange
  /-- TIME_REQ (R405): A TIME REQ from a child is answered with TIME RESP carrying t2 and t3. -/
  | timeReq (rx : SpokeRx)
  /-- TIME_RESP (R406): A TIME RESP yields offset and delay, which are removed by step, hold or slew. -/
  | timeResp (rx : SpokeRx) (t4 : Nat)
  /-- HBM_UNCORRECTABLE (R426): An uncorrectable sector is handled by its location. -/
  | hbmUncorrectable (chan : ChanId) (addr : ChanAddr)
  /-- CHANNEL_MAPOUT (R429): An HBM channel is mapped out, aborting steps, restriping its tile and moving objects. -/
  | channelMapout (chan : ChanId) (reason : MapReason)
  /-- PATROL_SCRUB (R427): The patrol scrub reads a sector and rewrites it if corrected. -/
  | patrolScrub (chan : ChanId) (addr : ChanAddr) (corrected : Bool)
  /-- INPUT_DROPOUT (R463): The input stays below 40 V for 1 µs and the device enters RIDE_THROUGH. -/
  | inputDropout
  /-- INPUT_RECOVER (R464): The input has been in range for 100 µs and the device returns to NORMAL. -/
  | inputRecover
  /-- SURGE_OPEN (R465): The input switch opens on overvoltage and the device rides through. -/
  | surgeOpen
  /-- SURGE_CLOSE (R465): The input switch closes after 100 µs in range and SURGE_DISCONNECT is posted. -/
  | surgeClose
  /-- LAST_GASP (R467): Ride-through expires or the reserve is reached and the last-gasp sequence begins. -/
  | lastGasp (cause : GaspCause)
  /-- LAST_GASP_COMPLETE (R467): The last-gasp record is written, domains are switched off and D0 holds the device in reset. -/
  | lastGaspComplete
  /-- GOVERNOR_INTERVAL (R469): At each 10 µs interval the governor measures power and steps a lever when a limit is exceeded. -/
  | governorInterval (power : W16) (voltage : W16)
  /-- LEVER_LIFT (R470): Every 100 µs below the limit the governor lifts one lever step. -/
  | leverLift
  /-- DOMAIN_SLEEP (R473): A domain whose sleep condition has held for 1 ms goes to sleep. -/
  | domainSleep (domain : DomainId)
  /-- DOMAIN_WAKE (R474): A wake event starts a sleeping domain's rail, PLL and reset release. -/
  | domainWake (domain : DomainId)
  /-- DOMAIN_AWAKE (R474): A waking domain becomes awake and waiting accesses proceed. -/
  | domainAwake (domain : DomainId)
  /-- DOMAIN_FAULT (R475): A domain fails to wake within 50 µs twice; the device becomes FATAL. -/
  | domainFault (domain : DomainId)
  /-- DROOP_TRIP (R477): A rail falls 4 % below setpoint and its domain's clocks stretch. -/
  | droopTrip (domain : DomainId)
  /-- DROOP_RECOVER (R477): 64 cycles after the rail recovers the clocks return to full period. -/
  | droopRecover (domain : DomainId)
  /-- VOLTAGE_STEP (R476): A rail setpoint moves by one 5 mV step. -/
  | voltageStep (domain : DomainId)
  /-- REF25_LOSS (R479): The 25 MHz reference is absent for 200 ns; the device sends LEAVE and becomes FATAL. -/
  | ref25Loss
  /-- REF156_LOSS (R479): The 156.25 MHz reference is absent for 200 ns; every port goes down. -/
  | ref156Loss
  /-- REF156_RETURN (R479): The 156.25 MHz reference is present for 100 µs and ports retrain. -/
  | ref156Return
  /-- THERMAL_SAMPLE (R486): A 100 µs temperature sample takes the device to WARN, THROTTLE, LIMIT or TRIP, or lifts a level. -/
  | thermalSample (junction : W16) (stack : W16) (hotTile : TileId) (hotStack : StackId)
  /-- PIN_RESET (R480): RESET_N held low for 1 µs resets the device. -/
  | pinReset
  /-- POWER_ON (R482): The input holds 40-60 V for 10 ms and start-up begins at ALWAYS_ON. -/
  | powerOn
  /-- STARTUP_PHASE_DONE (R482): A start-up phase finishes and the next phase begins. -/
  | startupPhaseDone
  /-- BOOT_VERIFY (R491): The keeper ROM verifies the read image, passing to HBM_TRAIN or entering BOOT_FAILED. -/
  | bootVerify (image : Bytes)
  /-- READY_ENTRY (R485): The device enters READY once it is time root or LOCKED, leaving PRIORITY mode. -/
  | readyEntry
  /-- FUSE_REQUEST (R493): After READY Gorirgen applies the image's fuse request for MIN_SVN and REVOKED. -/
  | fuseRequest
  /-- LEAF_COMMIT (R497): When few reserved leaves remain, the device requests an authenticated advance of the leaf counter. -/
  | leafCommit
  /-- LEAF_COMMIT_DONE (R497): The flash device's authenticated response confirms or fails the counter commit. -/
  | leafCommitDone (good : Bool) (value : W32)
  /-- MGMT_READ (R529): An SMBus Block Read on the management bus returns a PWR register, GLB_STATUS or the carrier label. -/
  | mgmtRead (command : Byte)
  /-- JTAG_ACCESS (R504): A JTAG request is served for IDCODE, BYPASS or boundary scan only, within the debug lock. -/
  | jtagAccess (instr : Byte)
  /-- FLASH_RESPONSE_TIMEOUT (R499): The flash device does not answer a leaf-counter commit within 20 ms, and an ATTEST waiting on it is refused with KEY_EXHAUSTED, DETAIL 0x01. -/
  | flashResponseTimeout
  /-- MEM_MAPOUT (R429): Up to 25 ms after a channel mapping-out is decided, device-wide objects finish moving, MEM_MAPOUT is posted, and the restores and resyncs that were waiting start. -/
  | memMapout (chan : ChanId)
  /-- SIGNAL_DETECTED (R388): Signal is detected on an enabled main lane, and the lane begins sending training frames within 1 to 10 µs. -/
  | signalDetected (lane : LaneId)
  /-- UCIE_MODULE_UP (R436): A host UCIe module completes link training, and the device returns its own requests to module 0. -/
  | ucieModuleUp (mdl : ModuleId)
  /-- EI_CODEWORDS_RECEIVED (R390): A lane receives the EI codewords of the far transmitter and enters the receive IDLE state while the port stays up. -/
  | eiCodewordsReceived (lane : LaneId)
  /-- EXIT_BURST_RECEIVED (R391): A receiving lane in idle takes the exit training burst, relocks, and deskews on the following AM, counting an EI exit. -/
  | exitBurstReceived (lane : LaneId) (deskewed : Bool)
  /-- DRAIN_READ (R72): At T + 64 a DRAIN's read of its line counts, and a ROUNDED chunk whose STATE frame is already acknowledged becomes RELEASED, with its line zeroed and freed. -/
  | drainRead (slot : SlotId)
  deriving DecidableEq, Repr

end Sys2Proof
end

