-- ==== Sys2Proof/Machine/Data.lean ====
section
/-! DEFINITION. Bit fields, little-endian byte strings, tables by number and lane vectors: the plain operations that every
other file of the machine uses (R6, R7, R14). -/

namespace Sys2Proof.Machine

/-- Bits [lo+w-1 : lo] of a number (R6). -/
def bitsOf (n lo w : Nat) : Nat := (n >>> lo) % 2 ^ w

/-- Bit i of a number. -/
def bitOf (n i : Nat) : Bool := n.testBit i

/-- A number with its bits [lo+w-1 : lo] replaced by the low bits of v. -/
def putBits (n lo w v : Nat) : Nat := n - (bitsOf n lo w) * 2 ^ lo + (v % 2 ^ w) * 2 ^ lo

/-- Fields from bit 0 upward, each with its width, packed into one number; a value keeps its low bits (R14). -/
def packFields : List (Nat × Nat) → Nat
  | [] => 0
  | (w, v) :: rest => v % 2 ^ w + packFields rest * 2 ^ w

/-- A Bool as a one-bit field. -/
def b2n (b : Bool) : Nat := if b then 1 else 0

/-- The two's-complement value of the low w bits. -/
def toSigned (w n : Nat) : Int :=
  let m := n % 2 ^ w
  if 2 * m < 2 ^ w then (m : Int) else (m : Int) - (2 ^ w : Nat)

/-- The low w bits of an integer in two's complement. -/
def ofSigned (w : Nat) (i : Int) : Nat := (i % ((2 ^ w : Nat) : Int)).toNat

/-- Addition that stops at the largest value of w bits: counters that saturate. -/
def satAdd (w a b : Nat) : Nat := min (a + b) (2 ^ w - 1)

/-- The k low bytes of a number, least significant first (R7). -/
def leBytes : Nat → Nat → Bytes
  | 0, _ => []
  | k + 1, n => BitVec.ofNat 8 n :: leBytes k (n / 256)

/-- The number that a byte string holds, least significant byte first (R7). -/
def leNat : Bytes → Nat
  | [] => 0
  | b :: rest => b.toNat + 256 * leNat rest

/-- The k bytes at offset o of a byte string, as a number; bytes past the end count as zero. -/
def leAt (bs : Bytes) (o k : Nat) : Nat := leNat ((bs.drop o).take k)

/-- A byte string cut or filled with zeros to k bytes. -/
def fitBytes (k : Nat) (bs : Bytes) : Bytes := bs.take k ++ List.replicate (k - bs.length) 0#8

/-- A byte string with the bytes of v written from offset o on. -/
def splice (bs : Bytes) (o : Nat) (v : Bytes) : Bytes := bs.take o ++ v ++ bs.drop (o + v.length)

/-- Consecutive pieces of k bytes of a string, at most n of them. -/
def piecesOf (k : Nat) : Nat → Bytes → List Bytes
  | 0, _ => []
  | n + 1, bs => bs.take k :: piecesOf k n (bs.drop k)

/-- The numbers of the w-bit little-endian words of a byte string, n of them (w a multiple of 8). -/
def wordsOf (wBytes n : Nat) (bs : Bytes) : List Nat := (piecesOf wBytes n bs).map leNat

/-- The bytes of a list of numbers, k bytes each. -/
def bytesOfWords (k : Nat) (ws : List Nat) : Bytes := (ws.map (leBytes k)).flatten

/-- The set bits of a number below n, lowest first. -/
def setBitsBelow (n v : Nat) : List Nat := (List.range n).filter v.testBit

/-- How many bits below n are set. -/
def popCount (n v : Nat) : Nat := (setBitsBelow n v).length

/-- A number with bit i set. -/
def orBit (v i : Nat) : Nat := v ||| (1 <<< i)

/-- A number with bit i cleared. -/
def clearBit (v i : Nat) : Nat := if v.testBit i then v - 2 ^ i else v

/-! ### Tables -/

/-- The value listed at a key, if any. -/
def tget? {α : Type} : Tbl α → Nat → Option α
  | [], _ => none
  | (k, v) :: rest, i => if k = i then some v else tget? rest i

/-- The value at a key, with the default of a key that is not listed. -/
def tget {α : Type} (d : α) (t : Tbl α) (i : Nat) : α := (tget? t i).getD d

/-- A table with one key set, keys kept rising. -/
def tset {α : Type} : Tbl α → Nat → α → Tbl α
  | [], i, v => [(i, v)]
  | (k, w) :: rest, i, v =>
    if k = i then (i, v) :: rest
    else if i < k then (i, v) :: (k, w) :: rest
    else (k, w) :: tset rest i v

/-- A table without a key. -/
def terase {α : Type} (t : Tbl α) (i : Nat) : Tbl α := t.filter (fun e => e.1 != i)

/-- A table with the value at a key changed; an unlisted key starts from the default. -/
def tmod {α : Type} (d : α) (t : Tbl α) (i : Nat) (f : α → α) : Tbl α := tset t i (f (tget d t i))

/-- Every listed value changed. -/
def tmap {α β : Type} (t : Tbl α) (f : Nat → α → β) : Tbl β := t.map (fun e => (e.1, f e.1 e.2))

/-- The keys whose value satisfies a test. -/
def tkeys {α : Type} (t : Tbl α) (p : Nat → α → Bool) : List Nat := (t.filter (fun e => p e.1 e.2)).map Prod.fst

/-- The keys of either of two tables, rising. -/
def keysMerge : List Nat → List Nat → List Nat
  | [], ys => ys
  | x :: xs, ys =>
    let lo := ys.takeWhile (· < x)
    let hi := ys.dropWhile (· < x)
    lo ++ x :: keysMerge xs (if hi.head? = some x then hi.drop 1 else hi)

/-! ### Lane vectors -/

/-- The value of one lane. -/
def lget {α : Type} (l : Lanes α) (i : Nat) : α := tget l.base l.exc i

/-- The same value in every lane. -/
def lconst {α : Type} (v : α) : Lanes α := ⟨v, []⟩

/-- One lane set. -/
def lset {α : Type} (l : Lanes α) (i : Nat) (v : α) : Lanes α := ⟨l.base, tset l.exc i v⟩

/-- A function of each lane alone. -/
def lmap {α β : Type} (f : α → β) (l : Lanes α) : Lanes β := ⟨f l.base, l.exc.map (fun e => (e.1, f e.2))⟩

/-- A function of each lane's number and value; `lmapAt` agrees with the lane number only where the lanes are listed, so the
caller lists every lane on which the number matters. -/
def lmapAt {α β : Type} (fb : α → β) (f : Nat → α → β) (l : Lanes α) : Lanes β :=
  ⟨fb l.base, l.exc.map (fun e => (e.1, f e.1 e.2))⟩

/-- A function of two lanes of the same number. -/
def lzip {α β γ : Type} (f : α → β → γ) (a : Lanes α) (b : Lanes β) : Lanes γ :=
  ⟨f a.base b.base,
   (keysMerge (a.exc.map Prod.fst) (b.exc.map Prod.fst)).map (fun i => (i, f (lget a i) (lget b i)))⟩

/-- Every lane below n listed: the vector as a plain list. -/
def lanesList {α : Type} (n : Nat) (l : Lanes α) : List α := (List.range n).map (lget l)

/-- How many of n lanes are not listed. -/
def lrest {α : Type} (n : Nat) (l : Lanes α) : Nat := n - l.exc.length

end Sys2Proof.Machine
end

