-- ==== Sys2Proof/Machine/Dither.lean ====
section
/-! DEFINITION. The dither generator (R118). -/

namespace Sys2Proof.Machine

/-- dmix of R118. -/
def dmix (x : W64) : W64 :=
  let x := (x ^^^ (x >>> 33)) * 0xA3B195E40D7C6F29#64
  let x := (x ^^^ (x >>> 29)) * 0x8E51C2D73B964A0B#64
  x ^^^ (x >>> 32)

/-- dither of R118. -/
def dither (seed step index stream : Nat) : Nat :=
  let x := dmix (BitVec.ofNat 64 seed ^^^ 0x6A5D39C184F20B7D#64)
  let x := dmix (x ^^^ BitVec.ofNat 64 step)
  let x := dmix (x ^^^ BitVec.ofNat 64 (index % 2 ^ 48 + stream * 2 ^ 48))
  (x >>> 32).toNat

end Sys2Proof.Machine
end

