-- ==== Sys2Proof/Config.lean ====
section
/-! DEFINITION. What the fuses, the keys and the flash of one device hold, and the bits of its signatures: free values, each an
opaque constant without a body, so that no statement can rest on what it is (log entries 2 and 4). -/

namespace Sys2Proof.Config

/-- GLB_ID.REVISION, fused (R509). -/
opaque revision : BitVec 8
/-- GLB_ID.GENERATION, the device generation number, fused (R211, R509). -/
opaque generation : BitVec 16
/-- SERIAL, fused (R489). -/
opaque serial : BitVec 128
/-- KEY_HASH of each of the four root keys, fused (R489). -/
opaque keyHash : Nat → BitVec 384
/-- Whether an ECDSA signature verifies: key, hash, signature (R490). -/
opaque ecdsaVerify : List (BitVec 8) → BitVec 384 → List (BitVec 8) → Bool
/-- Whether an LMS signature verifies: key, hash, signature (R490). -/
opaque lmsVerify : List (BitVec 8) → BitVec 384 → List (BitVec 8) → Bool
/-- The ECDSA signature that the device forms over a hash; it is deterministic (R498). -/
opaque ecdsaSign : BitVec 384 → List (BitVec 8)
/-- The LMS signature of a leaf over a hash (R496, R498). -/
opaque lmsSign : BitVec 384 → Nat → List (BitVec 8)
/-- The endorsement of the device keys that the report carries (R498). -/
opaque endorsement : List (BitVec 8)
/-- The LMS public key of the device (R496). -/
opaque lmsPublic : List (BitVec 8)
/-- The ECDSA public key of the device (R489). -/
opaque ecdsaPublic : List (BitVec 8)
/-- The JTAG IDCODE (R504). -/
opaque idcode : BitVec 32
/-- What a boundary scan captures, by draw (R504). -/
opaque boundaryScan : Nat → Nat
/-- The tap value that a preset of the selected interface gives, by interface, preset and tap; IEEE 802.3's tables, which the
spec does not repeat (R386). -/
opaque presetTap : Bool → Nat → Nat → Int
/-- The largest and smallest value of a tap of the selected interface (R387). -/
opaque tapLimit : Bool → Bool → Nat → Int

/-- Row and part, in units of 256 elements, of the lowest disagreeing lane of a SHCHK, by draw: no operand of the command names the
row that INDEX of its record speaks of (R206, R219). -/
opaque shadowRow : Nat → BitVec 36

/-- What this end's receiver asks of the far transmitter in one training frame, by draw (R386): what it needs is the analogue
path's. -/
opaque rxRequest : Nat → BitVec 32
/-- How many codewords or errors of a kind a lane, a spoke link or an HBM channel has counted since its record was last read, by
draw (R395, R409, R431): the analogue path's. -/
opaque lineCount : Nat → BitVec 32

/-- A choice among several that the spec leaves open, by draw: which channel of a tile delays a MOVE (R138), which object lies in a
sector of service space (R417, R426). -/
opaque pick : Nat → Nat

/-- Input voltage and power of the 16 samples before ride-through, by draw, as TRC_LGASP holds them (R468, R518). -/
opaque inputSamples : Nat → BitVec 320
/-- SHA-384 of the keeper ROM (R494). -/
opaque romDigest : BitVec 384
/-- The LINK_CONFIG writes that a configuration block makes: form, index and block (R482); the block's layout is not in the spec. -/
opaque configForms : List (BitVec 8) → List (Nat × Nat × List (BitVec 8))
/-- The fuse request of a configuration block: MIN_SVN and REVOKED (R493). -/
opaque configFuse : List (BitVec 8) → Option (Nat × Nat)
/-- The carrier's label: ordering code and consignment reference (R3, R529). -/
opaque carrierLabel : List (BitVec 8)
/-- What a byte of service space reads as through the RAW view, by draw and key (R417, R440): Gorirgen's allocation decides. -/
opaque serviceByte : Nat → Nat → BitVec 8

/-- This device's depth in the cadence tree of a group, which no field of the group entry gives (R223, R288); a device that is
not the root takes one more than this value modulo the tree's depth. -/
opaque treeDepth : Nat → Nat

end Sys2Proof.Config
end

