-- ==== Sys2Proof/Machine/Crc.lean ====
section
/-! DEFINITION. The cyclic redundancy checks: CRC-64 of R92 and CRC-32C of R352, bit by bit over bytes. -/

namespace Sys2Proof.Machine

/-- One reflected division step of CRC-64 with the polynomial of R92. -/
def crc64Bit (c : W64) : W64 := if c.getLsbD 0 then (c >>> 1) ^^^ 0xC96C5795D7870F42#64 else c >>> 1

/-- One byte into the CRC-64 register. -/
def crc64Byte (c : W64) (b : Byte) : W64 :=
  let x := c ^^^ b.setWidth 64
  crc64Bit (crc64Bit (crc64Bit (crc64Bit (crc64Bit (crc64Bit (crc64Bit (crc64Bit x)))))))

/-- CRC-64 of a byte string (R92). -/
def crc64 (bs : Bytes) : W64 := ~~~ (bs.foldl crc64Byte 0xFFFFFFFFFFFFFFFF#64)

/-- A CRC-64 continued over further bytes: the value that the whole string would give (R93, arrival digest). -/
def crc64More (c : W64) (bs : Bytes) : W64 := ~~~ (bs.foldl crc64Byte (~~~ c))

/-- One reflected division step of CRC-32C (R352). -/
def crc32cBit (c : W32) : W32 := if c.getLsbD 0 then (c >>> 1) ^^^ 0x82F63B78#32 else c >>> 1

/-- One byte into the CRC-32C register. -/
def crc32cByte (c : W32) (b : Byte) : W32 :=
  let x := c ^^^ b.setWidth 32
  crc32cBit (crc32cBit (crc32cBit (crc32cBit (crc32cBit (crc32cBit (crc32cBit (crc32cBit x)))))))

/-- CRC-32C of a byte string (R352). -/
def crc32c (bs : Bytes) : W32 := ~~~ (bs.foldl crc32cByte 0xFFFFFFFF#32)

end Sys2Proof.Machine
end

