-- ==== Sys2Proof/Machine/Flags.lean ====
section
/-! DEFINITION. The numeric flag word of a job slot and the flags that a rounding or an operation sets (R43, R44, R57). -/

namespace Sys2Proof.Machine

/-- A set of the flags NUM_INVALID to NUM_SATURATE, in the bit places of R43. -/
abbrev NFlags := BitVec 7

/-- No flag. -/
def nfNone : NFlags := 0#7
/-- NUM_INVALID (R43). -/
def nfInvalid : NFlags := 0x01#7
/-- NUM_DIVZERO (R43). -/
def nfDivZero : NFlags := 0x02#7
/-- NUM_OVERFLOW (R43). -/
def nfOverflow : NFlags := 0x04#7
/-- NUM_UNDERFLOW (R43). -/
def nfUnderflow : NFlags := 0x08#7
/-- NUM_INEXACT (R43). -/
def nfInexact : NFlags := 0x10#7
/-- NUM_FLUSH (R43, R44). -/
def nfFlush : NFlags := 0x20#7
/-- NUM_SATURATE (R43, R57). -/
def nfSaturate : NFlags := 0x40#7

/-- A flag where a condition holds. -/
def nfIf (c : Bool) (f : NFlags) : NFlags := if c then f else nfNone

/-- A result with the flags it sets. -/
abbrev Flagged (α : Type) := α × NFlags

/-- The flags of many lanes, ORed together (R43: settings that coincide are ORed). -/
def nfJoin (fs : List NFlags) : NFlags := fs.foldl (· ||| ·) nfNone

/-- The flags that the lanes of a vector set among `n` lanes that take part: the base lane counts when some lane is
unlisted. -/
def nfLanes {α : Type} (n : Nat) (l : Lanes (Flagged α)) : NFlags :=
  nfIf (0 < lrest n l) l.base.2 ||| nfJoin (l.exc.map (fun e => e.2.2))

end Sys2Proof.Machine
end

