-- ==== Sys2Proof/Machine/Types.lean ====
section
/-! DEFINITION. The pieces of state, as plain data: host attach and mailboxes (17, 20), incidents and health (11), ports,
frames and buffers (12, 13, 14), lanes, spoke links and device time (15), HBM (16), power (18), security (19). -/

namespace Sys2Proof.Machine

/-! ### What the device puts on its pins -/

/-- One thing the device has sent, oldest first in `State.out`: HTL packets (R434), host buffer accesses (R447), ULP frames
(R351), spoke sequences (R398), training frames (R386), electrical idle (R390, R391), SMBus, JTAG and flash traffic
(R497, R504, R529) and the last-gasp record (R468). -/
inductive Emit where
  | completion (mdl : Nat) (hdr : W128) (payload : Bytes)
  | interrupt (mdl vector : Nat)
  | hostWrite (mdl tag addr : Nat) (payload : Bytes)
  | hostRead (mdl addr len : Nat)
  | hostBuffer (addr : Nat) (payload : Bytes)
  | sideband (mdl status : Nat) (payload : Bytes)
  | frame (port : Nat) (hdr : BitVec 512) (payload : Bytes) (fcs : W64)
  | spoke (link ksym sseq : Nat) (body : Bytes) (copies : Nat)
  | training (lane : Nat) (request status : W32)
  | idleEntry (port : Nat)
  | exitBurst (port : Nat)
  | smbus (payload : Bytes)
  | jtag (reg : Nat) (bits : Nat)
  | flash (code : Nat) (payload : Bytes)
  deriving DecidableEq, Repr

/-! ### Host attach (17) -/

/-- STATE of a mailbox (R442). -/
inductive MbxState where
  | idle | queued | executing | held
  deriving DecidableEq, Repr

/-- One mailbox (R442): index 0 is the system mailbox and 1 + s the job mailbox of slot s. `committed` is the response
that Gorirgen has recorded in HBM at the command's commit (R445). -/
structure Mailbox where
  cmd : BitVec 512
  rsp : BitVec 512
  own : Bool
  irqEn : Bool
  st : MbxState
  discarded : W32
  committed : Option (BitVec 512)
  deriving DecidableEq, Repr

/-- A device-issued HTL write of an event record that waits for its COMPLETION (R435, R450), or for a free tag when `tag`
is none. -/
structure EvtWrite where
  tag : Option Nat
  mdl : Nat
  addr : Nat
  data : Bytes
  done : Bool
  deriving DecidableEq, Repr

/-- The event ring (R449 to R452). `issued` counts the records written or being written; `deferred` holds the events of the time in
which no keeper core serves, which follow TAKEOVER (R28). -/
structure EvtRing where
  base : W64
  sizeLog2 : BitVec 5
  en : Bool
  holdoff : W32
  head : W32
  tail : W32
  lost : W32
  issued : W32
  flight : List EvtWrite
  overflowOwed : Bool
  lastIrq : Option Nat
  headMoved : Bool
  deferred : List (Nat × Nat × Bytes)
  deriving DecidableEq, Repr

/-- The host-facing registers of the global page (R439, R510, R512), the UCIe modules (R436), and whether the keeper has failed and
the standby core does not serve yet (R481). -/
structure HostRegs where
  deviceId : W16
  deviceIdValid : Bool
  gorirgenVersion : W32
  degraded : Bool
  standbyActive : Bool
  keeperDown : Bool
  fatal : Bool
  unsupported : W32
  refused : W32
  apView : BitVec 4
  apSlot : BitVec 6
  apBase : BitVec 48
  bootAddr : W64
  bootLen : BitVec 25
  bootReading : Bool
  ucieUp : List Bool
  deriving DecidableEq, Repr

/-- The trace ring, its registers and its filters (R330 to R333, R516). -/
structure Trace where
  sizeLog2 : Nat
  mode : Bool
  nextSeq : W32
  oldestSeq : W32
  lost : W32
  lostBefore : W32
  winSeq : W32
  lgaspValid : Bool
  lgasp : BitVec 512
  filters : List (BitVec 256)
  counts : List Nat
  ring : List (BitVec 1024)
  deriving DecidableEq, Repr

/-! ### Frames, ports and buffers (12, 13, 14) -/

/-- The fields of a ULP header that the device reads and writes (R353); `ts` is the type-specific field [447:320]. -/
structure Hdr where
  typ : Nat
  cls : Nat
  mark : Bool
  ver : Nat
  rsvd0 : Nat
  len : Nat
  seq : Nat
  src : Nat
  dst : Nat
  job : Nat
  gen : Nat
  group : Nat
  rsvd1 : Nat
  bucket : Nat
  chunk : Nat
  format : Nat
  mode : Nat
  rsvd2 : Nat
  window : Nat
  attempt : Nat
  tag : Nat
  step : Nat
  ts : Nat
  lack : Nat
  deriving DecidableEq, Repr

/-- A frame that waits for a port or for its acknowledgment (R304, R366): its header without SEQ, its payload and FCS, the
buffers that it holds, the slot charged, the tile that holds it, when it was last sent, how often it was replayed, and whether
a NACK that keeps it from counting as acknowledged has answered it (R364). -/
structure TxFrame where
  h : Hdr
  payload : Bytes
  fcs : W64
  bufs : List Nat
  slot : Nat
  tile : Nat
  sentAt : Nat
  replays : Nat
  nacked : Bool
  deriving DecidableEq, Repr

/-- Counters of a port and class (R334). -/
structure ClsCnt where
  framesRx : Nat
  framesTx : Nat
  marksRx : Nat
  marksTx : Nat
  creditWait : Nat
  peak : Nat
  violations : Nat
  deriving DecidableEq, Repr

/-- Congestion settings and threshold of a port and class (R324, R325). -/
structure KSet where
  hold : Bool
  kMin : Nat
  kMax : Nat
  pa : Nat
  k : Nat
  winPeak : Nat
  deriving DecidableEq, Repr

/-- One chunk request of a GATHER that the port has not been sent (R110, R112): the slot, the entry's key and the tag. -/
structure GatherReq where
  slot : Nat
  chunk : Nat
  format : Nat
  mode : Nat
  tag : Nat
  group : Nat
  units : Nat
  deriving DecidableEq, Repr

/-- Protocol record of a port (R377), the counts of R70 and the counts of received errors. -/
structure ProtoCnt where
  recoveries : Nat
  recoveryDiscards : Nat
  dupSeq : Nat
  linkReplays : Nat
  fcsErrors : Nat
  protocolErrors : Nat
  unknownJob : Nat
  nacksSent : Nat
  nacksReceived : Nat
  unackedPeak : Nat
  lastCode : Nat
  staleStep : Nat
  unarmed : Nat
  badChunk : Nat
  nonMember : Nat
  rehearsalDrops : Nat
  deriving DecidableEq, Repr

/-- What LINK_CONFIG form PORT sets (R458). -/
structure PortCfg where
  enable : Bool
  trunk : Bool
  cr : Bool
  width : Nat
  storeForward : Nat
  idleEn : Bool
  weights : List Nat
  rxCredits : List Nat
  idleEntry : Nat
  deriving DecidableEq, Repr

/-- The transmit side of a port (R306, R363, R366, R367). `rr` is the holding tile whose turn is next per class; `hop[3]` counts
the C3 credits granted and not yet committed to a copy (R320). -/
structure PortTx where
  nextSeq : Nat
  unacked : List TxFrame
  replayAt : Option Nat
  replayStart : Nat
  queues : List (List TxFrame)
  rr : List Nat
  cur : Nat
  deficit : List Nat
  nextLseq : Nat
  linkUnacked : List TxFrame
  linkWait : List TxFrame
  hop : List Nat
  deriving DecidableEq, Repr

/-- The receive side of a port (R319, R364, R365, R367). -/
structure PortRx where
  expSeq : Nat
  expLseq : Nat
  inRecovery : Bool
  recWindow : Nat
  recInWindow : Nat
  ackOwed : Bool
  linkAckOwed : Bool
  inUse : List Nat
  owedHop : List Nat
  owedWin : Tbl Nat
  gens : Tbl Nat
  gathers : List GatherReq
  deriving DecidableEq, Repr

/-- One port (12, 14). `dropSlots` lists the slots whose frames a LINK_DROP rehearsal discards, with its end (R299). -/
structure Port where
  cfg : PortCfg
  up : Bool
  helloSent : Bool
  helloRx : Bool
  creditInitRx : Bool
  peerRole : Nat
  peer : W32
  failed : Bool
  ks : List KSet
  cls : List ClsCnt
  cnt : ProtoCnt
  tx : PortTx
  rx : PortRx
  dropSlots : List (Nat × Nat)
  idleTx : Bool
  idleRx : Bool
  lastBusy : Nat
  deriving DecidableEq, Repr

/-- A buffer descriptor that is not FREE (R344). `holders` are the destinations whose lists hold it; LINKS is their number. -/
structure BufDesc where
  shared : Bool
  owner : Nat
  slot : Nat
  cls : Nat
  holders : List Nat
  ownerReleased : Bool
  length : Nat
  deriving DecidableEq, Repr

/-- Counters of a slice and pool (R349); `low` is LOW_WATER, none while the pool has not been drawn on since it was cleared. -/
structure PoolStat where
  low : Option Nat
  doubleFree : Nat
  foreignFree : Nat
  deriving DecidableEq, Repr

/-- Who waits for a buffer (R343): the requester's kind and the chunk or entry it forms. -/
inductive Waiter where
  | fetch (slot chunk format mode : Nat)
  | encoder (slot bucket chunk part : Nat)
  | stateFormer (slot bucket chunk : Nat)
  | report (slot : Nat)
  | ship (slot : Nat)
  deriving DecidableEq, Repr

/-- The shared buffer, its carving and its pools (13), and the die-to-die links (R26). -/
structure Fabric where
  dieFailed : List Nat
  sliceOut : List Nat
  sliceErrors : Tbl (Nat × Nat)
  accArea : Nat
  pools : List Nat
  bufs : Tbl BufDesc
  stats : Tbl PoolStat
  waiters : List (Waiter × Nat)
  deriving DecidableEq, Repr

/-! ### Lanes, spoke links and device time (15) -/

/-- STATE of a main lane (R395). -/
inductive LaneState where
  | down | training | locking | up | idle | loopback
  deriving DecidableEq, Repr

/-- One main lane: settings (R458), lane record (R395) and training (R386 to R388). -/
structure Lane where
  txInvert : Bool
  rxInvert : Bool
  loopback : Nat
  pattern : Nat
  st : LaneState
  precode : Bool
  rxLane : Nat
  taps : List Int
  skew : Nat
  cwCorrected : Nat
  cwUncorrectable : Nat
  prbsErrors : Nat
  eiExits : Nat
  trainings : Nat
  failRun : Nat
  precoding : Bool
  request : W32
  resp : Nat
  readyRx : Nat
  readyTx : Nat
  trainStart : Nat
  locked : Bool
  deriving DecidableEq, Repr

/-- An INCIDENT record that a spoke link sends or waits to send (R402): the record, the SSEQ of its last send, when and how
often it was sent, and whether the answer was buffer full. -/
structure IncTx where
  record : BitVec 512
  sseq : Option Nat
  sentAt : Nat
  sends : Nat
  full : Bool
  deriving DecidableEq, Repr

/-- One spoke link (R396 to R403, R409). -/
structure Spoke where
  st : Nat
  peer : W16
  codeErrors : Nat
  disparityErrors : Nat
  crcErrors : Nat
  copiesDiscarded : Nat
  dropped : Nat
  incidentRetx : Nat
  linkDowns : Nat
  seqSent : Nat
  seqTaken : Nat
  nextSseq : Nat
  lastSseq : Option Nat
  helloSseq : Option Nat
  helloAcked : Bool
  helloTaken : Bool
  inc : List IncTx
  incTaken : List (Nat × Nat × Nat)
  deriving DecidableEq, Repr

/-- Device time and its record (R404 to R408). Offsets, delays, `t1` and `hold` count 1/256 ns, `slew` what the rate gains in
100 µs, in 1/256 ns; `frac` is the part of a nanosecond that has passed, in 1/25,600,000 ns. -/
structure TimeRec where
  st : Nat
  parent : Nat
  depth : Nat
  exchanges : Nat
  offset : Int
  delay : Int
  faults : Nat
  goodRun : Nat
  tseq : Nat
  t1 : Option Nat
  slew : Int
  hold : Nat
  frac : Nat
  deriving DecidableEq, Repr

/-! ### HBM (16) -/

/-- One HBM channel: its record (R431) and the uncorrectable sectors of the current 60 s window (R428). -/
structure Chan where
  st : Nat
  reason : Nat
  corrected : Nat
  ondie : Nat
  retries : Nat
  uncorrectable : Nat
  scrubFixes : Nat
  memLate : Nat
  scrubPasses : Nat
  uncWindow : Nat
  uncInWindow : Nat
  deriving DecidableEq, Repr

/-- The HBM of the device: memory bytes by 2^31 × channel + channel address, sorted and without zeros; the sectors that are
uncorrectable; the channels; the mapping-outs whose object moves have not finished (R429). -/
structure Hbm where
  mem : List (Nat × Byte)
  bad : List Nat
  chans : Tbl Chan
  moving : List Nat
  deriving DecidableEq, Repr

/-! ### Power, clocks and start-up (18) -/

/-- Start-up phase, PWR_STATUS.PHASE (R482). -/
abbrev Phase := BitVec 4

/-- A power domain (R473 to R477): waking since `wakeStart` at its `attempts`-th attempt, its rail setpoint in 5 mV and when it last
moved, a droop since `droopAt`, and whether a long droop has asked for a higher setpoint. -/
structure Domain where
  waking : Bool
  attempts : Nat
  wakeStart : Nat
  setpoint : Nat
  lastStep : Nat
  droop : Bool
  droopAt : Nat
  lift : Bool
  deriving DecidableEq, Repr

/-- The always-on block: PWR_ registers (R513), supply (R463 to R468), governor (R469 to R472), clocks (R479), thermal
(R486). `powDepth` and `thDepth` are the lever depths that the power limit and the temperature ask for; `nextCaps` takes effect
at the next interval. -/
structure Power where
  phase : Phase
  inputState : BitVec 2
  pwrGood : Bool
  bootSel : Bool
  bootSelPin : Bool
  thermal : BitVec 2
  voltage : W16
  power : W16
  peak : W16
  junction : W16
  stack : W16
  hotTile : BitVec 7
  hotStack : BitVec 5
  sustainedCap : W16
  burstCap : W16
  burstMs : Nat
  sleepMask : Nat
  nextCaps : Option (Nat × Nat × Nat)
  bursts : List Nat
  awake : Nat
  domains : Tbl Domain
  rideThroughs : W16
  surges : W16
  lastGasps : W16
  throttles : W16
  rideStart : Nat
  switchOpen : Bool
  switchSince : Nat
  gaspActive : Bool
  powDepth : Nat
  thDepth : Nat
  owed : Bool
  belowRun : Nat
  lastLift : Nat
  deepest : Nat
  throttling : Bool
  coolSince : Option Nat
  overWindow : Option Nat
  ref25 : Bool
  ref156 : Bool
  gaspRecord : Option (BitVec 512)
  flashRecord : Option (BitVec 512)
  deriving DecidableEq, Repr

/-! ### Security (19) -/

/-- Boot, measurements, fuses and the leaf counter (R489 to R499, R514). -/
structure Security where
  bootCode : BitVec 4
  bootSource : Bool
  keyIndex : Byte
  version : W32
  meas : List Digest
  nextLeaf : W32
  counter : W32
  flashCounter : W32
  commitOpen : Bool
  commitFailed : Bool
  commitAt : Nat
  commitTo : W32
  minSvn : Nat
  revoked : BitVec 4
  debugLock : Bool
  svn : Nat
  fuseRequest : Option (Nat × Nat)
  fuseIgnored : Nat
  image : Bytes
  deriving DecidableEq, Repr

/-! ### Incidents and health (11) -/

/-- An open incident (R286 to R290): the record's fields, the opening time and the accusers already counted. -/
structure Incident where
  slot : Nat
  job : Nat
  kind : Nat
  suspect : Nat
  symptom : Nat
  step : Nat
  rehearsal : Bool
  continuation : Bool
  aborted : Bool
  attempt : Nat
  cause : Nat
  detail : Nat
  hops : Nat
  accusers : Nat
  reports : Nat
  devices : Nat
  firstAccuser : Nat
  firstTime : Nat
  opened : Nat
  seen : List Nat
  deriving DecidableEq, Repr

/-- A scored subject of a slot (R292 to R298). -/
structure Subject where
  kind : Nat
  suspect : Nat
  score : Nat
  st : Nat
  incidents : Nat
  heldAborts : Nat
  lastIncident : Nat
  deriving DecidableEq, Repr

/-- The settings of one brake and what it has spent (R295, R300). -/
structure Brake where
  rate : Nat
  spares : Nat
  reserve : Nat
  expelled : Nat
  deriving DecidableEq, Repr

/-- Health settings and records of a slot (R291 to R300). -/
structure Health where
  w : Nat
  a : Nat
  accuseLimit : Nat
  heldEscalate : Nat
  linkEscalate : Nat
  decayShift : Nat
  threshold : Nat
  recover : Nat
  p : Nat
  brakeWindow : Nat
  members : Brake
  devices : Brake
  subjects : List Subject
  penalised : List (Nat × Nat × Nat)
  accuse : List (Nat × List Nat)
  linkCounts : List (Nat × Nat)
  escalated : List (Nat × Nat)
  closedKeys : List (Nat × Nat × Nat × Nat)
  reI : Nat
  reKinds : Nat
  reSeed : Nat
  reFired : Option Nat
  reSkipped : Nat
  corruptNext : Option Nat
  corrupted : List (Nat × Nat)
  stallNext : Option Nat
  stalled : List (Nat × Nat)
  deriving DecidableEq, Repr

end Sys2Proof.Machine
end

