-- ==== Sys2Proof/Machine/TypesJob.lean ====
section
/-! DEFINITION. The pieces of a job slot's state, as plain data: the open block (17), groups and the cadence engine (09),
buckets and chunks (03), the shard map and delivery (04), the step transaction and the tandem mirror (10). -/

namespace Sys2Proof.Machine

/-! ### Opening (17, 01) -/

/-- The state of a slot (R34). -/
inductive SlotSt where
  | free | open_ | draining
  deriving DecidableEq, Repr

/-- What JOB_OPEN gives a slot (R455). -/
structure OpenBlock where
  jobId : Nat
  flush : Bool
  masterFp64 : Bool
  w : Nat
  controlGroup : Nat
  benchWeight : Nat
  cacheShare : Nat
  seed : Nat
  shadowRate : Nat
  hbmWeight : Nat
  hbmCap : Nat
  watchMask : Nat
  gatherDeadline : Nat
  stepDeadline : Nat
  rxQuota : List Nat
  txQuota : List Nat
  castCache : Nat
  fetchEntries : Nat
  memberListEntries : Nat
  sramLines : Nat
  spillLines : Nat
  deriving DecidableEq, Repr

/-! ### Groups (09) -/

/-- One version of a group: its entry (R223) and its member list, device entries first (R224). -/
structure GroupVer where
  entry : BitVec 1024
  list : List W64
  deriving DecidableEq, Repr

/-- What a slot holds for a group ID (R229, R230): the current version, a staged one (an inner none removes the group), the
version bound to the current step, and the next operation sequence number (R235). -/
structure GroupSet where
  cur : Option GroupVer
  staged : Option (Option GroupVer)
  bound : Option GroupVer
  opSeq : Nat
  deriving DecidableEq, Repr

/-! ### Cadence engine (09) -/

/-- A partial or result of a cadence operation (R234, R236): 64-bit value, W128 value, exponent, count and flags, and the floor
hits and clamps of this device's own partial, which no message carries (R204). -/
structure CadPart where
  v : Nat
  w : W128
  emax : Int
  count : Nat
  overWin : Bool
  nonFinite : Bool
  floorHits : Nat
  clamps : Nat
  deriving DecidableEq, Repr

/-- An operation's context (R237, R238). -/
structure CadCtx where
  group : Nat
  window : Bool
  id : Nat
  opc : Nat
  phase : Nat
  gen : Nat
  relay : Bool
  launched : Bool
  tag : Option Nat
  own : Option CadPart
  own1 : Option Nat
  ups : List (Nat × CadPart)
  ups1 : List (Nat × CadPart)
  upSent : Bool
  start : Nat
  deadline : Nat
  emax : Int
  done : Bool
  failed : Bool
  deriving DecidableEq, Repr

/-- A cadence message held for a newer step (R239): the link, the body, the instant at which it is dropped. -/
structure CadHeld where
  link : Nat
  body : Bytes
  until_ : Nat
  deriving DecidableEq, Repr

/-- The cadence record (R244). -/
structure CadRec where
  launched : Nat
  completed : Nat
  rounds : Nat
  staleDropped : Nat
  failCause : Nat
  failOpc : Nat
  failGroup : Nat
  failKind : Bool
  failId : Nat
  lateFails : Nat
  maxLatency : Nat
  deadlineFaults : Nat
  deriving DecidableEq, Repr

/-! ### Buckets and chunks (03) -/

/-- State of a chunk (R72). -/
inductive ChunkSt where
  | armed | open_ | complete | sending | rounded | released | abandoned
  deriving DecidableEq, Repr

/-- A parked HELD contribution (R66): its port, format, image and window units. -/
structure Parked where
  port : Nat
  format : Nat
  payload : Bytes
  units : Nat
  deriving DecidableEq, Repr

/-- A chunk of an armed bucket (R72, R75). `line` is the accumulation line, empty when every word is zero. -/
structure Chunk where
  st : ChunkSt
  bitmap : Nat
  ua : Bool
  ub : Bool
  line : List W128
  floorHits : Nat
  clamps : Nat
  contributors : Nat
  overWin : Bool
  nonFinite : Bool
  parked : List Parked
  results : List W32
  crc : W64
  drainRead : Bool
  stateSent : Bool
  stateAcked : Bool
  parts : List Nat
  acked : List Nat
  resend : List (Nat × Nat)
  deriving DecidableEq, Repr

/-- A bucket armed in the step: its descriptor (R61) and its status record (R78). -/
structure Bucket where
  desc : BitVec 256
  emax : Option Int
  chunks : Tbl Chunk
  proposals : Tbl Int
  roundLaunched : Bool
  sramLines : Nat
  armTime : Nat
  parkedUnits : Nat
  tokenPosted : Bool
  abandoned : Bool
  floorHits : Nat
  clamps : Nat
  ovfRisk : Nat
  nonfinite : Nat
  duplicates : Nat
  wrongWindow : Nat
  holdRefused : Nat
  arrival : Option W64
  deriving DecidableEq, Repr

/-- The segment digest and count of a ring port, as sender and as receiver, and the reports about it (R93, R254, R255). -/
structure SegPort where
  sent : Nat
  sentAcked : Nat
  sentDigest : W64
  got : Nat
  gotDigest : W64
  reportSent : Bool
  reportAcked : Bool
  report : Option (Nat × W64)
  agreed : Bool
  deriving DecidableEq, Repr

/-! ### Parameter home and delivery (04) -/

/-- State of a fetch entry (R112). -/
inductive FetchSt where
  | waitBuffer | fetching | waitSource | casting | filled
  deriving DecidableEq, Repr

/-- A fetch entry (R112). -/
structure Fetch where
  chunk : Nat
  format : Nat
  mode : Nat
  group : Nat
  st : FetchSt
  downMask : Nat
  portMask : Nat
  buf : Option Nat
  attempt : Nat
  image : Bytes
  crc : W64
  created : Nat
  windowStart : Nat
  lastSent : Nat
  receiving : Bool
  resendAt : Option Nat
  order : Nat
  deriving DecidableEq, Repr

/-- Counters of the delivery record (R125). -/
structure DelivRec where
  accepted : Nat
  cacheHits : Nat
  merged : Nat
  fetches : Nat
  cast : Nat
  copies : Nat
  replacements : Nat
  nackVersion : Nat
  nackOther : Nat
  oldAttempt : Nat
  crcFailures : Nat
  entriesPeak : Nat
  deriving DecidableEq, Repr

/-- What SHARD_PLACE gives a slot (R98 to R102, R414, R423): the index limit, the map, the tables of granules by tile and
area, the error-memory range, the host regions. -/
structure Shard where
  placed : Bool
  l : Nat
  map : List W32
  mapCrc : W64
  scratchRows : Nat
  ememFirst : Nat
  ememChunks : Nat
  hostReg : List Nat
  grPrimary : Tbl (List Nat)
  grMirror : Tbl (List Nat)
  grScratch : Tbl (List Nat)
  emem0 : Tbl W32
  emem1 : Tbl W32
  gluedCopy : Nat
  hostBytes : Tbl Byte
  short : Bool
  deriving DecidableEq, Repr

/-! ### Steps and recovery (10) -/

/-- Step state (R250). -/
inductive StepSt where
  | none | dryFit | sealed | glued | rollingBack | rolledBack
  deriving DecidableEq, Repr

/-- Mirror state (R263). -/
inductive MirrorSt where
  | empty | syncing | lagging | current | broken
  deriving DecidableEq, Repr

/-- A received STATE frame that is held (R264): its port, header and payload. -/
structure HeldState where
  port : Nat
  h : Hdr
  payload : Bytes
  fcs : W64
  units : Nat
  deriving DecidableEq, Repr

/-- A restore request that a partner serves or defers (R274): the rows left, whether a rollback asked, and whether it is
deferred. -/
structure RestoreJob where
  rows : List (Nat × Nat)
  rollback : Bool
  step : Nat
  attempt : Nat
  deferred : Bool
  deriving DecidableEq, Repr

/-- A resync that the slot sends to a device (R269, R279): of its primary shard, or of the mirror it holds when a spare takes that
shard over; the rows and the error-memory chunks still to be read. -/
structure ResyncJob where
  ofMirror : Bool
  dest : Nat
  rows : List (Nat × Nat)
  emem : List Nat
  deriving DecidableEq, Repr

/-- A READY received on a cadence child link (R257): the step bits and attempt that it carries, and its two words. -/
structure ReadyWord where
  link : Nat
  step : Nat
  attempt : Nat
  andW : W64
  orW : W64
  deriving DecidableEq, Repr

/-- The transaction of a slot (R246 to R281). `lastGlued` is the last step glued in the slot, none for step NONE (R534). -/
structure StepRec where
  num : Nat
  attempt : Nat
  st : StepSt
  last : Bool
  programEnd : Bool
  armTime : Nat
  deadline : Nat
  sealTime : Nat
  decisionLost : Bool
  abortCause : Nat
  abortOrigin : Nat
  rollbacks : Nat
  staleDecisions : Nat
  armToSeal : Nat
  stateDigest : W64
  agreement : W64
  reportsDropped : Nat
  readyKids : List ReadyWord
  readySent : Bool
  stepDone : List Nat
  partnerReportSent : Bool
  partnerReport : Option (BitVec 256)
  partnerAgreed : Bool
  ringPorts : Tbl SegPort
  roundedChunks : Nat
  ememRows : Nat
  relayStep : Nat
  relayAttempt : Nat
  decision : Nat
  heldClose : Bool
  lastGlued : Option Nat
  started : Bool
  deriving DecidableEq, Repr

/-- A staging row that EMIT.STATE sends and that waits for its buffer (R268, R343): its chunk, plane, step, attempt and bytes. -/
structure ShipRow where
  chunk : Nat
  plane : Nat
  step : Nat
  attempt : Nat
  bytes : Bytes
  deriving DecidableEq, Repr

/-- The tandem mirror and recovery of a slot (R262 to R279). `late` lists the primary rows damaged while SEALED (R252), `syncGot`
and `spareGot` the rows that a resync has brought, `syncNext` those that have come again (log entry 62). -/
structure Tandem where
  partner : Option Nat
  mirrorOf : Option Nat
  shipRows : Nat
  mirrorSt : MirrorSt
  mirrorStep : Nat
  mirrorNone : Bool
  shipped : List (Nat × Nat × Bytes)
  ships : List ShipRow
  heldStates : List HeldState
  pending : Tbl W64
  pendingEmem : List Nat
  ememMirror0 : Tbl W32
  ememMirror1 : Tbl W32
  mirrorDigest : W64
  mirrorReport : Option W64
  passRunning : Bool
  passWaiting : Bool
  passStep : Nat
  passVer : Option Nat
  dirty : List (Nat × Nat)
  late : List (Nat × Nat)
  restoring : Bool
  restores : List RestoreJob
  resyncs : List ResyncJob
  syncGot : List (Nat × Nat)
  syncNext : List (Nat × Nat)
  hostWritten : Bool
  lost : Bool
  spareFrom : Option (Nat × Nat)
  spareGot : List (Nat × Nat)
  leftDevices : List Nat
  deriving DecidableEq, Repr

/-! ### Pool records (13) -/

/-- A pool record of a slot and class (R348). -/
structure PoolRec where
  rxHeld : Nat
  txHeld : Nat
  peak : Nat
  fallbacks : Nat
  emptyFails : Nat
  quotaFails : Nat
  waitMax : Nat
  deriving DecidableEq, Repr

end Sys2Proof.Machine
end

