-- ==== Sys2Proof/Machine/TypesBench.lean ====
section
/-! DEFINITION. The pieces of a slot's bench and jig state, as plain data (05, 06, 07) and its watch record (08). Cycles are
schedule cycles of the slot's own clock (R144), counted from its first segment on. -/

namespace Sys2Proof.Machine

/-- A token that an AWAIT names (R145). -/
inductive Token where
  | bucket (n : Nat)
  | cadence (k : Nat)
  | armed (n : Nat)
  deriving DecidableEq, Repr

/-- The five engine queues (R133). -/
inductive QId where
  | bench | move | drain | emit | cadence
  deriving DecidableEq, Repr

/-- Where a staging row's data came from: its sections know the chunk of that row (R129, R188). -/
inductive RowSrc where
  | none
  | primary (row : Nat)
  | mirror (row : Nat)
  deriving DecidableEq, Repr

/-- A written vector register: a word in each lane and its ready tag (R139). -/
structure VReg where
  data : Lanes W32
  ready : Nat
  deriving DecidableEq, Repr

/-- A written predicate register. -/
structure PReg where
  data : Lanes Bool
  ready : Nat
  deriving DecidableEq, Repr

/-- A written staging row (R128, R139): its four parts, each a word for every bench lane; its tags and its source. -/
structure SRow where
  parts : List (Lanes W32)
  ready : Nat
  busy : Nat
  src : RowSrc
  deriving DecidableEq, Repr

/-- An exponent accumulator (R196, R197). -/
structure EAcc where
  exp : Int
  nonFinite : Bool
  written : Bool
  ready : Nat
  busy : Nat
  deriving DecidableEq, Repr

/-- A sum accumulator (R196, R197). -/
structure WAcc where
  w : W128
  emax : Int
  count : Nat
  floorHits : Nat
  clamps : Nat
  overWin : Bool
  nonFinite : Bool
  written : Bool
  ready : Nat
  busy : Nat
  deriving DecidableEq, Repr

/-- What a queued issue does (R133, R169); areas by their code of R169. `fault` stands for a push that was refused (R142). -/
inductive IssueOp where
  | bench (cmd : W64) (scalar : Option W64)
  | moveIn (area plane row srow : Nat)
  | moveOut (area plane row srow : Nat)
  | drain (row srow : Nat)
  | emitState (plane row srow : Nat)
  | emitServe (row : Nat)
  | cadence (word operand : W64) (tag : Nat)
  | fault (cause : Nat)
  deriving DecidableEq, Repr

/-- One issue (R171, R172): its queue, target cycle, the entry it belongs to, the pushing instruction, its place in the block
and its repeat index. -/
structure Issue where
  q : QId
  cycle : Nat
  entry : Nat
  pc : Nat
  blockIdx : Nat
  repIdx : Nat
  op : IssueOp
  deriving DecidableEq, Repr

/-- What is in flight (R133, R137): a MOVE.IN or MOVE.OUT completing, a DRAIN read, a servable mark, a shipped row, a cadence
launch, a SHADOW event. -/
inductive FlightOp where
  | moveIn
  | moveOut (area plane row : Nat) (parts : List (Lanes W32))
  | drain (row : Nat)
  | serve (row : Nat)
  | ship (plane row : Nat) (parts : List (Lanes W32))
  | launch (fused : Bool) (opc group tag : Nat) (own : CadPart) (own1 : Option Nat) (deadline pc segment : Nat)
  | shadow (record : BitVec 384)
  deriving DecidableEq, Repr

/-- An effect in flight: when it is due, and when its command issued. -/
structure Flight where
  due : Nat
  issued : Nat
  op : FlightOp
  deriving DecidableEq, Repr

/-- How the jig context of a slot stands (R144 to R148): at rest, running, its in-flight commands completing after an instruction
that ends the segment, holding the bench at an AWAIT, at a yield point, ended, or stopped behind a refused push. -/
inductive RunSt where
  | stopped
  | running
  | completing
  | holding
  | yielded
  | ended
  | refused
  deriving DecidableEq, Repr

/-- How a segment ended (R145, R146, R175). -/
inductive SegEnd where
  | await
  | yield
  | program
  deriving DecidableEq, Repr

/-- The jig context (R157). `busy` lists the tags of operations that have not completed (R172). -/
structure Jig where
  g : Vector W64 32
  a : Vector W64 16
  s : Vector W64 16
  l : Vector W32 4
  pc : Nat
  rep : Option (Nat × Nat)
  results : Tbl W64
  busy : List Nat
  deriving DecidableEq, Repr

/-- The bench side of a slot: registers, queues, what is in flight, the schedule clock, the segment and the turn. -/
structure Bench where
  jig : Jig
  v : Tbl VReg
  p : Tbl PReg
  srows : Tbl SRow
  e : Vector EAcc 4
  w : Vector WAcc 4
  queue : List Issue
  past : List Issue
  entries : Nat
  lastPush : Tbl Nat
  flight : List Flight
  flightEnd : Nat
  lastTarget : Nat
  clock : Nat
  base : Nat
  startCycle : Nat
  startTime : Nat
  segment : Nat
  run : RunSt
  segEnd : SegEnd
  waitFor : Option Token
  turnStart : Nat
  account : Int
  pass : Bool
  tagSrc : Tbl (Nat × Nat)
  deriving DecidableEq, Repr

/-- Program version states (R152). -/
inductive VerSt where
  | loading | ready | selected | inUse | retired
  deriving DecidableEq, Repr

/-- One program version of a slot (R152, R456): its words, their marks, its constants, its mirror entry, the order in which
it was loaded, and whether an uncorrectable sector has made it unusable (R426). -/
structure ProgVer where
  num : Nat
  st : VerSt
  code : List W64
  marks : List Nat
  consts : List W64
  mirror : Option Nat
  order : Nat
  bad : Bool
  deriving DecidableEq, Repr

/-- The watch record (R220). -/
structure Watch where
  shchk : Nat
  lanes : Nat
  disCmds : Nat
  disLanes : Nat
  posted : Nat
  suppressed : Nat
  attempt : Nat
  deriving DecidableEq, Repr

end Sys2Proof.Machine
end

