-- ==== Sys2Proof/Machine/Frame.lean ====
section
/-! DEFINITION. The ULP header, its fields and its check, and the frame types, kinds and reason codes (R351 to R362, R374). -/

namespace Sys2Proof.Machine

/-- The header fields of 512 header bits (R353). -/
def hdrDecode (w : BitVec 512) : Hdr :=
  let n := w.toNat
  { typ := bitsOf n 0 4, cls := bitsOf n 4 3, mark := bitOf n 7, ver := bitsOf n 8 4, rsvd0 := bitsOf n 12 4,
    len := bitsOf n 16 16, seq := bitsOf n 32 32, src := bitsOf n 64 32, dst := bitsOf n 96 32, job := bitsOf n 128 16,
    gen := bitsOf n 144 16, group := bitsOf n 160 14, rsvd1 := bitsOf n 174 2, bucket := bitsOf n 176 16,
    chunk := bitsOf n 192 16, format := bitsOf n 208 4, mode := bitsOf n 212 3, rsvd2 := bitsOf n 215 1,
    window := bitsOf n 216 16, attempt := bitsOf n 232 8, tag := bitsOf n 240 16, step := bitsOf n 256 64,
    ts := bitsOf n 320 128, lack := bitsOf n 448 32 }

/-- Header bits [479:0] from the fields (R353). -/
def hdrBody (h : Hdr) : Nat :=
  packFields [(4, h.typ), (3, h.cls), (1, b2n h.mark), (4, h.ver), (4, h.rsvd0), (16, h.len), (32, h.seq), (32, h.src),
    (32, h.dst), (16, h.job), (16, h.gen), (14, h.group), (2, h.rsvd1), (16, h.bucket), (16, h.chunk), (4, h.format),
    (3, h.mode), (1, h.rsvd2), (16, h.window), (8, h.attempt), (16, h.tag), (64, h.step), (128, h.ts), (32, h.lack)]

/-- The header with its check formed (R352). -/
def hdrEncode (h : Hdr) : BitVec 512 :=
  let b := hdrBody h
  BitVec.ofNat 512 (b + (crc32c (leBytes 60 b)).toNat * 2 ^ 480)

/-- Whether HCRC agrees (R352). -/
def hcrcOk (w : BitVec 512) : Bool :=
  (crc32c (leBytes 60 w.toNat)).toNat == bitsOf w.toNat 480 32

/-- A header with every field zero but VERSION (R353). -/
def hdrZero : Hdr := ⟨0, 0, false, 1, 0, 0, 0, 0, 0, 0, 0, 0, 0, 0, 0, 0, 0, 0, 0, 0, 0, 0, 0, 0⟩

/-- TYPE codes (R354). -/
def tContribute : Nat := 0x1
/-- ACCUMULATE (R354). -/
def tAccumulate : Nat := 0x2
/-- GATHER (R354). -/
def tGather : Nat := 0x3
/-- DELIVER (R354). -/
def tDeliver : Nat := 0x4
/-- WINDOW (R354). -/
def tWindow : Nat := 0x5
/-- STATE (R354). -/
def tState : Nat := 0x6
/-- STEP_DONE (R354). -/
def tStepDone : Nat := 0x7
/-- CREDIT (R354). -/
def tCredit : Nat := 0xC
/-- NACK (R354). -/
def tNack : Nat := 0xD
/-- LINK_CTRL (R354). -/
def tLinkCtrl : Nat := 0xE

/-- The class that R354 gives a type; 7 for link frames, none for reserved types. -/
def classOfType (t : Nat) : Option Nat :=
  match t with
  | 0x1 => some 1
  | 0x2 => some 2
  | 0x3 => some 0
  | 0x4 => some 3
  | 0x5 => some 0
  | 0x6 => some 4
  | 0x7 => some 0
  | 0xC => some 7
  | 0xD => some 7
  | 0xE => some 7
  | _ => none

/-- The size of a frame with its header, in units of 256 bytes (R306, R318). -/
def unitsOf (payloadLen : Nat) : Nat := (payloadLen + 64 + 255) / 256

/-- The frame check sequence of a payload (R351): zero without payload. -/
def fcsOf (payload : Bytes) : W64 := if payload.isEmpty then 0 else crc64 payload

/-- Reason codes (R374). -/
inductive Reason where
  | replay | badCrc | protocol | badDest | unknownJob | staleGen | credit | staleStep | unarmed | badChunk | nonMember
  | late | windowPending | holdFull | wrongWindow | duplicate | malformed | staleVersion | futureVersion | badFormat
  | badRange | tableFull | oldAttempt | dupSeq | expelled | deliverCrc | deliverUnexpected
  deriving DecidableEq, Repr

/-- The code of a reason (R374). -/
def reasonCode : Reason → Nat
  | .replay => 0x01
  | .badCrc => 0x02
  | .protocol => 0x03
  | .badDest => 0x04
  | .unknownJob => 0x05
  | .staleGen => 0x06
  | .credit => 0x07
  | .staleStep => 0x08
  | .unarmed => 0x09
  | .badChunk => 0x0A
  | .nonMember => 0x0B
  | .late => 0x0C
  | .windowPending => 0x0D
  | .holdFull => 0x0E
  | .wrongWindow => 0x0F
  | .duplicate => 0x10
  | .malformed => 0x11
  | .staleVersion => 0x12
  | .futureVersion => 0x13
  | .badFormat => 0x14
  | .badRange => 0x15
  | .tableFull => 0x16
  | .oldAttempt => 0x17
  | .dupSeq => 0x18
  | .expelled => 0x19
  | .deliverCrc => 0x1A
  | .deliverUnexpected => 0x1B

/-- Whether the device answers a reason with a NACK (R374). -/
def reasonNacked : Reason → Bool
  | .duplicate => false
  | .oldAttempt => false
  | .dupSeq => false
  | .expelled => false
  | .deliverCrc => false
  | .replay => true
  | .badCrc => true
  | .protocol => true
  | .badDest => true
  | .unknownJob => true
  | .staleGen => true
  | .credit => true
  | .staleStep => true
  | .unarmed => true
  | .badChunk => true
  | .nonMember => true
  | .late => true
  | .windowPending => true
  | .holdFull => true
  | .wrongWindow => true
  | .malformed => true
  | .staleVersion => true
  | .futureVersion => true
  | .badFormat => true
  | .badRange => true
  | .tableFull => true
  | .deliverUnexpected => true

/-- FIRST and CHUNKS of a GATHER (R356). -/
def hGatherFirst (h : Hdr) : Nat := bitsOf h.ts 0 44
/-- CHUNKS of a GATHER (R356). -/
def hGatherChunks (h : Hdr) : Nat := bitsOf h.ts 44 7
/-- CHUNK_INDEX of a DELIVER (R356). -/
def hDeliverChunk (h : Hdr) : Nat := bitsOf h.ts 0 34
/-- WKIND of a WINDOW frame (R356). -/
def hWkind (h : Hdr) : Nat := bitsOf h.ts 0 2
/-- KIND of a STATE frame (R356). -/
def hStateKind (h : Hdr) : Nat := bitsOf h.ts 0 4
/-- PLANE of a STATE frame (R356). -/
def hStatePlane (h : Hdr) : Nat := bitsOf h.ts 4 3
/-- CHUNK_INDEX of a STATE frame (R356). -/
def hStateChunk (h : Hdr) : Nat := bitsOf h.ts 8 34
/-- KIND of a LINK_CTRL frame (R356). -/
def hLinkKind (h : Hdr) : Nat := bitsOf h.ts 0 8
/-- FLOOR_HITS of an ACCUMULATE (R356). -/
def hAccFloor (h : Hdr) : Nat := bitsOf h.ts 0 32
/-- CLAMPS of an ACCUMULATE (R356). -/
def hAccClamps (h : Hdr) : Nat := bitsOf h.ts 32 32
/-- CONTRIBUTORS of an ACCUMULATE (R356). -/
def hAccContrib (h : Hdr) : Nat := bitsOf h.ts 64 32
/-- OVERWIN of an ACCUMULATE (R356). -/
def hAccOver (h : Hdr) : Bool := bitOf h.ts 96
/-- NONFINITE of an ACCUMULATE (R356). -/
def hAccNonFinite (h : Hdr) : Bool := bitOf h.ts 97
/-- PART of an ACCUMULATE (R356). -/
def hAccPart (h : Hdr) : Nat := bitsOf h.ts 98 2

/-- STATE kinds (R356). -/
def kPending : Nat := 0x1
/-- EMEM (R356). -/
def kEmem : Nat := 0x2
/-- SHIP (R356). -/
def kShip : Nat := 0x3
/-- RESTORE (R356). -/
def kRestore : Nat := 0x4
/-- RESYNC (R356). -/
def kResync : Nat := 0x5
/-- RESYNC_EMEM (R356). -/
def kResyncEmem : Nat := 0x6
/-- PARTNER_REPORT (R356). -/
def kPartnerReport : Nat := 0x7
/-- SEGMENT_REPORT (R356). -/
def kSegmentReport : Nat := 0x8

/-- The mask of the type-specific bits that a header's type uses (R356); all others are reserved. -/
def tsUsed (h : Hdr) : Nat :=
  match h.typ with
  | 0x2 => 2 ^ 100 - 1
  | 0x3 => 2 ^ 51 - 1
  | 0x4 => 2 ^ 34 - 1
  | 0x5 => if hWkind h = 0 then 3 else 15
  | 0x6 =>
    let k := hStateKind h
    let plane := if k = 3 || k = 4 || k = 5 then 7 * 2 ^ 4 else 0
    let chunk := if 1 ≤ k && k ≤ 6 then (2 ^ 34 - 1) * 2 ^ 8 else 0
    15 + plane + chunk
  | 0xE => 255
  | _ => 0

/-- Whether FORMAT is allowed for the type (R355). -/
def formatAllowed (h : Hdr) : Bool :=
  match h.typ with
  | 0x1 => isContribFmt h.format
  | 0x2 => h.format == 0x9 || h.format == 0xA
  | 0x4 => isDeliver h.format
  | _ => true
where
  /-- Whether a code is marked for delivery (R38). -/
  isDeliver (c : Nat) : Bool := c < 0x9
  /-- Whether a code is marked for contribution (R38). -/
  isContribFmt (c : Nat) : Bool := c < 0xA

/-- Whether every reserved and unused field is zero (R353, R355). Fields that a type uses are left out of the test. -/
def unusedZero (h : Hdr) : Bool :=
  let t := h.typ
  let link := t == 0xC || t == 0xD || t == 0xE
  let lk := hLinkKind h
  let jobbed := !link || t == 0xD || (t == 0xE && 3 ≤ lk && lk ≤ 9)
  let useGroup := t == 1 || t == 2 || t == 3 || t == 4 || t == 5 || t == 7 || t == 0xD
  let useBucket := t == 1 || t == 2 || t == 5 || t == 0xD
  let useChunk := t == 1 || t == 2 || t == 0xD
  let useFormat := t == 1 || t == 2 || t == 3 || t == 4 || t == 0xD
  let useMode := t == 3 || t == 4 || t == 0xD
  let useWindow := t == 1 || t == 2 || t == 5 || t == 0xD
  let useAttempt := (!link && t != 3) || t == 0xD || (t == 0xE && (lk == 5 || lk == 6))
  let useTag := t == 3 || t == 4 || t == 0xD
  h.rsvd0 == 0 && h.rsvd1 == 0 && h.rsvd2 == 0
    && (jobbed || (h.job == 0 && h.gen == 0 && h.step == 0))
    && (useGroup || h.group == 0) && (useBucket || h.bucket == 0) && (useChunk || h.chunk == 0)
    && (useFormat || h.format == 0) && (useMode || h.mode == 0) && (useWindow || h.window == 0)
    && (useAttempt || h.attempt == 0) && (useTag || h.tag == 0)
    && (link || h.lack == 0) && (h.ts &&& tsUsed h) == h.ts

/-- Whether LENGTH is allowed (R354, R373 check 2). -/
def lengthAllowed (h : Hdr) : Bool :=
  match h.typ with
  | 0x1 => some h.len == imageBytes h.format
  | 0x2 => if h.format = 0x9 then h.len == 144 else 64 ≤ h.len && h.len ≤ 16384
  | 0x4 => some h.len == imageBytes h.format
  | 0x6 => h.len == (if hStateKind h = 7 then 32 else if hStateKind h = 8 then 16 else 4096)
  | 0xC => 16 ≤ h.len && (h.len - 16) % 8 == 0 && h.len ≤ 16 + 8 * 20
  | 0xD => h.len == 16
  | 0xE =>
    match hLinkKind h with
    | 0x01 => h.len == 8
    | 0x02 => h.len == 10
    | 0x06 => h.len == 1
    | 0x07 => (h.len - 1) % 16 == 0 && 17 ≤ h.len && h.len ≤ 129
    | 0x09 => h.len == 1
    | _ => h.len == 0
  | _ => h.len == 0
where
  /-- The chunk image size of a format (R38). -/
  imageBytes : Nat → Option Nat
    | 0 => some 4096
    | 1 => some 2048
    | 2 => some 2048
    | 3 => some 1024
    | 4 => some 1024
    | 5 => some 512
    | 6 => some 1056
    | 7 => some 1056
    | 8 => some 544
    | 9 => some 144
    | _ => none

/-- Whether a type may come from the far end's role (R354): `trunk` says that the port is a trunk. GATHER, CREDIT, NACK and
LINK_CTRL come from both. -/
def typeAllowed (t : Nat) (trunk : Bool) : Bool :=
  match t with
  | 0x1 => !trunk
  | 0x2 => trunk
  | 0x3 => true
  | 0x4 => trunk
  | 0x5 => !trunk
  | 0x6 => trunk
  | 0x7 => !trunk
  | 0xC => true
  | 0xD => true
  | 0xE => true
  | _ => false

end Sys2Proof.Machine
end

