-- ==== Sys2Proof/Machine/Slot.lean ====
section
/-! DEFINITION. One job slot, and the value of every piece before anything has written it. -/

namespace Sys2Proof.Machine

/-- Everything the device holds for a job (R32). `log` lists the unread entries of the chunk exception log, `logRing` what its ring
holds, `logNext` how many have been appended (R77). -/
structure Slot where
  st : SlotSt
  gen : Nat
  staleGen : Nat
  ob : OpenBlock
  meas : Digest
  drainStart : Nat
  drainTimeoutPosted : Bool
  shard : Shard
  groups : Tbl GroupSet
  ctxs : List CadCtx
  cadHeld : List CadHeld
  cadRec : CadRec
  step : StepRec
  tan : Tandem
  buckets : Tbl Bucket
  servable : List Nat
  fetch : List Fetch
  deliv : DelivRec
  flags : NFlags
  log : List W128
  logNext : Nat
  logRing : Tbl W128
  logOverflow : Nat
  memLate : Nat
  sums : Tbl W128
  watch : Watch
  fault : BitVec 256
  pools : List PoolRec
  winTx : Tbl Nat
  winRx : Tbl Nat
  health : Health
  progs : List ProgVer
  running : Option Nat
  resident : Option Nat
  tokens : List Token
  bench : Bench
  deriving DecidableEq, Repr

/-! ### Values before anything has written them. Each is zero, empty or the default the spec gives; where the spec gives none
it is DESIGN CHOICE 0 (log entry 1). -/

/-- A mailbox at reset (R442). -/
def mailboxInit : Mailbox := ⟨0, 0, false, false, .idle, 0, none⟩

/-- The event ring at reset (R449). -/
def evtRingInit : EvtRing := ⟨0, 6, false, 0, 0, 0, 0, 0, [], false, none, false, []⟩

/-- The host-facing registers at reset (R439, R510, R512). -/
def hostRegsInit : HostRegs := ⟨0, false, 0, false, false, false, false, 0, 0, 0, 0, 0, 0, 0, false, [false, false]⟩

/-- A trace filter at reset (R330): SAMPLE_N 1 and END all ones. -/
def filterInit : BitVec 256 := BitVec.ofNat 256 (2 ^ 96 + (2 ^ 64 - 1) * 2 ^ 192)

/-- The trace at reset (R516). -/
def traceInit : Trace := ⟨0, false, 0, 0, 0, 0, 0, false, 0, List.replicate 4 filterInit, [0, 0, 0, 0], []⟩

/-- Class counters at reset (R334). -/
def clsCntInit : ClsCnt := ⟨0, 0, 0, 0, 0, 0, 0⟩

/-- Congestion settings before LINK_CONFIG (R325): LEARN, 16, 4,096, 1 ms, K at K_MAX. -/
def kSetInit : KSet := ⟨false, 16, 4096, 1, 4096, 0⟩

/-- Protocol counters at reset (R377). -/
def protoCntInit : ProtoCnt := ⟨0, 0, 0, 0, 0, 0, 0, 0, 0, 0, 0, 0, 0, 0, 0, 0⟩

/-- A port before LINK_CONFIG: disabled, weights of R306, electrical idle disabled (R390). -/
def portCfgInit : PortCfg := ⟨false, false, false, 0, 0, false, [2, 16, 16, 16, 8], [0, 0, 0, 0, 0], 1000000⟩

/-- The transmit side of a port before link-up (R358). -/
def portTxInit : PortTx := ⟨0, [], none, 0, [[], [], [], [], []], [0, 0, 0, 0, 0], 0, [0, 0, 0, 0, 0], 0, [], [], [0, 0, 0, 0, 0]⟩

/-- The receive side of a port before link-up (R358). -/
def portRxInit : PortRx := ⟨0, 0, false, 0, 0, false, false, [0, 0, 0, 0, 0], [0, 0, 0, 0, 0], [], [], []⟩

/-- A port at reset. -/
def portInit : Port :=
  ⟨portCfgInit, false, false, false, false, 0, 0, false, List.replicate 5 kSetInit, List.replicate 5 clsCntInit, protoCntInit,
   portTxInit, portRxInit, [], false, false, 0⟩

/-- A pool's counters at reset (R349). -/
def poolStatInit : PoolStat := ⟨none, 0, 0⟩

/-- The shared buffer at reset: 128 MiB of accumulation area and the default carving (R337). -/
def fabricInit : Fabric := ⟨[], [], [], 8, [1536, 128, 64, 16], [], [], []⟩

/-- A lane at reset (R395). -/
def laneInit : Lane :=
  ⟨false, false, 0, 0, .down, false, 0, [0, 0, 0, 0, 0], 0, 0, 0, 0, 0, 0, 0, false, 0, 0, 0, 0, 0, false⟩

/-- A spoke link at reset (R409). -/
def spokeInit : Spoke := ⟨0, 0, 0, 0, 0, 0, 0, 0, 0, 0, 0, 0, none, none, false, false, [], []⟩

/-- The time record at reset (R408). -/
def timeRecInit : TimeRec := ⟨0, 0, 0, 0, 0, 0, 0, 0, 0, none, 0, 0, 0⟩

/-- An HBM channel at reset (R431). -/
def chanInit : Chan := ⟨0, 0, 0, 0, 0, 0, 0, 0, 0, 0, 0⟩

/-- HBM at reset: nothing listed. -/
def hbmInit : Hbm := ⟨[], [], [], []⟩

/-- A power domain at reset. -/
def domainInit : Domain := ⟨false, 0, 0, 160, 0, false, 0, false⟩

/-- The always-on block at reset (R513). -/
def powerInit : Power where
  phase := 1
  inputState := 0
  pwrGood := true
  bootSel := false
  bootSelPin := false
  thermal := 0
  voltage := 0
  power := 0
  peak := 0
  junction := 0
  stack := 0
  hotTile := 0
  hotStack := 0
  sustainedCap := 3600
  burstCap := 5000
  burstMs := 200
  sleepMask := 0x000003FFFFFFFFFC
  nextCaps := none
  bursts := []
  awake := 1
  domains := []
  rideThroughs := 0
  surges := 0
  lastGasps := 0
  throttles := 0
  rideStart := 0
  switchOpen := false
  switchSince := 0
  gaspActive := false
  powDepth := 0
  thDepth := 0
  owed := false
  belowRun := 0
  lastLift := 0
  deepest := 0
  throttling := false
  coolSince := none
  overWindow := none
  ref25 := true
  ref156 := true
  gaspRecord := none
  flashRecord := none

/-- The security block at reset (R489, R514). -/
def securityInit : Security :=
  ⟨0, false, 0, 0, [0, 0, 0, 0], 0, 0, 0, false, false, 0, 0, 0, 0, true, 0, none, 0, []⟩

/-- A brake at the defaults of R300. -/
def brakeInit : Brake := ⟨1, 0, 0, 0⟩

/-- Health settings at the defaults of R300. -/
def healthInit : Health where
  w := 10
  a := 100
  accuseLimit := 8
  heldEscalate := 2
  linkEscalate := 4
  decayShift := 4
  threshold := 256
  recover := 128
  p := 1000
  brakeWindow := 600
  members := brakeInit
  devices := brakeInit
  subjects := []
  penalised := []
  accuse := []
  linkCounts := []
  escalated := []
  closedKeys := []
  reI := 0
  reKinds := 0
  reSeed := 0
  reFired := none
  reSkipped := 0
  corruptNext := none
  corrupted := []
  stallNext := none
  stalled := []

/-- The open block before JOB_OPEN. -/
def openBlockInit : OpenBlock :=
  ⟨0, false, false, 0, 0, 0, 0, 0, 0, 0, 0, 0, 0, 0, [0, 0, 0, 0], [0, 0, 0, 0, 0], 0, 0, 0, 0, 0⟩

/-- The shard before SHARD_PLACE. -/
def shardInit : Shard := ⟨false, 0, [], 0, 0, 0, 0, [0, 0, 0, 0], [], [], [], [], [], 1, [], false⟩

/-- The cadence record at reset (R244). -/
def cadRecInit : CadRec := ⟨0, 0, 0, 0, 0, 0, 0, false, 0, 0, 0, 0⟩

/-- The transaction record at reset (R281). -/
def stepRecInit : StepRec where
  num := 0
  attempt := 0
  st := .none
  last := false
  programEnd := false
  armTime := 0
  deadline := 0
  sealTime := 0
  decisionLost := false
  abortCause := 0
  abortOrigin := 0
  rollbacks := 0
  staleDecisions := 0
  armToSeal := 0
  stateDigest := 0
  agreement := 0
  reportsDropped := 0
  readyKids := []
  readySent := false
  stepDone := []
  partnerReportSent := false
  partnerReport := none
  partnerAgreed := false
  ringPorts := []
  roundedChunks := 0
  ememRows := 0
  relayStep := 0
  relayAttempt := 0
  decision := 0
  heldClose := false
  lastGlued := none
  started := false

/-- The tandem state before TANDEM_BIND (R263). -/
def tandemInit : Tandem where
  partner := none
  mirrorOf := none
  shipRows := 0
  mirrorSt := .empty
  mirrorStep := 0
  mirrorNone := true
  shipped := []
  ships := []
  heldStates := []
  pending := []
  pendingEmem := []
  ememMirror0 := []
  ememMirror1 := []
  mirrorDigest := 0
  mirrorReport := none
  passRunning := false
  passWaiting := false
  passStep := 0
  passVer := none
  dirty := []
  late := []
  restoring := false
  restores := []
  resyncs := []
  syncGot := []
  syncNext := []
  hostWritten := false
  lost := false
  spareFrom := none
  spareGot := []
  leftDevices := []

/-- The delivery record at reset (R125). -/
def delivRecInit : DelivRec := ⟨0, 0, 0, 0, 0, 0, 0, 0, 0, 0, 0, 0⟩

/-- The pool record at reset (R348). -/
def poolRecInit : PoolRec := ⟨0, 0, 0, 0, 0, 0, 0⟩

/-- The jig context at its reset values (R157). -/
def jigInit : Jig := ⟨Vector.replicate 32 0, Vector.replicate 16 0, Vector.replicate 16 0, Vector.replicate 4 0, 0, none, [], []⟩

/-- A watch record at reset (R220). -/
def watchInit : Watch := ⟨0, 0, 0, 0, 0, 0, 0⟩

/-- An exponent accumulator that nothing has cleared (R196): EXP_ZERO of R50. -/
def eAccInit : EAcc := ⟨-32768, false, false, 0, 0⟩

/-- A sum accumulator that nothing has set (R196). -/
def wAccInit : WAcc := ⟨0, 0, 0, 0, 0, false, false, false, 0, 0⟩

/-- The bench side of a slot at rest: every register and row UNWRITTEN (R147). -/
def benchInit : Bench where
  jig := jigInit
  v := []
  p := []
  srows := []
  e := Vector.replicate 4 eAccInit
  w := Vector.replicate 4 wAccInit
  queue := []
  past := []
  entries := 0
  lastPush := []
  flight := []
  flightEnd := 0
  lastTarget := 0
  clock := 0
  base := 0
  startCycle := 0
  startTime := 0
  segment := 0
  run := .stopped
  segEnd := .yield
  waitFor := none
  turnStart := 0
  account := 0
  pass := false
  tagSrc := []

/-- A slot at reset: FREE (R34). -/
def slotInit : Slot where
  st := .free
  gen := 0
  staleGen := 0
  ob := openBlockInit
  meas := 0
  drainStart := 0
  drainTimeoutPosted := false
  shard := shardInit
  groups := []
  ctxs := []
  cadHeld := []
  cadRec := cadRecInit
  step := stepRecInit
  tan := tandemInit
  buckets := []
  servable := []
  fetch := []
  deliv := delivRecInit
  flags := 0
  log := []
  logNext := 0
  logRing := []
  logOverflow := 0
  memLate := 0
  sums := []
  watch := watchInit
  fault := 0
  pools := List.replicate 5 poolRecInit
  winTx := []
  winRx := []
  health := healthInit
  progs := []
  running := none
  resident := none
  tokens := []
  bench := benchInit

end Sys2Proof.Machine
end

