-- ==== Sys2Proof/Machine/State.lean ====
section
/-! DEFINITION. The state of the device, the ways a step can stop, and the state right after reset (R506 to R516). -/

namespace Sys2Proof.Machine

/-- The whole device as plain data. Every field holds what the rule beside it gives the machine; `pending` is the queue of the
commands that wait, first in first out, and `freeCount` is the model's own counter behind its free values. -/
structure State where
  /-- Commands waiting, oldest first (the model's input queue). -/
  pending : List Instr
  /-- Device time in ns, modulo 2^64 (R13). -/
  time : Nat
  /-- What the device has put on its pins, oldest first. -/
  out : List Emit
  /-- How many free values have been drawn (log entry 2). -/
  freeCount : Nat
  /-- Global page and host modules (R436, R439, R510, R512). -/
  host : HostRegs
  /-- Mailboxes by index, 0 the system mailbox (R442). -/
  mbx : Tbl Mailbox
  /-- The order in which OWN was set (R444). -/
  ownOrder : List Nat
  /-- Event ring (R449). -/
  evt : EvtRing
  /-- Trace ring (R330, R516). -/
  trc : Trace
  /-- Shared buffer, pools and die links (R26, R303, R336). -/
  fab : Fabric
  /-- Ports (R21). -/
  ports : Tbl Port
  /-- Main lanes (R395). -/
  lanes : Tbl Lane
  /-- Spoke links (R396). -/
  spokes : Tbl Spoke
  /-- Device time record (R408). -/
  timeRec : TimeRec
  /-- HBM (R411). -/
  hbm : Hbm
  /-- Always-on block (R513). -/
  pwr : Power
  /-- Security (R514). -/
  sec : Security
  /-- Open incidents (R287). -/
  incidents : List Incident
  /-- DROPPED_REPORTS (R287). -/
  droppedReports : Nat
  /-- The slot that holds the bench, if any (R148). -/
  holder : Option Nat
  /-- The slot that last held the bench, after which the arbiter looks for a ready one (R148). -/
  benchLast : Nat
  /-- Job slots (R32). -/
  slots : Tbl Slot
  deriving DecidableEq, Repr

/-- The ways the device could stop short of a next state. The spec leaves none: every breach has a stated response
("no breach leaves device behaviour open", 00), so no meaning raises a fault. -/
inductive Fault where
  deriving DecidableEq, Repr

/-- Commands that the model does not run. -/
inductive Refusal where
  /-- Raised by exec's own arm for a command whose meaning is not written yet: safe, since nothing is then claimed of it. -/
  | notModelled (mnemonic : String)
  deriving DecidableEq, Repr

/-- The device right after reset (R508): every field at the value the spec gives, or at the value log entry 1 names. -/
def State.reset : State where
  pending := []
  time := 0
  out := []
  freeCount := 0
  host := hostRegsInit
  mbx := []
  ownOrder := []
  evt := evtRingInit
  trc := traceInit
  fab := fabricInit
  ports := []
  lanes := []
  spokes := []
  timeRec := timeRecInit
  hbm := hbmInit
  pwr := powerInit
  sec := securityInit
  incidents := []
  droppedReports := 0
  holder := none
  benchLast := 63
  slots := []

end Sys2Proof.Machine
end

