-- ==== Sys2Proof/Machine/Ops.lean ====
section
/-! DEFINITION. The operations that every meaning is written over: reading and changing the pieces of state by number, device
time, event records and interrupts (R449 to R452), mailbox responses (R443, R446), spoke sequences (R398, R399). The device has
no exception entry; raising an event, an interrupt or an abort is a change of state. -/

namespace Sys2Proof.Machine

/-- The outcome of every meaning. -/
abbrev Out := Host.Outcome State Fault Refusal

/-! ### Pieces by number -/

/-- Slot i. -/
def getSlot (s : State) (i : Nat) : Slot := tget slotInit s.slots i

/-- Slot i replaced. -/
def setSlot (s : State) (i : Nat) (v : Slot) : State := { s with slots := tset s.slots i v }

/-- Slot i changed. -/
def modSlot (s : State) (i : Nat) (f : Slot → Slot) : State := setSlot s i (f (getSlot s i))

/-- Port p. -/
def getPort (s : State) (p : Nat) : Port := tget portInit s.ports p

/-- Port p changed. -/
def modPort (s : State) (p : Nat) (f : Port → Port) : State := { s with ports := tset s.ports p (f (getPort s p)) }

/-- Lane n. -/
def getLane (s : State) (n : Nat) : Lane := tget laneInit s.lanes n

/-- Lane n changed. -/
def modLane (s : State) (n : Nat) (f : Lane → Lane) : State := { s with lanes := tset s.lanes n (f (getLane s n)) }

/-- Spoke link k. -/
def getSpoke (s : State) (k : Nat) : Spoke := tget spokeInit s.spokes k

/-- Spoke link k changed. -/
def modSpoke (s : State) (k : Nat) (f : Spoke → Spoke) : State := { s with spokes := tset s.spokes k (f (getSpoke s k)) }

/-- Mailbox m: 0 the system mailbox, 1 + slot a job mailbox. -/
def getMbx (s : State) (m : Nat) : Mailbox := tget mailboxInit s.mbx m

/-- Mailbox m changed. -/
def modMbx (s : State) (m : Nat) (f : Mailbox → Mailbox) : State := { s with mbx := tset s.mbx m (f (getMbx s m)) }

/-- HBM channel c. -/
def getChan (s : State) (c : Nat) : Chan := tget chanInit s.hbm.chans c

/-- HBM channel c changed. -/
def modChan (s : State) (c : Nat) (f : Chan → Chan) : State :=
  { s with hbm := { s.hbm with chans := tset s.hbm.chans c (f (getChan s c)) } }

/-- Power domain d. -/
def getDomain (s : State) (d : Nat) : Domain := tget domainInit s.pwr.domains d

/-- Power domain d changed. -/
def modDomain (s : State) (d : Nat) (f : Domain → Domain) : State :=
  { s with pwr := { s.pwr with domains := tset s.pwr.domains d (f (getDomain s d)) } }

/-- Phases in which D0 wakes domains on demand: from FABRIC_TEST on, while the device is powered (R482). -/
def wakesRun (s : State) : Bool := 5 ≤ s.pwr.phase.toNat && s.pwr.phase.toNat ≤ 8

/-- A wake event of a domain (R474): a sleeping domain starts to wake. -/
def wakeDomain (s : State) (d : Nat) : State :=
  if d < 2 || s.pwr.awake.testBit d || (getDomain s d).waking || !wakesRun s then s
  else modDomain s d (fun x => { x with waking := true, attempts := 1, wakeStart := s.time })

/-- The arming of a step wakes the bench domains D34 to D41 (R155). -/
def wakeBench (s : State) : State := (List.range 8).foldl (fun s d => wakeDomain s (34 + d)) s

/-- How deep the governor's levers stand: the deeper of the two demands (R470, R486, R488). -/
def leverDepth (p : Power) : Nat := max p.powDepth p.thDepth

/-- Bench cycles that run in every 16 (R470): one less for each of the first 12 steps. -/
def gatingOf (d : Nat) : Nat := 16 - min 12 d

/-- Steps of the regulated-HBM cap: the five after bench gating (R470). -/
def hbmStepOf (d : Nat) : Nat := min 5 (d - 12)

/-- Steps of C1 pacing: the last four (R470). -/
def c1StepOf (d : Nat) : Nat := min 4 (d - 17)

/-- The slots that a test accepts, ascending. -/
def slotsWhere (s : State) (p : Slot → Bool) : List Nat := (List.range 64).filter (fun i => p (getSlot s i))

/-- Something put on the pins. -/
def emit (s : State) (e : Emit) : State := { s with out := s.out ++ [e] }

/-- A 32-bit count one higher, saturating. -/
def inc32 (n : Nat) : Nat := satAdd 32 n 1

/-- A list with element i replaced by a function of itself. -/
def modAt {α : Type} (xs : List α) (i : Nat) (f : α → α) : List α := xs.modify i f

/-- Element i of a list of numbers, 0 past its end. -/
def natAt (xs : List Nat) (i : Nat) : Nat := xs.getD i 0

/-- A free value's draw: the counter before, and the state with the counter advanced (log entry 2). -/
def drawFree (s : State) : Nat × State := (s.freeCount, { s with freeCount := s.freeCount + 1 })

/-! ### Device time -/

/-- Device time is 64 bits wide (R13). -/
def timeMask (t : Nat) : Nat := t % 2 ^ 64

/-- Device time brought forward to an instant that a time-driven command is due at; time never runs backward (R406). -/
def timeTo (s : State) (t : Nat) : State := { s with time := timeMask (max s.time t) }

/-- Microseconds as nanoseconds. -/
def usNs (us : Nat) : Nat := us * 1000

/-- Milliseconds as nanoseconds. -/
def msNs (ms : Nat) : Nat := ms * 1000000

/-! ### Host transaction layer, interrupts and events -/

/-- The module on which the device sends its own requests (R436): 0, or 1 while 0 is down. -/
def deviceModule (s : State) : Nat := if natUp s 0 then 0 else 1
where
  /-- Whether a module is up. -/
  natUp (s : State) (m : Nat) : Bool := s.host.ucieUp.getD m false

/-- An INTERRUPT message (R451). -/
def raiseIrq (s : State) (vector : Nat) : State := emit s (.interrupt (deviceModule s) vector)

/-- The lowest tag of a device-issued request that is not outstanding (R435). -/
def freeTag (fl : List EvtWrite) : Option Nat := (List.range 1024).find? (fun t => !(fl.any (fun w => !w.done && w.tag == some t)))

/-- Whether the event ring has room for one more record (R450). -/
def evtRoom (e : EvtRing) : Bool := (e.issued - e.tail).toNat < 2 ^ e.sizeLog2.toNat

/-- An event record: header and payload, 128 bytes (R452). -/
def evtRecord (code slot seq time : Nat) (payload : Bytes) : Bytes :=
  fitBytes 128 (leBytes 2 code ++ leBytes 1 slot ++ leBytes 1 0 ++ leBytes 4 seq ++ leBytes 8 time ++ payload)

/-- Record n of the ring sent to the host (R450). -/
def evtWrite (s : State) (code slot : Nat) (payload : Bytes) : State :=
  let e := s.evt
  let n := e.issued.toNat
  let data := evtRecord code slot n s.time payload
  let addr := (e.base.toNat / 4096) * 4096 + 128 * (n % 2 ^ e.sizeLog2.toNat)
  let tag := freeTag e.flight
  let m := deviceModule s
  let s := { s with evt := { e with issued := e.issued + 1, flight := e.flight ++ [⟨tag, m, addr, data, false⟩] } }
  match tag with
  | some t => emit s (.hostWrite m t addr data)
  | none => s

/-- RING_OVERFLOW written first when the ring has gained room after a loss (R450). -/
def evtOverflow (s : State) : State :=
  if s.evt.overflowOwed && s.evt.en && evtRoom s.evt then
    let lost := s.evt.lost.toNat
    let s := { s with evt := { s.evt with overflowOwed := false } }
    evtWrite s 0x0016 0xFF (leBytes 4 lost)
  else s

/-- An event posted, or counted in LOST when the ring is full or disabled (R450); while no keeper core serves it waits (R28). -/
def postEvent (s : State) (code slot : Nat) (payload : Bytes) : State :=
  if s.host.keeperDown then { s with evt := { s.evt with deferred := s.evt.deferred ++ [(code, slot, payload)] } }
  else if !s.evt.en then { s with evt := { s.evt with lost := s.evt.lost + 1 } }
  else
    let s := evtOverflow s
    if evtRoom s.evt then evtWrite s code slot payload
    else { s with evt := { s.evt with lost := s.evt.lost + 1, overflowOwed := true } }

/-- Event codes (R452). -/
def evStepGlued : Nat := 0x0001
/-- STEP_ABORTED (R452). -/
def evStepAborted : Nat := 0x0002
/-- SCHEDULE_FAULT (R452). -/
def evScheduleFault : Nat := 0x0003
/-- NUMERIC_WATCH (R452). -/
def evNumericWatch : Nat := 0x0004
/-- INCIDENT (R452). -/
def evIncident : Nat := 0x0005
/-- HEALTH (R452). -/
def evHealth : Nat := 0x0006
/-- ESCALATION (R452). -/
def evEscalation : Nat := 0x0007
/-- MIRROR_BROKEN (R452). -/
def evMirrorBroken : Nat := 0x0008
/-- SLOT_LOST (R452). -/
def evSlotLost : Nat := 0x0009
/-- DECISION_LOST (R452). -/
def evDecisionLost : Nat := 0x000A
/-- SLOT_DRAIN_TIMEOUT (R452). -/
def evDrainTimeout : Nat := 0x000B
/-- SLOT_FREE (R452). -/
def evSlotFree : Nat := 0x000C
/-- TAKEOVER (R452). -/
def evTakeover : Nat := 0x000D
/-- DEGRADED (R452). -/
def evDegraded : Nat := 0x000E
/-- MEM_MAPOUT (R452). -/
def evMemMapout : Nat := 0x000F
/-- MEM_ERROR (R452). -/
def evMemError : Nat := 0x0010
/-- POOL_ERROR (R452). -/
def evPoolError : Nat := 0x0011
/-- TIME_FAULT (R452). -/
def evTimeFault : Nat := 0x0012
/-- TIME_HOLDOVER (R452). -/
def evTimeHoldover : Nat := 0x0013
/-- RESYNC_DONE (R452). -/
def evResyncDone : Nat := 0x0014
/-- PORT_STATE (R452). -/
def evPortState : Nat := 0x0015
/-- POWER (R452). -/
def evPower : Nat := 0x0017

/-- The SLOT byte of a device event (R452). -/
def devEvent : Nat := 0xFF

/-! ### Mailbox responses -/

/-- The response slot of a command (R446). -/
def responseOf (opcode status detail token : Nat) (results : Bytes) : BitVec 512 :=
  BitVec.ofNat 512 (leNat (leBytes 1 opcode ++ leBytes 1 0 ++ leBytes 1 status ++ leBytes 1 detail ++ leBytes 4 token
    ++ fitBytes 56 results))

/-- The bytes of a 64-byte command or response slot. -/
def slotBytes (w : BitVec 512) : Bytes := leBytes 64 w.toNat

/-- The response written and OWN cleared in one cycle, with the interrupt that IRQ_EN asks for (R443, R451). -/
def answerMbx (s : State) (m : Nat) (status detail : Nat) (results : Bytes) : State :=
  let b := getMbx s m
  let bs := slotBytes b.cmd
  let rsp := responseOf (leAt bs 0 1) status detail (leAt bs 4 4) results
  let s := modMbx s m (fun b => { b with rsp := rsp, own := false, st := .idle, committed := none })
  let s := { s with ownOrder := s.ownOrder.filter (· != m) }
  if b.irqEn then raiseIrq s (1 + m) else s

/-! ### Spoke sequences (R398, R399) -/

/-- K-symbol bytes: Kx.y is y × 32 + x. -/
def kBarrier : Nat := 0xF7
/-- CADENCE, K27.7. -/
def kCadence : Nat := 0xFB
/-- READY, K28.0. -/
def kReady : Nat := 0x1C
/-- LINKCTL, K28.1. -/
def kLinkctl : Nat := 0x3C
/-- ABORT, K28.2. -/
def kAbort : Nat := 0x5C
/-- GLUE, K28.3. -/
def kGlue : Nat := 0x7C
/-- LEAVE, K28.4. -/
def kLeave : Nat := 0x9C
/-- TIME, K28.6. -/
def kTime : Nat := 0xDC
/-- INCIDENT, K30.7. -/
def kIncident : Nat := 0xFE

/-- How many copies of a sequence are sent (R398). -/
def spokeCopies (k : Nat) : Nat :=
  if k = kBarrier || k = kCadence then 2
  else if k = kReady || k = kAbort || k = kGlue || k = kLeave then 3
  else 1

/-- A sequence sent on a link with the next SSEQ. Until the link is up only LINKCTL is sent (R403). -/
def spokeSend (s : State) (link k : Nat) (body : Bytes) : State :=
  let l := getSpoke s link
  if l.st = 2 || (l.st = 1 && k = kLinkctl) then
    let s := emit s (.spoke link k l.nextSseq body (spokeCopies k))
    modSpoke s link (fun l => { l with nextSseq := (l.nextSseq + 1) % 256, seqSent := inc32 l.seqSent })
  else s

/-- A sequence sent on each of several links, ascending. -/
def spokeSendAll (s : State) (links : List Nat) (k : Nat) (body : Bytes) : State :=
  links.foldl (fun s l => spokeSend s l k body) s

/-- This device's ID (R15). -/
def selfId (s : State) : Nat := s.host.deviceId.toNat

/-- The endpoint ID of a device's port (R15). -/
def endpointId (dev port : Nat) : Nat := dev * 65536 + port

/-! ### Taking a spoke sequence (R398, R399) -/

/-- A received sequence judged by its CRC and its SSEQ: taken, or discarded and counted. The link must be up, but for LINKCTL. -/
def spokeTake (s : State) (rx : SpokeRx) : Bool × State :=
  let k := rx.link.val
  let l := getSpoke s k
  if !rx.good then (false, modSpoke s k (fun l => { l with crcErrors := inc32 l.crcErrors }))
  else if l.lastSseq == some rx.sseq.toNat then
    (false, modSpoke s k (fun l => { l with copiesDiscarded := inc32 l.copiesDiscarded }))
  else if l.st = 2 || (l.st = 1 && rx.ksym.toNat = kLinkctl) then
    (true, modSpoke s k (fun l => { l with lastSseq := some rx.sseq.toNat, seqTaken := inc32 l.seqTaken }))
  else (false, s)

/-- The slot that is OPEN for a job, if any (R33). -/
def openSlotOf (s : State) (job : Nat) : Option Nat :=
  (List.range 64).find? (fun i => let v := getSlot s i; v.st == .open_ && v.ob.jobId == job)

/-- The slot to which a job is mapped, whatever its state but FREE (R33, R34). -/
def slotOfJob (s : State) (job : Nat) : Option Nat :=
  (List.range 64).find? (fun i => let v := getSlot s i; v.st != .free && v.ob.jobId == job)

end Sys2Proof.Machine
end

