-- ==== Sys2Proof/Machine/Group.lean ====
section
/-! DEFINITION. Reading group entries and member lists: ports, rings, trunks, trees and the cadence tree (R222 to R227). -/

namespace Sys2Proof.Machine

/-- A field of a group entry (R223). -/
def geField (v : GroupVer) (lo w : Nat) : Nat := bitsOf v.entry.toNat lo w

/-- LOCAL_PORTS as a mask (R223). -/
def geLocalPorts (v : GroupVer) : Nat := geField v 0 512
/-- GROUP_ID. -/
def geGroupId (v : GroupVer) : Nat := geField v 512 14
/-- TREE. -/
def geTree (v : GroupVer) : Bool := geField v 535 1 == 1
/-- RELAY. -/
def geRelay (v : GroupVer) : Bool := geField v 536 1 == 1
/-- GEN. -/
def geGen (v : GroupVer) : Nat := geField v 544 16
/-- SELF. -/
def geSelf (v : GroupVer) : Nat := geField v 560 16
/-- DEVICE_COUNT. -/
def geDevices (v : GroupVer) : Nat := geField v 608 17
/-- TRUNK_COUNT. -/
def geTrunks (v : GroupVer) : Nat := geField v 640 10
/-- CAD_PARENT. -/
def geCadParent (v : GroupVer) : Nat := geField v 656 3
/-- CAD_ROOT. -/
def geCadRoot (v : GroupVer) : Bool := geField v 659 1 == 1
/-- CAD_CHILDREN as a mask. -/
def geCadChildren (v : GroupVer) : Nat := geField v 660 8
/-- CAD_DEPTH. -/
def geCadDepth (v : GroupVer) : Nat := geField v 668 5
/-- CAD_DEADLINE in µs. -/
def geCadDeadline (v : GroupVer) : Nat := geField v 688 32
/-- LIST_CRC. -/
def geListCrc (v : GroupVer) : Nat := geField v 768 64

/-- The member ports of the group on this device, ascending. -/
def groupPorts (v : GroupVer) : List Nat := setBitsBelow 512 (geLocalPorts v)

/-- The device entries in list order (R224). -/
def groupDevEntries (v : GroupVer) : List W64 := v.list.take (geDevices v)

/-- The device IDs in list order. -/
def groupDevs (v : GroupVer) : List Nat := (groupDevEntries v).map (fun e => bitsOf e.toNat 16 16)

/-- The trunk entries as (port, neighbour) in list order (R224). -/
def groupTrunkEntries (v : GroupVer) : List (Nat × Nat) :=
  ((v.list.drop (geDevices v)).take (geTrunks v)).map (fun e => (bitsOf e.toNat 3 9, bitsOf e.toNat 16 16))

/-- The trunk to a neighbour: its ports in trunk order (R225). -/
def groupTrunk (v : GroupVer) (dev : Nat) : List Nat :=
  ((groupTrunkEntries v).filter (fun e => e.2 == dev)).map Prod.fst

/-- The position of a device in the list, if it is there. -/
def groupPos (v : GroupVer) (dev : Nat) : Option Nat := (groupDevs v).findIdx? (· == dev)

/-- The device at a position. -/
def groupDevAt (v : GroupVer) (i : Nat) : Nat := (groupDevs v).getD i 0

/-- THIN of the segment after a position (R224). -/
def groupThin (v : GroupVer) (i : Nat) : Bool := ((groupDevEntries v).getD i 0).getLsbD 2

/-- TREE_PARENT of a position (R224). -/
def groupTreeParent (v : GroupVer) (i : Nat) : Nat := bitsOf ((groupDevEntries v).getD i 0).toNat 32 16

/-- TREE_END of a position (R224). -/
def groupTreeEnd (v : GroupVer) (i : Nat) : Nat := bitsOf ((groupDevEntries v).getD i 0).toNat 48 16

/-- The next position in the ring (R225). -/
def ringNext (v : GroupVer) (i : Nat) : Nat := (i + 1) % max 1 (geDevices v)

/-- The previous position in the ring (R225). -/
def ringPrev (v : GroupVer) (i : Nat) : Nat := (i + geDevices v - 1) % max 1 (geDevices v)

/-- The ring neighbours of this device, each once (R225). -/
def ringNeighbours (v : GroupVer) : List Nat :=
  if geDevices v ≤ 1 || geRelay v then []
  else
    let a := groupDevAt v (ringNext v (geSelf v))
    let b := groupDevAt v (ringPrev v (geSelf v))
    if a = b then [a] else [a, b]

/-- The children of a position in the multicast tree, ascending (R226). -/
def treeKids (v : GroupVer) (i : Nat) : List Nat :=
  (List.range (geDevices v)).filter (fun c => 0 < c && groupTreeParent v c == i)

/-- The tree neighbours of this device by position, ascending (R226). -/
def treeNeighbours (v : GroupVer) : List Nat :=
  let i := geSelf v
  let kids := treeKids v i
  if i = 0 then kids else groupTreeParent v i :: kids

/-- The neighbour position toward the owner at position o; none at the owner (toward of R226; on a ring, R111). -/
def towardOwner (v : GroupVer) (o : Nat) : Option Nat :=
  let self := geSelf v
  let n := geDevices v
  if self = o then none
  else if geTree v then
    match (treeKids v self).find? (fun c => c ≤ o && o ≤ groupTreeEnd v c) with
    | some c => some c
    | none => some (groupTreeParent v self)
  else
    -- distance from the owner in ring order decides the path that holds this device
    let d := (self + n - o) % max 1 n
    if d ≤ (n - 1 + 1) / 2 then some (ringPrev v self) else some (ringNext v self)

/-- The children of this device in the delivery tree of the owner at position o, numbered from 0 (R111, R226). -/
def deliveryKids (v : GroupVer) (o : Nat) : List Nat :=
  let self := geSelf v
  let n := geDevices v
  if geTree v then
    let par := towardOwner v o
    (treeNeighbours v).filter (fun i => some i != par)
  else if n ≤ 1 then []
  else
    let fwd := (n - 1 + 1) / 2
    let bwd := (n - 1) / 2
    if self = o then (if 1 ≤ fwd then [ringNext v self] else []) ++ (if 1 ≤ bwd then [ringPrev v self] else [])
    else
      let d := (self + n - o) % n
      if d ≤ fwd then (if d + 1 ≤ fwd then [ringNext v self] else [])
      else
        let e := n - d
        if e + 1 ≤ bwd then [ringPrev v self] else []

/-- The cadence children, ascending (R227). -/
def cadKids (v : GroupVer) : List Nat := setBitsBelow 8 (geCadChildren v)

/-- The links of the cadence tree at this device (R227). -/
def cadLinks (v : GroupVer) : List Nat :=
  if geCadRoot v then cadKids v else geCadParent v :: cadKids v

/-- The version of a group that a slot's current step uses, or the current one before any step (R230). -/
def stepGroup (sl : Slot) (gid : Nat) : Option GroupVer :=
  match tget? sl.groups gid with
  | none => none
  | some g => if sl.step.st == .none then g.cur else g.bound

/-- The slot's control group as now in use: the version bound to the step, else the current one (R243). -/
def controlGroup (sl : Slot) : Option GroupVer :=
  match tget? sl.groups sl.ob.controlGroup with
  | none => none
  | some g => g.bound.orElse (fun _ => g.cur)

/-- The links of a slot's control tree (R243). -/
def controlLinks (sl : Slot) : List Nat := ((controlGroup sl).map cadLinks).getD []

/-- Whether this device is the root of the slot's control group. -/
def isControlRoot (sl : Slot) : Bool := ((controlGroup sl).map geCadRoot).getD false

/-- Whether this device only relays the slot's control group (R227). -/
def isControlRelay (sl : Slot) : Bool := ((controlGroup sl).map geRelay).getD false

/-- The member ports of a slot: LOCAL_PORTS of its control group (R253). -/
def slotMemberPorts (sl : Slot) : List Nat := ((controlGroup sl).map groupPorts).getD []

/-- The device at the far end of a port: what its last HELLO named (R308, R358). -/
def portPeerDev (s : State) (p : Nat) : Nat := (getPort s p).peer.toNat / 65536

/-- The ports whose link partner is a device: a tandem trunk, ascending (R308). -/
def trunkTo (s : State) (dev : Nat) : List Nat :=
  (List.range 512).filter (fun p => let q := getPort s p; q.cfg.trunk && q.cfg.enable && q.helloRx && q.peer.toNat / 65536 == dev)

end Sys2Proof.Machine
end

