-- ==== Sys2Proof/Machine/Health.lean ====
section
/-! DEFINITION. Incidents, scores, the accuser rule and the brake, and the commands that act on them alone (R283 to R298,
R302, R402). -/

namespace Sys2Proof.Machine

/-- One report of a fault (R285 to R290). -/
structure Report where
  kind : Nat
  suspect : Nat
  symptom : Nat
  step : Nat
  attempt : Nat
  cause : Nat
  detail : Nat
  hops : Nat
  aborted : Bool
  rehearsal : Bool
  accuser : Nat
  deriving DecidableEq, Repr

/-- Symptom classes (R284). -/
def syProtocol : Nat := 0x01
/-- FRAME_CRC (R284). -/
def syFrameCrc : Nat := 0x02
/-- CREDIT (R284). -/
def syCredit : Nat := 0x03
/-- LATE (R284). -/
def syLate : Nat := 0x04
/-- LINK (R284). -/
def syLink : Nat := 0x05
/-- CORRUPT (R284). -/
def syCorrupt : Nat := 0x06
/-- DEVICE (R284). -/
def syDevice : Nat := 0x07
/-- PROGRAM (R284). -/
def syProgram : Nat := 0x08
/-- HOST (R284). -/
def syHost : Nat := 0x09
/-- POWER (R284). -/
def syPower : Nat := 0x0A
/-- ACCUSER (R284). -/
def syAccuser : Nat := 0x0B

/-- The default penalty of a symptom (R284). -/
def penaltyOf (sy : Nat) : Nat :=
  match sy with
  | 0x01 => 64
  | 0x02 => 16
  | 0x03 => 128
  | 0x04 => 96
  | 0x05 => 128
  | 0x06 => 256
  | 0x07 => 256
  | 0x0B => 512
  | _ => 0

/-- INCIDENT_ID (R286). -/
def incidentId (job kind suspect symptom step : Nat) : Nat :=
  (crc64 (leBytes 2 job ++ leBytes 1 kind ++ leBytes 1 symptom ++ leBytes 4 suspect ++ leBytes 8 step)).toNat % 2 ^ 32

/-- This device's depth in the control group's cadence tree (R288): 0 at the root, else a free value from 1 to D. -/
def ownTreeDepth (sl : Slot) : Nat :=
  match controlGroup sl with
  | none => 0
  | some v => if geCadRoot v then 0 else 1 + Config.treeDepth (geGroupId v) % max 1 (geCadDepth v)

/-- The device time at which an incident closes (R288). -/
def incidentClose (sl : Slot) (i : Incident) : Nat :=
  let d := ((controlGroup sl).map geCadDepth).getD 0
  i.opened + msNs sl.health.w + msNs (d - ownTreeDepth sl)

/-- A scored subject's record (R298). -/
def healthRecord (sl : Slot) (u : Subject) : Bytes :=
  leBytes 16 (packFields [(32, u.suspect), (3, u.kind), (1, 0), (10, u.score), (2, u.st), (16, u.incidents),
    (8, u.heldAborts), (8, 0), (16, sl.ob.jobId), (32, u.lastIncident)])

/-- Whether this device scores a suspect (R292). -/
def scoresHere (s : State) (sl : Slot) (kind suspect : Nat) : Bool :=
  (kind == 0 && suspect / 65536 == selfId s) || (kind == 1 && isControlRoot sl)

/-- A subject of a slot; one that has not appeared stands at full health (R292). -/
def subjectOf (sl : Slot) (kind suspect : Nat) : Subject :=
  (sl.health.subjects.find? (fun u => u.kind == kind && u.suspect == suspect)).getD ⟨kind, suspect, 1023, 0, 0, 0, 0⟩

/-- A subject written back, in ascending kind and suspect. -/
def putSubject (us : List Subject) (u : Subject) : List Subject :=
  let lo := us.filter (fun x => x.kind < u.kind || (x.kind == u.kind && x.suspect < u.suspect))
  let hi := us.filter (fun x => u.kind < x.kind || (x.kind == u.kind && u.suspect < x.suspect))
  lo ++ u :: hi

/-- The subjects that this device scores for a slot, as (kind, suspect): its member ports of the slot's groups and, on the root of the
control group, the groups' devices (R292; log entry 60). -/
def scoredIds (s : State) (sl : Slot) : List (Nat × Nat) :=
  let vs := sl.groups.filterMap (fun g => g.2.cur)
  vs.flatMap (fun v => (groupPorts v).map (fun p => (0, endpointId (selfId s) p)))
    ++ (if isControlRoot sl then vs.flatMap (fun v => (groupDevs v).map (fun d => (1, d * 65536))) else [])

/-- The records of the scored subjects, ascending by kind and suspect (R292, R298). -/
def scoredSubjects (s : State) (sl : Slot) : List Subject :=
  (scoredIds s sl).foldl (fun us x => putSubject us (subjectOf sl x.1 x.2)) sl.health.subjects

/-- The slot's health changed. -/
def modHealth (s : State) (i : Nat) (f : Health → Health) : State :=
  modSlot s i (fun sl => { sl with health := f sl.health })

/-- An escalation, at most one for each reason and suspect in each brake window (R297). -/
def escalate (s : State) (i reason kind suspect : Nat) : State :=
  let sl := getSlot s i
  let key := (reason, kind * 2 ^ 32 + suspect)
  if sl.health.escalated.contains key then s
  else
    let s := modHealth s i (fun h => { h with escalated := key :: h.escalated })
    postEvent s evEscalation i (leBytes 1 reason ++ leBytes 1 kind ++ leBytes 2 sl.ob.jobId ++ leBytes 4 suspect)

/-- The brake's budget (R295). -/
def brakeBudget (b : Brake) : Nat := min (b.rate - b.expelled) (b.spares - b.reserve)

/-- A brake after one expulsion (R295). -/
def brakeSpend (b : Brake) : Brake := { b with expelled := b.expelled + 1, spares := b.spares - 1 }

/-- The brake of a kind of subject. -/
def brakeOf (h : Health) (kind : Nat) : Brake := if kind = 0 then h.members else h.devices

/-- The brake of a kind changed. -/
def setBrake (h : Health) (kind : Nat) (b : Brake) : Health :=
  if kind = 0 then { h with members := b } else { h with devices := b }

/-- A subject enters a state and a HEALTH event is posted (R296). -/
def subjectEnters (s : State) (i : Nat) (u : Subject) (st : Nat) : State :=
  let u := { u with st := st }
  let s := modHealth s i (fun h => { h with subjects := putSubject h.subjects u })
  postEvent s evHealth i (healthRecord (getSlot s i) u)

/-- A request for a subject's expulsion (R295, R297). -/
def requestExpulsion (s : State) (i : Nat) (u : Subject) : State :=
  let b := brakeOf (getSlot s i).health u.kind
  if 0 < brakeBudget b then
    let s := modHealth s i (fun h => setBrake h u.kind (brakeSpend b))
    subjectEnters s i u 2
  else
    let s := if u.st = 1 then s else subjectEnters s i u 1
    if b.spares ≤ b.reserve then escalate s i 0x02 u.kind u.suspect else s

/-- A penalty applied to a suspect that this device scores, at most once for each suspect, symptom and step (R293). -/
def applyPenalty (s : State) (i kind suspect symptom step : Nat) (rehearsal continuation : Bool) (id : Nat) : State :=
  let sl := getSlot s i
  let key := (kind * 2 ^ 32 + suspect, symptom, step)
  if rehearsal || continuation || !scoresHere s sl kind suspect || sl.health.penalised.contains key then s
  else
    let u := subjectOf sl kind suspect
    let u := { u with score := u.score - penaltyOf symptom, incidents := satAdd 16 u.incidents 1, lastIncident := id }
    let s := modHealth s i (fun h => { h with penalised := key :: h.penalised, subjects := putSubject h.subjects u })
    if u.st = 0 && u.score < sl.health.threshold then requestExpulsion s i u else s

/-- Escalations that an incident's opening causes: HELD_ABORTS and LINK_REPEAT (R297); rehearsals do not count (R299). -/
def countEscalations (s : State) (i kind suspect : Nat) (aborted rehearsal : Bool) : State :=
  let sl := getSlot s i
  if rehearsal then s
  else if kind = 2 then
    let n := ((sl.health.linkCounts.find? (fun e => e.1 == suspect)).map Prod.snd).getD 0 + 1
    let s := modHealth s i (fun h => { h with linkCounts := (suspect, n) :: h.linkCounts.filter (fun e => e.1 != suspect) })
    if n = sl.health.linkEscalate then escalate s i 0x04 kind suspect else s
  else
    let u := subjectOf sl kind suspect
    if aborted && u.st = 1 && scoresHere s sl kind suspect then
      let u := { u with heldAborts := satAdd 8 u.heldAborts 1 }
      let s := modHealth s i (fun h => { h with subjects := putSubject h.subjects u })
      if u.heldAborts = sl.health.heldEscalate then escalate s i 0x01 kind suspect else s
    else s

/-- Whether an open incident has a key and still takes reports (R286, R288). -/
def incidentTakes (s : State) (i : Nat) (kind suspect symptom step : Nat) (n : Incident) : Bool :=
  n.slot == i && n.kind == kind && n.suspect == suspect && n.symptom == symptom && n.step == step
    && s.time < incidentClose (getSlot s i) n

/-- The first element that a test accepts, changed. -/
def modFirst {α : Type} (p : α → Bool) (f : α → α) : List α → List α
  | [] => []
  | x :: xs => if p x then f x :: xs else x :: modFirst p f xs

/-- An incident opened (R287), with its penalty and escalations; a full table drops it. -/
def openIncident (s : State) (i : Nat) (n : Incident) : State :=
  if 4096 ≤ s.incidents.length then
    escalate { s with droppedReports := inc32 s.droppedReports } i 0x05 n.kind n.suspect
  else
    let cont := (getSlot s i).health.closedKeys.contains (n.kind, n.suspect, n.symptom, n.step)
    let n := { n with continuation := cont }
    let s := { s with incidents := s.incidents ++ [n] }
    let s := applyPenalty s i n.kind n.suspect n.symptom n.step n.rehearsal cont
      (incidentId n.job n.kind n.suspect n.symptom n.step)
    countEscalations s i n.kind n.suspect n.aborted n.rehearsal

/-- A report merged into the open incident of its key, or opening one (R287, R289). -/
def mergeReport (s : State) (i : Nat) (r : Report) : State :=
  let takes := incidentTakes s i r.kind r.suspect r.symptom r.step
  if s.incidents.any takes then
    { s with incidents := modFirst takes (fun n =>
        { n with reports := inc32 n.reports
                 accusers := if n.seen.contains r.accuser then n.accusers else inc32 n.accusers
                 seen := if n.seen.contains r.accuser then n.seen else r.accuser :: n.seen
                 hops := min n.hops r.hops
                 rehearsal := n.rehearsal || r.rehearsal
                 aborted := n.aborted || r.aborted }) s.incidents }
  else
    openIncident s i
      { slot := i, job := (getSlot s i).ob.jobId, kind := r.kind, suspect := r.suspect, symptom := r.symptom, step := r.step,
        rehearsal := r.rehearsal, continuation := false, aborted := r.aborted, attempt := r.attempt, cause := r.cause,
        detail := r.detail, hops := r.hops, accusers := 1, reports := 1, devices := 1, firstAccuser := r.accuser,
        firstTime := s.time, opened := s.time, seen := [r.accuser] }

/-- The suspect that an accuser is under R291: a member port of this device, or the device itself. -/
def accuserSuspect (s : State) (accuser : Nat) : Nat × Nat :=
  if accuser = endpointId (selfId s) 0xFFFF then (1, selfId s * 65536) else (0, accuser)

/-- The accuser ID of the device itself: no port of R15 has the number. -/
def selfAccuser (s : State) : Nat := endpointId (selfId s) 0xFFFF

/-- A report enters this device (R287, R291): the accuser rule first, then the incident. -/
def reportFault (s : State) (i : Nat) (r : Report) : State :=
  let sl := getSlot s i
  if r.rehearsal || 3 ≤ r.kind then mergeReport s i r
  else
    let named := ((sl.health.accuse.find? (fun e => e.1 == r.accuser)).map Prod.snd).getD []
    let key := r.kind * 2 ^ 32 + r.suspect
    let asus := accuserSuspect s r.accuser
    let own : Report := { r with kind := asus.1, suspect := asus.2, symptom := syAccuser, aborted := false, cause := 0,
                                 detail := 0, hops := 0xFF }
    if sl.health.accuseLimit ≤ named.length then mergeReport s i own
    else
      let s := mergeReport s i r
      if named.contains key then s
      else
        let named := key :: named
        let s := modHealth s i (fun h => { h with accuse := (r.accuser, named) :: h.accuse.filter (fun e => e.1 != r.accuser) })
        if named.length = sl.health.accuseLimit then
          let s := mergeReport s i own
          if asus.1 = 1 then escalate s i 0x03 asus.1 asus.2 else s
        else s

/-- A report that this device makes itself, of class INCIDENT (R283). -/
def ownIncident (s : State) (i kind suspect symptom detail : Nat) : State :=
  let sl := getSlot s i
  reportFault s i ⟨kind, suspect, symptom, sl.step.num, sl.step.attempt, 0, detail, 0xFF, false, false, selfAccuser s⟩

/-- The incident record (R290) as it closes. -/
def incidentRecord (s : State) (n : Incident) (closeTime : Nat) : BitVec 512 :=
  let sl := getSlot s n.slot
  let scored := scoresHere s sl n.kind n.suspect
  let u := subjectOf sl n.kind n.suspect
  BitVec.ofNat 512 (packFields [(32, incidentId n.job n.kind n.suspect n.symptom n.step), (8, n.symptom), (3, n.kind),
    (1, b2n n.rehearsal), (1, b2n n.continuation), (1, b2n n.aborted), (2, 0), (16, n.job), (32, n.suspect), (64, n.step),
    (8, n.attempt), (8, n.cause), (8, n.detail), (8, n.hops), (32, n.accusers), (32, n.reports), (16, n.devices),
    (16, selfId s), (32, n.firstAccuser), (64, n.firstTime), (64, closeTime), (10, if scored then u.score else 0x3FF),
    (2, if scored then u.st else 3), (52, 0)])

/-- An INCIDENT record given to a spoke link (R289, R402): sent at once when the link is up. -/
def sendIncident (s : State) (link : Nat) (r : BitVec 512) : State :=
  let sseq := (getSpoke s link).nextSseq
  let up := (getSpoke s link).st = 2
  let s := spokeSend s link kIncident (leBytes 64 r.toNat)
  modSpoke s link (fun l => { l with inc := l.inc ++
    [⟨r, if up then some sseq else none, s.time, if up then 1 else 0, false⟩] })

/-- The open incident that closes first. -/
def firstToClose (s : State) : Option Incident :=
  s.incidents.foldl (fun best n =>
    match best with
    | none => some n
    | some b => if incidentClose (getSlot s n.slot) n < incidentClose (getSlot s b.slot) b then some n else some b) none

/-- INCIDENT_CLOSE (R288, R289): the incident whose coalescing time ends first is posted and sent to the cadence parent. -/
def effIncidentClose (s : State) : State :=
  match firstToClose s with
  | none => s
  | some n =>
    let sl := getSlot s n.slot
    let t := incidentClose sl n
    let s := timeTo s t
    let r := incidentRecord s n t
    let s := { s with incidents := s.incidents.erase n }
    let s := modHealth s n.slot (fun h => { h with closedKeys := (n.kind, n.suspect, n.symptom, n.step) :: h.closedKeys })
    let s := postEvent s evIncident n.slot (leBytes 64 r.toNat)
    match controlGroup sl with
    | none => s
    | some v => if geCadRoot v then s else sendIncident s (geCadParent v) r

/-- Meaning of INCIDENT_CLOSE. -/
def execIncidentClose (s : State) : Out := .next (effIncidentClose s)

/-- A record received from a child, as an incident of this device (R289). -/
def incidentOfRecord (i : Nat) (t : Nat) (b : Bytes) : Incident :=
  let n := leNat b
  { slot := i, job := bitsOf n 48 16, kind := bitsOf n 40 3, suspect := bitsOf n 64 32, symptom := bitsOf n 32 8,
    step := bitsOf n 96 64, rehearsal := bitOf n 43, continuation := bitOf n 44, aborted := bitOf n 45,
    attempt := bitsOf n 160 8, cause := bitsOf n 168 8, detail := bitsOf n 176 8, hops := bitsOf n 184 8,
    accusers := bitsOf n 192 32, reports := bitsOf n 224 32, devices := bitsOf n 256 16 + 1, firstAccuser := bitsOf n 288 32,
    firstTime := bitsOf n 320 64, opened := t, seen := [] }

/-- A child's record merged into the incident of its key, or opening one (R289). -/
def mergeRecord (s : State) (i : Nat) (c : Incident) : State :=
  let takes := incidentTakes s i c.kind c.suspect c.symptom c.step
  if s.incidents.any takes then
    { s with incidents := modFirst takes (fun n =>
        { n with accusers := satAdd 32 n.accusers c.accusers
                 reports := satAdd 32 n.reports c.reports
                 devices := satAdd 16 n.devices (c.devices - 1)
                 firstTime := min n.firstTime c.firstTime
                 firstAccuser := if c.firstTime < n.firstTime then c.firstAccuser else n.firstAccuser
                 hops := min n.hops c.hops
                 rehearsal := n.rehearsal || c.rehearsal
                 aborted := n.aborted || c.aborted }) s.incidents }
  else openIncident s i c

/-- INCIDENT_SEQ (R289, R402): the record is acknowledged, and merged unless the link has brought it before. -/
def effIncidentSeq (rx : SpokeRx) (s : State) : State :=
  let k := rx.link.val
  if rx.ksym.toNat != kIncident || rx.body.length != 64 then s
  else
    let t := spokeTake s rx
    let s := t.2
    if !t.1 then s
    else
      let s := spokeSend s k kLinkctl (leBytes 1 0x02 ++ leBytes 1 rx.sseq.toNat ++ leBytes 1 0)
      let n := leNat rx.body
      let key := (bitsOf n 0 32, bitsOf n 96 64, bitsOf n 272 16)
      if (getSpoke s k).incTaken.contains key then s
      else
        let s := modSpoke s k (fun l => { l with incTaken := key :: l.incTaken })
        match openSlotOf s (bitsOf n 48 16) with
        | none => modSpoke s k (fun l => { l with dropped := inc32 l.dropped })
        | some i => mergeRecord s i (incidentOfRecord i s.time rx.body)

/-- Meaning of INCIDENT_SEQ. -/
def execIncidentSeq (rx : SpokeRx) (s : State) : Out := .next (effIncidentSeq rx s)

/-- INCIDENT_RETRANSMIT (R402): the oldest unanswered record of a link is sent again 10 µs after its last send, or dropped
after eight sends. -/
def effIncidentRetransmit (link : LinkId) (s : State) : State :=
  let k := link.val
  match (getSpoke s k).inc with
  | [] => s
  | x :: rest =>
    let s := timeTo s (x.sentAt + usNs 10)
    if 8 ≤ x.sends then
      modSpoke s k (fun l => { l with inc := rest, incidentRetx := inc32 l.incidentRetx })
    else if (getSpoke s k).st = 2 then
      let sseq := (getSpoke s k).nextSseq
      let s := spokeSend s k kIncident (leBytes 64 x.record.toNat)
      modSpoke s k (fun l => { l with inc := rest ++ [{ x with sseq := some sseq, sentAt := s.time, sends := x.sends + 1,
                                                               full := false }] })
    else s

/-- Meaning of INCIDENT_RETRANSMIT. -/
def execIncidentRetransmit (link : LinkId) (s : State) : Out := .next (effIncidentRetransmit link s)

/-- LINKCTL_ACK (R402, R403): frees the record that the ACK names, marks it buffer-full, or completes this end's HELLO. -/
def effLinkctlAck (rx : SpokeRx) (s : State) : State :=
  let k := rx.link.val
  if rx.ksym.toNat != kLinkctl || leAt rx.body 0 1 != 0x02 || rx.body.length != 3 then s
  else
    let t := spokeTake s rx
    let s := t.2
    if !t.1 then s
    else
      let q := leAt rx.body 1 1
      let full := leAt rx.body 2 1 == 1
      modSpoke s k (fun l =>
        if l.helloSseq == some q && !l.helloAcked then
          { l with helloAcked := true, st := if l.helloTaken then 2 else l.st }
        else if full then
          { l with inc := l.inc.map (fun x => if x.sseq == some q then { x with full := true } else x) }
        else { l with inc := l.inc.filter (fun x => x.sseq != some q) })

/-- Meaning of LINKCTL_ACK. -/
def execLinkctlAck (rx : SpokeRx) (s : State) : Out := .next (effLinkctlAck rx s)

/-- The next multiple of a period after now; a period of zero never comes. -/
def nextBoundary (t period : Nat) : Nat := if period = 0 then t else (t / period + 1) * period

/-- SCORE_DECAY (R294). -/
def effScoreDecay (slot : SlotId) (s : State) : State :=
  let i := slot.val
  if (getSlot s i).st != .open_ then s
  else
    let h := (getSlot s i).health
    let s := timeTo s (nextBoundary s.time (msNs h.p))
    let decay (u : Subject) : Subject :=
      if u.score < 1023 then { u with score := min 1023 (u.score + max 1 ((1023 - u.score) / 2 ^ h.decayShift)) } else u
    modHealth s i (fun h => { h with subjects := h.subjects.map decay })

/-- Meaning of SCORE_DECAY. -/
def execScoreDecay (slot : SlotId) (s : State) : Out := .next (effScoreDecay slot s)

/-- HELD subjects of a kind in ascending score, ties to the lower suspect (R296). -/
def heldInOrder (h : Health) (kind : Nat) : List Subject :=
  (h.subjects.filter (fun u => u.kind == kind && u.st == 1)).foldr
    (fun u acc =>
      acc.takeWhile (fun v => v.score < u.score || (v.score == u.score && v.suspect < u.suspect)) ++ u ::
        acc.dropWhile (fun v => v.score < u.score || (v.score == u.score && v.suspect < u.suspect))) []

/-- HELD subjects considered against the budget (R296): one that has recovered returns to ACTIVE, the others are expelled as
the budget allows. -/
def considerHeld (s : State) (i kind : Nat) : State :=
  (heldInOrder (getSlot s i).health kind).foldl (fun s u =>
    let h := (getSlot s i).health
    if h.threshold + h.recover ≤ u.score then
      modHealth s i (fun h => { h with subjects := putSubject h.subjects { u with st := 0, heldAborts := 0 } })
    else if 0 < brakeBudget (brakeOf h kind) then
      let s := modHealth s i (fun h => setBrake h kind (brakeSpend (brakeOf h kind)))
      subjectEnters s i u 2
    else s) s

/-- BRAKE_WINDOW (R295 to R297): a new window's counts, and HELD subjects considered again. -/
def effBrakeWindow (slot : SlotId) (s : State) : State :=
  let i := slot.val
  if (getSlot s i).st != .open_ then s
  else
    let h := (getSlot s i).health
    let s := timeTo s (nextBoundary s.time (h.brakeWindow * 1000000000))
    let s := modHealth s i (fun h =>
      { h with members := { h.members with expelled := 0 }, devices := { h.devices with expelled := 0 }, escalated := [],
               linkCounts := [], subjects := h.subjects.map (fun u => { u with heldAborts := 0 }) })
    considerHeld (considerHeld s i 0) i 1

/-- Meaning of BRAKE_WINDOW. -/
def execBrakeWindow (slot : SlotId) (s : State) : Out := .next (effBrakeWindow slot s)

/-- ACCUSE_WINDOW (R291): each accuser's set of named suspects is cleared. -/
def effAccuseWindow (slot : SlotId) (s : State) : State :=
  let i := slot.val
  if (getSlot s i).st != .open_ then s
  else
    let s := timeTo s (nextBoundary s.time (msNs (getSlot s i).health.a))
    modHealth s i (fun h => { h with accuse := [] })

/-- Meaning of ACCUSE_WINDOW. -/
def execAccuseWindow (slot : SlotId) (s : State) : Out := .next (effAccuseWindow slot s)

end Sys2Proof.Machine
end

