-- ==== Sys2Proof/Machine/Pools.lean ====
section
/-! DEFINITION. The buffer pool manager (R336 to R350) and the slices that hold the pools (R303, R327, R328). -/

namespace Sys2Proof.Machine

/-- The bytes of a buffer of pool k (R336). -/
def poolSize (k : Nat) : Nat := 256 * 4 ^ k

/-- The smallest pool whose buffers hold a payload (R340). -/
def smallestPool (bytes : Nat) : Nat :=
  if bytes ≤ 256 then 0 else if bytes ≤ 1024 then 1 else if bytes ≤ 4096 then 2 else 3

/-- The slice that serves a tile (R328): its own, or that of the first helper tile with a working slice. -/
def sliceOf (s : State) (tile : Nat) : Option Nat :=
  let ok (t : Nat) : Bool := !s.fab.sliceOut.contains t
  if ok tile then some tile
  else [tile ^^^ 1, tile ^^^ 2, tile ^^^ 3].find? ok

/-- The tile of a port (R21). -/
def tileOfPort (p : Nat) : Nat := p / 4

/-- Pool-0 buffers of a slice that receive reserves hold (R338). -/
def reservedOn (s : State) (slice : Nat) : Nat :=
  ((s.ports.filter (fun e => e.2.cfg.enable && sliceOf s (tileOfPort e.1) == some slice)).map
    (fun e => e.2.cfg.rxCredits.foldl (· + ·) 0)).foldl (· + ·) 0

/-- A buffer's number: slice, pool and index. -/
def bufId (slice pool index : Nat) : Nat := slice * 65536 + pool * 16384 + index

/-- The slice and pool of a buffer. -/
def bufSlicePool (b : Nat) : Nat × Nat := (b / 65536, b / 16384 % 4)

/-- The buffers carved in a pool of every slice (R337). -/
def poolCount (s : State) (k : Nat) : Nat := natAt s.fab.pools k

/-- Unreserved buffers of a slice and pool, taken or not. -/
def poolUsable (s : State) (slice k : Nat) : Nat := poolCount s k - (if k = 0 then reservedOn s slice else 0)

/-- Buffers taken of a slice and pool. -/
def poolTaken (s : State) (slice k : Nat) : Nat := (s.fab.bufs.filter (fun e => bufSlicePool e.1 == (slice, k))).length

/-- FREE of R349. -/
def poolFree (s : State) (slice k : Nat) : Nat := poolUsable s slice k - poolTaken s slice k

/-- The fabric changed. -/
def modFab (s : State) (f : Fabric → Fabric) : State := { s with fab := f s.fab }

/-- A buffer's descriptor changed. -/
def modBuf (s : State) (b : Nat) (f : BufDesc → BufDesc) : State :=
  match tget? s.fab.bufs b with
  | none => s
  | some d => modFab s (fun x => { x with bufs := tset x.bufs b (f d) })

/-- A pool record changed. -/
def modPool (s : State) (slot c : Nat) (f : PoolRec → PoolRec) : State :=
  modSlot s slot (fun sl => { sl with pools := modAt sl.pools c f })

/-- The pool record of a slot and class. -/
def getPool (s : State) (slot c : Nat) : PoolRec := (getSlot s slot).pools.getD c poolRecInit

/-- PEAK of R348 brought up to what is held. -/
def poolPeak (r : PoolRec) : PoolRec := { r with peak := max r.peak (r.rxHeld + r.txHeld) }

/-- What a request answers (R340). -/
inductive PoolRes where
  | ok (buf : Nat)
  | quota
  | empty
  deriving DecidableEq, Repr

/-- One pool tried by a request: take, refuse by quota, or pass on. -/
def poolTry (s : State) (slice k slot c owner bytes : Nat) (fallback : Bool) : Option PoolRes × State :=
  let units := poolSize k / 256
  if natAt (getSlot s slot).ob.txQuota c < (getPool s slot c).txHeld + units then
    (some .quota, modPool s slot c (fun r => { r with quotaFails := inc32 r.quotaFails }))
  else if 0 < poolFree s slice k then
    let used (i : Nat) : Bool := (tget? s.fab.bufs (bufId slice k i)).isSome
    let i := ((List.range (poolCount s k)).find? (fun i => !used i)).getD 0
    let b := bufId slice k i
    let s := modFab s (fun x => { x with bufs := tset x.bufs b ⟨false, owner, slot, c, [], false, bytes⟩ })
    let free := poolFree s slice k
    let s := modFab s (fun x => { x with stats := tmod poolStatInit x.stats (slice * 4 + k) (fun q =>
      { q with low := some (match q.low with
                            | none => free
                            | some l => min l free) }) })
    let s := modPool s slot c (fun r => poolPeak { r with
      txHeld := r.txHeld + units
      fallbacks := if fallback then inc32 r.fallbacks else r.fallbacks })
    (some (.ok b), s)
  else (none, s)

/-- pool_request of R340, on the slice that serves a tile: the smallest pool, then the next larger one once. -/
def poolRequest (s : State) (tile slot c bytes owner : Nat) : PoolRes × State :=
  let failed (s : State) : PoolRes × State :=
    (.empty, modPool s slot c (fun r => { r with emptyFails := inc32 r.emptyFails }))
  match sliceOf s tile with
  | none => failed s
  | some slice =>
    let k := smallestPool bytes
    match poolTry s slice k slot c owner bytes false with
    | (some r, s) => (r, s)
    | (none, s) =>
      if 3 ≤ k then failed s
      else
        match poolTry s slice (k + 1) slot c owner bytes true with
        | (some r, s) => (r, s)
        | (none, s) => failed s

/-- Owner codes (R344): unit kind in [23:20], instance in [19:0]. -/
def ownerPort (p : Nat) : Nat := 1 * 2 ^ 20 + p
/-- A fetch entry by its slot. -/
def ownerFetch (slot : Nat) : Nat := 2 * 2 ^ 20 + slot
/-- A kerf or T1 encoder by its tile. -/
def ownerEncoder (tile : Nat) : Nat := 3 * 2 ^ 20 + tile
/-- A former of STATE frames by its slot. -/
def ownerState (slot : Nat) : Nat := 4 * 2 ^ 20 + slot
/-- The keeper core. -/
def ownerKeeper : Nat := 5 * 2 ^ 20

/-- A buffer returned to its pool, and its units to its requester. -/
def freeBuf (s : State) (b : Nat) (d : BufDesc) : State :=
  let s := modFab s (fun x => { x with bufs := terase x.bufs b })
  modPool s d.slot d.cls (fun r => { r with txHeld := r.txHeld - poolSize (bufSlicePool b).2 / 256 })

/-- A refused release or unlink (R346): counted, posted, and an incident of symptom DEVICE against this device in the slot that
the buffer is charged to, or in every OPEN slot when the buffer is FREE. -/
def poolError (s : State) (b : Nat) (foreign : Bool) (slot : Option Nat) : State :=
  let sp := bufSlicePool b
  let s := modFab s (fun x => { x with stats := tmod poolStatInit x.stats (sp.1 * 4 + sp.2) (fun q =>
    if foreign then { q with foreignFree := inc32 q.foreignFree } else { q with doubleFree := inc32 q.doubleFree }) })
  let s := postEvent s evPoolError devEvent
    (leBytes 1 (if foreign then 2 else 1) ++ leBytes 1 sp.1 ++ leBytes 1 sp.2)
  let slots := match slot with
    | some i => [i]
    | none => slotsWhere s (fun sl => sl.st == SlotSt.open_)
  slots.foldl (fun s i => ownIncident s i 1 (selfId s * 65536) syDevice (if foreign then 2 else 1)) s

/-- A release by a holder (R345, R346). -/
def releaseBuf (s : State) (b holder : Nat) : State :=
  match tget? s.fab.bufs b with
  | none => poolError s b false none
  | some d =>
    if d.owner != holder then poolError s b true (some d.slot)
    else if !d.shared then freeBuf s b d
    else if d.ownerReleased then poolError s b false (some d.slot)
    else if d.holders.isEmpty then freeBuf s b d
    else modBuf s b (fun d => { d with ownerReleased := true })

/-- An unlink by a destination (R345, R346). -/
def unlinkBuf (s : State) (b holder : Nat) : State :=
  match tget? s.fab.bufs b with
  | none => poolError s b false none
  | some d =>
    if d.holders.isEmpty then poolError s b false (some d.slot)
    else if !d.holders.contains holder then poolError s b true (some d.slot)
    else
      let left := d.holders.erase holder
      if !left.isEmpty then modBuf s b (fun d => { d with holders := left })
      else if d.ownerReleased then freeBuf s b d
      else modBuf s b (fun d => { d with holders := [], shared := false })

/-- A buffer handed over to a destination's list (R345). -/
def handBuf (s : State) (b dest : Nat) : State := modBuf s b (fun d => { d with owner := dest })

/-- A fetch-entry buffer linked into a destination's list (R345). -/
def linkBuf (s : State) (b dest : Nat) : State :=
  modBuf s b (fun d => { d with shared := true, holders := d.holders ++ [dest] })

/-- What a port does with a frame's buffer when the frame is acknowledged or dropped (R345, R366): unlinks a shared one and
releases one that it owns. -/
def dropFrameBufs (s : State) (p : Nat) (bufs : List Nat) : State :=
  bufs.foldl (fun s b =>
    match tget? s.fab.bufs b with
    | none => s
    | some d => if d.shared then unlinkBuf s b (ownerPort p) else releaseBuf s b (ownerPort p)) s

/-- BUFFER_RELEASE (R345, R346). -/
def effBufferRelease (buf holder : Nat) (s : State) : State := releaseBuf s buf holder

/-- Meaning of BUFFER_RELEASE. -/
def execBufferRelease (buf holder : Nat) (s : State) : Out := .next (effBufferRelease buf holder s)

/-- BUFFER_UNLINK (R345, R346). -/
def effBufferUnlink (buf holder : Nat) (s : State) : State := unlinkBuf s buf holder

/-- Meaning of BUFFER_UNLINK. -/
def execBufferUnlink (buf holder : Nat) (s : State) : Out := .next (effBufferUnlink buf holder s)

/-- A requester that could not be served waits in the order of first failures (R343). -/
def addWaiter (s : State) (w : Waiter) : State :=
  if s.fab.waiters.any (fun e => e.1 == w) then s
  else modFab s (fun x => { x with waiters := x.waiters ++ [(w, s.time)] })

/-- A waiter served or given up, with WAIT_NS_MAX brought up to its wait (R348). -/
def dropWaiter (s : State) (w : Waiter) (slot c : Nat) : State :=
  match s.fab.waiters.find? (fun e => e.1 == w) with
  | none => s
  | some e =>
    let s := modFab s (fun x => { x with waiters := x.waiters.filter (fun e => e.1 != w) })
    modPool s slot c (fun r => { r with waitMax := max r.waitMax (min (s.time - e.2) (2 ^ 32 - 1)) })

end Sys2Proof.Machine
end

