-- ==== Sys2Proof/Machine/Ports.lean ====
section
/-! DEFINITION. The transmit side of a port, link frames and NACKs, receive credits and windows, the trace ring: what every frame
command is written over (R304 to R334, R351 to R367). -/

namespace Sys2Proof.Machine

/-! ### Trace ring (R330 to R333) -/

/-- A field of a trace filter (R330). -/
def filterField (f : BitVec 256) (lo w : Nat) : Nat := bitsOf f.toNat lo w

/-- A frame as the trace sees it. -/
structure Seen where
  port : Nat
  tx : Bool
  bits : BitVec 512
  len : Nat
  drop : Option Nat
  deriving DecidableEq, Repr

/-- Whether a frame matches a filter (R331): among direction, class and type selectors, each group that is set must hold the
frame; the port and time ranges and the job mask always apply. -/
def filterMatches (f : BitVec 256) (t : Nat) (x : Seen) : Bool :=
  let h := hdrDecode x.bits
  let link := h.cls == 7
  let dirOk := filterField f 1 2 == 0 || (if x.tx then filterField f 2 1 == 1 else filterField f 1 1 == 1)
  let clsOk := filterField f 3 6 == 0 || (if link then filterField f 8 1 == 1 else filterField f (3 + h.cls) 1 == 1)
  filterField f 0 1 == 1 && dirOk && clsOk
    && (filterField f 9 1 == 0 || h.mark) && (filterField f 10 1 == 0 || x.drop.isSome)
    && (filterField f 16 16 == 0 || filterField f (16 + h.typ) 1 == 1)
    && filterField f 32 9 ≤ x.port && x.port ≤ filterField f 41 9
    && (h.job &&& filterField f 80 16) == (filterField f 64 16 &&& filterField f 80 16)
    && filterField f 128 64 ≤ t && t < filterField f 192 64

/-- The records that the ring holds (R330). -/
def traceCapacity (t : Trace) : Nat := if t.sizeLog2 = 0 then 0 else 2 ^ t.sizeLog2 / 128

/-- The trace record of a frame (R332). -/
def traceRecord (t : Nat) (x : Seen) (filter seq lostBefore : Nat) : BitVec 1024 :=
  let h := hdrDecode x.bits
  BitVec.ofNat 1024 (packFields [(512, x.bits.toNat), (64, t), (9, x.port), (1, b2n x.tx), (3, h.cls), (1, b2n h.mark),
    (1, b2n x.drop.isSome), (1, 0), (8, x.drop.getD 0), (2, filter), (6, 0), (24, x.len), (8, 0), (32, seq), (32, lostBefore)])

/-- A record written to the ring or lost (R333). -/
def traceWrite (tr : Trace) (t : Nat) (x : Seen) (filter : Nat) : Trace :=
  let cap := traceCapacity tr
  if cap = 0 || (tr.mode && cap ≤ tr.ring.length) then
    { tr with lost := BitVec.ofNat 32 (inc32 tr.lost.toNat), lostBefore := BitVec.ofNat 32 (inc32 tr.lostBefore.toNat) }
  else
    let r := traceRecord t x filter tr.nextSeq.toNat tr.lostBefore.toNat
    let full := cap ≤ tr.ring.length
    { tr with ring := (if full then tr.ring.drop 1 else tr.ring) ++ [r], nextSeq := tr.nextSeq + 1, lostBefore := 0,
              oldestSeq := if full then tr.oldestSeq + 1 else tr.oldestSeq }

/-- A frame given to the trace (R331): every matching filter counts, and the lowest whose count is a multiple of its SAMPLE_N
records. -/
def traceFrame (s : State) (x : Seen) : State :=
  let hit := (List.range 4).map (fun i => filterMatches (s.trc.filters.getD i 0) s.time x)
  let counts := (List.range 4).map (fun i => natAt s.trc.counts i + b2n (hit.getD i false))
  let rec_ := (List.range 4).find? (fun i =>
    hit.getD i false && natAt counts i % max 1 (filterField (s.trc.filters.getD i 0) 96 24) == 0)
  let tr := { s.trc with counts := counts }
  match rec_ with
  | none => { s with trc := tr }
  | some i => { s with trc := traceWrite tr s.time x i }

/-! ### Headers and counters of a port -/

/-- Protocol counters of a port changed. -/
def modCnt (s : State) (p : Nat) (f : ProtoCnt → ProtoCnt) : State := modPort s p (fun q => { q with cnt := f q.cnt })

/-- Counters of a port and class changed. -/
def modCls (s : State) (p c : Nat) (f : ClsCnt → ClsCnt) : State := modPort s p (fun q => { q with cls := modAt q.cls c f })

/-- The transmit side of a port changed. -/
def modTx (s : State) (p : Nat) (f : PortTx → PortTx) : State := modPort s p (fun q => { q with tx := f q.tx })

/-- The receive side of a port changed. -/
def modRx (s : State) (p : Nat) (f : PortRx → PortRx) : State := modPort s p (fun q => { q with rx := f q.rx })

/-- The endpoint of the far end as the device addresses it (R357). -/
def portDst (s : State) (p : Nat) : Nat :=
  let q := getPort s p
  if q.cfg.trunk then q.peer.toNat else endpointId (selfId s) p

/-- A header with the addresses of a port (R357). -/
def portHdr (s : State) (p : Nat) (typ cls : Nat) : Hdr :=
  { hdrZero with typ := typ, cls := cls, src := endpointId (selfId s) p, dst := portDst s p }

/-- GEN toward the far end of a port (R359): what a device there has announced, and the slot's own toward a member, which
announces nothing. -/
def genToward (s : State) (p slot : Nat) : Nat :=
  let q := getPort s p
  let sl := getSlot s slot
  if q.cfg.trunk then tget 0 q.rx.gens sl.ob.jobId else sl.gen

/-- The header of a class frame of a slot's current step (R355). -/
def slotHdr (s : State) (p slot typ cls : Nat) : Hdr :=
  let sl := getSlot s slot
  { portHdr s p typ cls with job := sl.ob.jobId, gen := genToward s p slot, step := sl.step.num, attempt := sl.step.attempt }

/-! ### Windows (R323) -/

/-- The RX_QUOTA of a class: C0, C1, C2 and C4 in this order (R342). -/
def rxQuotaOf (sl : Slot) (c : Nat) : Nat := natAt sl.ob.rxQuota (if c = 4 then 3 else c)

/-- The group versions that a slot now uses, ascending by group. -/
def slotGroups (sl : Slot) : List GroupVer := sl.groups.filterMap (fun e => e.2.bound.orElse (fun _ => e.2.cur))

/-- The ring neighbours over all groups of a slot, each once. -/
def slotRingNeighbours (sl : Slot) : List Nat := ((slotGroups sl).flatMap ringNeighbours).eraseDups

/-- The tree and ring neighbours over all groups of a slot that this device does not relay. -/
def slotNeighbours (sl : Slot) : List Nat :=
  ((slotGroups sl).flatMap (fun v =>
    if geRelay v then [] else if geTree v then (treeNeighbours v).map (groupDevAt v) else ringNeighbours v)).eraseDups

/-- S of R323. -/
def sourceCount (sl : Slot) (c : Nat) : Nat :=
  match c with
  | 0 => (slotMemberPorts sl).length + (slotNeighbours sl).length
  | 1 => (slotMemberPorts sl).length
  | 2 => (slotRingNeighbours sl).length
  | 4 => (sl.tan.partner.toList ++ sl.tan.mirrorOf.toList).eraseDups.length
  | _ => 0

/-- The window of a source, in units (R323). -/
def windowOf (sl : Slot) (c : Nat) : Nat := rxQuotaOf sl c / max 1 (sourceCount sl c)

/-- The key of a window: the endpoint at the other end (a device counts with local port 0) and the class. -/
def winKey (endpoint c : Nat) : Nat := endpoint * 8 + c

/-- Window units that a device still lets this one send (R323); the sender counts from the window that it would grant itself,
and adopts AVAIL (log entry 9). -/
def winAvail (sl : Slot) (dev c : Nat) : Nat := tget (windowOf sl c) sl.winTx (winKey (dev * 65536) c)

/-- Whether a class has end-to-end windows. -/
def windowed (c : Nat) : Bool := c == 0 || c == 1 || c == 2 || c == 4

/-! ### Sending -/

/-- Q of R324: the units of class c that wait at a port. -/
def queueUnits (q : Port) (c : Nat) : Nat := ((q.tx.queues.getD c []).map (fun f => unitsOf f.payload.length)).foldl (· + ·) 0

/-- A class frame linked to a port (R304), its buffers handed to the port or shared with it. A port that is down takes none: the
buffers are released (R335); so does one that a LINK_DROP rehearsal has cut off from the slot (R299). A C3 copy is debited here, where it is committed (R320). -/
def queueClass (s : State) (p : Nat) (f : TxFrame) : State :=
  let c := f.h.cls
  if !(getPort s p).up || (getPort s p).dropSlots.any (fun e => e.1 == f.slot) then dropFrameBufs s p f.bufs
  else
    let s := modTx s p (fun t => { t with
      queues := modAt t.queues c (fun l => l ++ [f])
      hop := if c = 3 then modAt t.hop 3 (fun n => n - unitsOf f.payload.length) else t.hop })
    let n := queueUnits (getPort s p) c
    let s := modCls s p c (fun k => { k with peak := max k.peak n })
    modPort s p (fun q => { q with ks := modAt q.ks c (fun k => { k with winPeak := max k.winPeak n }) })

/-- A link frame that waits for the next frame boundary (R310). Nothing is sent before HELLO (R358). -/
def queueLink (s : State) (p : Nat) (h : Hdr) (payload : Bytes) : State :=
  if !(getPort s p).helloSent then s
  else modTx s p (fun t => { t with linkWait := t.linkWait ++ [⟨h, payload, fcsOf payload, [], 0, 0, 0, 0, false⟩] })

/-- A LINK_CTRL frame (R362). -/
def linkCtrl (s : State) (p kind : Nat) (job gen attempt step : Nat) (payload : Bytes) : State :=
  queueLink s p { portHdr s p tLinkCtrl 7 with
    ts := kind, job := job, gen := gen, attempt := attempt, step := step, len := payload.length } payload

/-- A LINK_CTRL frame of a slot and its current step. -/
def slotLinkCtrl (s : State) (p slot kind attempt : Nat) (payload : Bytes) : State :=
  let sl := getSlot s slot
  linkCtrl s p kind sl.ob.jobId (genToward s p slot) attempt sl.step.num payload

/-- A NACK for a frame (R355, R361): the fields JOB to STEP copied, or all zero when its header failed check 1. -/
def sendNack (s : State) (p : Nat) (h : Hdr) (sound : Bool) (code detail nseq avail : Nat) : State :=
  let base := portHdr s p tNack 7
  let n := if sound then
      { base with job := h.job, gen := h.gen, group := h.group, bucket := h.bucket, chunk := h.chunk, format := h.format,
                  mode := h.mode, window := h.window, attempt := h.attempt, tag := h.tag, step := h.step }
    else base
  let s := queueLink s p { n with len := 16 } (leBytes 16 (packFields [(8, code), (8, detail), (16, 0), (32, nseq), (32, avail)]))
  modCnt s p (fun k => { k with nacksSent := inc32 k.nacksSent, lastCode := code })

/-- A frame put on the lanes, traced (R332). -/
def emitFrame (s : State) (p : Nat) (h : Hdr) (payload : Bytes) (fcs : W64) : State :=
  let bits := hdrEncode h
  let s := emit s (.frame p bits payload fcs)
  let s := modPort s p (fun q => { q with lastBusy := s.time })
  traceFrame s ⟨p, true, bits, 64 + payload.length, none⟩

/-- A link frame sent with its LSEQ and LACK, and kept until it is acknowledged (R367). -/
def sendLinkFrame (s : State) (p : Nat) (f : TxFrame) : State :=
  let q := getPort s p
  let h := { f.h with seq := q.tx.nextLseq, lack := q.rx.expLseq }
  let s := modPort s p (fun q => { q with
    tx := { q.tx with nextLseq := (q.tx.nextLseq + 1) % 2 ^ 32, linkUnacked := q.tx.linkUnacked ++ [{ f with h := h, sentAt := s.time }] }
    rx := { q.rx with linkAckOwed := false } })
  emitFrame s p h f.payload f.fcs

/-- Whether hop credits and window cover a frame, and the port may keep one more unacknowledged frame (R321, R323, R366). -/
def creditsCover (s : State) (p c : Nat) (f : TxFrame) : Bool :=
  let q := getPort s p
  let u := unitsOf f.payload.length
  let sl := getSlot s f.slot
  q.tx.unacked.length < 8192
    && (c == 3 || u ≤ natAt q.tx.hop c)
    && (c == 3 || !q.cfg.trunk || u ≤ winAvail sl (f.h.dst / 65536) c)

/-- Hop credits and window units of a frame debited (`give` false) or restored (`give` true). -/
def debit (s : State) (p : Nat) (f : TxFrame) (give : Bool) : State :=
  let c := f.h.cls
  let u := unitsOf f.payload.length
  let mv (n : Nat) : Nat := if give then n + u else n - u
  if c = 3 then s
  else
    let s := modTx s p (fun t => { t with hop := modAt t.hop c mv })
    if (getPort s p).cfg.trunk then
      modSlot s f.slot (fun sl =>
        { sl with winTx := tset sl.winTx (winKey (f.h.dst / 65536 * 65536) c) (mv (winAvail sl (f.h.dst / 65536) c)) })
    else s

/-- A class frame sent for the first time: SEQ, MARK (R324), credits, counters (R306, R363). -/
def sendClassFrame (s : State) (p : Nat) (f : TxFrame) : State :=
  let q := getPort s p
  let c := f.h.cls
  let depth := queueUnits q c + unitsOf f.payload.length
  let marked := (q.ks.getD c kSetInit).k < depth
  let h := { f.h with seq := q.tx.nextSeq, mark := marked, lack := 0 }
  let f := { f with h := h, sentAt := s.time }
  let s := debit s p f false
  let s := modPort s p (fun q => { q with
    tx := { q.tx with nextSeq := (q.tx.nextSeq + 1) % 2 ^ 32, unacked := q.tx.unacked ++ [f] }
    cnt := { q.cnt with unackedPeak := max q.cnt.unackedPeak (min 65535 (q.tx.unacked.length + 1)) } })
  let s := modCls s p c (fun k => { k with framesTx := inc32 k.framesTx, marksTx := if marked then inc32 k.marksTx else k.marksTx })
  emitFrame s p h f.payload f.fcs

/-- The head frame of a class, round robin over the holding tiles (R306). -/
def headFrame (q : Port) (c : Nat) : Option TxFrame :=
  let l := q.tx.queues.getD c []
  let start := natAt q.tx.rr c
  ((List.range 128).findSome? (fun d => l.find? (fun f => f.tile == (start + d) % 128)))

/-- The egress arbiter of R306 from the n-th class on: the first class whose deficit covers its head frame is sent. -/
def arbitrate (s : State) (p : Nat) : List Nat → State
  | [] => s
  | n :: rest =>
    let q := getPort s p
    let c := (q.tx.cur + n) % 5
    match headFrame q c with
    | none => arbitrate (modTx s p (fun t => { t with deficit := modAt t.deficit c (fun _ => 0) })) p rest
    | some f =>
      if !creditsCover s p c f then
        arbitrate (modCls s p c (fun k => { k with creditWait := inc32 k.creditWait })) p rest
      else if natAt q.tx.deficit c < unitsOf f.payload.length then
        arbitrate (modTx s p (fun t => { t with deficit := modAt t.deficit c (fun d => d + natAt q.cfg.weights c) })) p rest
      else
        let s := modTx s p (fun t => { t with
          deficit := modAt t.deficit c (fun d => d - unitsOf f.payload.length)
          cur := c
          queues := modAt t.queues c (fun l => l.erase f)
          rr := modAt t.rr c (fun _ => (f.tile + 1) % 128) })
        sendClassFrame s p f

/-- The next frame of a replay under way (R365): sent again with its SEQ when credits allow. -/
def sendReplay (s : State) (p seq : Nat) : State :=
  let q := getPort s p
  match q.tx.unacked.find? (fun f => f.h.seq == seq) with
  | none => modTx s p (fun t => { t with replayAt := none })
  | some f =>
    if !(f.h.cls == 3 || (unitsOf f.payload.length ≤ natAt q.tx.hop f.h.cls
          && (!q.cfg.trunk || unitsOf f.payload.length ≤ winAvail (getSlot s f.slot) (f.h.dst / 65536) f.h.cls))) then s
    else
      let s := debit s p f false
      let next := (seq + 1) % 2 ^ 32
      let s := modTx s p (fun t => { t with
        unacked := t.unacked.map (fun g => if g.h.seq == seq then { g with sentAt := s.time, replays := g.replays + 1 } else g)
        replayAt := if t.unacked.any (fun g => g.h.seq == next) then some next else none })
      emitFrame s p f.h f.payload f.fcs

/-- FRAME_SEND (R306, R310, R335): a link frame first, then a replay under way, then the arbiter's class frame. A port that has
sent no HELLO, or whose transmit direction is idle, sends nothing. -/
def effFrameSend (port : PortId) (s : State) : State :=
  let p := port.val
  let q := getPort s p
  if !q.helloSent || q.idleTx then s
  else
    match q.tx.linkWait with
    | f :: rest => sendLinkFrame (modTx s p (fun t => { t with linkWait := rest })) p f
    | [] =>
      if !q.up then s
      else
        match q.tx.replayAt with
        | some seq => sendReplay s p seq
        | none => arbitrate s p [1, 2, 3, 4, 5]

/-- Meaning of FRAME_SEND. -/
def execFrameSend (port : PortId) (s : State) : Out := .next (effFrameSend port s)

/-! ### Receive chains (R319, R338, R348) -/

/-- Hop credits of a received frame taken. -/
def takeHop (s : State) (p c units : Nat) : State := modRx s p (fun r => { r with inUse := modAt r.inUse c (· + units) })

/-- The chain of an admitted frame charged to its slot and its source's window (R342, R323). -/
def chargeChain (s : State) (slot source c units : Nat) : State :=
  let s := modPool s slot c (fun r => poolPeak { r with rxHeld := r.rxHeld + units })
  modSlot s slot (fun sl => { sl with winRx := tmod 0 sl.winRx (winKey source c) (· + units) })

/-- Hop credits owed back when a chain is released without a slot (R319). -/
def owePort (s : State) (p c units : Nat) : State :=
  modRx s p (fun r => { r with owedHop := modAt r.owedHop c (· + units) })

/-- A chain released: hop credits and window units are owed to its sender (R319, R323). -/
def releaseChain (s : State) (p slot c units : Nat) : State :=
  let s := owePort s p c units
  let s := modRx s p (fun r => { r with owedWin := tmod 0 r.owedWin (slot * 8 + c) (· + units) })
  modPool s slot c (fun r => { r with rxHeld := r.rxHeld - units })

/-- The source endpoint of a port for windows (R323): the member port, or the far device with local port 0. -/
def portSource (s : State) (p : Nat) : Nat :=
  let q := getPort s p
  if q.cfg.trunk then q.peer.toNat / 65536 * 65536 else endpointId (selfId s) p

/-- CREDIT_SEND (R319, R360, R364): what is owed leaves in one CREDIT frame, with ACK_SEQ; at most 20 window entries. No credit is
returned in a last gasp (R467). -/
def effCreditSend (port : PortId) (s : State) : State :=
  let p := port.val
  let q := getPort s p
  let owes := q.rx.ackOwed || q.rx.owedHop.any (0 < ·) || !q.rx.owedWin.isEmpty
  if !q.up || !owes || s.pwr.gaspActive then s
  else
    let wins := q.rx.owedWin.take 20
    let entry (e : Nat × Nat) : Bytes :=
      leBytes 8 (packFields [(16, (getSlot s (e.1 / 8)).ob.jobId), (3, e.1 % 8), (5, 0), (24, e.2)])
    let hops := q.rx.owedHop.map (fun n => min n 65535)
    let payload := leBytes 4 q.rx.expSeq ++ (hops.map (leBytes 2)).flatten ++ leBytes 2 wins.length ++ (wins.map entry).flatten
    let source := portSource s p
    let s := wins.foldl (fun s e => modSlot s (e.1 / 8) (fun sl =>
      { sl with winRx := tmod 0 sl.winRx (winKey source (e.1 % 8)) (fun n => n - e.2) })) s
    let s := modRx s p (fun r => { r with
      ackOwed := false
      inUse := (r.inUse.zip hops).map (fun e => e.1 - e.2)
      owedHop := (r.owedHop.zip hops).map (fun e => e.1 - e.2)
      owedWin := r.owedWin.drop 20 })
    queueLink s p { portHdr s p tCredit 7 with len := payload.length } payload

/-- Meaning of CREDIT_SEND. -/
def execCreditSend (port : PortId) (s : State) : Out := .next (effCreditSend port s)

/-- BARE_CREDIT (R367): a receiver that owes a LACK sends a CREDIT without increments, outside the link sequence, 500 ns later. -/
def effBareCredit (port : PortId) (s : State) : State :=
  let p := port.val
  let q := getPort s p
  if !q.helloSent || !q.rx.linkAckOwed then s
  else
    let payload := leBytes 4 q.rx.expSeq ++ leBytes 12 0
    let h := { portHdr s p tCredit 7 with seq := 0xFFFFFFFF, lack := q.rx.expLseq, len := 16 }
    let s := modRx s p (fun r => { r with linkAckOwed := false })
    emitFrame s p h payload (fcsOf payload)

/-- Meaning of BARE_CREDIT. -/
def execBareCredit (port : PortId) (s : State) : Out := .next (effBareCredit port s)

/-- LINK_FRAME_REPLAY (R367): 2 µs after the oldest unacknowledged link frame was last sent, all of them are sent again. -/
def effLinkFrameReplay (port : PortId) (s : State) : State :=
  let p := port.val
  match (getPort s p).tx.linkUnacked with
  | [] => s
  | f :: rest =>
    let s := timeTo s (f.sentAt + usNs 2)
    let lack := (getPort s p).rx.expLseq
    let s := (f :: rest).foldl (fun s g => emitFrame s p { g.h with lack := lack } g.payload g.fcs) s
    let s := modTx s p (fun t => { t with linkUnacked := t.linkUnacked.map (fun g => { g with sentAt := s.time }) })
    modPort s p (fun q => { q with
      cnt := { q.cnt with linkReplays := satAdd 32 q.cnt.linkReplays (rest.length + 1) }
      rx := { q.rx with linkAckOwed := false } })

/-- Meaning of LINK_FRAME_REPLAY. -/
def execLinkFrameReplay (port : PortId) (s : State) : Out := .next (effLinkFrameReplay port s)

/-- K_ADAPT (R325): at the end of the adapt period a LEARN class moves its K toward a quarter above the window's peak; a HOLD class
keeps it. Classes whose period does not end at this instant are left alone. -/
def effKAdapt (port : PortId) (s : State) : State :=
  let p := port.val
  let q := getPort s p
  let next := (q.ks.map (fun k => nextBoundary s.time (msNs k.pa))).foldl min (nextBoundary s.time (msNs 1000))
  let adapt (depth : Nat) (k : KSet) : KSet :=
    if next % msNs (max 1 k.pa) != 0 then k
    else
      let target := k.winPeak + k.winPeak / 4
      let nk := if k.hold then k.k
        else if k.k < target then min k.kMax (k.k + (target - k.k + 3) / 4)
        else max k.kMin (k.k - (k.k - target) / 64)
      { k with k := nk, winPeak := depth }
  let s := timeTo s next
  modPort s p (fun q => { q with ks := (List.range 5).map (fun c => adapt (queueUnits q c) (q.ks.getD c kSetInit)) })

/-- Meaning of K_ADAPT. -/
def execKAdapt (port : PortId) (s : State) : Out := .next (effKAdapt port s)

end Sys2Proof.Machine
end

