-- ==== Sys2Proof/Machine/Abort.lean ====
section
/-! DEFINITION. Aborting a step: raising it, flooding it, entering ROLLING_BACK, and starting the restore (R156, R270 to R277,
R347). -/

namespace Sys2Proof.Machine

/-- Abort causes (R270). -/
def caScheduleFault : Nat := 0x01
/-- MEM_LATE (R270). -/
def caMemLate : Nat := 0x02
/-- REDUCTION_DEADLINE (R270). -/
def caReductionDeadline : Nat := 0x03
/-- GATHER_DEADLINE (R270). -/
def caGatherDeadline : Nat := 0x04
/-- CADENCE_FAILURE (R270). -/
def caCadence : Nat := 0x05
/-- STEP_DEADLINE (R270). -/
def caStepDeadline : Nat := 0x06
/-- DELIVERY_CRC (R270). -/
def caDeliveryCrc : Nat := 0x07
/-- MEMBER_REPORT (R270). -/
def caMemberReport : Nat := 0x08
/-- STATE_CRC (R270). -/
def caStateCrc : Nat := 0x09
/-- PARTIAL_MALFORMED (R270). -/
def caPartialMalformed : Nat := 0x0A
/-- DIGEST_MISMATCH (R270). -/
def caDigestMismatch : Nat := 0x0B
/-- AGREEMENT (R270). -/
def caAgreement : Nat := 0x0C
/-- STATE_UNCORRECTABLE (R270). -/
def caStateUncorrectable : Nat := 0x0D
/-- DIE_LINK (R270). -/
def caDieLink : Nat := 0x0E
/-- KEEPER_TAKEOVER (R270). -/
def caTakeover : Nat := 0x0F
/-- SLOT_CLOSE (R270). -/
def caSlotClose : Nat := 0x10
/-- LEAVE (R270). -/
def caLeave : Nat := 0x11
/-- HOST_ROLLBACK (R270). -/
def caHostRollback : Nat := 0x12
/-- SHIP_OVERFLOW (R270). -/
def caShipOverflow : Nat := 0x13
/-- LINK_DOWN (R270). -/
def caLinkDown : Nat := 0x14
/-- LAST_GASP (R270). -/
def caLastGasp : Nat := 0x15

/-- A suspect named by an abort (R285): kind, suspect, symptom, detail and hops. -/
structure Accusation where
  kind : Nat
  suspect : Nat
  symptom : Nat
  detail : Nat
  hops : Nat
  deriving DecidableEq, Repr

/-- A device as a suspect of kind 1 (R284). -/
def accDevice (dev symptom : Nat) : Accusation := ⟨1, dev * 65536, symptom, 0, 0xFF⟩

/-- The slot's program on this device as a suspect (R284). -/
def accProgram (s : State) (symptom : Nat) : Accusation := ⟨3, selfId s * 65536, symptom, 0, 0xFF⟩

/-- The job's configuration as a suspect (R284). -/
def accJob (symptom : Nat) : Accusation := ⟨4, 0, symptom, 0, 0xFF⟩

/-- A member port as a suspect (R284). -/
def accPort (s : State) (p symptom : Nat) : Accusation := ⟨0, endpointId (selfId s) p, symptom, 0, 0xFF⟩

/-- The link of a trunk port as a suspect: the lower of its two endpoints (R284). -/
def accLink (s : State) (p symptom : Nat) : Accusation :=
  ⟨2, min (endpointId (selfId s) p) (getPort s p).peer.toNat, symptom, 0, 0xFF⟩

/-- The far end of a port as a suspect: the member, or the sending device of a trunk (R374). -/
def accPeer (s : State) (p symptom : Nat) : Accusation :=
  if (getPort s p).cfg.trunk then accDevice (portPeerDev s p) symptom else accPort s p symptom

/-! ### What an abort clears -/

/-- The bench side of a slot after a forced yield point (R156): unissued entries, registers, rows and accumulators are gone, and
what is in flight ends without effect beyond the bench. A running mirror pass is left alone. -/
def benchAbort (b : Bench) : Bench :=
  if b.pass then b
  else { benchInit with clock := b.clock, account := b.account - ((b.clock - b.turnStart : Nat) : Int) }

/-- A chunk after an abort (R72). -/
def abandonChunk (c : Chunk) : Chunk :=
  if c.st == .released then c
  else { c with st := .abandoned, line := [], parked := [], parts := [], resend := [] }

/-- A bucket after an abort (R78). -/
def abandonBucket (b : Bucket) : Bucket :=
  { b with abandoned := true, chunks := tmap b.chunks (fun _ c => abandonChunk c), parkedUnits := 0 }

/-- The chains of parked contributions released (R72). -/
def releaseParked (s : State) (i : Nat) (cs : List Chunk) : State :=
  (cs.flatMap (fun c => c.parked)).foldl (fun s k => releaseChain s k.port i 1 k.units) s

/-- Whether a waiting frame belongs to an aborted step of a slot: restores and resyncs do not. -/
def ofStep (i : Nat) (f : TxFrame) : Bool :=
  f.slot == i && !(f.h.typ == tState && (hStateKind f.h == kRestore || hStateKind f.h == kResync || hStateKind f.h == kResyncEmem))

/-- A slot's waiting class frames unlinked from every port list, their buffers released (R335, R347). -/
def unlinkSlotFrames (s : State) (i : Nat) : State :=
  s.ports.foldl (fun s e =>
    let gone := (e.2.tx.queues.flatten).filter (ofStep i)
    let s := gone.foldl (fun s f => dropFrameBufs s e.1 f.bufs) s
    modTx s e.1 (fun t => { t with queues := t.queues.map (fun l => l.filter (fun f => !ofStep i f)) })) s

/-- The slot's fetch entries abandoned, with their buffers and the requests that waited on them (R107, R112, R347). -/
def abandonFetch (s : State) (i : Nat) : State :=
  let es := (getSlot s i).fetch
  let s := es.foldl (fun s e =>
    match e.buf with
    | none => s
    | some b => releaseBuf s b (ownerFetch i)) s
  let s := modSlot s i (fun sl => { sl with fetch := [] })
  s.ports.foldl (fun s e => modRx s e.1 (fun r => { r with gathers := r.gathers.filter (fun g => g.slot != i) })) s

/-- The slot's waiters for buffers given up. -/
def dropSlotWaiters (s : State) (i : Nat) : State :=
  let slotOf (w : Waiter) : Nat := match w with
    | .fetch n _ _ _ => n
    | .encoder n _ _ _ => n
    | .stateFormer n _ _ => n
    | .report n => n
    | .ship n => n
  modFab s (fun x => { x with waiters := x.waiters.filter (fun e => slotOf e.1 != i) })

/-- Held STATE frames released (R264). -/
def releaseHeld (s : State) (i : Nat) : State :=
  let s := (getSlot s i).tan.heldStates.foldl (fun s x => releaseChain s x.port i 4 x.units) s
  modSlot s i (fun sl => { sl with tan := { sl.tan with heldStates := [] } })

/-! ### Restore (R274, R277) -/

/-- The step whose state the primary rows hold: the last glued one, 0 for NONE (R534). -/
def servedStep (sl : Slot) : Nat := sl.step.lastGlued.getD 0

/-- The slot is LOST (R277). -/
def loseSlot (s : State) (i : Nat) : State :=
  let sl := getSlot s i
  let s := modSlot s i (fun sl => { sl with tan := { sl.tan with restoring := false, lost := true } })
  if sl.tan.lost then s else postEvent s evSlotLost i (leBytes 8 sl.step.num)

/-- A run of chunks that are dirty in the same planes (R362). -/
structure Run where
  first : Nat
  count : Nat
  mask : Nat
  deriving DecidableEq, Repr

/-- The dirty planes of each chunk, as a mask. -/
def dirtyMasks (d : List (Nat × Nat)) : Tbl Nat := d.foldl (fun t e => tmod 0 t e.1 (fun m => orBit m e.2)) []

/-- Consecutive chunks with one mask joined into runs. -/
def dirtyRuns (t : Tbl Nat) : List Run :=
  (t.foldl (fun (acc : List Run) e =>
    match acc with
    | r :: rest => if r.first + r.count = e.1 && r.mask == e.2 then { r with count := r.count + 1 } :: rest
                   else ⟨e.1, 1, e.2⟩ :: acc
    | [] => [⟨e.1, 1, e.2⟩]) []).reverse

/-- The up ports of the trunk to a device, ascending. -/
def upTrunk (s : State) (dev : Nat) : List Nat := (trunkTo s dev).filter (fun p => (getPort s p).up)

/-- RESTORE_REQ frames for runs, eight to a frame, on the lowest port of the PARTNER trunk (R308, R362). -/
def sendRestoreReqs (s : State) (i p step : Nat) : Nat → List Run → State
  | 0, _ => s
  | n + 1, rs =>
    if rs.isEmpty then s
    else
      let part := rs.take 8
      let payload := leBytes 1 part.length
        ++ part.flatMap (fun r => leBytes 16 (packFields [(64, r.first % 2 ^ 34), (32, r.count), (8, r.mask)]))
      let sl := getSlot s i
      let s := linkCtrl s p 0x07 sl.ob.jobId (genToward s p i) 0 step payload
      sendRestoreReqs s i p step n (rs.drop 8)

/-- The restore of a slot's dirty rows starts (R272, R274, R277); while a channel is being mapped out it waits (R430). Without dirty
rows it is complete. -/
def startRestore (s : State) (i : Nat) : State :=
  let sl := getSlot s i
  if sl.tan.dirty.isEmpty then modSlot s i (fun sl => { sl with tan := { sl.tan with restoring := false } })
  else if !s.hbm.moving.isEmpty then modSlot s i (fun sl => { sl with tan := { sl.tan with restoring := true } })
  else
    match sl.tan.partner with
    | none => loseSlot s i
    | some d =>
      match (if sl.tan.leftDevices.contains d then [] else upTrunk s d) with
      | [] => loseSlot s i
      | p :: _ =>
        let s := modSlot s i (fun sl => { sl with tan := { sl.tan with restoring := true } })
        let runs := dirtyRuns (dirtyMasks sl.tan.dirty)
        sendRestoreReqs s i p (servedStep sl) runs.length runs

/-! ### Rolling back (R272) -/

/-- The attempt-scoped fields of the transaction record at arming and at rollback (R281). -/
def attemptReset (r : StepRec) : StepRec :=
  { r with armToSeal := 0, stateDigest := 0, agreement := 0, reportsDropped := 0, readySent := false,
           stepDone := [], partnerReportSent := false, partnerReport := none, partnerAgreed := false, ringPorts := [],
           roundedChunks := 0, ememRows := 0, decision := 0, programEnd := false, last := false, decisionLost := false,
           started := false }

/-- The slot's own data on entering ROLLING_BACK: R272 points 1 to 4, R107 and R244. -/
def rollbackSlot (cause origin : Nat) (sl : Slot) : Slot :=
  { sl with
    bench := benchAbort sl.bench
    ctxs := []
    cadRec := cadRecInit
    buckets := tmap sl.buckets (fun _ b => abandonBucket b)
    servable := []
    tokens := []
    step := { attemptReset sl.step with
      st := .rollingBack
      attempt := (sl.step.attempt + 1) % 256
      abortCause := cause
      abortOrigin := origin
      rollbacks := inc32 sl.step.rollbacks }
    tan := { sl.tan with pending := [], pendingEmem := [], shipped := [], late := [], ships := [] }
    watch := { watchInit with attempt := (sl.step.attempt + 1) % 256 } }

/-- The bench leaves a slot whose step has aborted, unless its mirror pass runs on (R156). -/
def leaveBench (s : State) (i : Nat) : State :=
  if s.holder == some i && !(getSlot s i).bench.pass then { s with holder := none, benchLast := i } else s

/-- The SHADOW records of a slot's commands issued before an abort (R207, R221): posted with the old attempt and counted in no
record. -/
def shadowsLeft (sl : Slot) : List (BitVec 384) :=
  if sl.bench.pass then []
  else sl.bench.flight.filterMap (fun f => match f.op with
    | .shadow r => some r
    | .moveIn => none
    | .moveOut _ _ _ _ => none
    | .drain _ => none
    | .serve _ => none
    | .ship _ _ _ => none
    | .launch _ _ _ _ _ _ _ _ _ => none)

/-- ROLLING_BACK entered (R272), in the order of its seven points; the buffers go by R347. -/
def enterRollback (s : State) (i cause origin : Nat) : State :=
  let sl := getSlot s i
  let s := unlinkSlotFrames s i
  let s := releaseParked s i (sl.buckets.flatMap (fun e => e.2.chunks.map Prod.snd))
  let s := abandonFetch s i
  let s := dropSlotWaiters s i
  let s := releaseHeld s i
  let s := leaveBench s i
  let s := modSlot s i (rollbackSlot cause origin)
  let s := (slotMemberPorts sl).foldl (fun s p => slotLinkCtrl s p i 0x06 ((sl.step.attempt + 1) % 256) (leBytes 1 cause)) s
  let s := postEvent s evStepAborted i
    (leBytes 8 sl.step.num ++ leBytes 1 sl.step.attempt ++ leBytes 1 cause ++ leBytes 2 origin)
  let s := (shadowsLeft sl).foldl (fun s r => postEvent s evNumericWatch i (leBytes 48 r.toNat)) s
  startRestore s i

/-- The body of an ABORT sequence (R398). -/
def abortBody (sl : Slot) (attempt origin cause : Nat) : Bytes :=
  leBytes 2 sl.ob.jobId ++ leBytes 4 sl.step.num ++ leBytes 1 attempt ++ leBytes 2 origin ++ leBytes 1 cause

/-- The reports of a fault that this device has detected (R285, R291). -/
def reportAll (s : State) (i step attempt cause : Nat) (aborted : Bool) (rs : List Accusation) : State :=
  rs.foldl (fun s a => reportFault s i ⟨a.kind, a.suspect, a.symptom, step, attempt, if aborted then cause % 128 else 0, a.detail,
    a.hops, aborted, 128 ≤ cause, selfAccuser s⟩) s

/-- A fault of the step is raised on this device (R251, R252, R271, R285). In DRY_FIT the step aborts: ABORT floods the control
tree, ROLLING_BACK is entered and the reports name the cause. In any other state no step aborts and the reports stay incidents. -/
def raiseAbort (s : State) (i cause : Nat) (rs : List Accusation) : State :=
  let sl := getSlot s i
  let step := sl.step.num
  let attempt := sl.step.attempt
  if sl.step.st == .dryFit then
    let s := spokeSendAll s (controlLinks sl) kAbort (abortBody sl attempt (selfId s) cause)
    let s := enterRollback s i cause (selfId s)
    reportAll s i step attempt cause true rs
  else reportAll s i step attempt cause false rs

/-- Every DRY_FIT step of every slot aborted with one cause against this device (R26, R28, R327, R429). -/
def abortEveryStep (s : State) (cause symptom : Nat) : State :=
  (slotsWhere s (fun sl => sl.step.st == StepSt.dryFit)).foldl
    (fun s i => raiseAbort s i cause [accDevice (selfId s) symptom]) s

end Sys2Proof.Machine
end

