-- ==== Sys2Proof/Machine/Numerics.lean ====
section
/-! DEFINITION. The number formats, exact decoding, round_exact, the IEEE operations over exact integers, placing on the
window grid and block scales (R38 to R57). -/

namespace Sys2Proof.Machine

/-- How a format treats overflow, infinities and NaN (R45, R57). -/
inductive FmtKind where
  | ieee | short16 | q8 | q4
  deriving DecidableEq, Repr

/-- One row of the table of R45. -/
structure Fmt where
  kind : FmtKind
  expBits : Nat
  p : Nat
  bias : Int
  emin : Int
  emax : Int
  deriving DecidableEq, Repr

/-- FP64 (R45). -/
def fmtFp64 : Fmt := ⟨.ieee, 11, 53, 1023, -1022, 1023⟩
/-- FP32 (R45). -/
def fmtFp32 : Fmt := ⟨.ieee, 8, 24, 127, -126, 127⟩
/-- B16 (R45). -/
def fmtB16 : Fmt := ⟨.short16, 8, 8, 127, -126, 127⟩
/-- H16 (R45). -/
def fmtH16 : Fmt := ⟨.short16, 5, 11, 15, -14, 15⟩
/-- Q8A (R45). -/
def fmtQ8A : Fmt := ⟨.q8, 4, 4, 7, -6, 8⟩
/-- Q8B (R45). -/
def fmtQ8B : Fmt := ⟨.q8, 5, 3, 15, -14, 16⟩
/-- Q4 (R45). -/
def fmtQ4 : Fmt := ⟨.q4, 2, 2, 1, 0, 2⟩

/-- The bits of an element of the format. -/
def fmtWidth (f : Fmt) : Nat := 1 + f.expBits + (f.p - 1)

/-- A decoded value: finite is (neg ? -1 : 1) × mag × 2^b (R55, R56); a NaN says whether it was signalling (R41). -/
inductive Val where
  | fin (neg : Bool) (mag : Nat) (b : Int)
  | inf (neg : Bool)
  | nan (signalling : Bool)
  deriving DecidableEq, Repr

/-- Bit pattern from sign, exponent field and fraction. -/
def packFp (f : Fmt) (neg : Bool) (e frac : Nat) : Nat :=
  b2n neg * 2 ^ (f.expBits + (f.p - 1)) + e * 2 ^ (f.p - 1) + frac

/-- The canonical NaN code (R41, R45, R57). -/
def nanCode (f : Fmt) : Nat :=
  match f.kind with
  | .ieee => packFp f false (2 ^ f.expBits - 1) (2 ^ (f.p - 2))
  | .short16 => packFp f false (2 ^ f.expBits - 1) (2 ^ (f.p - 2))
  | .q8 => 0x80
  | .q4 => 0x0

/-- The code of the largest finite value of a sign (R45, R57). -/
def maxCode (f : Fmt) (neg : Bool) : Nat :=
  packFp f neg (f.emax + f.bias).toNat (2 ^ (f.p - 1) - 1)

/-- The code of an infinity input (R57), with its flags. -/
def infCode (f : Fmt) (neg : Bool) : Flagged Nat :=
  match f.kind with
  | .ieee => (packFp f neg (2 ^ f.expBits - 1) 0, nfNone)
  | .short16 => (packFp f neg (2 ^ f.expBits - 1) 0, nfNone)
  | .q8 => (maxCode f neg, nfSaturate)
  | .q4 => (maxCode f neg, nfSaturate)

/-- The code of a zero of a sign (R46, R55). -/
def zeroCode (f : Fmt) (neg : Bool) : Nat :=
  match f.kind with
  | .ieee => packFp f neg 0 0
  | .short16 => packFp f neg 0 0
  | .q8 => 0
  | .q4 => 0

/-- Whether the format follows the slot's subnormal mode (R44, R55). -/
def followsSubnormalMode (f : Fmt) : Bool :=
  match f.kind with
  | .ieee => true
  | .short16 => true
  | .q8 => false
  | .q4 => false

/-- A finite overflow (R57). -/
def overflowCode (neg : Bool) (f : Fmt) (m : RMode) : Flagged Nat :=
  match f.kind with
  | .ieee =>
    let toInf := match m with
      | .rne => true
      | .rtz => false
      | .rup => !neg
      | .rdn => neg
      | .sr => false
    (if toInf then packFp f neg (2 ^ f.expBits - 1) 0 else maxCode f neg, nfOverflow ||| nfInexact)
  | .short16 => (maxCode f neg, nfSaturate)
  | .q8 => (maxCode f neg, nfSaturate)
  | .q4 => (maxCode f neg, nfSaturate)

/-- The exponent of the leading one bit of a nonzero number. -/
def msb (n : Nat) : Nat := Nat.log2 n

/-- mag × 2^k for a signed k, truncated toward zero. -/
def shiftInt (mag : Nat) (k : Int) : Nat :=
  if 0 ≤ k then mag * 2 ^ k.toNat else mag / 2 ^ (-k).toNat

/-- round_up of R55. -/
def roundUp (keep disc : Nat) (k : Int) (neg : Bool) (m : RMode) (r : Nat) : Bool :=
  if disc = 0 then false
  else match m with
    | .rtz => false
    | .rup => !neg
    | .rdn => neg
    | .rne =>
      let half := 2 ^ (k - 1).toNat
      disc > half || (disc == half && keep % 2 == 1)
    | .sr =>
      let d := if k ≤ 32 then disc * 2 ^ (32 - k).toNat else disc / 2 ^ (k - 32).toNat
      r < d % 2 ^ 32

/-- round_exact of R55, for mag > 0; a zero magnitude gives the zero of the sign with no flag. -/
def roundExact (neg : Bool) (mag : Nat) (b : Int) (f : Fmt) (m : RMode) (r : Nat) (flush : Bool) : Flagged Nat :=
  if mag = 0 then (zeroCode f neg, nfNone)
  else
    let e := b + (msb mag : Int)
    let q := max e f.emin - ((f.p : Int) - 1)
    let k := q - b
    let keep0 := shiftInt mag (-k)
    let disc := if 0 < k then mag % 2 ^ k.toNat else 0
    let fl := nfIf (disc != 0) nfInexact
    let keep1 := if roundUp keep0 disc k neg m r then keep0 + 1 else keep0
    let carry := keep1 == 2 ^ f.p
    let keep := if carry then keep1 / 2 else keep1
    let q := if carry then q + 1 else q
    if q + (f.p : Int) - 1 > f.emax then
      let o := overflowCode neg f m
      (o.1, fl ||| o.2)
    else if keep = 0 then (zeroCode f neg, fl ||| nfIf (disc != 0) nfUnderflow)
    else if keep < 2 ^ (f.p - 1) then
      let fl := fl ||| nfIf (disc != 0) nfUnderflow
      if followsSubnormalMode f && flush then
        (zeroCode f neg, fl ||| nfFlush ||| nfUnderflow ||| nfInexact)
      else (packFp f neg 0 keep, fl)
    else (packFp f neg (q + (f.p : Int) - 1 + f.bias).toNat (keep - 2 ^ (f.p - 1)), fl)

/-- Exact decoding of a code (R45, R56), the subnormal operand of a flush slot read as zero (R44). -/
def decodeFp (f : Fmt) (flush : Bool) (code : Nat) : Flagged Val :=
  let fb := f.p - 1
  let frac := bitsOf code 0 fb
  let e := bitsOf code fb f.expBits
  let neg := bitOf code (fb + f.expBits)
  let finite : Flagged Val :=
    if e = 0 then
      if followsSubnormalMode f && flush && frac != 0 then (.fin neg 0 (f.emin - fb), nfFlush)
      else (.fin neg frac (f.emin - fb), nfNone)
    else (.fin neg (frac + 2 ^ fb) ((e : Int) - f.bias - fb), nfNone)
  let special : Flagged Val :=
    if e = 2 ^ f.expBits - 1 then
      if frac = 0 then (.inf neg, nfNone) else (.nan (!bitOf frac (fb - 1)), nfNone)
    else finite
  match f.kind with
  | .ieee => special
  | .short16 => special
  | .q8 => if code % 256 = 0x80 then (.nan false, nfNone) else finite
  | .q4 => finite

/-- A value rounded to a format, special inputs first (R57). -/
def encodeVal (f : Fmt) (m : RMode) (r : Nat) (flush : Bool) (v : Val) : Flagged Nat :=
  match v with
  | .nan s => (nanCode f, nfIf (s || f.kind == .q4) nfInvalid)
  | .inf neg => infCode f neg
  | .fin neg mag b => roundExact neg mag b f m r flush

/-- One code converted from a format to another (R56, R57). -/
def convertFp (src dst : Fmt) (m : RMode) (r : Nat) (flush : Bool) (code : Nat) : Flagged Nat :=
  let d := decodeFp src flush code
  let e := encodeVal dst m r flush d.1
  (e.1, d.2 ||| e.2)

/-! ### IEEE operations on values (R40, R41, R42) -/

/-- Whether a value is a NaN. -/
def isNan : Val → Bool
  | .nan _ => true
  | .fin _ _ _ => false
  | .inf _ => false

/-- NUM_INVALID where a value is a signalling NaN (R41). -/
def sigFlag : Val → NFlags
  | .nan s => nfIf s nfInvalid
  | .fin _ _ _ => nfNone
  | .inf _ => nfNone

/-- A signed integer from sign and magnitude. -/
def signedMag (neg : Bool) (mag : Nat) : Int := if neg then -(mag : Int) else mag

/-- The finite value of an integer times 2^b; an exact zero takes the sign given. -/
def finOf (i : Int) (b : Int) (zeroNeg : Bool) : Val := .fin (if i = 0 then zeroNeg else i < 0) i.natAbs b

/-- The exact sum of two values; an exact zero of opposite signs is negative only toward −∞ (R40). -/
def addVal (m : RMode) (x y : Val) : Flagged Val :=
  match x, y with
  | .nan a, .nan c => (.nan false, nfIf (a || c) nfInvalid)
  | .nan a, .fin _ _ _ => (.nan false, nfIf a nfInvalid)
  | .nan a, .inf _ => (.nan false, nfIf a nfInvalid)
  | .fin _ _ _, .nan a => (.nan false, nfIf a nfInvalid)
  | .inf _, .nan a => (.nan false, nfIf a nfInvalid)
  | .inf a, .inf c => if a = c then (.inf a, nfNone) else (.nan false, nfInvalid)
  | .inf a, .fin _ _ _ => (.inf a, nfNone)
  | .fin _ _ _, .inf a => (.inf a, nfNone)
  | .fin n1 m1 b1, .fin n2 m2 b2 =>
    if m1 = 0 && m2 = 0 then (.fin (if n1 = n2 then n1 else m == .rdn) 0 0, nfNone)
    else if m1 = 0 then (y, nfNone)
    else if m2 = 0 then (x, nfNone)
    else
      let b := min b1 b2
      let s := signedMag n1 (m1 * 2 ^ (b1 - b).toNat) + signedMag n2 (m2 * 2 ^ (b2 - b).toNat)
      (finOf s b (m == .rdn), nfNone)

/-- A value with its sign inverted. -/
def negVal : Val → Val
  | .nan s => .nan s
  | .inf n => .inf (!n)
  | .fin n m b => .fin (!n) m b

/-- The exact product of two values (R40). -/
def mulVal (x y : Val) : Flagged Val :=
  match x, y with
  | .nan a, .nan c => (.nan false, nfIf (a || c) nfInvalid)
  | .nan a, .fin _ _ _ => (.nan false, nfIf a nfInvalid)
  | .nan a, .inf _ => (.nan false, nfIf a nfInvalid)
  | .fin _ _ _, .nan a => (.nan false, nfIf a nfInvalid)
  | .inf _, .nan a => (.nan false, nfIf a nfInvalid)
  | .inf a, .inf c => (.inf (a != c), nfNone)
  | .inf a, .fin n mag _ => if mag = 0 then (.nan false, nfInvalid) else (.inf (a != n), nfNone)
  | .fin n mag _, .inf a => if mag = 0 then (.nan false, nfInvalid) else (.inf (a != n), nfNone)
  | .fin n1 m1 b1, .fin n2 m2 b2 => (.fin (n1 != n2) (m1 * m2) (b1 + b2), nfNone)

/-- The quotient of two values, exact up to a sticky bit below the 70th bit, which round_exact cannot tell from the exact
quotient in any format of at most 53 bits (R40). -/
def divVal (x y : Val) : Flagged Val :=
  match x, y with
  | .nan a, .nan c => (.nan false, nfIf (a || c) nfInvalid)
  | .nan a, .fin _ _ _ => (.nan false, nfIf a nfInvalid)
  | .nan a, .inf _ => (.nan false, nfIf a nfInvalid)
  | .fin _ _ _, .nan a => (.nan false, nfIf a nfInvalid)
  | .inf _, .nan a => (.nan false, nfIf a nfInvalid)
  | .inf _, .inf _ => (.nan false, nfInvalid)
  | .inf a, .fin n _ _ => (.inf (a != n), nfNone)
  | .fin n _ _, .inf a => (.fin (n != a) 0 0, nfNone)
  | .fin n1 m1 b1, .fin n2 m2 b2 =>
    if m2 = 0 then
      if m1 = 0 then (.nan false, nfInvalid) else (.inf (n1 != n2), nfDivZero)
    else if m1 = 0 then (.fin (n1 != n2) 0 0, nfNone)
    else
      let s := 70 + msb m2 - msb m1
      let num := m1 * 2 ^ s
      (.fin (n1 != n2) (2 * (num / m2) + b2n (num % m2 != 0)) (b1 - b2 - (s : Int) - 1), nfNone)

/-- The integer square root by bits from the highest down. -/
def isqrtAux : Nat → Nat → Nat → Nat
  | 0, _, root => root
  | k + 1, n, root =>
    let cand := root + 2 ^ k
    isqrtAux k n (if cand * cand ≤ n then cand else root)

/-- The largest integer whose square is at most n. -/
def isqrt (n : Nat) : Nat := isqrtAux (msb n / 2 + 1) n 0

/-- The square root, exact up to a sticky bit (R40). -/
def sqrtVal (x : Val) : Flagged Val :=
  match x with
  | .nan s => (.nan false, nfIf s nfInvalid)
  | .inf n => if n then (.nan false, nfInvalid) else (.inf false, nfNone)
  | .fin n m b =>
    if m = 0 then (x, nfNone)
    else if n then (.nan false, nfInvalid)
    else
      -- 140 more bits, with an even weight
      let odd := (b % 2).toNat
      let big := m * 2 ^ (140 + odd)
      let r := isqrt big
      (.fin false (2 * r + b2n (r * r != big)) ((b - 140 - odd) / 2 - 1), nfNone)

/-- x < y for values that are not NaN, −0 equal to +0. -/
def ltVal (x y : Val) : Bool :=
  match x, y with
  | .nan _, .nan _ => false
  | .nan _, .fin _ _ _ => false
  | .nan _, .inf _ => false
  | .fin _ _ _, .nan _ => false
  | .inf _, .nan _ => false
  | .inf a, .inf c => a && !c
  | .inf a, .fin _ _ _ => a
  | .fin _ _ _, .inf a => !a
  | .fin n1 m1 b1, .fin n2 m2 b2 =>
    let b := min b1 b2
    signedMag n1 (m1 * 2 ^ (b1 - b).toNat) < signedMag n2 (m2 * 2 ^ (b2 - b).toNat)

/-- Whether a value is negative, zeros by their sign. -/
def valNeg : Val → Bool
  | .nan _ => false
  | .inf n => n
  | .fin n _ _ => n

/-- minimum of IEEE 754-2019 (R42): a NaN operand gives NaN and −0 orders below +0. -/
def minVal (x y : Val) : Flagged Val :=
  if isNan x || isNan y then (.nan false, sigFlag x ||| sigFlag y)
  else if ltVal x y then (x, nfNone)
  else if ltVal y x then (y, nfNone)
  else (if valNeg x then x else y, nfNone)

/-- maximum of IEEE 754-2019 (R42). -/
def maxVal (x y : Val) : Flagged Val :=
  if isNan x || isNan y then (.nan false, sigFlag x ||| sigFlag y)
  else if ltVal y x then (x, nfNone)
  else if ltVal x y then (y, nfNone)
  else (if valNeg x then y else x, nfNone)

/-- The integer nearest to a finite value under a mode, with whether bits were discarded. -/
def roundToInt (neg : Bool) (mag : Nat) (b : Int) (m : RMode) (r : Nat) : Int × Bool :=
  if 0 ≤ b then (signedMag neg (mag * 2 ^ b.toNat), false)
  else
    let k := -b
    let keep := mag / 2 ^ k.toNat
    let disc := mag % 2 ^ k.toNat
    let keep := if roundUp keep disc k neg m r then keep + 1 else keep
    (signedMag neg keep, disc != 0)

/-- Conversion to a w-bit signed integer (R42): saturating, 0 for a NaN, NUM_INVALID in both cases. -/
def toIntSat (w : Nat) (m : RMode) (v : Val) : Flagged Nat :=
  let hi : Int := 2 ^ (w - 1) - 1
  let lo : Int := -(2 ^ (w - 1))
  match v with
  | .nan _ => (0, nfInvalid)
  | .inf n => (ofSigned w (if n then lo else hi), nfInvalid)
  | .fin n mag b =>
    let r := roundToInt n mag b m 0
    if r.1 < lo then (ofSigned w lo, nfInvalid)
    else if hi < r.1 then (ofSigned w hi, nfInvalid)
    else (ofSigned w r.1, nfIf r.2 nfInexact)

/-! ### Exponents and the window grid (R50 to R53) -/

/-- EXP_ZERO (R50). -/
def expZero : Int := -32768

/-- The exponent of a value (R50): EXP_ZERO for a zero; none for a NaN or infinity. -/
def expOf : Val → Option Int
  | .nan _ => none
  | .inf _ => none
  | .fin _ m b => some (if m = 0 then expZero else b + (msb m : Int))

/-- The window base B of an agreed exponent (R50). -/
def windowBase (emax : Int) : Int := if emax = expZero then 0 else emax - 110

/-- 2^127 − 1, where a placement is clamped (R52). -/
def w128Max : Nat := 2 ^ 127 - 1

/-- What a placement gives (R52): the addend on the grid and what is counted. -/
structure Placed where
  grid : Int
  floorHit : Bool
  clamped : Bool
  nonFinite : Bool
  deriving DecidableEq, Repr

/-- A value placed on the grid of base B (R52). -/
def placeVal (base : Int) (v : Val) : Placed :=
  match v with
  | .nan _ => ⟨0, false, false, true⟩
  | .inf _ => ⟨0, false, false, true⟩
  | .fin neg mag b =>
    let sh := b - base
    let g := shiftInt mag sh
    let lost := decide (sh < 0) && mag % 2 ^ (-sh).toNat != 0
    if 2 ^ 127 ≤ g then ⟨signedMag neg w128Max, lost, true, false⟩
    else ⟨signedMag neg g, lost, false, false⟩

/-- Two W128 values added modulo 2^128 (R51). -/
def w128Add (a : W128) (g : Int) : W128 := a + BitVec.ofInt 128 g

/-- A W128 value rounded to a format (R55). -/
def roundW128 (w : W128) (base : Int) (f : Fmt) (m : RMode) (r : Nat) (flush : Bool) : Flagged Nat :=
  let i := w.toInt
  roundExact (i < 0) i.natAbs base f m r flush

/-! ### Format codes and chunk images (R38, R39, R47 to R49) -/

/-- The floating format of a format code, block formats by their base format (R38). -/
def fmtOfCode (c : Nat) : Option Fmt :=
  match c with
  | 0x0 => some fmtFp32
  | 0x1 => some fmtB16
  | 0x2 => some fmtH16
  | 0x3 => some fmtQ8A
  | 0x4 => some fmtQ8B
  | 0x5 => some fmtQ4
  | 0x6 => some fmtQ8A
  | 0x7 => some fmtQ8B
  | 0x8 => some fmtQ4
  | _ => none

/-- Whether a code is a block-scaled format (R38, R47). -/
def isBlockFmt (c : Nat) : Bool := c == 0x6 || c == 0x7 || c == 0x8

/-- Whether a code may be delivered (R38). -/
def isDeliverFmt (c : Nat) : Bool := c < 0x9

/-- Whether a code may be contributed (R38). -/
def isContribFmt (c : Nat) : Bool := c < 0xA

/-- The bytes of a chunk image (R38), none for kerf encoding and reserved codes. -/
def chunkImageBytes (c : Nat) : Option Nat :=
  match c with
  | 0x0 => some 4096
  | 0x1 => some 2048
  | 0x2 => some 2048
  | 0x3 => some 1024
  | 0x4 => some 1024
  | 0x5 => some 512
  | 0x6 => some 1056
  | 0x7 => some 1056
  | 0x8 => some 544
  | 0x9 => some 144
  | _ => none

/-- The code of element i of a chunk image after any block scales (R39). -/
def elementCode (c : Nat) (img : Bytes) (i : Nat) : Nat :=
  match c with
  | 0x0 => leAt img (4 * i) 4
  | 0x1 => leAt img (2 * i) 2
  | 0x2 => leAt img (2 * i) 2
  | 0x3 => leAt img i 1
  | 0x4 => leAt img i 1
  | 0x5 => bitsOf (leAt img (i / 2) 1) (4 * (i % 2)) 4
  | 0x6 => leAt img (32 + i) 1
  | 0x7 => leAt img (32 + i) 1
  | 0x8 => bitsOf (leAt img (32 + i / 2) 1) (4 * (i % 2)) 4
  | 0x9 => bitsOf (leAt img (16 + i / 8) 1) (i % 8) 1
  | _ => 0

/-- A value times 2^s. -/
def scaleVal (s : Int) : Val → Val
  | .nan q => .nan q
  | .inf n => .inf n
  | .fin n m b => .fin n m (b + s)

/-- Element i of a chunk image, decoded exactly (R47, R49, R56). -/
def chunkElement (c : Nat) (flush : Bool) (img : Bytes) (i : Nat) : Flagged Val :=
  if c = 0x9 then
    let g := decodeFp fmtFp32 flush (leAt img (4 * (i / 256)) 4)
    let neg := elementCode c img i == 1
    match g.1 with
    | .fin n m b => (.fin (if m = 0 then neg else (n != neg)) m b, g.2)
    | .inf n => (.inf n, g.2)
    | .nan s => (.nan s, g.2)
  else
    match fmtOfCode c with
    | none => (.fin false 0 0, nfNone)
    | some f =>
      let v := decodeFp f flush (elementCode c img i)
      if isBlockFmt c then
        let sc := leAt img (i / 32) 1
        if sc = 0xFF then (.nan false, nfNone) else (scaleVal ((sc : Int) - 127) v.1, v.2)
      else v

/-- Whether a T1 image is malformed: a block scale negative, infinite or NaN; −0.0 reads as +0.0 (R49). -/
def t1Malformed (img : Bytes) : Bool :=
  (List.range 4).any fun k =>
    let g := leAt img (4 * k) 4
    (bitOf g 31 && bitsOf g 0 31 != 0) || bitsOf g 23 8 == 0xFF

/-- The scale byte that an encoder chooses for a block of decoded values (R48). -/
def chooseScale (f : Fmt) (xs : List Val) : Nat :=
  if xs.any (fun v => (expOf v).isNone) then 0xFF
  else
    let es := xs.filterMap (fun v => match expOf v with
      | some e => if e = expZero then none else some e
      | none => none)
    match es with
    | [] => 0x7F
    | e0 :: rest =>
      let e := rest.foldl max e0
      let s := e - f.emax
      -- the largest magnitude rounded to the format's grid at exponent emax, without saturation
      let big := xs.any fun v => match v with
        | .fin _ m b =>
          if m = 0 then false
          else
            let r := roundToInt false m (b - s - (f.emax - ((f.p : Int) - 1))) .rne 0
            r.1 > (2 ^ f.p - 1 : Nat)
        | .inf _ => false
        | .nan _ => false
      let s := if big then s + 1 else s
      let s := max (-127) (min 127 s)
      (s + 127).toNat

/-- A block of 32 values encoded with its scale (R48, R57): the scale byte, the element codes and the flags. -/
def encodeBlock (f : Fmt) (m : RMode) (rs : Nat → Nat) (flush : Bool) (xs : List Val) : Nat × List Nat × NFlags :=
  let c := chooseScale f xs
  if c = 0xFF then
    (c, xs.map (fun _ => 0), nfSaturate ||| nfJoin (xs.map sigFlag))
  else
    let es := (xs.zip (List.range xs.length)).map fun e => encodeVal f m (rs e.2) flush (scaleVal (127 - (c : Int)) e.1)
    (c, es.map Prod.fst, nfJoin (es.map Prod.snd))

/-- Element codes packed into bytes (R39): 4-bit elements two to a byte, the even one low. -/
def packCodes : Nat → List Nat → Bytes
  | 32, cs => (cs.map (leBytes 4)).flatten
  | 16, cs => (cs.map (leBytes 2)).flatten
  | 8, cs => cs.map (BitVec.ofNat 8)
  | _, cs => packNibbles cs
where
  /-- Two 4-bit codes to a byte. -/
  packNibbles : List Nat → Bytes
    | [] => []
    | [a] => [BitVec.ofNat 8 (a % 16)]
    | a :: b :: rest => BitVec.ofNat 8 (a % 16 + 16 * (b % 16)) :: packNibbles rest

/-- A list cut into pieces of n, k pieces. -/
def chunksOf {α : Type} (n : Nat) : Nat → List α → List (List α)
  | 0, _ => []
  | k + 1, xs => xs.take n :: chunksOf n k (xs.drop n)

/-- A chunk of 1,024 values encoded as a chunk image in a delivery format (R38, R39, R48), with the flags set. `rs` gives
the random word of element i (R118). -/
def encodeChunk (c : Nat) (m : RMode) (rs : Nat → Nat) (flush : Bool) (xs : List Val) : Flagged Bytes :=
  match fmtOfCode c with
  | none => ([], nfNone)
  | some f =>
    if isBlockFmt c then
      let blocks := (chunksOf 32 32 xs).zip (List.range 32)
      let es := blocks.map fun e => encodeBlock f m (fun i => rs (32 * e.2 + i)) flush e.1
      (es.map (fun e => BitVec.ofNat 8 e.1) ++ packCodes (fmtWidth f) (es.map (fun e => e.2.1)).flatten,
       nfJoin (es.map (fun e => e.2.2)))
    else
      let es := (xs.zip (List.range xs.length)).map fun e => encodeVal f m (rs e.2) flush e.1
      (packCodes (fmtWidth f) (es.map Prod.fst), nfJoin (es.map Prod.snd))

end Sys2Proof.Machine
end

