-- ==== Sys2Proof/Machine/Kerf.lean ====
section
/-! DEFINITION. Kerf encoding of W128 partials and T1 encoding of a thinned segment (R82 to R87). -/

namespace Sys2Proof.Machine

/-- How many trailing zero bits a nonzero number has, at most `fuel`. -/
def trailZeros : Nat → Nat → Nat
  | 0, _ => 0
  | k + 1, n => if n % 2 = 1 then 0 else 1 + trailZeros k (n / 2)

/-- The smallest two's-complement width of an integer (R83). -/
def signedWidth (i : Int) : Nat :=
  let m := if i < 0 then (-i - 1).toNat else i.toNat
  if m = 0 then 1 else msb m + 2

/-- One block of 16 elements in canonical kerf encoding (R82, R83). -/
def kerfBlock (xs : List Int) : Bytes :=
  let nz := xs.filter (· != 0)
  match nz with
  | [] => leBytes 2 0
  | x :: rest =>
    let tz (i : Int) : Nat := trailZeros 128 i.natAbs
    let t := rest.foldl (fun m i => min m (tz i)) (tz x)
    let ys := xs.map (fun (i : Int) => i / ((2 ^ t : Nat) : Int))
    let n := ys.foldl (fun m i => max m (signedWidth i)) 1
    let field := (ys.zip (List.range 16)).foldl (fun acc e => acc + ofSigned n e.1 * 2 ^ (n * e.2)) 0
    leBytes 2 (n + t * 256) ++ leBytes (2 * n) field

/-- Consecutive pieces of 16 of a list, at most n of them. -/
def blocksOf {α : Type} : Nat → List α → List (List α)
  | 0, _ => []
  | n + 1, xs => xs.take 16 :: blocksOf n (xs.drop 16)

/-- Values of a line, as signed integers on the grid, in kerf encoding: 16 elements to a block (R82). -/
def kerfEncode (xs : List Int) : Bytes := ((blocksOf ((xs.length + 15) / 16) xs).map kerfBlock).flatten

/-- One block read: its 16 elements and what follows it; none when it is malformed (R84). -/
def kerfReadBlock (bs : Bytes) : Option (List Int × Bytes) :=
  if bs.length < 2 then none
  else
    let hd := leAt bs 0 2
    let n := bitsOf hd 0 8
    let t := bitsOf hd 8 7
    if bitOf hd 15 || 128 < n || 128 < n + t || (n == 0 && t != 0) || bs.length < 2 + 2 * n then none
    else
      let field := leAt bs 2 (2 * n)
      let xs := (List.range 16).map (fun i => if n = 0 then (0 : Int) else toSigned n (bitsOf field (n * i) n) * ((2 ^ t : Nat) : Int))
      some (xs, bs.drop (2 + 2 * n))

/-- A run of blocks read to the end of the payload; none when a block is malformed or bytes are left over. -/
def kerfDecode : Nat → Bytes → Option (List Int)
  | 0, bs => if bs.isEmpty then some [] else none
  | k + 1, bs =>
    match kerfReadBlock bs with
    | none => none
    | some (xs, rest) => (kerfDecode k rest).map (xs ++ ·)

/-- A W128 value as the signed integer it holds (R51). -/
def w128Int (i : Int) : Int := (BitVec.ofInt 128 i).toInt

/-- What the T1 encoder makes of 256 elements (R86): scale, signs, error-memory words, floor hits and whether the chunk is
marked non-finite. -/
structure T1Block where
  scale : Nat
  signs : List Bool
  mem : List W32
  floorHits : Nat
  nonFinite : Bool
  deriving DecidableEq, Repr

/-- One block of the T1 encoder (R86). -/
def t1Block (base : Int) (flush : Bool) (vs : List Int) (mem : List W32) : T1Block :=
  let placed := mem.map (fun m => placeVal base (decodeFp fmtFp32 flush m.toNat).1)
  let us := (vs.zip placed).map (fun e => w128Int (e.1 + e.2.grid))
  let sumAbs := (us.foldl (fun a u => a + u.natAbs) 0) % 2 ^ 128
  let g0 := if sumAbs = 0 then 0 else (roundExact false sumAbs (base - 8) fmtFp32 .rne 0 flush).1
  let inf := bitsOf g0 23 8 == 255
  let g := if inf then 0 else g0
  let pg := (placeVal base (decodeFp fmtFp32 flush g).1).grid
  let out (u : Int) : W32 :=
    let r := w128Int (u - (if u < 0 then -pg else pg))
    if r = 0 then 0 else BitVec.ofNat 32 (roundExact (r < 0) r.natAbs base fmtFp32 .rne 0 flush).1
  { scale := g, signs := us.map (fun u => u < 0), mem := us.map out,
    floorHits := (placed.filter (fun p => p.floorHit)).length, nonFinite := inf || placed.any (fun p => p.nonFinite) }

/-- The T1 image of a line (R38, R39, R86): four scales, then one sign bit for each element. -/
def t1Image (bs : List T1Block) : Bytes :=
  let signs := (bs.map (fun b => b.signs)).flatten
  (bs.map (fun b => leBytes 4 b.scale)).flatten
    ++ leBytes 128 ((signs.zip (List.range 1024)).foldl (fun acc e => if e.1 then acc + 2 ^ e.2 else acc) 0)

/-- A line encoded for a thinned segment, block by block. -/
def t1Encode (base : Int) (flush : Bool) (vs : List Int) (mem : List W32) : List T1Block :=
  (List.range 4).map (fun k => t1Block base flush ((vs.drop (256 * k)).take 256) ((mem.drop (256 * k)).take 256))

end Sys2Proof.Machine
end

