-- ==== Sys2Proof/Machine/Receive.lean ====
section
/-! DEFINITION. Taking a received frame: the checks of R373 in their order, what each reason code does (R374), and recovery
(R364, R365). -/

namespace Sys2Proof.Machine

/-! ### Ownership (R98 to R100) -/

/-- The owner of a global chunk by the shard map (R100): none at or above L, or in an extent that is not PLACED. -/
def ownerOf (sl : Slot) (chunk : Nat) : Option Nat :=
  if sl.shard.l ≤ 1024 * chunk then none
  else
    let e := (sl.shard.map.getD (chunk / 1024) 0).toNat
    if bitOf e 16 then some (bitsOf e 0 16) else none

/-- The ancestors of a position in the multicast tree, itself first (R226). -/
def treeAncestors (v : GroupVer) : Nat → Nat → List Nat
  | 0, _ => []
  | k + 1, i => if i = 0 then [0] else i :: treeAncestors v k (groupTreeParent v i)

/-- How many hops of the delivery tree separate this device from an owner (R111, R285); 0xFF where the owner is not in the
group. -/
def hopsToOwner (v : GroupVer) (owner : Nat) : Nat :=
  match groupPos v owner with
  | none => 0xFF
  | some o =>
    let n := geDevices v
    let self := geSelf v
    if geTree v then
      let a := treeAncestors v n self
      let b := treeAncestors v n o
      let common := (a.filter b.contains).length
      min 0xFE (a.length + b.length - 2 * common)
    else
      let d := (self + n - o) % max 1 n
      min 0xFE (if d ≤ n / 2 then d else n - d)

/-! ### Incidents of frames -/

/-- The slots that use a port: as a member port, or as a port of a trunk to a neighbour or tandem device (R308, R323). -/
def slotsOfPort (s : State) (p : Nat) : List Nat :=
  let peer := portPeerDev s p
  let trunk := (getPort s p).cfg.trunk
  slotsWhere s (fun sl => sl.st == SlotSt.open_ &&
    (if trunk then (slotNeighbours sl).contains peer || (slotRingNeighbours sl).contains peer
        || sl.tan.partner == some peer || sl.tan.mirrorOf == some peer
     else (slotMemberPorts sl).contains p || (slotGroups sl).any (fun v => (groupPorts v).contains p)))

/-- An incident of a port's far end in each slot named (R283, R374), DETAIL the reason code. -/
def portIncident (s : State) (p : Nat) (slots : List Nat) (symptom detail : Nat) (link : Bool) : State :=
  let a := if link then accLink s p symptom else accPeer s p symptom
  slots.foldl (fun s i => ownIncident s i a.kind a.suspect a.symptom detail) s

/-- A bucket's record changed. -/
def modBucket (s : State) (i b : Nat) (f : Bucket → Bucket) : State :=
  modSlot s i (fun sl =>
    match tget? sl.buckets b with
    | none => sl
    | some x => { sl with buckets := tset sl.buckets b (f x) })

/-- A slot's delivery record changed. -/
def modDeliv (s : State) (i : Nat) (f : DelivRec → DelivRec) : State := modSlot s i (fun sl => { sl with deliv := f sl.deliv })

/-- The count that R374 names for a reason. -/
def countReason (s : State) (p : Nat) (slot : Option Nat) (h : Hdr) (r : Reason) : State :=
  let inSlot (f : Nat → State) : State := match slot with
    | none => s
    | some i => f i
  let inBucket (f : Bucket → Bucket) : State :=
    if h.typ = tContribute || h.typ = tAccumulate || h.typ = tWindow then inSlot (fun i => modBucket s i h.bucket f) else s
  match r with
  | .replay => s
  | .badCrc => modCnt s p (fun k => { k with fcsErrors := inc32 k.fcsErrors })
  | .protocol => modCnt s p (fun k => { k with protocolErrors := inc32 k.protocolErrors })
  | .badDest => modCnt s p (fun k => { k with protocolErrors := inc32 k.protocolErrors })
  | .unknownJob => modCnt s p (fun k => { k with unknownJob := inc32 k.unknownJob })
  | .staleGen => inSlot (fun i => modSlot s i (fun sl => { sl with staleGen := inc32 sl.staleGen }))
  | .credit => modCls s p h.cls (fun k => { k with violations := satAdd 32 k.violations 1 })
  | .staleStep => modCnt s p (fun k => { k with staleStep := inc32 k.staleStep })
  | .unarmed => modCnt s p (fun k => { k with unarmed := inc32 k.unarmed })
  | .badChunk => modCnt s p (fun k => { k with badChunk := inc32 k.badChunk })
  | .nonMember =>
    let s := modCnt s p (fun k => { k with nonMember := inc32 k.nonMember })
    match slot with
    | some i => if h.typ = tGather then modDeliv s i (fun d => { d with nackOther := inc32 d.nackOther }) else s
    | none => s
  | .late => inBucket (fun b => { b with duplicates := inc32 b.duplicates })
  | .windowPending => inBucket (fun b => { b with wrongWindow := inc32 b.wrongWindow })
  | .holdFull => inBucket (fun b => { b with holdRefused := inc32 b.holdRefused })
  | .wrongWindow => inBucket (fun b => { b with wrongWindow := inc32 b.wrongWindow })
  | .duplicate => inBucket (fun b => { b with duplicates := inc32 b.duplicates })
  | .malformed => modCnt s p (fun k => { k with protocolErrors := inc32 k.protocolErrors })
  | .staleVersion => inSlot (fun i => modDeliv s i (fun d => { d with nackVersion := inc32 d.nackVersion }))
  | .futureVersion => inSlot (fun i => modDeliv s i (fun d => { d with nackVersion := inc32 d.nackVersion }))
  | .badFormat => inSlot (fun i => modDeliv s i (fun d => { d with nackOther := inc32 d.nackOther }))
  | .badRange => inSlot (fun i => modDeliv s i (fun d => { d with nackOther := inc32 d.nackOther }))
  | .tableFull => inSlot (fun i => modDeliv s i (fun d => { d with nackOther := inc32 d.nackOther }))
  | .oldAttempt =>
    if h.typ = tDeliver then inSlot (fun i => modDeliv s i (fun d => { d with oldAttempt := inc32 d.oldAttempt }))
    else modCnt s p (fun k => { k with staleStep := inc32 k.staleStep })
  | .dupSeq => modCnt s p (fun k => { k with dupSeq := inc32 k.dupSeq })
  | .expelled => modCnt s p (fun k => { k with nonMember := inc32 k.nonMember })
  | .deliverCrc => s
  | .deliverUnexpected => modCnt s p (fun k => { k with protocolErrors := inc32 k.protocolErrors })

/-- The symptom of the incident that a reason records against a member port (R374), if any. -/
def memberSymptom : Reason → Option Nat
  | .replay => none
  | .badCrc => some syFrameCrc
  | .protocol => some syProtocol
  | .badDest => some syProtocol
  | .unknownJob => none
  | .staleGen => none
  | .credit => some syCredit
  | .staleStep => none
  | .unarmed => some syProtocol
  | .badChunk => some syProtocol
  | .nonMember => some syProtocol
  | .late => none
  | .windowPending => some syProtocol
  | .holdFull => none
  | .wrongWindow => some syProtocol
  | .duplicate => none
  | .malformed => some syProtocol
  | .staleVersion => none
  | .futureVersion => none
  | .badFormat => some syProtocol
  | .badRange => some syProtocol
  | .tableFull => none
  | .oldAttempt => none
  | .dupSeq => none
  | .expelled => none
  | .deliverCrc => none
  | .deliverUnexpected => none

/-- The abort that a bad frame of a class from a trunk causes (R374): cause and suspect. -/
def trunkAbort (s : State) (p i : Nat) (h : Hdr) (detail : Nat) : Nat × Accusation :=
  let peer := portPeerDev s p
  if h.cls = 2 then (caPartialMalformed, { accDevice peer syCorrupt with detail := detail })
  else if h.cls = 3 then
    let sl := getSlot s i
    let o := (ownerOf sl (hDeliverChunk h)).getD peer
    let hops := ((stepGroup sl h.group).map (fun v => hopsToOwner v o)).getD 0xFF
    (caDeliveryCrc, ⟨1, o * 65536, syCorrupt, detail, hops⟩)
  else (caStateCrc, { accDevice peer syCorrupt with detail := detail })

/-- What a reason does to a frame from a trunk (R374): an abort of the slot's step, an incident, or nothing but its count. -/
def trunkPenalty (s : State) (p : Nat) (slot : Option Nat) (slots : List Nat) (h : Hdr) (r : Reason) : State :=
  let code := reasonCode r
  let abortOr (otherwise : State) : State :=
    match slot with
    | none => otherwise
    | some i =>
      if (h.cls = 2 || h.cls = 3 || h.cls = 4) && (getSlot s i).step.st == .dryFit then
        let a := trunkAbort s p i h code
        raiseAbort s i a.1 [a.2]
      else otherwise
  let protocol := portIncident s p slots syProtocol code false
  match r with
  | .badCrc =>
    if h.cls = 0 then portIncident s p slots syFrameCrc code true
    else
      match slot with
      | none => s
      | some i =>
        let a := trunkAbort s p i h code
        raiseAbort s i a.1 [a.2]
  | .protocol => abortOr protocol
  | .badDest => abortOr protocol
  | .credit => portIncident s p slots syCredit code false
  | .badChunk => abortOr s
  | .nonMember => if h.typ = tGather then protocol else abortOr s
  | .wrongWindow => abortOr s
  | .malformed => abortOr s
  | .badFormat => protocol
  | .badRange => protocol
  | .deliverUnexpected => protocol
  | .replay => s
  | .unknownJob => s
  | .staleGen => s
  | .staleStep => s
  | .unarmed => s
  | .late => s
  | .windowPending => s
  | .holdFull => s
  | .duplicate => s
  | .staleVersion => s
  | .futureVersion => s
  | .tableFull => s
  | .oldAttempt => s
  | .dupSeq => s
  | .expelled => s
  | .deliverCrc => s

/-- A frame dropped for a reason (R374): counted, answered, traced, and its consequence taken. `job` is the slot that the frame's
job names when no check has bound it yet. -/
def dropFor (s : State) (rx : RxFrame) (h : Hdr) (slot : Option Nat) (r : Reason) (detail avail : Nat) : State :=
  let p := rx.port.val
  let s := countReason s p slot h r
  let s := if reasonNacked r then sendNack s p h true (reasonCode r) detail h.seq avail else s
  let s := traceFrame s ⟨p, false, rx.hdr, 64 + rx.payload.length, some (reasonCode r)⟩
  let named := slot.orElse (fun _ => openSlotOf s h.job)
  let slots := match named with
    | some i => [i]
    | none => slotsOfPort s p
  if (getPort s p).cfg.trunk then trunkPenalty s p named slots h r
  else
    match memberSymptom r with
    | none => s
    | some sy => portIncident s p slots sy (reasonCode r) false

/-! ### Sequence checks and recovery (R364, R365) -/

/-- Recovery begins or goes on: the frame is discarded, and one NACK REPLAY opens each episode. More than 16 episodes in one
window [k ms, (k + 1) ms) make an incident of symptom FRAME_CRC (R374). -/
def recoverFrame (s : State) (rx : RxFrame) (h : Hdr) (sound : Bool) : State :=
  let p := rx.port.val
  let s := traceFrame s ⟨p, false, rx.hdr, 64 + rx.payload.length, some 0x01⟩
  let s := modCnt s p (fun k => { k with recoveryDiscards := inc32 k.recoveryDiscards })
  let q := getPort s p
  if q.rx.inRecovery then s
  else
    let w := s.time / msNs 1
    let n := if q.rx.recWindow = w then q.rx.recInWindow + 1 else 1
    let s := modRx s p (fun r => { r with inRecovery := true, recWindow := w, recInWindow := n })
    let s := modCnt s p (fun k => { k with recoveries := inc32 k.recoveries })
    let s := sendNack s p h sound 0x01 0 q.rx.expSeq 0
    if n = 17 then portIncident s p (slotsOfPort s p) syFrameCrc 0x01 q.cfg.trunk else s

/-- How SEQ stands to the expected value (R364, R365), modulo 2^32. -/
inductive SeqCheck where
  | expected | above | below
  deriving DecidableEq, Repr

/-- SEQ judged. -/
def seqCheck (exp seq : Nat) : SeqCheck :=
  let d := (seq + 2 ^ 32 - exp) % 2 ^ 32
  if d = 0 then .expected else if d < 2 ^ 31 then .above else .below

/-- Check 2 of R373: the DETAIL of the first test that fails, if any. -/
def protocolDetail (h : Hdr) (payloadLen : Nat) : Option Nat :=
  if h.ver != 1 then some 0x01
  else if (classOfType h.typ).isNone then some 0x03
  else if classOfType h.typ != some h.cls then some 0x04
  else if !formatAllowed h then some 0x08
  else if !unusedZero h then some 0x02
  else if !(lengthAllowed h && h.len == payloadLen) then some 0x05
  else none

/-- What check 3 of R373 answers. -/
inductive AddrCheck where
  | good | badDest | badSrc | badType
  deriving DecidableEq, Repr

/-- Check 3 of R373 (R357): DST names this device and port, SRC the endpoint learned at HELLO, and TYPE may come from the role. -/
def addrCheck (s : State) (p : Nat) (h : Hdr) : AddrCheck :=
  let q := getPort s p
  let self := endpointId (selfId s) p
  if h.dst != self then .badDest
  else if h.src != (if q.cfg.trunk then q.peer.toNat else self) then .badSrc
  else if !typeAllowed h.typ q.cfg.trunk then .badType
  else .good

/-- The image units that a GATHER asks for (R109, R320). -/
def gatherUnits (format chunks : Nat) : Nat :=
  match chunkImageBytes format with
  | none => 0
  | some b => chunks * unitsOf b

/-- Hop credits that a sender still holds for a class, as the receiver counts them (R321, R361). -/
def hopAvail (q : Port) (c : Nat) : Nat :=
  if c = 3 then natAt q.rx.inUse 3 else natAt q.cfg.rxCredits c - natAt q.rx.inUse c

/-- Check 4 of R373 (R320, R321): hop credits, and a member's C3 grant for a GATHER. -/
def creditCheck (q : Port) (h : Hdr) (units : Nat) : Bool :=
  let outstanding := (q.rx.gathers.map (fun g => g.units)).foldl (· + ·) 0
  units ≤ hopAvail q h.cls
    && (!(h.typ == tGather && !q.cfg.trunk) || outstanding + gatherUnits h.format (hGatherChunks h) ≤ natAt q.tx.hop 3)

/-- Whether a member port is expelled from a slot (R296). -/
def portExpelled (s : State) (i p : Nat) : Bool :=
  !(getPort s p).cfg.trunk && (subjectOf (getSlot s i) 0 (endpointId (selfId s) p)).st == 2

/-- Whether an ACCUMULATE must be a T1 partial (R80, R224): its bucket has THIN and the segment from the device upstream is
thinned. -/
def thinSegmentIn (v : GroupVer) (b : BitVec 256) : Bool :=
  let up := if bitOf b.toNat 128 then geSelf v else ringPrev v (geSelf v)
  bitOf b.toNat 129 && groupThin v up

/-- Check 11 of R373: whether a payload is well formed. -/
def payloadGood (sl : Slot) (h : Hdr) (payload : Bytes) : Bool :=
  if h.typ = tContribute then h.format != 0x9 || !t1Malformed payload
  else if h.typ = tAccumulate then
    let part := hAccPart h
    let thin : Option Bool := match tget? sl.buckets h.bucket with
      | none => none
      | some b => (stepGroup sl (bitsOf b.desc.toNat 96 14)).map (fun v => thinSegmentIn v b.desc)
    let kindOk := match thin with
      | none => true
      | some t => t == (h.format == 0x9)
    part != 3 && kindOk &&
      (if h.format = 0x9 then part == 0 && !t1Malformed payload
       else
         (if part = 0 then 128 ≤ h.len && h.len ≤ 16384 else 64 ≤ h.len && h.len ≤ 8256)
           && (part != 2 || bitsOf h.ts 0 98 == 0)
           && (kerfDecode (if part = 0 then 64 else 32) payload).isSome)
  else true

/-- A class frame taken in: SEQ advances and an acknowledgment is owed (R364). -/
def advanceSeq (s : State) (p : Nat) : State :=
  modRx s p (fun r => { r with expSeq := (r.expSeq + 1) % 2 ^ 32, inRecovery := false, ackOwed := true })

/-- Credits of a frame taken past check 4: hop credits, or a grant for a DELIVER (R320, R321). -/
def spendHop (s : State) (p c units : Nat) : State :=
  if c = 3 then modRx s p (fun r => { r with inUse := modAt r.inUse 3 (fun n => n - units) }) else takeHop s p c units

/-- Credits of a frame dropped before it was charged to a slot, returned (R319). -/
def refundHop (s : State) (p c units : Nat) : State := if c = 3 then s else owePort s p c units

/-- A frame dropped by checks 5 to 8: SEQ advanced, credits returned. -/
def dropEarly (s : State) (rx : RxFrame) (h : Hdr) (units : Nat) (slot : Option Nat) (r : Reason) (detail avail : Nat) : State :=
  let p := rx.port.val
  let s := refundHop (spendHop (advanceSeq s p) p h.cls units) p h.cls units
  dropFor s rx h slot r detail avail

/-- The chain of a frame that the device has finished with (R319); a DELIVER has none. -/
def finishChain (s : State) (p i : Nat) (h : Hdr) (units : Nat) : State :=
  if h.cls = 3 then s else releaseChain s p i h.cls units

/-- A frame dropped after it was charged to its slot (checks 10 to 12). -/
def dropLate (s : State) (rx : RxFrame) (h : Hdr) (i : Nat) (r : Reason) : State :=
  let s := finishChain s rx.port.val i h (unitsOf rx.payload.length)
  dropFor s rx h (some i) r 0 0

/-- Checks 1 to 3 of R373 on a class frame: none when it fails one, with the state that the failure leaves. -/
def headCheck (s : State) (rx : RxFrame) : Option Hdr × State :=
  let p := rx.port.val
  let h := hdrDecode rx.hdr
  if !(getPort s p).up then (none, s)
  else if rx.hdrBad || !hcrcOk rx.hdr then (none, recoverFrame s rx h false)
  else
    match seqCheck (getPort s p).rx.expSeq h.seq with
    | .above => (none, recoverFrame s rx h true)
    | .below => (none, dropFor s rx h none .dupSeq 0 0)
    | .expected =>
      match protocolDetail h rx.payload.length with
      | some d => (none, dropFor s rx h none .protocol d 0)
      | none =>
        match addrCheck s p h with
        | .badDest => (none, dropFor s rx h none .badDest 0 0)
        | .badSrc => (none, dropFor s rx h none .protocol 0x07 0)
        | .badType => (none, dropFor s rx h none .protocol 0x06 0)
        | .good => (some h, s)

/-- Checks 4 to 11 of R373: the slot of a frame that passes them, charged with its chain. -/
def bodyCheck (s : State) (rx : RxFrame) (h : Hdr) : Option Nat × State :=
  let p := rx.port.val
  let units := unitsOf rx.payload.length
  let q := getPort s p
  let s := modCls s p h.cls (fun k => { k with framesRx := inc32 k.framesRx, marksRx := if h.mark then inc32 k.marksRx else k.marksRx })
  if !creditCheck q h units then
    (none, dropFor (advanceSeq s p) rx h none .credit 0 (hopAvail q h.cls))
  else
    match slotOfJob s h.job with
    | none => (none, dropEarly s rx h units none .unknownJob 0 0)
    | some i =>
      let sl := getSlot s i
      let source := portSource s p
      let used := tget 0 sl.winRx (winKey source h.cls)
      if h.gen != sl.gen || sl.st == .draining then (none, dropEarly s rx h units (some i) .staleGen 0 0)
      else if portExpelled s i p then (none, dropEarly s rx h units (some i) .expelled 0 0)
      else if windowed h.cls && windowOf sl h.cls < used + units then
        (none, dropEarly s rx h units (some i) .credit 0x01 (windowOf sl h.cls - used))
      else if rx.payBad then (none, recoverFrame s rx h true)
      else
        let s := spendHop (advanceSeq s p) p h.cls units
        let s := if h.cls = 3 then s else chargeChain s i source h.cls units
        if q.dropSlots.any (fun e => e.1 == i) then
          let s := modCnt s p (fun k => { k with rehearsalDrops := inc32 k.rehearsalDrops })
          (none, finishChain s p i h units)
        else if rx.fcs != fcsOf rx.payload then (none, dropLate s rx h i .badCrc)
        else if !payloadGood sl h rx.payload then (none, dropLate s rx h i .malformed)
        else (some i, traceFrame s ⟨p, false, rx.hdr, 64 + rx.payload.length, none⟩)

/-- A class frame of a type admitted through checks 1 to 11 of R373: its header and slot, or none with the state that the failed
check leaves. A frame of another type is none of this command's. -/
def admitFrame (typ : Nat) (s : State) (rx : RxFrame) : Option (Hdr × Nat) × State :=
  if (hdrDecode rx.hdr).typ != typ then (none, s)
  else
    match headCheck s rx with
    | (none, s) => (none, s)
    | (some h, s) =>
      match bodyCheck s rx h with
      | (none, s) => (none, s)
      | (some i, s) => (some (h, i), s)

/-- A link frame admitted (R367, R372): LSEQ in order, header sound, checks 2 and 3 of R373. LACK frees what it covers. A bare CREDIT
carries no LSEQ. -/
def admitLink (typ : Nat) (s : State) (rx : RxFrame) : Option Hdr × State :=
  let p := rx.port.val
  let h := hdrDecode rx.hdr
  if h.typ != typ || !(getPort s p).helloSent then (none, s)
  else if rx.hdrBad || !hcrcOk rx.hdr || rx.payBad || rx.fcs != fcsOf rx.payload then (none, s)
  else
    let bare := h.seq == 0xFFFFFFFF
    if !bare && h.seq != (getPort s p).rx.expLseq then (none, s)
    else
      let s := modRx s p (fun r => if bare then r else { r with expLseq := (r.expLseq + 1) % 2 ^ 32, linkAckOwed := true })
      let s := modTx s p (fun t => { t with
        linkUnacked := t.linkUnacked.filter (fun f => seqCheck h.lack f.h.seq != .below) })
      match protocolDetail h rx.payload.length with
      | some d => (none, dropFor s rx h none .protocol d 0)
      | none =>
        let hello := h.typ == tLinkCtrl && hLinkKind h ≤ 2
        let q := getPort s p
        let self := endpointId (selfId s) p
        if hello && (h.dst == self || h.dst == 0 || !q.helloRx) then
          (some h, traceFrame s ⟨p, false, rx.hdr, 64 + rx.payload.length, none⟩)
        else
          match addrCheck s p h with
          | .badDest => (none, dropFor s rx h none .badDest 0 0)
          | .badSrc => (none, dropFor s rx h none .protocol 0x07 0)
          | .badType => (none, dropFor s rx h none .protocol 0x06 0)
          | .good => (some h, traceFrame s ⟨p, false, rx.hdr, 64 + rx.payload.length, none⟩)

/-- CORRUPT_FRAME (R365, R373): a frame that fails one of checks 1 to 3, or whose payload codewords are uncorrectable, is handled
under R365 and R374; any other frame is none of this command's. -/
def effCorruptFrame (rx : RxFrame) (s : State) : State :=
  let h := hdrDecode rx.hdr
  if h.cls = 7 && !rx.hdrBad && hcrcOk rx.hdr then s
  else
    match headCheck s rx with
    | (none, s) => s
    | (some h, s) => if rx.payBad then (bodyCheck s rx h).2 else s

/-- Meaning of CORRUPT_FRAME. -/
def execCorruptFrame (rx : RxFrame) (s : State) : Out := .next (effCorruptFrame rx s)

end Sys2Proof.Machine
end

