-- ==== Sys2Proof/Machine/Watch.lean ====
section
/-! DEFINITION. Numeric-watch events (R217 to R221) and the numeric flag word (R43). -/

namespace Sys2Proof.Machine

/-- The fields of a numeric-watch record (R219). -/
structure WatchInfo where
  kind : Nat
  count : Nat
  index : Nat
  pc : Nat
  block : Nat
  bits : Nat
  cycle : Nat
  tag : Nat
  segment : Nat
  aValue : Nat
  bValue : Nat
  deriving DecidableEq, Repr

/-- A record with only its kind. -/
def watchKind (kind : Nat) : WatchInfo := ⟨kind, 0, 0, 0, 0, 0, 0, 0, 0, 0, 0⟩

/-- The record of a slot (R219). -/
def watchRecord (sl : Slot) (x : WatchInfo) : BitVec 384 :=
  BitVec.ofNat 384 (packFields [(8, x.kind), (8, sl.step.attempt), (16, sl.ob.jobId), (32, sl.step.num), (16, x.count), (16, 0),
    (44, x.index), (4, 0), (32, x.pc), (8, x.block), (8, x.bits), (24, x.cycle), (8, x.tag), (32, x.segment), (32, x.aValue),
    (64, x.bValue), (32, 0)])

/-- A record posted, or suppressed past the 64th of the attempt (R218). -/
def postWatch (s : State) (i : Nat) (r : BitVec 384) : State :=
  if (getSlot s i).watch.posted < 64 then
    let s := modSlot s i (fun sl => { sl with watch := { sl.watch with posted := sl.watch.posted + 1 } })
    postEvent s evNumericWatch i (leBytes 48 r.toNat)
  else modSlot s i (fun sl => { sl with watch := { sl.watch with suppressed := inc32 sl.watch.suppressed } })

/-- Numeric flags set in a slot (R43), with a FLAGS event for the bits of the watch mask that become set (R217). -/
def setFlags (s : State) (i : Nat) (f : NFlags) : State :=
  let sl := getSlot s i
  let fresh := f &&& ~~~ sl.flags
  let s := modSlot s i (fun sl => { sl with flags := sl.flags ||| f })
  let seen := fresh &&& BitVec.ofNat 7 sl.ob.watchMask
  if seen = 0 then s else postWatch s i (watchRecord sl { watchKind 2 with bits := seen.toNat })

/-- A CHUNK_EXCEPTION event where the mask asks for it (R217): overflow risk and non-finite. -/
def watchChunk (s : State) (i g : Nat) (risk nonFinite : Bool) : State :=
  let sl := getSlot s i
  if (risk || nonFinite) && bitOf sl.ob.watchMask 8 then
    postWatch s i (watchRecord sl { watchKind 3 with index := 1024 * g, bits := b2n risk + 2 * b2n nonFinite })
  else s

/-- A SUM_EXCEPTION event where the mask asks for it (R217). -/
def watchSum (s : State) (i tag pc segment : Nat) (risk nonFinite : Bool) : State :=
  let sl := getSlot s i
  if (risk || nonFinite) && bitOf sl.ob.watchMask 9 then
    postWatch s i (watchRecord sl { watchKind 4 with
      pc := pc, segment := segment, tag := tag, bits := b2n risk + 2 * b2n nonFinite })
  else s

end Sys2Proof.Machine
end

