-- ==== Sys2Proof/Machine/Reduce.lean ====
section
/-! DEFINITION. Buckets and chunks: placing on the grid, completing, sending partials, rounding at the owner, tokens (R58 to R97);
the operations that the reduction commands and the cadence engine share. -/

namespace Sys2Proof.Machine

/-! ### Bucket descriptors (R61) -/

/-- A field of a bucket descriptor. -/
def bdField (d : BitVec 256) (lo w : Nat) : Nat := bitsOf d.toNat lo w
/-- BUCKET. -/
def bdBucket (d : BitVec 256) : Nat := bdField d 0 16
/-- BASE. -/
def bdBase (d : BitVec 256) : Nat := bdField d 16 44
/-- CHUNKS. -/
def bdChunks (d : BitVec 256) : Nat := bdField d 64 17
/-- GROUP. -/
def bdGroup (d : BitVec 256) : Nat := bdField d 96 14
/-- WMODE: 0 ANNOUNCED, 1 HELD, 2 FIXED. -/
def bdMode (d : BitVec 256) : Nat := bdField d 110 2
/-- EMAX_FIXED, signed. -/
def bdEmaxFixed (d : BitVec 256) : Int := toSigned 16 (bdField d 112 16)
/-- DIR. -/
def bdDir (d : BitVec 256) : Bool := bdField d 128 1 == 1
/-- THIN. -/
def bdThin (d : BitVec 256) : Bool := bdField d 129 1 == 1
/-- HELD_QUOTA. -/
def bdHeldQuota (d : BitVec 256) : Nat := bdField d 144 16
/-- DEADLINE in µs. -/
def bdDeadline (d : BitVec 256) : Nat := bdField d 160 32
/-- The global index of chunk j (R58). -/
def bdChunkIndex (d : BitVec 256) (j : Nat) : Nat := bdBase d / 1024 + j

/-- A bucket as it stands when its first frame finds it: no bucket is armed. -/
def bucketInit : Bucket := ⟨0, none, [], [], false, 0, 0, 0, false, true, 0, 0, 0, 0, 0, 0, 0, none⟩

/-- A chunk as arming makes it (R72). -/
def chunkInit (st : ChunkSt) : Chunk :=
  ⟨st, 0, false, false, [], 0, 0, 0, false, false, [], [], 0, false, false, false, [], [], []⟩

/-- The group version that a bucket uses (R230). -/
def bucketGroup (sl : Slot) (b : Bucket) : Option GroupVer := stepGroup sl (bdGroup b.desc)

/-- The next device of the ring in a bucket's direction, by position (R79). -/
def ringDown (v : GroupVer) (dir : Bool) (i : Nat) : Nat := if dir then ringPrev v i else ringNext v i

/-- The device upstream in a bucket's direction, by position (R79). -/
def ringUp (v : GroupVer) (dir : Bool) (i : Nat) : Nat := if dir then ringNext v i else ringPrev v i

/-- Whether this device is the ring origin of a bucket's chunks, whose owner is one device (R59, R79). -/
def isOrigin (sl : Slot) (b : Bucket) : Bool :=
  match bucketGroup sl b, ownerOf sl (bdChunkIndex b.desc 0) with
  | some v, some o =>
    match groupPos v o with
    | some k => ringDown v (bdDir b.desc) k == geSelf v
    | none => false
  | some _, none => false
  | none, some _ => false
  | none, none => false

/-- Whether this device owns a bucket's chunks. -/
def isOwner (s : State) (sl : Slot) (b : Bucket) : Bool := ownerOf sl (bdChunkIndex b.desc 0) == some (selfId s)

/-- Whether every bit of a chunk's expected set is set (R64, R72). -/
def chunkFull (sl : Slot) (b : Bucket) (c : Chunk) : Bool :=
  let ports := ((bucketGroup sl b).map groupPorts).getD []
  ports.all c.bitmap.testBit && (isOrigin sl b || (c.ua && c.ub))

/-- The tile of a chunk (R60), by the interleave of R413. -/
def tileOfChunk (g : Nat) : Nat :=
  bitsOf g 0 7 ^^^ bitsOf g 7 7 ^^^ bitsOf g 14 7 ^^^ bitsOf g 21 7 ^^^ bitsOf g 28 6 ^^^ 0x23

/-- Whether chunk j's line lies in the spill area (R63, R329). -/
def chunkSpilled (s : State) (b : Bucket) (j : Nat) : Bool :=
  b.sramLines ≤ j || s.fab.sliceOut.contains (tileOfChunk (bdChunkIndex b.desc j))

/-- A chunk of a bucket changed. -/
def modChunk (s : State) (i b j : Nat) (f : Chunk → Chunk) : State :=
  modBucket s i b (fun x =>
    match tget? x.chunks j with
    | none => x
    | some c => { x with chunks := tset x.chunks j (f c) })

/-- A chunk of a bucket, if armed. -/
def getChunk (sl : Slot) (b j : Nat) : Option (Bucket × Chunk) :=
  match tget? sl.buckets b with
  | none => none
  | some x => (tget? x.chunks j).map (fun c => (x, c))

/-! ### Placing (R52, R70, R71, R75) -/

/-- The words of a line; an untouched line is zero. -/
def lineWords (l : List W128) : List W128 := if l.isEmpty then List.replicate 1024 0 else l

/-- A line with one addend added to each element (R71, R81). -/
def lineAdd (l : List W128) (gs : List Int) : List W128 := ((lineWords l).zip gs).map (fun e => w128Add e.1 e.2)

/-- The elements of a line from `at_` on with addends added. -/
def lineAddAt (l : List W128) (at_ : Nat) (gs : List Int) : List W128 :=
  let l := lineWords l
  l.take at_ ++ ((l.drop at_).zip gs).map (fun e => w128Add e.1 e.2) ++ l.drop (at_ + gs.length)

/-- What placing an image does: addends, counts and marks (R52, R75). -/
structure PlacedImage where
  grids : List Int
  floorHits : Nat
  clamps : Nat
  overWin : Bool
  nonFinite : Bool
  flags : NFlags
  deriving DecidableEq, Repr

/-- A chunk image decoded and placed on the grid of Emax (R56, R71); a signalling NaN raises NUM_INVALID (R41, R43). -/
def placeImage (flush : Bool) (emax : Int) (format : Nat) (img : Bytes) : PlacedImage :=
  let base := windowBase emax
  let vs := (List.range 1024).map (chunkElement format flush img)
  let ps := vs.map (fun v => placeVal base v.1)
  { grids := ps.map (fun p => p.grid)
    floorHits := (ps.filter (fun p => p.floorHit)).length
    clamps := (ps.filter (fun p => p.clamped)).length
    overWin := vs.any (fun v => match expOf v.1 with
      | some e => emax < e
      | none => false)
    nonFinite := ps.any (fun p => p.nonFinite)
    flags := nfJoin (vs.map (fun v => v.2 ||| sigFlag v.1)) }

/-- A contribution added into its chunk (R71, R75). -/
def addContribution (flush : Bool) (emax : Int) (format : Nat) (img : Bytes) (c : Chunk) : Chunk × NFlags :=
  let p := placeImage flush emax format img
  ({ c with line := lineAdd c.line p.grids
            floorHits := satAdd 32 c.floorHits p.floorHits
            clamps := satAdd 32 c.clamps p.clamps
            contributors := satAdd 32 c.contributors 1
            overWin := c.overWin || p.overWin
            nonFinite := c.nonFinite || p.nonFinite }, p.flags)

/-- One record of the arrival digest (R93). -/
def recordArrival (s : State) (i b p j : Nat) : State :=
  let r := leBytes 8 (packFields [(16, p), (16, j), (32, s.time)])
  modBucket s i b (fun x => { x with arrival := some (match x.arrival with
    | none => crc64 r
    | some c => crc64More c r) })

/-- A contribution placed in an OPEN chunk. -/
def placeContribution (s : State) (i b j : Nat) (emax : Int) (format : Nat) (img : Bytes) : State :=
  let flush := (getSlot s i).ob.flush
  match getChunk (getSlot s i) b j with
  | none => s
  | some (_, c) =>
    let r := addContribution flush emax format img c
    setFlags (modChunk s i b j (fun _ => r.1)) i r.2

/-! ### The window becomes known (R65 to R68, R72) -/

/-- The member ports that a bucket's WINDOW frames go to. -/
def bucketPorts (sl : Slot) (b : Bucket) : List Nat := ((bucketGroup sl b).map groupPorts).getD []

/-- A WINDOW frame of kind ARMED or ANSWER on a member port (R356, R368). -/
def sendWindow (s : State) (i p : Nat) (d : BitVec 256) (wkind : Nat) (emax : Int) : State :=
  let h := { slotHdr s p i tWindow 0 with
    group := bdGroup d, bucket := bdBucket d, window := ofSigned 16 emax, ts := wkind + bdMode d * 4 }
  queueClass s p ⟨h, [], 0, [], i, tileOfPort p, 0, 0, false⟩

/-- WINDOW frames to every member port of a bucket. -/
def sendWindows (s : State) (i : Nat) (b : Bucket) (wkind : Nat) (emax : Int) : State :=
  (bucketPorts (getSlot s i) b).foldl (fun s p => sendWindow s i p b.desc wkind emax) s

/-- A chunk's parked contributions placed, their chains released as each is placed (R72). -/
def placeParked (s : State) (i b j : Nat) (emax : Int) : State :=
  match getChunk (getSlot s i) b j with
  | none => s
  | some (_, c) =>
    let s := c.parked.foldl (fun s k =>
      releaseChain (placeContribution s i b j emax k.format k.payload) k.port i 1 k.units) s
    modChunk s i b j (fun c => { c with parked := [], st := if c.st == .armed then .open_ else c.st })

/-- Emax known for a bucket (R65, R68, R72): chunks go to OPEN, parked contributions are placed and members are answered. -/
def openBucket (s : State) (i b : Nat) (emax : Int) : State :=
  match tget? (getSlot s i).buckets b with
  | none => s
  | some x =>
    if x.abandoned || x.emax.isSome then s
    else
      let s := modBucket s i b (fun x => { x with emax := some emax, parkedUnits := 0 })
      let s := (x.chunks.map Prod.fst).foldl (fun s j => placeParked s i b j emax) s
      sendWindows s i x 2 emax

/-! ### Tokens (R90, R145) -/

/-- A token posted (R145). -/
def postToken (s : State) (i : Nat) (t : Token) : State :=
  modSlot s i (fun sl => { sl with tokens := if sl.tokens.contains t then sl.tokens else sl.tokens ++ [t] })

/-- Whether a chunk is SENDING, ROUNDED or RELEASED (R78, R90). -/
def chunkDone (c : Chunk) : Bool := c.st == .sending || c.st == .rounded || c.st == .released

/-- Whether a bucket is DONE or RELEASED on this device (R78). -/
def bucketDone (b : Bucket) : Bool := !b.abandoned && b.chunks.all (fun e => chunkDone e.2)

/-- The bucket-complete token posted once, when its last chunk leaves OPEN (R90). -/
def checkBucketToken (s : State) (i b : Nat) : State :=
  match tget? (getSlot s i).buckets b with
  | none => s
  | some x =>
    if bucketDone x && !x.tokenPosted then
      postToken (modBucket s i b (fun x => { x with tokenPosted := true })) i (.bucket b)
    else s

/-- A chunk RELEASED (R72): chunk-done bit set, line zeroed and freed. -/
def releaseChunk (s : State) (i b j : Nat) : State :=
  modChunk s i b j (fun c => { c with st := .released, line := [], parts := [], resend := [] })

/-! ### Segment digests (R93, R254) -/

/-- The digest of a ring port before any partial. -/
def segInit : SegPort := ⟨0, 0, 0, 0, 0, false, false, none, false⟩

/-- A ring port's record changed. -/
def modSeg (s : State) (i p : Nat) (f : SegPort → SegPort) : State :=
  modSlot s i (fun sl => { sl with step := { sl.step with ringPorts := tmod segInit sl.step.ringPorts p f } })

/-! ### Sending a partial (R80 to R87) -/

/-- The trunk port on which a chunk's partial leaves (R80). -/
def partialPort (sl : Slot) (b : Bucket) (g : Nat) : Option Nat :=
  match bucketGroup sl b with
  | none => none
  | some v =>
    let t := groupTrunk v (groupDevAt v (ringDown v (bdDir b.desc) (geSelf v)))
    if t.isEmpty then none else t[g % t.length]?

/-- Whether this device sends a bucket's partials as T1 (R80, R86, R224). -/
def sendsThin (sl : Slot) (b : Bucket) : Bool :=
  match bucketGroup sl b with
  | none => false
  | some v => bdThin b.desc && groupThin v (if bdDir b.desc then ringPrev v (geSelf v) else geSelf v)

/-- The header of a partial (R355, R356). -/
def partialHdr (s : State) (i p : Nat) (b : Bucket) (j : Nat) (c : Chunk) (format part len : Nat) : Hdr :=
  let emax := b.emax.getD expZero
  let ts := if part = 2 then 2 * 2 ^ 98
    else packFields [(32, c.floorHits), (32, c.clamps), (32, c.contributors), (1, b2n c.overWin), (1, b2n c.nonFinite), (2, part)]
  { slotHdr s p i tAccumulate 2 with
    group := bdGroup b.desc, bucket := bdBucket b.desc, chunk := j, format := format, window := ofSigned 16 emax, ts := ts,
    len := len }

/-- The pieces of a partial by PART: one whole, or two halves when the whole exceeds 16,384 bytes (R85). -/
def partialPieces (line : List W128) : List (Nat × Bytes) :=
  let xs := (lineWords line).map (fun w => w.toInt)
  let whole := kerfEncode xs
  if whole.length ≤ 16384 then [(0, whole)] else [(1, kerfEncode (xs.take 512)), (2, kerfEncode (xs.drop 512))]

/-- The error-memory words that step s reads for a chunk (R87): copy (s + 1) mod 2. -/
def ememIn (sl : Slot) (g : Nat) : List W32 :=
  let t := if (sl.step.num + 1) % 2 = 0 then sl.shard.emem0 else sl.shard.emem1
  (List.range 1024).map (fun k => tget 0 t (g * 1024 + k))

/-- The words of a table from a key on, zeros left out. -/
def putWords (t : Tbl W32) (k : Nat) (ws : List W32) : Tbl W32 :=
  (ws.zip (List.range ws.length)).foldl (fun t e => if e.1 = 0 then terase t (k + e.2) else tset t (k + e.2) e.1) t

/-- The error-memory words that step s writes for a chunk (R87): copy s mod 2. -/
def ememOut (sl : Slot) (g : Nat) (ws : List W32) : Slot :=
  if sl.step.num % 2 = 0 then { sl with shard := { sl.shard with emem0 := putWords sl.shard.emem0 (g * 1024) ws } }
  else { sl with shard := { sl.shard with emem1 := putWords sl.shard.emem1 (g * 1024) ws } }

/-- The port of the PARTNER trunk for a chunk (R308). -/
def partnerPort (s : State) (dev g : Nat) : Option Nat :=
  let t := trunkTo s dev
  if t.isEmpty then none else t[g % t.length]?

/-- A STATE frame of a row kind to a device of the tandem (R308, R356), with the buffer it was formed in. -/
def sendState (s : State) (i dev kind plane g step attempt : Nat) (payload : Bytes) (bufs : List Nat) : State :=
  match partnerPort s dev g with
  | none => bufs.foldl (fun s b => releaseBuf s b (ownerState i)) s
  | some p =>
    let h := { slotHdr s p i tState 4 with
      step := step, attempt := attempt, len := payload.length, ts := kind + plane * 16 + g * 256 }
    let s := bufs.foldl (fun s b => handBuf s b (ownerPort p)) s
    queueClass s p ⟨h, payload, fcsOf payload, bufs, i, tileOfChunk g, 0, 0, false⟩

/-- A partial's frames queued on their port, each with the buffer granted for it. -/
def queuePartial (s : State) (i j p : Nat) (x : Bucket) (c : Chunk) (format : Nat) (pieces : List (Nat × Bytes × Nat)) : State :=
  pieces.foldl (fun s e =>
    let h := partialHdr s i p x j c format e.1 e.2.1.length
    let s := handBuf s e.2.2 (ownerPort p)
    queueClass s p ⟨h, e.2.1, fcsOf e.2.1, [e.2.2], i, tileOfChunk (bdChunkIndex x.desc j), 0, 0, false⟩) s

/-- Buffers for several payloads in one request each (R340); on the first failure those already granted go back. -/
def requestAll (s : State) (tile i c owner : Nat) : List (Nat × Bytes) → Option (List (Nat × Bytes × Nat)) × State
  | [] => (some [], s)
  | (k, bs) :: rest =>
    match poolRequest s tile i c bs.length owner with
    | (.ok b, s) =>
      match requestAll s tile i c owner rest with
      | (some l, s) => (some ((k, bs, b) :: l), s)
      | (none, s) => (none, releaseBuf s b owner)
    | (.quota, s) => (none, s)
    | (.empty, s) => (none, s)

/-- The error memory of a thinned chunk written, and its row sent to the partner (R86, R87). -/
def writeEmem (s : State) (i b g : Nat) (bs : List T1Block) : State :=
  let ws := (bs.map (fun k => k.mem)).flatten
  let s := modSlot s i (fun sl => { ememOut sl g ws with
    step := { (ememOut sl g ws).step with ememRows := inc32 sl.step.ememRows } })
  let hits := (bs.map (fun k => k.floorHits)).foldl (· + ·) 0
  let s := modBucket s i b (fun x => { x with floorHits := satAdd 32 x.floorHits hits })
  let sl := getSlot s i
  match sl.tan.partner with
  | none => s
  | some d => sendState s i d kEmem 0 g sl.step.num sl.step.attempt (bytesOfWords 4 (ws.map BitVec.toNat)) []

/-- What a COMPLETE chunk that this device does not own sends (R80, R86): the format, the pieces by PART, the counters it carries,
and the T1 blocks. -/
def partialOf (sl : Slot) (b : Bucket) (j : Nat) (c : Chunk) : Nat × List (Nat × Bytes) × Chunk × List T1Block :=
  if sendsThin sl b then
    let base := windowBase (b.emax.getD expZero)
    let bs := t1Encode base sl.ob.flush ((lineWords c.line).map (fun w => w.toInt)) (ememIn sl (bdChunkIndex b.desc j))
    (0x9, [(0, t1Image bs)], { c with nonFinite := c.nonFinite || bs.any (fun k => k.nonFinite) }, bs)
  else (0xA, partialPieces c.line, c, [])

/-- A COMPLETE chunk sent downstream (R72, R80): buffers first, else the encoder waits (R343). -/
def trySendPartial (s : State) (i b j : Nat) : State :=
  let sl := getSlot s i
  match getChunk sl b j with
  | none => s
  | some (x, c) =>
    let g := bdChunkIndex x.desc j
    match partialPort sl x g with
    | none => s
    | some p =>
      if c.st != .complete || isOwner s sl x then s
      else
        let pt := partialOf sl x j c
        match requestAll s (tileOfChunk g) i 2 (ownerEncoder (tileOfChunk g)) pt.2.1 with
        | (none, s) => addWaiter s (.encoder i b j 0)
        | (some granted, s) =>
          let s := dropWaiter s (.encoder i b j 0) i 2
          let s := if pt.2.2.2.isEmpty then s else writeEmem s i b g pt.2.2.2
          let s := modChunk s i b j (fun c => { c with
            st := .sending, parts := pt.2.1.map Prod.fst, acked := [], nonFinite := pt.2.2.1.nonFinite })
          let s := queuePartial s i j p x pt.2.2.1 pt.1 granted
          let s := modSeg s i p (fun q => { q with sent := q.sent + pt.2.1.length })
          checkBucketToken s i b

/-- A partial's PART acknowledged (R72, R93): the sender's segment digest takes its CRC, and the chunk is RELEASED when every part
is. -/
def ackPartial (s : State) (i p : Nat) (h : Hdr) (payload : Bytes) : State :=
  match getChunk (getSlot s i) h.bucket h.chunk with
  | none => s
  | some (_, c) =>
    let part := hAccPart h
    if c.st != .sending || c.acked.contains part || h.step != (getSlot s i).step.num || h.attempt != (getSlot s i).step.attempt then s
    else
      let s := modSeg s i p (fun q => { q with sentAcked := q.sentAcked + 1, sentDigest := q.sentDigest ^^^ crc64 payload })
      let acked := part :: c.acked
      let s := modChunk s i h.bucket h.chunk (fun c => { c with acked := acked })
      if c.parts.all acked.contains then releaseChunk s i h.bucket h.chunk else s

/-! ### Rounding at the owner (R76, R77, R89, R90) -/

/-- The 1,024 results of a chunk, with the flags that the rounding sets (R76, R89). -/
def chunkResults (flush : Bool) (emax : Int) (c : Chunk) : List W32 × NFlags :=
  if c.nonFinite then (List.replicate 1024 0x7FC00000, nfNone)
  else
    let base := windowBase emax
    let rs := (lineWords c.line).map (fun w =>
      if w = 0 then (0, nfNone) else roundW128 w base fmtFp32 .rne 0 flush)
    (rs.map (fun r => BitVec.ofNat 32 r.1), nfJoin (rs.map Prod.snd))

/-- Whether a completed chunk is an overflow risk (R75). -/
def overflowRisk (c : Chunk) : Bool := 65536 < c.contributors || c.overWin

/-- A log entry (R77). -/
def logEntry (b j step : Nat) (c : Chunk) (spilled : Bool) : W128 :=
  BitVec.ofNat 128 (packFields [(16, b), (16, j), (32, step), (20, min c.floorHits 0xFFFFF), (20, min c.clamps 0xFFFFF),
    (1, b2n (overflowRisk c)), (1, b2n c.nonFinite), (1, b2n spilled)])

/-- An entry appended to the chunk exception log, or counted when the log is full (R77). -/
def logChunk (sl : Slot) (e : W128) : Slot :=
  if 65536 ≤ sl.log.length then { sl with logOverflow := inc32 sl.logOverflow } else { sl with log := sl.log ++ [e], logRing := tset sl.logRing (sl.logNext % 65536) e, logNext := sl.logNext + 1 }

/-- The STATE frame of a ROUNDED chunk formed for the partner, or its former made to wait (R90, R343). Without a partner nothing is
sent. -/
def trySendPending (s : State) (i b j : Nat) : State :=
  let sl := getSlot s i
  match getChunk sl b j with
  | none => s
  | some (x, c) =>
    if c.st != .rounded || c.stateSent then s
    else
      match sl.tan.partner with
      | none => modChunk s i b j (fun c => { c with stateSent := true, stateAcked := true })
      | some d =>
        let g := bdChunkIndex x.desc j
        match poolRequest s (tileOfChunk g) i 4 4096 (ownerState i) with
        | (.ok buf, s) =>
          let s := dropWaiter s (.stateFormer i b j) i 4
          let s := modChunk s i b j (fun c => { c with stateSent := true })
          sendState s i d kPending 0 g sl.step.num sl.step.attempt (bytesOfWords 4 (c.results.map BitVec.toNat)) [buf]
        | (.quota, s) => addWaiter s (.stateFormer i b j)
        | (.empty, s) => addWaiter s (.stateFormer i b j)

/-- The shipped rows that wait for buffers, sent in order as far as the pool grants them (R268, R343). -/
def trySendShips (s : State) (i : Nat) : Nat → State
  | 0 => dropWaiter s (.ship i) i 4
  | n + 1 =>
    let sl := getSlot s i
    match sl.tan.ships, sl.tan.partner with
    | [], _ => dropWaiter s (.ship i) i 4
    | _ :: _, none => modSlot s i (fun sl => { sl with tan := { sl.tan with ships := [] } })
    | x :: rest, some d =>
      match poolRequest s (tileOfChunk x.chunk) i 4 4096 (ownerState i) with
      | (.ok b, s) =>
        let s := sendState s i d kShip x.plane x.chunk x.step x.attempt x.bytes [b]
        trySendShips (modSlot s i (fun sl => { sl with tan := { sl.tan with ships := rest } })) i n
      | (.quota, s) => addWaiter s (.ship i)
      | (.empty, s) => addWaiter s (.ship i)

/-- A COMPLETE chunk rounded at its owner (R72, R75 to R77, R89, R93). -/
def roundChunk (s : State) (i b j : Nat) : State :=
  let sl := getSlot s i
  match getChunk sl b j with
  | none => s
  | some (x, c) =>
    if c.st != .complete || !isOwner s sl x then s
    else
      let r := chunkResults sl.ob.flush (x.emax.getD expZero) c
      let crc := crc64 (bytesOfWords 4 (r.1.map BitVec.toNat))
      let s := modChunk s i b j (fun c => { c with st := .rounded, results := r.1, crc := crc })
      let s := modBucket s i b (fun x => { x with
        floorHits := satAdd 32 x.floorHits c.floorHits
        clamps := satAdd 32 x.clamps c.clamps
        ovfRisk := satAdd 32 x.ovfRisk (b2n (overflowRisk c))
        nonfinite := satAdd 32 x.nonfinite (b2n c.nonFinite) })
      let s := setFlags s i r.2
      let s := modSlot s i (fun sl => { sl with step := { sl.step with roundedChunks := inc32 sl.step.roundedChunks } })
      let s := watchChunk s i (bdChunkIndex x.desc j) (overflowRisk c) c.nonFinite
      let noted := c.floorHits != 0 || c.clamps != 0 || c.overWin || c.nonFinite
      let s := if noted then modSlot s i (fun sl => logChunk sl (logEntry b j sl.step.num c (chunkSpilled s x j))) else s
      checkBucketToken (trySendPending s i b j) i b

/-- A ROUNDED chunk is RELEASED once its DRAIN has read it and the link has acknowledged its STATE frame (R72). -/
def settleRounded (s : State) (i b j : Nat) : State :=
  match getChunk (getSlot s i) b j with
  | none => s
  | some (_, c) => if c.st == .rounded && c.drainRead && c.stateAcked then releaseChunk s i b j else s

/-- The bucket and chunk of a global chunk index among the buckets armed in the step. -/
def chunkAt (sl : Slot) (g : Nat) : Option (Nat × Nat) :=
  (sl.buckets.find? (fun e => !e.2.abandoned && bdChunkIndex e.2.desc 0 ≤ g && g < bdChunkIndex e.2.desc 0 + bdChunks e.2.desc)).map
    (fun e => (e.1, g - bdChunkIndex e.2.desc 0))

/-- The bucket digest (R93): CRC-64 over the chunk CRCs in ascending order, once the bucket is DONE; 0 before. -/
def bucketDigest (s : State) (sl : Slot) (b : Bucket) : W64 :=
  if !bucketDone b then 0
  else if isOwner s sl b then crc64 ((b.chunks.map (fun e => leBytes 8 e.2.crc.toNat)).flatten)
  else
    let mirrored := sl.tan.mirrorOf.isSome && ownerOf sl (bdChunkIndex b.desc 0) == sl.tan.mirrorOf
    if mirrored then
      crc64 ((b.chunks.map (fun e => leBytes 8 (tget 0 sl.tan.pending (bdChunkIndex b.desc e.1)).toNat)).flatten)
    else 0

end Sys2Proof.Machine
end

