-- ==== Sys2Proof/Machine/Cadence.lean ====
section
/-! DEFINITION. The cadence engine: launching operations, combining partials up the cadence tree, results down it, failures
(R232 to R245), and the window rounds of buckets (R65, R66). -/

namespace Sys2Proof.Machine

/-! ### Opcodes and partials (R234) -/

/-- BARRIER. -/
def ocBarrier : Nat := 0x01
/-- MAX_I64. -/
def ocMax : Nat := 0x02
/-- MIN_I64. -/
def ocMin : Nat := 0x03
/-- SUM_I64. -/
def ocSum : Nat := 0x04
/-- AND_U64. -/
def ocAnd : Nat := 0x05
/-- OR_U64. -/
def ocOr : Nat := 0x06
/-- MAXEXP. -/
def ocMaxExp : Nat := 0x07
/-- SUM_F32. -/
def ocSumF32 : Nat := 0x08
/-- SUM_W128. -/
def ocSumW128 : Nat := 0x09
/-- WINDOW. -/
def ocWindow : Nat := 0x0A

/-- The kind of partial that an opcode and phase combine. -/
inductive PartKind where
  | none_ | word | exponent | sum
  deriving DecidableEq, Repr

/-- The kind of an opcode and phase (R234, R236). -/
def partKind (opc phase : Nat) : PartKind :=
  if opc = ocBarrier then .none_
  else if opc = ocMaxExp || opc = ocWindow then .exponent
  else if opc = ocSumF32 then (if phase = 0 then .exponent else .sum)
  else if opc = ocSumW128 then .sum
  else .word

/-- A partial that says nothing. -/
def partZero : CadPart := ⟨0, 0, expZero, 0, false, false, 0, 0⟩

/-- A 64-bit value. -/
def partWord (v : Nat) : CadPart := { partZero with v := v }

/-- An exponent with its flag. -/
def partExp (e : Int) (nonFinite : Bool) : CadPart := { partZero with emax := e, nonFinite := nonFinite }

/-- Two 64-bit values combined by an opcode (R234). -/
def combineWord (opc a b : Nat) : Nat :=
  if opc = ocMax then (if toSigned 64 a < toSigned 64 b then b else a)
  else if opc = ocMin then (if toSigned 64 b < toSigned 64 a then b else a)
  else if opc = ocSum then (a + b) % 2 ^ 64
  else if opc = ocAnd then a &&& b
  else a ||| b

/-- Two partials combined (R234). -/
def combinePart (opc phase : Nat) (a b : CadPart) : CadPart :=
  match partKind opc phase with
  | .none_ => partZero
  | .word => partWord (combineWord opc a.v b.v)
  | .exponent => partExp (max a.emax b.emax) (a.nonFinite || b.nonFinite)
  | .sum => { partZero with
      w := a.w + b.w
      emax := a.emax
      count := satAdd 64 a.count b.count
      overWin := a.overWin || b.overWin
      nonFinite := a.nonFinite || b.nonFinite }

/-- The bytes of a partial in a message (R236). -/
def partBytes (opc phase : Nat) (x : CadPart) : Bytes :=
  match partKind opc phase with
  | .none_ => []
  | .word => leBytes 8 x.v
  | .exponent => leBytes 3 (packFields [(16, ofSigned 16 x.emax), (1, b2n x.nonFinite)])
  | .sum => leBytes 27 (packFields [(128, x.w.toNat), (16, ofSigned 16 x.emax), (64, x.count), (1, b2n x.overWin),
      (1, b2n x.nonFinite)])

/-- A partial read from a message. -/
def partOfBytes (opc phase : Nat) (bs : Bytes) : CadPart :=
  let n := leNat bs
  match partKind opc phase with
  | .none_ => partZero
  | .word => partWord (bitsOf n 0 64)
  | .exponent => partExp (toSigned 16 (bitsOf n 0 16)) (bitOf n 16)
  | .sum => { partZero with
      w := BitVec.ofNat 128 n, emax := toSigned 16 (bitsOf n 128 16), count := bitsOf n 144 64,
      overWin := bitOf n 208, nonFinite := bitOf n 209 }

/-! ### Messages (R236) -/

/-- A cadence message. -/
structure CadMsg where
  typ : Nat
  window : Bool
  phase : Nat
  opc : Nat
  job : Nat
  group : Nat
  gen : Nat
  step : Nat
  attempt : Nat
  id : Nat
  payload : Bytes
  deriving DecidableEq, Repr

/-- A message read from a sequence's body. -/
def cadMsgOf (b : Bytes) : CadMsg :=
  let n := leNat (b.take 16)
  ⟨bitsOf n 0 4, bitOf n 4, bitsOf n 5 1, bitsOf n 8 8, bitsOf n 16 16, bitsOf n 32 14, bitsOf n 48 16, bitsOf n 64 32,
   bitsOf n 96 8, bitsOf n 112 16, b.drop 16⟩

/-- The body of a message. -/
def cadBody (m : CadMsg) : Bytes :=
  leBytes 16 (packFields [(4, m.typ), (1, b2n m.window), (1, m.phase), (2, 0), (8, m.opc), (16, m.job), (14, m.group), (2, 0),
    (16, m.gen), (32, m.step), (8, m.attempt), (8, 0), (16, m.id)]) ++ m.payload

/-- The K-symbol of a cadence message (R398). -/
def cadSymbol (opc : Nat) : Nat := if opc = ocBarrier then kBarrier else kCadence

/-- The message of a context at this device. -/
def ctxMsg (sl : Slot) (v : GroupVer) (x : CadCtx) (typ phase : Nat) (payload : Bytes) (step attempt : Nat) : CadMsg :=
  ⟨typ, x.window, phase, x.opc, sl.ob.jobId, geGroupId v, geGen v, step % 2 ^ 32, attempt, x.id, payload⟩

/-- The step and attempt that a slot's messages carry: a relay's are the newest it has seen (R239). -/
def cadStep (sl : Slot) (relay : Bool) : Nat × Nat :=
  if relay then (sl.step.relayStep, sl.step.relayAttempt) else (sl.step.num % 2 ^ 32, sl.step.attempt)

/-- The version of a group that an operation uses: the one bound to the step; a relay, which arms no step, uses the current one. -/
def cadGroup (sl : Slot) (gid : Nat) : Option GroupVer :=
  match tget? sl.groups gid with
  | none => none
  | some g => g.bound.orElse (fun _ => g.cur)

/-! ### Contexts -/

/-- Whether a context is of an identity (R235). -/
def ctxIs (group : Nat) (window : Bool) (id : Nat) (x : CadCtx) : Bool := x.group == group && x.window == window && x.id == id

/-- The open context of an identity, or the last finished one. -/
def findCtx (sl : Slot) (group : Nat) (window : Bool) (id : Nat) : Option CadCtx :=
  (sl.ctxs.find? (fun x => ctxIs group window id x && !x.done && !x.failed)).orElse
    (fun _ => sl.ctxs.find? (ctxIs group window id))

/-- A context written back, in place of the one of its identity. -/
def putCtx (s : State) (i : Nat) (x : CadCtx) : State :=
  modSlot s i (fun sl => { sl with ctxs := sl.ctxs.filter (fun y => !ctxIs x.group x.window x.id y) ++ [x] })

/-- The cadence record changed. -/
def modCad (s : State) (i : Nat) (f : CadRec → CadRec) : State := modSlot s i (fun sl => { sl with cadRec := f sl.cadRec })

/-- A message dropped (R239). -/
def cadDrop (s : State) (i : Nat) : State := modCad s i (fun r => { r with staleDropped := inc32 r.staleDropped })

/-- The lower of the two ends of a spoke link, as the suspect of kind 2 (R284): the lower device's ID with the link's number here
when this device is the lower. -/
def spokeSuspect (s : State) (link : Nat) : Nat :=
  let peer := (getSpoke s link).peer.toNat
  if selfId s ≤ peer then endpointId (selfId s) link else endpointId peer 0

/-- The failure of an operation (R240): recorded, sent on every tree link but the one it came from, and the step aborts. -/
def failOp (s : State) (i group : Nat) (window : Bool) (id opc cause : Nat) (from_ : Option Nat) (rs : List Accusation) : State :=
  let sl := getSlot s i
  let s := modSlot s i (fun sl => { sl with ctxs := sl.ctxs.map (fun x =>
    if ctxIs group window id x && !x.done then { x with failed := true } else x) })
  let r := sl.cadRec
  let s := if r.failCause = 0 then modCad s i (fun r => { r with
      failCause := cause, failOpc := opc, failGroup := group, failKind := window, failId := id }) else s
  match cadGroup sl group with
  | none => raiseAbort s i caCadence rs
  | some v =>
    let st := cadStep sl (geRelay v)
    let m : CadMsg := ⟨3, window, 0, opc, sl.ob.jobId, group, geGen v, st.1, st.2, id, leBytes 1 cause⟩
    let s := spokeSendAll s ((cadLinks v).filter (fun l => some l != from_)) (cadSymbol opc) (cadBody m)
    if geRelay v then s else raiseAbort s i caCadence rs

/-- A mismatch (R239): symptom HOST against the job's configuration (R285). -/
def failMismatch (s : State) (i : Nat) (m : CadMsg) : State :=
  failOp s i m.group m.window m.id m.opc 0x02 none [{ accJob syHost with detail := 0x02 }]

/-- The exact-sum record of a tag (R204). -/
def sumRecord (own res : CadPart) (step : Nat) : W128 :=
  BitVec.ofNat 128 (packFields [(32, own.floorHits), (32, own.clamps), (1, 1), (1, b2n (65536 < res.count || res.overWin)),
    (1, b2n res.nonFinite), (1, b2n own.overWin), (12, 0), (16, ofSigned 16 res.emax), (32, step)])

/-- The result entry of an operation (R201, R234), with the flags its rounding sets. -/
def resultEntry (flush : Bool) (opc : Nat) (x : CadPart) : Nat × NFlags :=
  match partKind opc 1 with
  | .none_ => (0, nfNone)
  | .word => (x.v, nfNone)
  | .exponent => (ofSigned 64 x.emax, nfNone)
  | .sum =>
    if x.nonFinite then (0x7FF8000000000000, nfNone)
    else if x.w = 0 then (0, nfNone)
    else roundW128 x.w (windowBase x.emax) fmtFp64 .rne 0 flush

/-- A result written at this device (R237, R201): a bucket's Emax, or the result entry of the tag with its token. -/
def writeResult (s : State) (i : Nat) (x : CadCtx) (res : CadPart) : State :=
  let s := putCtx s i { x with done := true }
  if x.relay then s
  else if x.window then
    let s := modCad s i (fun r => { r with rounds := inc32 r.rounds })
    openBucket s i x.id res.emax
  else
    let sl := getSlot s i
    let e := resultEntry sl.ob.flush x.opc res
    let own := x.own.getD partZero
    let tag := x.tag.getD 0
    let s := setFlags s i e.2
    let s := modSlot s i (fun sl => { sl with
      bench := { sl.bench with jig := { sl.bench.jig with
        results := tset sl.bench.jig.results tag (BitVec.ofNat 64 e.1), busy := sl.bench.jig.busy.filter (· != tag) } }
      sums := if partKind x.opc 1 == .sum then tset sl.sums tag (sumRecord own res sl.step.num) else sl.sums })
    let src := tget (0, 0) sl.bench.tagSrc tag
    let s := if x.opc = ocSumW128 then watchSum s i tag src.1 src.2 (65536 < res.count || res.overWin) res.nonFinite else s
    modCad s i (fun r => { r with
      completed := inc32 r.completed, maxLatency := max r.maxLatency (min (s.time - x.start) (2 ^ 32 - 1)) })

/-- The own operand of the sum phase of SUM_F32 (R234): the FP32 operand on the agreed grid. -/
def sumOperand (flush : Bool) (emax : Int) (raw : Nat) : CadPart :=
  let v := (decodeFp fmtFp32 flush raw).1
  let p := placeVal (windowBase emax) v
  { partZero with
    w := BitVec.ofInt 128 p.grid, emax := emax, count := 1, nonFinite := p.nonFinite,
    overWin := (match expOf v with
      | some e => decide (emax < e)
      | none => false)
    floorHits := b2n p.floorHit, clamps := b2n p.clamped }

/-- A context that enters the sum phase of SUM_F32, with the sum partials that children have already sent (R237, R239). -/
def enterSumPhase (flush : Bool) (x : CadCtx) (emax : Int) : CadCtx :=
  { x with phase := 1, emax := emax, ups := x.ups1, ups1 := [], upSent := false,
           own := x.own1.map (sumOperand flush emax) }

/-- Whether a context holds everything that its UP message or its result needs (R237). -/
def ctxReady (v : GroupVer) (x : CadCtx) : Bool :=
  (x.launched || x.relay) && !x.upSent && !x.done && !x.failed && (cadKids v).all (fun k => x.ups.any (fun e => e.1 == k))

/-- The combination of a context's operand and its children's partials. -/
def ctxTotal (x : CadCtx) : CadPart :=
  let parts := (if x.relay then [] else x.own.toList) ++ x.ups.map Prod.snd
  match parts with
  | [] => partZero
  | p :: rest => rest.foldl (combinePart x.opc x.phase) p

/-- A completed phase taken at this device: the next phase of SUM_F32, or the result (R237). A result at or past the deadline is
late (R241). -/
def takePhase (s : State) (i : Nat) (x : CadCtx) (res : CadPart) : State :=
  if !x.relay && x.start + x.deadline ≤ s.time then
    let s := modCad s i (fun r => { r with deadlineFaults := inc32 r.deadlineFaults })
    failOp s i x.group x.window x.id x.opc 0x01 none []
  else if x.opc = ocSumF32 && x.phase = 0 then putCtx s i (enterSumPhase (getSlot s i).ob.flush x res.emax)
  else writeResult s i x res

/-- A context moved on as far as what it holds allows (R237): UP to the parent, or at the root DOWN to every child and the result.
The fuel covers the two phases of SUM_F32. -/
def advanceCtx (s : State) (i group : Nat) (window : Bool) (id : Nat) : Nat → State
  | 0 => s
  | n + 1 =>
    let sl := getSlot s i
    match cadGroup sl group, findCtx sl group window id with
    | some v, some x =>
      if !ctxReady v x then s
      else
        let total := ctxTotal x
        let st := cadStep sl x.relay
        let body (t : Nat) : Bytes := cadBody (ctxMsg sl v x t x.phase (partBytes x.opc x.phase total) st.1 st.2)
        if geCadRoot v then
          let s := putCtx s i { x with upSent := true }
          let s := spokeSendAll s (cadKids v) (cadSymbol x.opc) (body 2)
          advanceCtx (takePhase s i { x with upSent := true } total) i group window id n
        else
          spokeSend (putCtx s i { x with upSent := true }) (geCadParent v) (cadSymbol x.opc) (body 1)
    | some _, none => s
    | none, some _ => s
    | none, none => s

/-- A new context (R237). -/
def newCtx (v : GroupVer) (window : Bool) (id opc : Nat) (now : Nat) : CadCtx :=
  { group := geGroupId v, window := window, id := id, opc := opc, phase := 0, gen := geGen v, relay := geRelay v, launched := false,
    tag := none, own := none, own1 := none, ups := [], ups1 := [], upSent := false, start := now,
    deadline := usNs (geCadDeadline v), emax := expZero, done := false, failed := false }

/-- An operation launched locally with its operand (R232, R237). -/
def launchOp (s : State) (i : Nat) (v : GroupVer) (window : Bool) (id opc : Nat) (tag : Option Nat) (own : CadPart)
    (own1 : Option Nat) (deadline : Nat) : State :=
  let sl := getSlot s i
  let gid := geGroupId v
  let old := (findCtx sl gid window id).filter (fun x => !x.done && !x.failed)
  let opens := (sl.ctxs.filter (fun x => x.window && !x.done && !x.failed)).length
  match old with
  | some x =>
    if x.opc != opc then failMismatch s i (ctxMsg sl v x 1 0 [] sl.step.num sl.step.attempt)
    else
      let s := putCtx s i { x with
        launched := true, tag := tag, own := some own, own1 := own1, start := s.time, deadline := deadline }
      advanceCtx s i gid window id 3
  | none =>
    if window && 256 ≤ opens then failOp s i gid window id opc 0x03 none [{ accProgram s syProgram with detail := 0x03 }]
    else
      let s := putCtx s i { newCtx v window id opc s.time with
        launched := true, tag := tag, own := some own, own1 := own1, deadline := deadline }
      advanceCtx s i gid window id 3

/-- A program operation launched on a group (R235): the next sequence number of the group names it. -/
def launchProgram (s : State) (i gid opc tag : Nat) (own : CadPart) (own1 : Option Nat) (deadlineUs : Nat) : State :=
  let sl := getSlot s i
  match tget? sl.groups gid, cadGroup sl gid with
  | some g, some v =>
    let id := g.opSeq
    let s := modSlot s i (fun sl => { sl with groups := tset sl.groups gid { g with opSeq := (id + 1) % 65536 } })
    let s := modCad s i (fun r => { r with launched := inc32 r.launched })
    launchOp s i v false id opc (some tag) own own1 (usNs (if deadlineUs = 0 then geCadDeadline v else deadlineUs))
  | some _, none => s
  | none, some _ => s
  | none, none => s

/-- A bucket's window round launched once its local maximum is known (R65, R66): a value from every member port of the expected
set. -/
def checkWindowRound (s : State) (i b : Nat) : State :=
  let sl := getSlot s i
  match tget? sl.buckets b with
  | none => s
  | some x =>
    match bucketGroup sl x with
    | none => s
    | some v =>
      let ports := groupPorts v
      if x.abandoned || x.roundLaunched || x.emax.isSome || bdMode x.desc == 2 || !ports.all (fun p => (tget? x.proposals p).isSome) then s
      else
        let local_ := ports.foldl (fun m p => max m (tget expZero x.proposals p)) expZero
        let s := modBucket s i b (fun x => { x with roundLaunched := true })
        launchOp s i v true b ocWindow none (partExp local_ false) none (x.armTime + usNs (bdDeadline x.desc) - s.time)

/-! ### Messages received (R237, R239) -/

/-- Whether step and attempt b are newer than a, or the same (R239): steps compared modulo 2^32, attempts modulo 256. -/
inductive Age where
  | older | same | newer
  deriving DecidableEq, Repr

/-- The age of a message. -/
def ageOf (step attempt mstep mattempt : Nat) : Age :=
  let d := (mstep + 2 ^ 32 - step % 2 ^ 32) % 2 ^ 32
  if d = 0 then
    let e := (mattempt + 256 - attempt) % 256
    if e = 0 then .same else if e < 128 then .newer else .older
  else if d < 2 ^ 31 then .newer else .older

/-- The time for which a message of a newer step is held (R239): CAD_DEADLINE of the staged version, or else of the current one. -/
def heldFor (sl : Slot) (gid : Nat) : Option Nat :=
  match tget? sl.groups gid with
  | none => none
  | some g =>
    match g.staged with
    | some (some v) => some (usNs (geCadDeadline v))
    | some none => g.cur.map (fun v => usNs (geCadDeadline v))
    | none => g.cur.map (fun v => usNs (geCadDeadline v))

/-- An UP message of the current step taken (R237, R239). -/
def takeUp (s : State) (i link : Nat) (m : CadMsg) (v : GroupVer) : State :=
  let sl := getSlot s i
  if !(cadKids v).contains link then failMismatch s i m
  else
    let part := partOfBytes m.opc m.phase m.payload
    let found := findCtx sl m.group m.window m.id
    match found with
    | some x =>
      if x.failed then s
      else if x.opc != m.opc then failMismatch s i m
      else if x.done then cadDrop s i
      else if m.phase != x.phase then
        if m.opc = ocSumF32 && m.phase = 1 && x.phase = 0 then
          if x.ups1.any (fun e => e.1 == link) then cadDrop s i
          else putCtx s i { x with ups1 := x.ups1 ++ [(link, part)] }
        else if m.opc = ocSumF32 && m.phase = 0 then cadDrop s i
        else failMismatch s i m
      else if x.ups.any (fun e => e.1 == link) then cadDrop s i
      else if partKind m.opc m.phase == .sum
          && ((x.own.toList ++ x.ups.map Prod.snd).any (fun q => q.emax != part.emax)) then failMismatch s i m
      else
        let s := putCtx s i { x with ups := x.ups ++ [(link, part)] }
        advanceCtx s i m.group m.window m.id 3
    | none =>
      let opens := (sl.ctxs.filter (fun x => x.window && !x.done && !x.failed)).length
      if m.phase != 0 then failMismatch s i m
      else if m.window && 256 ≤ opens then
        failOp s i m.group m.window m.id m.opc 0x03 none [{ accProgram s syProgram with detail := 0x03 }]
      else
        let s := putCtx s i { newCtx v m.window m.id m.opc s.time with ups := [(link, part)] }
        advanceCtx s i m.group m.window m.id 3

/-- A DOWN message of the current step taken (R237): forwarded to every child, and the phase ends here. -/
def takeDown (s : State) (i link : Nat) (m : CadMsg) (v : GroupVer) : State :=
  if geCadRoot v || geCadParent v != link then failMismatch s i m
  else
    match findCtx (getSlot s i) m.group m.window m.id with
    | none => failMismatch s i m
    | some x =>
      if x.failed || x.done then s
      else if x.opc != m.opc || x.phase != m.phase then failMismatch s i m
      else
        let s := spokeSendAll s (cadKids v) (cadSymbol m.opc) (cadBody m)
        advanceCtx (takePhase s i x (partOfBytes m.opc m.phase m.payload)) i m.group m.window m.id 3

/-- A FAIL message of the current step taken (R240, R245). -/
def takeFail (s : State) (i link : Nat) (m : CadMsg) (v : GroupVer) : State :=
  if !(cadLinks v).contains link then failMismatch s i m
  else
    match findCtx (getSlot s i) m.group m.window m.id with
    | some x =>
      if x.done then modCad s i (fun r => { r with lateFails := satAdd 16 r.lateFails 1 })
      else if x.failed then s
      else failOp s i m.group m.window m.id m.opc (leAt m.payload 0 1) (some link) []
    | none => failOp s i m.group m.window m.id m.opc (leAt m.payload 0 1) (some link) []

/-- A message of the slot's current step taken by its TYPE; a reserved TYPE is dropped. -/
def takeMsg (s : State) (i link : Nat) (m : CadMsg) : State :=
  match cadGroup (getSlot s i) m.group with
  | none => failMismatch s i m
  | some v =>
    if geGen v != m.gen then failMismatch s i m
    else if m.typ = 1 then takeUp s i link m v
    else if m.typ = 2 then takeDown s i link m v
    else if m.typ = 3 then takeFail s i link m v
    else cadDrop s i

/-- A cadence message of a newer step held, or dropped where no version of its group is known (R239). -/
def holdMsg (s : State) (i link group : Nat) (body : Bytes) : State :=
  match heldFor (getSlot s i) group with
  | none => cadDrop s i
  | some d => modSlot s i (fun sl => { sl with cadHeld := sl.cadHeld ++ [⟨link, body, s.time + d⟩] })

/-- A cadence message judged against its slot (R239). -/
def judgeMsg (s : State) (i link : Nat) (body : Bytes) : State :=
  let sl := getSlot s i
  let m := cadMsgOf body
  let relay := ((cadGroup sl m.group).map geRelay).getD false
  if relay then
    match ageOf sl.step.relayStep sl.step.relayAttempt m.step m.attempt with
    | .older => cadDrop s i
    | .same => takeMsg s i link m
    | .newer =>
      let s := modSlot s i (fun sl => { sl with
        ctxs := sl.ctxs.filter (fun x => !x.relay)
        step := { sl.step with relayStep := m.step, relayAttempt := m.attempt } })
      takeMsg s i link m
  else
    let unarmed := sl.step.st == .none || sl.step.st == .rollingBack || sl.step.st == .rolledBack
    match ageOf sl.step.num sl.step.attempt m.step m.attempt with
    | .older => if sl.step.st == .none then holdMsg s i link m.group body else cadDrop s i
    | .same => if unarmed then holdMsg s i link m.group body else takeMsg s i link m
    | .newer => holdMsg s i link m.group body

/-- A cadence sequence received (R239, R398): one of a TYPE, on its K-symbol. -/
def takeCadence (rx : SpokeRx) (typ : Nat) (s : State) : State :=
  let m := cadMsgOf rx.body
  if m.typ != typ || rx.body.length < 16 || rx.ksym.toNat != cadSymbol m.opc then s
  else
    let t := spokeTake s rx
    let s := t.2
    if !t.1 then s
    else
      match openSlotOf s m.job with
      | none => modSpoke s rx.link.val (fun l => { l with dropped := inc32 l.dropped })
      | some i => judgeMsg s i rx.link.val rx.body

/-- CADENCE_UP (R237, R239). -/
def effCadenceUp (rx : SpokeRx) (s : State) : State := takeCadence rx 1 s

/-- Meaning of CADENCE_UP. -/
def execCadenceUp (rx : SpokeRx) (s : State) : Out := .next (effCadenceUp rx s)

/-- CADENCE_DOWN (R237, R239). -/
def effCadenceDown (rx : SpokeRx) (s : State) : State := takeCadence rx 2 s

/-- Meaning of CADENCE_DOWN. -/
def execCadenceDown (rx : SpokeRx) (s : State) : Out := .next (effCadenceDown rx s)

/-- CADENCE_FAIL (R239, R240). -/
def effCadenceFail (rx : SpokeRx) (s : State) : State := takeCadence rx 3 s

/-- Meaning of CADENCE_FAIL. -/
def execCadenceFail (rx : SpokeRx) (s : State) : Out := .next (effCadenceFail rx s)

/-- The open, timed context whose window ends first (R241). -/
def firstDue (sl : Slot) : Option CadCtx :=
  (sl.ctxs.filter (fun x => !x.done && !x.failed && (x.launched || x.relay))).foldl (fun best x =>
    match best with
    | none => some x
    | some y => if x.start + x.deadline < y.start + y.deadline then some x else some y) none

/-- The devices whose UP or DOWN a context lacks (R285). -/
def missingPeers (s : State) (v : GroupVer) (x : CadCtx) : List Nat :=
  let kids := (cadKids v).filter (fun k => !x.ups.any (fun e => e.1 == k))
  let links := if !kids.isEmpty then kids else if geCadRoot v then [] else [geCadParent v]
  links.map (fun l => (getSpoke s l).peer.toNat)

/-- CADENCE_DEADLINE (R241): the operation whose window ends first fails with CAD_DEADLINE. -/
def effCadenceDeadline (slot : SlotId) (s : State) : State :=
  let i := slot.val
  match firstDue (getSlot s i) with
  | none => s
  | some x =>
    let s := timeTo s (x.start + x.deadline)
    let s := modCad s i (fun r => { r with deadlineFaults := inc32 r.deadlineFaults })
    let late := match cadGroup (getSlot s i) x.group with
      | none => []
      | some v => (missingPeers s v x).map (fun d => ⟨1, d * 65536, syLate, 0x01, 0xFF⟩)
    failOp s i x.group x.window x.id x.opc 0x01 none late

/-- Meaning of CADENCE_DEADLINE. -/
def execCadenceDeadline (slot : SlotId) (s : State) : Out := .next (effCadenceDeadline slot s)

/-- CADENCE_HELD_EXPIRY (R239): the message held longest past its time is dropped. -/
def effCadenceHeldExpiry (slot : SlotId) (s : State) : State :=
  let i := slot.val
  let held := (getSlot s i).cadHeld
  match held with
  | [] => s
  | x :: rest =>
    let first := rest.foldl (fun b y => if y.until_ < b.until_ then y else b) x
    let s := timeTo s first.until_
    cadDrop (modSlot s i (fun sl => { sl with cadHeld := sl.cadHeld.erase first })) i

/-- Meaning of CADENCE_HELD_EXPIRY. -/
def execCadenceHeldExpiry (slot : SlotId) (s : State) : Out := .next (effCadenceHeldExpiry slot s)

/-- Held messages judged again when a slot arms a step and attempt (R239): those of another step or attempt are dropped. -/
def releaseCadHeld (s : State) (i : Nat) : State :=
  let held := (getSlot s i).cadHeld
  let s := modSlot s i (fun sl => { sl with cadHeld := [] })
  held.foldl (fun s x =>
    let sl := getSlot s i
    let m := cadMsgOf x.body
    if ageOf sl.step.num sl.step.attempt m.step m.attempt == .same then judgeMsg s i x.link x.body else cadDrop s i) s

/-- Every open operation that uses a spoke link fails with CAD_LINK (R240, R245, R403). -/
def failLinkOps (s : State) (link : Nat) : State :=
  (slotsWhere s (fun sl => sl.st == SlotSt.open_)).foldl (fun s i =>
    let sl := getSlot s i
    (sl.ctxs.filter (fun x => !x.done && !x.failed)).foldl (fun s x =>
      match cadGroup (getSlot s i) x.group with
      | none => s
      | some v =>
        if (cadLinks v).contains link then
          failOp s i x.group x.window x.id x.opc 0x04 none [⟨2, spokeSuspect s link, syLink, 0x04, 0xFF⟩]
        else s) s) s

end Sys2Proof.Machine
end

