-- ==== Sys2Proof/Machine/Reduction.lean ====
section
/-! DEFINITION. The commands of the reduction path (R65 to R97): contributions, partials, proposals, completion, sending, rounding
and the bucket deadline. -/

namespace Sys2Proof.Machine

/-- The bucket of a frame, when it is armed in the current step. -/
def armedBucket (sl : Slot) (b : Nat) : Option Bucket := (tget? sl.buckets b).filter (fun x => !x.abandoned)

/-- What R70 decides about a contribution: a reason and a note of the HELD value to record, or acceptance. -/
inductive Placement where
  | drop (r : Reason)
  | place
  | park
  deriving DecidableEq, Repr

/-- Checks 1 to 5 of R70. -/
def contribHead (sl : Slot) (h : Hdr) (p : Nat) : Option Reason :=
  if h.step != sl.step.num || sl.step.st == .none then some .staleStep
  else
    match armedBucket sl h.bucket with
    | none => some .unarmed
    | some b =>
      if bdChunks b.desc ≤ h.chunk then some .badChunk
      else if h.group != bdGroup b.desc || !(bucketPorts sl b).contains p then some .nonMember
      else
        match tget? b.chunks h.chunk with
        | none => some .badChunk
        | some c => if c.st == .armed || c.st == .open_ then none else some .late

/-- Checks 6 to 8 of R70, after a HELD value has been recorded. `units` is the chain of the frame, already charged. -/
def contribTail (sl : Slot) (h : Hdr) (p units : Nat) : Placement :=
  match armedBucket sl h.bucket with
  | none => .drop .unarmed
  | some b =>
    let c := (tget? b.chunks h.chunk).getD (chunkInit .armed)
    let held := bdMode b.desc == 1
    let emax := b.emax.map (ofSigned 16)
    let declared := (tget? b.proposals p).map (ofSigned 16)
    let quota := bdHeldQuota b.desc * 64
    let full := (quota != 0 && quota < b.parkedUnits + units)
      || rxQuotaOf sl 1 < ((sl.pools.getD 1 poolRecInit).rxHeld)
    if !held && emax.isNone then .drop .windowPending
    else if held && emax.isNone && full then .drop .holdFull
    else if (if held then declared != some h.window else emax != some h.window) then .drop .wrongWindow
    else if c.bitmap.testBit p then .drop .duplicate
    else if held && emax.isNone then .park
    else .place

/-- The first HELD value of a member recorded (R66). -/
def recordHeld (s : State) (i p : Nat) (h : Hdr) : State :=
  modBucket s i h.bucket (fun b =>
    if bdMode b.desc == 1 && (tget? b.proposals p).isNone then
      { b with proposals := tset b.proposals p (toSigned 16 h.window) }
    else b)

/-- Whether a MEMBER_STALL rehearsal drops a port's contributions to a bucket (R299). -/
def stalledBy (sl : Slot) (p b : Nat) : Bool := sl.health.stalled.contains (p, b)

/-- A contribution accepted (R71, R72): the bit set, the arrival recorded, and the image placed or parked. -/
def acceptContribution (s : State) (rx : RxFrame) (h : Hdr) (i : Nat) (park : Bool) : State :=
  let p := rx.port.val
  let units := unitsOf rx.payload.length
  let s := recordArrival s i h.bucket p h.chunk
  let s := modChunk s i h.bucket h.chunk (fun c => { c with bitmap := orBit c.bitmap p })
  if park then
    let s := modChunk s i h.bucket h.chunk (fun c => { c with parked := c.parked ++ [⟨p, h.format, rx.payload, units⟩] })
    modBucket s i h.bucket (fun b => { b with parkedUnits := b.parkedUnits + units })
  else
    let emax := (((armedBucket (getSlot s i) h.bucket).map (fun b => b.emax)).getD none).getD expZero
    releaseChain (placeContribution s i h.bucket h.chunk emax h.format rx.payload) p i 1 units

/-- CONTRIBUTE (R66, R70, R71): the checks of R373 and R70, then the image is placed, parked or dropped. -/
def effContribute (rx : RxFrame) (s : State) : State :=
  match admitFrame tContribute s rx with
  | (none, s) => s
  | (some (h, i), s) =>
    let p := rx.port.val
    if stalledBy (getSlot s i) p h.bucket then
      let s := modCnt s p (fun k => { k with rehearsalDrops := inc32 k.rehearsalDrops })
      releaseChain s p i 1 (unitsOf rx.payload.length)
    else
      match contribHead (getSlot s i) h p with
      | some r => dropLate s rx h i r
      | none =>
        let s := recordHeld s i p h
        let s := match contribTail (getSlot s i) h p (unitsOf rx.payload.length) with
          | .drop r => dropLate s rx h i r
          | .place => acceptContribution s rx h i false
          | .park => acceptContribution s rx h i true
        checkWindowRound s i h.bucket

/-- Meaning of CONTRIBUTE. -/
def execContribute (rx : RxFrame) (s : State) : Out := .next (effContribute rx s)

/-- The checks that R373 gives an ACCUMULATE, in order. -/
def partialCheck (sl : Slot) (h : Hdr) (p : Nat) : Option Reason :=
  if h.step != sl.step.num || sl.step.st == .none then some .staleStep
  else if h.attempt != sl.step.attempt then some .oldAttempt
  else
    match armedBucket sl h.bucket with
    | none => some .unarmed
    | some b =>
      if bdChunks b.desc ≤ h.chunk then some .badChunk
      else
        match bucketGroup sl b with
        | none => some .nonMember
        | some v =>
          let up := groupTrunk v (groupDevAt v (ringUp v (bdDir b.desc) (geSelf v)))
          if h.group != bdGroup b.desc || isOrigin sl b || !up.contains p then some .nonMember
          else
            match b.emax with
            | none => some .windowPending
            | some e =>
              if h.window != ofSigned 16 e then some .wrongWindow
              else
                let c := (tget? b.chunks h.chunk).getD (chunkInit .open_)
                let part := hAccPart h
                let all := (part == 2 || c.ua) && (part == 1 || c.ub)
                if all then some .duplicate
                else if part == 0 && c.ua != c.ub then some .malformed
                else none

/-- A partial decoded to its addends: 1,024 of a whole partial or T1 image, 512 of a half (R81, R82, R86). -/
def partialGrids (flush : Bool) (emax : Int) (h : Hdr) (payload : Bytes) : PlacedImage :=
  if h.format = 0x9 then placeImage flush emax 0x9 payload
  else ⟨(kerfDecode (if hAccPart h = 0 then 64 else 32) payload).getD [], 0, 0, false, false, nfNone⟩

/-- An accepted partial added into its line (R75, R81). What a partial carries is added to what its own placement counts: a kerf
partial counts nothing, a T1 image the floor hits, clamps and over-window values of placing it. -/
def addPartial (flush : Bool) (emax : Int) (h : Hdr) (payload : Bytes) (c : Chunk) : Chunk × NFlags :=
  let g := partialGrids flush emax h payload
  let part := hAccPart h
  ({ c with
      line := lineAddAt c.line (if part = 2 then 512 else 0) g.grids
      ua := c.ua || part != 2
      ub := c.ub || part != 1
      floorHits := satAdd 32 c.floorHits (hAccFloor h + g.floorHits)
      clamps := satAdd 32 c.clamps (hAccClamps h + g.clamps)
      contributors := satAdd 32 c.contributors (hAccContrib h)
      overWin := c.overWin || hAccOver h || g.overWin
      nonFinite := c.nonFinite || hAccNonFinite h || g.nonFinite }, g.flags)

/-- ACCUMULATE (R81, R93, R373): checked, added into the line, and taken into the segment digest. -/
def effAccumulate (rx : RxFrame) (s : State) : State :=
  match admitFrame tAccumulate s rx with
  | (none, s) => s
  | (some (h, i), s) =>
    let p := rx.port.val
    let sl := getSlot s i
    match partialCheck sl h p with
    | some r => dropLate s rx h i r
    | none =>
      match getChunk sl h.bucket h.chunk with
      | none => dropLate s rx h i .badChunk
      | some (b, c) =>
        let r := addPartial sl.ob.flush (b.emax.getD expZero) h rx.payload c
        let s := setFlags (modChunk s i h.bucket h.chunk (fun _ => r.1)) i r.2
        let s := recordArrival s i h.bucket p h.chunk
        let s := modSeg s i p (fun q => { q with got := q.got + 1, gotDigest := q.gotDigest ^^^ crc64 rx.payload })
        releaseChain s p i 2 (unitsOf rx.payload.length)

/-- Meaning of ACCUMULATE. -/
def execAccumulate (rx : RxFrame) (s : State) : Out := .next (effAccumulate rx s)

/-- The checks that R373 gives a WINDOW frame, in order. -/
def proposalCheck (sl : Slot) (h : Hdr) (p : Nat) : Option Reason :=
  if hWkind h != 0 then some .protocol
  else if h.step != sl.step.num || sl.step.st == .none then some .staleStep
  else
    match armedBucket sl h.bucket with
    | none => some .unarmed
    | some b =>
      if h.group != bdGroup b.desc || !(bucketPorts sl b).contains p then some .nonMember
      else if bdMode b.desc == 2 then some .wrongWindow
      else
        match tget? b.proposals p with
        | none => none
        | some e => if h.window = ofSigned 16 e then some .duplicate else some .wrongWindow

/-- WINDOW_PROPOSAL (R65, R66, R78): a member's largest exponent recorded; the window round starts with the last of them. -/
def effWindowProposal (rx : RxFrame) (s : State) : State :=
  match admitFrame tWindow s rx with
  | (none, s) => s
  | (some (h, i), s) =>
    let p := rx.port.val
    match proposalCheck (getSlot s i) h p with
    | some r => dropLate s rx h i r
    | none =>
      let s := modBucket s i h.bucket (fun b => { b with proposals := tset b.proposals p (toSigned 16 h.window) })
      let s := releaseChain s p i 0 (unitsOf rx.payload.length)
      checkWindowRound s i h.bucket

/-- Meaning of WINDOW_PROPOSAL. -/
def execWindowProposal (rx : RxFrame) (s : State) : Out := .next (effWindowProposal rx s)

/-- PLACEMENT_COMPLETE (R72): a chunk whose expected set is full goes from OPEN to COMPLETE. -/
def effPlacementComplete (slot : SlotId) (bucket chunk : W16) (s : State) : State :=
  let i := slot.val
  let sl := getSlot s i
  match getChunk sl bucket.toNat chunk.toNat with
  | none => s
  | some (b, c) =>
    if c.st == .open_ && chunkFull sl b c then
      modChunk s i bucket.toNat chunk.toNat (fun c => { c with st := .complete })
    else s

/-- Meaning of PLACEMENT_COMPLETE. -/
def execPlacementComplete (slot : SlotId) (bucket chunk : W16) (s : State) : Out := .next (effPlacementComplete slot bucket chunk s)

/-- PARTIAL_SEND (R72, R80, R86): a COMPLETE chunk that another device owns is encoded and sent, and is SENDING. -/
def effPartialSend (slot : SlotId) (bucket chunk : W16) (s : State) : State :=
  trySendPartial s slot.val bucket.toNat chunk.toNat

/-- Meaning of PARTIAL_SEND. -/
def execPartialSend (slot : SlotId) (bucket chunk : W16) (s : State) : Out := .next (effPartialSend slot bucket chunk s)

/-- One PART of a SENDING chunk queued again as a new frame (R369): the line is encoded as before. -/
def resendPart (s : State) (i b j part : Nat) : State :=
  let sl := getSlot s i
  match getChunk sl b j with
  | none => s
  | some (x, c) =>
    let g := bdChunkIndex x.desc j
    match partialPort sl x g with
    | none => s
    | some p =>
      let pt := partialOf sl x j c
      match pt.2.1.find? (fun e => e.1 == part) with
      | none => s
      | some e =>
        match poolRequest s (tileOfChunk g) i 2 e.2.length (ownerEncoder (tileOfChunk g)) with
        | (.ok buf, s) =>
          let s := modChunk s i b j (fun c => { c with resend := c.resend.filter (fun r => r.1 != part) })
          queuePartial s i j p x c pt.1 [(part, e.2, buf)]
        | (.quota, s) => s
        | (.empty, s) => s

/-- PARTIAL_RESEND (R369): the parts that UNARMED or WINDOW_PENDING turned away are sent again 1 µs after the NACK. -/
def effPartialResend (slot : SlotId) (bucket chunk : W16) (s : State) : State :=
  let i := slot.val
  let sl := getSlot s i
  match getChunk sl bucket.toNat chunk.toNat with
  | none => s
  | some (_, c) =>
    match c.resend with
    | [] => s
    | r :: rest =>
      if c.st != .sending || sl.step.st != .dryFit then s
      else resendPart (timeTo s (rest.foldl (fun m e => min m e.2) r.2)) i bucket.toNat chunk.toNat r.1

/-- Meaning of PARTIAL_RESEND. -/
def execPartialResend (slot : SlotId) (bucket chunk : W16) (s : State) : Out := .next (effPartialResend slot bucket chunk s)

/-- CHUNK_ROUND (R72, R89): a COMPLETE chunk that this device owns is rounded to FP32. -/
def effChunkRound (slot : SlotId) (bucket chunk : W16) (s : State) : State := roundChunk s slot.val bucket.toNat chunk.toNat

/-- Meaning of CHUNK_ROUND. -/
def execChunkRound (slot : SlotId) (bucket chunk : W16) (s : State) : Out := .next (effChunkRound slot bucket chunk s)

/-- The late suspects of a bucket (R285): every member port whose bit some chunk lacks; the upstream device when only UA or UB is
missing. -/
def lateSuspects (s : State) (sl : Slot) (b : Bucket) : List Accusation :=
  let waiting := (b.chunks.map Prod.snd).filter (fun c => c.st == .armed || c.st == .open_)
  let ports := (bucketPorts sl b).filter (fun p => waiting.any (fun c => !c.bitmap.testBit p))
  if !ports.isEmpty then ports.map (fun p => accPort s p syLate)
  else if isOrigin sl b then []
  else
    match bucketGroup sl b with
    | none => []
    | some v => [accDevice (groupDevAt v (ringUp v (bdDir b.desc) (geSelf v))) syLate]

/-- BUCKET_DEADLINE (R95): at the end of a bucket's window a chunk not past OPEN aborts the step; a bucket whose contributions a
rehearsal dropped marks the cause (R299). -/
def effBucketDeadline (slot : SlotId) (bucket : W16) (s : State) : State :=
  let i := slot.val
  let sl := getSlot s i
  match armedBucket sl bucket.toNat with
  | none => s
  | some b =>
    let s := timeTo s (b.armTime + usNs (bdDeadline b.desc))
    if b.chunks.any (fun e => e.2.st == .armed || e.2.st == .open_) then
      let missing := (bucketPorts sl b).any (fun p => stalledBy sl p bucket.toNat)
      raiseAbort s i (caReductionDeadline + 128 * b2n missing) (lateSuspects s sl b)
    else s

/-- Meaning of BUCKET_DEADLINE. -/
def execBucketDeadline (slot : SlotId) (bucket : W16) (s : State) : Out := .next (effBucketDeadline slot bucket s)

end Sys2Proof.Machine
end

