-- ==== Sys2Proof/Machine/Memory.lean ====
section
/-! DEFINITION. HBM as one canonical list of (address, byte) cells: keys strictly rising, no zero byte listed, every byte that is
not listed reading zero (log entry 3). The key of byte a of channel c is 2^31 c + a (R411). -/

namespace Sys2Proof.Machine

/-- The canonical form: keys strictly rising and no zero listed. -/
def Memory.wf : List Host.Cell → Bool
  | [] => true
  | [c] => c.2 != 0
  | c :: d :: rest => c.2 != 0 && c.1 < d.1 && Memory.wf (d :: rest)

/-- What one byte reads as. -/
def memByte (m : List Host.Cell) (a : Nat) : Byte := ((m.find? (fun c => c.1 == a)).map Prod.snd).getD 0

/-- n bytes from an address on. -/
def memRead (m : List Host.Cell) (a n : Nat) : Bytes :=
  let near := m.filter (fun c => a ≤ c.1 && c.1 < a + n)
  if near.isEmpty then List.replicate n 0 else (List.range n).map (fun k => memByte near (a + k))

/-- The cells of a byte string from an address on, zeros left out. -/
def cellsOf : Nat → Bytes → List Host.Cell
  | _, [] => []
  | a, b :: rest => if b = 0 then cellsOf (a + 1) rest else (a, b) :: cellsOf (a + 1) rest

/-- A byte string written from an address on. -/
def memWrite (m : List Host.Cell) (a : Nat) (bs : Bytes) : List Host.Cell :=
  m.filter (fun c => c.1 < a) ++ cellsOf a bs ++ m.filter (fun c => a + bs.length ≤ c.1)

/-- The key of a channel's byte (R411). -/
def memKey (chan addr : Nat) : Nat := chan * 2 ^ 31 + addr

end Sys2Proof.Machine
end

