-- ==== Sys2Proof/Machine/Rows.lean ====
section
/-! DEFINITION. The interleave of HBM: live channels, frames, granules and rows, and the chunk records that lie in them (R60, R102,
R103, R129 to R131, R411 to R416). -/

namespace Sys2Proof.Machine

/-- The live channels of a tile, ascending (R411). -/
def liveChannels (s : State) (t : Nat) : List Nat := (List.range 8).filterMap (fun k =>
  if (getChan s (8 * t + k)).st = 0 then some (8 * t + k) else none)

/-- The key of piece i of frame f on a tile (R415); none on a tile without live channels. -/
def pieceKey (s : State) (t f i : Nat) : Option Nat :=
  let live := liveChannels s t
  let m := live.length
  if m = 0 then none else (live[(8 * f + i) % m]?).map (fun c => memKey c ((8 * f + i) / m * 512))

/-- The 4,096 bytes of a frame (R415). -/
def frameRead (s : State) (t f : Nat) : Bytes :=
  (List.range 8).flatMap (fun i => match pieceKey s t f i with
    | none => List.replicate 512 0
    | some k => memRead s.hbm.mem k 512)

/-- HBM's cells changed. -/
def modMem (s : State) (f : List (Nat × Byte) → List (Nat × Byte)) : State := { s with hbm := { s.hbm with mem := f s.hbm.mem } }

/-- Bytes written to HBM: the sectors that they cover are correctable again (R425). -/
def pieceWrite (s : State) (k : Nat) (bs : Bytes) : State :=
  { s with hbm := { s.hbm with
      mem := memWrite s.hbm.mem k bs
      bad := s.hbm.bad.filter (fun b => b + 32 ≤ k || k + bs.length ≤ b) } }

/-- A frame written (R415). -/
def frameWrite (s : State) (t f : Nat) (bs : Bytes) : State :=
  (List.range 8).foldl (fun s i => match pieceKey s t f i with
    | none => s
    | some k => pieceWrite s k (fitBytes 512 (bs.drop (512 * i)))) s

/-- The areas that rows lie in (R130). -/
inductive Area where
  | primary | mirror | pending | scratch
  deriving DecidableEq, Repr

/-- The granule table of an area on a tile (R414). -/
def granules (sl : Slot) (a : Area) (t : Nat) : List Nat :=
  match a with
  | .primary => tget [] sl.shard.grPrimary t
  | .mirror => tget [] sl.shard.grMirror t
  | .pending => tget [] sl.shard.grMirror t
  | .scratch => tget [] sl.shard.grScratch t

/-- The virtual frame of a row and plane (R414). -/
def virtualFrame (w : Nat) (a : Area) (r p : Nat) : Nat :=
  match a with
  | .primary => r * w + p
  | .mirror => r * (w + 1) + p
  | .pending => r * (w + 1) + w
  | .scratch => r

/-- The physical frame of a row and plane, if its granule is allocated (R414). -/
def rowFrame (sl : Slot) (a : Area) (t r p : Nat) : Option Nat :=
  let v := virtualFrame sl.ob.w a r p
  ((granules sl a t)[v / 512]?).map (fun g => 512 * g + v % 512)

/-- The bytes of a row and plane; zeros where no granule holds it. -/
def rowRead (s : State) (i : Nat) (a : Area) (t r p : Nat) : Bytes :=
  match rowFrame (getSlot s i) a t r p with
  | none => List.replicate 4096 0
  | some f => frameRead s t f

/-- A row and plane written, where a granule holds it. -/
def rowWrite (s : State) (i : Nat) (a : Area) (t r p : Nat) (bs : Bytes) : State :=
  match rowFrame (getSlot s i) a t r p with
  | none => s
  | some f => frameWrite s t f bs

/-! ### Chunks and rows (R129) -/

/-- The chunks of the job (R98). -/
def jobChunks (sl : Slot) : Nat := sl.shard.l / 1024

/-- The extents that a device owns, ascending (R99). -/
def ownedExtents (sl : Slot) (dev : Nat) : List Nat :=
  (List.range sl.shard.map.length).filter (fun x => ownerOf sl (1024 * x) == some dev)

/-- The chunk that row r of a tile holds for a device: its extents hold eight chunks for each tile (R413). -/
def chunkOfRow (sl : Slot) (dev t r : Nat) : Option Nat :=
  match (ownedExtents sl dev)[r / 8]? with
  | none => none
  | some x =>
    let base := 1024 * x + 128 * (r % 8)
    let g := base + (tileOfChunk base ^^^ t)
    if g < jobChunks sl then some g else none

/-- The row of a chunk on its tile, for its owner (R129). -/
def rowOfChunk (sl : Slot) (g : Nat) : Option Nat :=
  match ownerOf sl g with
  | none => none
  | some dev => some (8 * ((ownedExtents sl dev).filter (· < g / 1024)).length + g % 1024 / 128)

/-- How many rows a device has on a tile (R129). -/
def rowsOn (sl : Slot) (dev t : Nat) : Nat :=
  ((List.range (8 * (ownedExtents sl dev).length)).filter (fun r => (chunkOfRow sl dev t r).isSome)).length

/-- ROWS(t) or MROWS(t) or the scratch rows of an area (R129, R130). -/
def areaRows (s : State) (sl : Slot) (a : Area) (t : Nat) : Nat :=
  match a with
  | .primary => rowsOn sl (selfId s) t
  | .mirror => (sl.tan.mirrorOf.map (fun d => rowsOn sl d t)).getD 0
  | .pending => (sl.tan.mirrorOf.map (fun d => rowsOn sl d t)).getD 0
  | .scratch => sl.shard.scratchRows

/-- RMAX of an area (R131). -/
def areaRowMax (s : State) (sl : Slot) (a : Area) : Nat := ((List.range 128).map (areaRows s sl a)).foldl max 0

/-- The chunk that a row of an area holds on a tile. -/
def areaChunk (s : State) (sl : Slot) (a : Area) (t r : Nat) : Option Nat :=
  match a with
  | .primary => chunkOfRow sl (selfId s) t r
  | .mirror => sl.tan.mirrorOf.bind (fun d => chunkOfRow sl d t r)
  | .pending => sl.tan.mirrorOf.bind (fun d => chunkOfRow sl d t r)
  | .scratch => none

/-- Every chunk that a device owns, in ascending order. -/
def ownedChunks (sl : Slot) (dev : Nat) : List Nat :=
  (ownedExtents sl dev).flatMap (fun x => ((List.range 1024).map (1024 * x + ·)).filter (· < jobChunks sl))

/-- A chunk's plane read from an area (R102, R103). -/
def chunkRead (s : State) (i : Nat) (a : Area) (g p : Nat) : Bytes :=
  match rowOfChunk (getSlot s i) g with
  | none => List.replicate 4096 0
  | some r => rowRead s i a (tileOfChunk g) r p

/-- A chunk's plane written to an area. -/
def chunkWrite (s : State) (i : Nat) (a : Area) (g p : Nat) (bs : Bytes) : State :=
  match rowOfChunk (getSlot s i) g with
  | none => s
  | some r => rowWrite s i a (tileOfChunk g) r p bs

/-- Every plane of every row of an area, in row order: the rows that a resync reads (R269). -/
def resyncRows (s : State) (sl : Slot) (a : Area) : List (Nat × Nat) :=
  let n := areaRowMax s sl a
  (List.range n).flatMap (fun r => (List.range 128).flatMap (fun t =>
    match areaChunk s sl a t r with
    | none => []
    | some g => (List.range sl.ob.w).map (fun p => (g, p))))

/-- The digest of one row write (R267): index, plane and bytes. -/
def rowDigest (g p : Nat) (bs : Bytes) : W64 := crc64 (leBytes 8 g ++ leBytes 1 p ++ bs)

end Sys2Proof.Machine
end

