-- ==== Sys2Proof/Machine/Delivery.lean ====
section
/-! DEFINITION. Parameter delivery: GATHER, the fetch table, cast units, DELIVER and the cast cache (R105 to R125, R370). -/

namespace Sys2Proof.Machine

/-- The rounding mode of a MODE field (R108). -/
def modeOf (m : Nat) : RMode :=
  match m with
  | 0 => .rne
  | 1 => .rtz
  | 2 => .rup
  | 3 => .rdn
  | _ => .sr

/-! ### Cast units (R115, R116) -/

/-- The master values of a chunk: plane 0 as FP32, or planes 0 and 1 as FP64 (R102), subnormals read by the slot's mode. -/
def masterValues (s : State) (i g : Nat) : List (Flagged Val) :=
  let sl := getSlot s i
  let p0 := chunkRead s i .primary g 0
  if sl.ob.masterFp64 then
    let bs := p0 ++ chunkRead s i .primary g 1
    (wordsOf 8 1024 bs).map (decodeFp fmtFp64 sl.ob.flush)
  else (wordsOf 4 1024 p0).map (decodeFp fmtFp32 sl.ob.flush)

/-- A chunk's image in a delivery format and mode (R39, R48, R115 to R118), with the flags that the cast sets. -/
def castImage (s : State) (i g format mode : Nat) : Bytes × NFlags :=
  let sl := getSlot s i
  let xs := masterValues s i g
  let read := nfJoin (xs.map Prod.snd)
  let vs := xs.map Prod.fst
  let draw (k : Nat) : Nat := dither sl.ob.seed sl.step.num (1024 * g + k) format
  match fmtOfCode format with
  | none => ([], nfNone)
  | some f =>
    let width := fmtWidth f
    if isBlockFmt format then
      let blocks := (List.range 32).map (fun b =>
        encodeBlock f (modeOf mode) (fun k => draw (32 * b + k)) sl.ob.flush ((vs.drop (32 * b)).take 32))
      (blocks.map (fun b => BitVec.ofNat 8 b.1) ++ packCodes width (blocks.flatMap (fun b => b.2.1)),
        read ||| nfJoin (blocks.map (fun b => b.2.2)))
    else
      let es := (vs.zip (List.range 1024)).map (fun e => encodeVal f (modeOf mode) (draw e.2) sl.ob.flush e.1)
      (packCodes width (es.map Prod.fst), read ||| nfJoin (es.map Prod.snd) ||| nfJoin (vs.map sigFlag))

/-! ### Fetch entries (R112) -/

/-- Whether an entry has a key. -/
def fetchIs (chunk format mode : Nat) (e : Fetch) : Bool := e.chunk == chunk && e.format == format && e.mode == mode

/-- The entry of a key. -/
def findFetch (sl : Slot) (chunk format mode : Nat) : Option Fetch := sl.fetch.find? (fetchIs chunk format mode)

/-- An entry changed. -/
def modFetch (s : State) (i chunk format mode : Nat) (f : Fetch → Fetch) : State :=
  modSlot s i (fun sl => { sl with fetch := sl.fetch.map (fun e => if fetchIs chunk format mode e then f e else e) })

/-- The delivery-tree parent of a chunk in a group: the neighbouring device toward the owner (R111). -/
def fetchParent (sl : Slot) (gid g : Nat) : Option (GroupVer × Nat) :=
  match stepGroup sl gid with
  | none => none
  | some v =>
    match (ownerOf sl g).bind (groupPos v) with
    | none => none
    | some o => (towardOwner v o).map (fun i => (v, groupDevAt v i))

/-- The children of a chunk's delivery tree at this device, as devices (R111). -/
def fetchKids (sl : Slot) (gid g : Nat) : List Nat :=
  match stepGroup sl gid with
  | none => []
  | some v =>
    match (ownerOf sl g).bind (groupPos v) with
    | none => []
    | some o => (deliveryKids v o).map (groupDevAt v)

/-- The port of a trunk for a chunk: chunk index mod P, in trunk order (log entry 14). -/
def trunkPortFor (v : GroupVer) (dev g : Nat) : Option Nat :=
  let t := groupTrunk v dev
  if t.isEmpty then none else t[g % t.length]?

/-- A DELIVER copy to a port (R114, R119): shared from the entry's buffer, with the requester's TAG. A DELIVERY_CORRUPT rehearsal
inverts one bit of the copy after its CRC is formed (R299). -/
def sendCopy (s : State) (i p : Nat) (e : Fetch) (tag : Nat) : State :=
  match e.buf with
  | none => s
  | some b =>
    let sl := getSlot s i
    let corrupt := sl.health.corruptNext == some p
    let img := if corrupt then (match e.image with
      | [] => []
      | x :: rest => (x ^^^ 1) :: rest) else e.image
    let h := { slotHdr s p i tDeliver 3 with
      group := e.group, format := e.format, mode := e.mode, tag := tag, ts := e.chunk, len := e.image.length }
    let s := if corrupt then modHealth s i (fun x => { x with corruptNext := none, corrupted := (p, e.chunk) :: x.corrupted }) else s
    let s := if (getPort s p).up then linkBuf s b (ownerPort p) else s
    let s := queueClass s p ⟨h, img, e.crc, [b], i, tileOfChunk e.chunk, 0, 0, false⟩
    let s := modDeliv s i (fun d => { d with copies := inc32 d.copies })
    modFetch s i e.chunk e.format e.mode (fun e => { e with lastSent := s.time })

/-- The requests of a key that ports hold, served and struck off (R114). -/
def serveRequests (s : State) (i : Nat) (e : Fetch) : State :=
  let mine (r : GatherReq) : Bool := r.slot == i && r.chunk == e.chunk && r.format == e.format && r.mode == e.mode
  s.ports.foldl (fun s q =>
    let rs := q.2.rx.gathers.filter mine
    let s := rs.foldl (fun s r => sendCopy s i q.1 e r.tag) s
    if rs.isEmpty then s else modRx s q.1 (fun r => { r with gathers := r.gathers.filter (fun g => !mine g) })) s

/-- An entry FILLED (R114): every requester is served. -/
def fillFetch (s : State) (i : Nat) (e : Fetch) (img : Bytes) (crc : W64) : State :=
  let e := { e with st := .filled, image := img, crc := crc, receiving := false }
  let s := modFetch s i e.chunk e.format e.mode (fun _ => e)
  let s := serveRequests s i e
  modFetch s i e.chunk e.format e.mode (fun e => { e with downMask := 0, portMask := 0 })

/-- A device-level GATHER for one chunk on the port to the parent (R113, R320). The grant of C3 credits goes with it. -/
def sendGather (s : State) (i : Nat) (e : Fetch) : State :=
  let sl := getSlot s i
  match fetchParent sl e.group e.chunk with
  | none => s
  | some (v, dev) =>
    match trunkPortFor v dev e.chunk with
    | none => s
    | some p =>
      let h := { slotHdr s p i tGather 0 with
        attempt := 0, group := e.group, format := e.format, mode := e.mode, ts := 1024 * e.chunk + 2 ^ 44 }
      let s := modDeliv s i (fun d => { d with fetches := inc32 d.fetches })
      let s := modRx s p (fun r => { r with inUse := modAt r.inUse 3 (fun n => n + gatherUnits e.format 1) })
      queueClass s p ⟨h, [], 0, [], i, tileOfChunk e.chunk, 0, 0, false⟩

/-- Whether a chunk is servable here (R105). -/
def isServable (sl : Slot) (g : Nat) : Bool := sl.servable.contains g

/-- The units of the pool buffers that FILLED entries of a slot hold (R121). -/
def cachedUnits (sl : Slot) : Nat :=
  ((sl.fetch.filter (fun e => e.st == .filled)).map (fun e =>
    (e.buf.map (fun b => poolSize (bufSlicePool b).2 / 256)).getD 0)).foldl (· + ·) 0

/-- The FILLED entry to replace (R121): least recently sent, no copy in progress, ties to the lower chunk. -/
def victimOf (s : State) (sl : Slot) : Option Fetch :=
  let idle (e : Fetch) : Bool := match e.buf.bind (tget? s.fab.bufs) with
    | none => true
    | some d => d.holders.isEmpty
  (sl.fetch.filter (fun e => e.st == .filled && idle e)).foldl (fun best e =>
    match best with
    | none => some e
    | some b => if e.lastSent < b.lastSent || (e.lastSent == b.lastSent && e.chunk < b.chunk) then some e else some b) none

/-- An entry removed, its buffer released. -/
def dropFetch (s : State) (i : Nat) (e : Fetch) : State :=
  let s := match e.buf with
    | none => s
    | some b => releaseBuf s b (ownerFetch i)
  let s := dropWaiter s (.fetch i e.chunk e.format e.mode) i 3
  modSlot s i (fun sl => { sl with fetch := sl.fetch.filter (fun x => !fetchIs e.chunk e.format e.mode x) })

/-- FILLED entries replaced until a new image of some units fits the cast-cache quota, or none is left to replace (R121). -/
def makeRoom (s : State) (i units : Nat) : Nat → State
  | 0 => s
  | n + 1 =>
    let sl := getSlot s i
    if cachedUnits sl + units ≤ sl.ob.castCache then s
    else
      match victimOf s sl with
      | none => s
      | some e =>
        let s := modDeliv (dropFetch s i e) i (fun d => { d with replacements := inc32 d.replacements })
        makeRoom s i units n

/-- An entry with its buffer goes on (R113): to WAIT_SOURCE or CASTING at the owner, elsewhere to FETCHING with a GATHER to its
parent. -/
def startFetch (s : State) (i : Nat) (e : Fetch) (buf : Nat) : State :=
  let sl := getSlot s i
  if ownerOf sl e.chunk == some (selfId s) then
    let ready := isServable sl e.chunk
    modFetch s i e.chunk e.format e.mode (fun e => { e with
      buf := some buf, st := if ready then .casting else .waitSource, windowStart := if ready then s.time else e.windowStart })
  else
    let s := modFetch s i e.chunk e.format e.mode (fun e => { e with buf := some buf, st := .fetching })
    sendGather s i e

/-- A buffer requested for an entry in WAIT_BUFFER (R113, R340). -/
def tryFetchBuffer (s : State) (i : Nat) (e : Fetch) : State :=
  let bytes := (chunkImageBytes e.format).getD 0
  let units := poolSize (smallestPool bytes) / 256
  let s := makeRoom s i units ((getSlot s i).fetch.length)
  match poolRequest s (tileOfChunk e.chunk) i 3 bytes (ownerFetch i) with
  | (.ok b, s) => startFetch (dropWaiter s (.fetch i e.chunk e.format e.mode) i 3) i e b
  | (.quota, s) => addWaiter s (.fetch i e.chunk e.format e.mode)
  | (.empty, s) => addWaiter s (.fetch i e.chunk e.format e.mode)

/-- One chunk request handled (R113): served, merged, or a new entry. `bit` sets the requester in the entry. -/
def handleRequest (s : State) (i p : Nat) (r : GatherReq) (bit : Fetch → Fetch) : State :=
  match findFetch (getSlot s i) r.chunk r.format r.mode with
  | some e =>
    if e.st == .filled then
      let s := modDeliv s i (fun d => { d with cacheHits := inc32 d.cacheHits })
      sendCopy s i p e r.tag
    else
      let s := modDeliv s i (fun d => { d with merged := inc32 d.merged })
      let s := modFetch s i r.chunk r.format r.mode bit
      modRx s p (fun x => { x with gathers := x.gathers ++ [r] })
  | none =>
    let sl := getSlot s i
    let e := bit { chunk := r.chunk, format := r.format, mode := r.mode, group := r.group, st := .waitBuffer, downMask := 0,
                   portMask := 0, buf := none, attempt := sl.step.attempt, image := [], crc := 0, created := s.time,
                   windowStart := s.time, lastSent := 0, receiving := false, resendAt := none, order := 0 }
    let s := modSlot s i (fun sl => { sl with fetch := sl.fetch ++ [e] })
    let n := (getSlot s i).fetch.length
    let s := modDeliv s i (fun d => { d with entriesPeak := max d.entriesPeak n })
    let s := modRx s p (fun x => { x with gathers := x.gathers ++ [r] })
    tryFetchBuffer s i e

/-- The chunks that a GATHER asks for. -/
def gatherChunks (h : Hdr) : List Nat := (List.range (hGatherChunks h)).map (hGatherFirst h / 1024 + ·)

/-- Whether the port of a GATHER is a requester of its group for every chunk (R110 check 4). -/
def gatherRequester (s : State) (sl : Slot) (v : GroupVer) (h : Hdr) (p : Nat) : Bool :=
  if (getPort s p).cfg.trunk then
    (gatherChunks h).all (fun g => (fetchKids sl h.group g).contains (portPeerDev s p))
  else (groupPorts v).contains p

/-- The checks of R110 in order. -/
def gatherCheck (s : State) (sl : Slot) (h : Hdr) (p : Nat) : Option Reason :=
  let first := hGatherFirst h
  let n := hGatherChunks h
  let cs := gatherChunks h
  if sl.step.st == .none || sl.step.num < h.step then some .futureVersion
  else if h.step < sl.step.num then some .staleVersion
  else if !isDeliverFmt h.format || 4 < h.mode then some .badFormat
  else if first % 1024 != 0 || n = 0 || 64 < n || sl.shard.l < first + 1024 * n || cs.any (fun g => (ownerOf sl g).isNone) then
    some .badRange
  else
    match stepGroup sl h.group with
    | none => some .nonMember
    | some v =>
      if geRelay v || !(cs.all (fun g => ((ownerOf sl g).bind (groupPos v)).isSome)) || !gatherRequester s sl v h p then
        some .nonMember
      else
        let fresh := (cs.filter (fun g => (findFetch sl g h.format h.mode).isNone)).length
        if 256 < (getPort s p).rx.gathers.length + n || sl.ob.fetchEntries < sl.fetch.length + fresh then some .tableFull
        else none

/-- A GATHER taken (R110, R113): each chunk is served, merged or fetched. -/
def takeGather (rx : RxFrame) (s : State) : State :=
  match admitFrame tGather s rx with
  | (none, s) => s
  | (some (h, i), s) =>
    let p := rx.port.val
    let sl := getSlot s i
    match gatherCheck s sl h p with
    | some r => dropLate s rx h i r
    | none =>
      let trunk := (getPort s p).cfg.trunk
      let s := releaseChain s p i 0 (unitsOf rx.payload.length)
      let s := modDeliv s i (fun d => { d with accepted := inc32 d.accepted })
      let s := if trunk then modTx s p (fun t => { t with hop := modAt t.hop 3 (· + gatherUnits h.format (hGatherChunks h)) }) else s
      (gatherChunks h).foldl (fun s g =>
        let r : GatherReq := ⟨i, g, h.format, h.mode, h.tag, h.group, gatherUnits h.format 1⟩
        let bit (e : Fetch) : Fetch :=
          if trunk then { e with downMask := orBit e.downMask ((fetchKids sl h.group g).idxOf (portPeerDev s p)) }
          else { e with portMask := orBit e.portMask p }
        handleRequest s i p r bit) s

/-- GATHER (R110): from a member port. -/
def effGather (rx : RxFrame) (s : State) : State := if (getPort s rx.port.val).cfg.trunk then s else takeGather rx s

/-- Meaning of GATHER. -/
def execGather (rx : RxFrame) (s : State) : Out := .next (effGather rx s)

/-- DEVICE_GATHER (R110, R113): from a trunk port. -/
def effDeviceGather (rx : RxFrame) (s : State) : State := if (getPort s rx.port.val).cfg.trunk then takeGather rx s else s

/-- Meaning of DEVICE_GATHER. -/
def execDeviceGather (rx : RxFrame) (s : State) : Out := .next (effDeviceGather rx s)

/-- GATHER_RESEND (R370): the entries that TABLE_FULL turned away are asked for again, 1 µs after the NACK. -/
def effGatherResend (slot : SlotId) (s : State) : State :=
  let i := slot.val
  match (getSlot s i).fetch.find? (fun e => e.resendAt.isSome && e.st == .fetching) with
  | none => s
  | some e =>
    let s := timeTo s (e.resendAt.getD 0)
    let s := modFetch s i e.chunk e.format e.mode (fun e => { e with resendAt := none })
    sendGather s i e

/-- Meaning of GATHER_RESEND. -/
def execGatherResend (slot : SlotId) (s : State) : Out := .next (effGatherResend slot s)

/-- The checks that R373 gives a DELIVER, in order. -/
def deliverCheck (s : State) (sl : Slot) (h : Hdr) (p : Nat) : Option Reason :=
  if h.step != sl.step.num || sl.step.st == .none then some .staleStep
  else if h.attempt != sl.step.attempt then some .oldAttempt
  else
    match findFetch sl (hDeliverChunk h) h.format h.mode with
    | none => some .deliverUnexpected
    | some e =>
      let parent := (fetchParent sl e.group e.chunk).map Prod.snd
      if e.st != .fetching || e.receiving || parent != some (portPeerDev s p) then some .deliverUnexpected else none

/-- DELIVER (R107, R114, R120): the image fills its entry and is copied on. A CRC mismatch is counted in CRC_FAILURES and aborts. -/
def effDeliver (rx : RxFrame) (s : State) : State :=
  let fails (t : State) : State :=
    match slotOfJob s (hdrDecode rx.hdr).job with
    | none => t
    | some i => modDeliv t i (fun d => { d with crcFailures := inc32 d.crcFailures })
  let crcBad := hcrcOk rx.hdr && !rx.hdrBad && !rx.payBad && rx.fcs != fcsOf rx.payload
  match admitFrame tDeliver s rx with
  | (none, t) => if crcBad && (getPort t rx.port.val).cnt.fcsErrors != (getPort s rx.port.val).cnt.fcsErrors then fails t else t
  | (some (h, i), s) =>
    let p := rx.port.val
    match deliverCheck s (getSlot s i) h p with
    | some r => dropLate s rx h i r
    | none =>
      match findFetch (getSlot s i) (hDeliverChunk h) h.format h.mode with
      | none => s
      | some e => fillFetch s i e rx.payload rx.fcs

/-- Meaning of DELIVER. -/
def execDeliver (rx : RxFrame) (s : State) : Out := .next (effDeliver rx s)

/-- CAST_COMPLETE (R114, R115): the oldest CASTING entry of the slot is formed and FILLED; its flags go to the owner's word. -/
def effCastComplete (slot : SlotId) (s : State) : State :=
  let i := slot.val
  match (getSlot s i).fetch.find? (fun e => e.st == .casting) with
  | none => s
  | some e =>
    let r := castImage s i e.chunk e.format e.mode
    let s := setFlags s i r.2
    let s := modDeliv s i (fun d => { d with cast := inc32 d.cast })
    fillFetch s i e r.1 (crc64 r.1)

/-- Meaning of CAST_COMPLETE. -/
def execCastComplete (slot : SlotId) (s : State) : Out := .next (effCastComplete slot s)

/-- A chunk becomes servable (R105, R114): its waiting entries go to CASTING, and their windows start. -/
def makeServable (s : State) (i g : Nat) : State :=
  modSlot s i (fun sl => { sl with
    servable := if sl.servable.contains g then sl.servable else sl.servable ++ [g]
    fetch := sl.fetch.map (fun e =>
      if e.chunk == g && e.st == .waitSource then { e with st := .casting, windowStart := max e.created s.time }
      else if e.chunk == g && e.st == .waitBuffer then { e with windowStart := max e.created s.time } else e) })

/-- The owner's entry whose gather window ends first (R123). -/
def firstGatherDue (s : State) (sl : Slot) : Option Fetch :=
  (sl.fetch.filter (fun e => e.st != .filled && isServable sl e.chunk && ownerOf sl e.chunk == some (selfId s))).foldl
    (fun best e => match best with
      | none => some e
      | some b => if e.windowStart < b.windowStart then some e else some b) none

/-- Whom a gather deadline names (R285): the children and ports whose credits hold back a copy of the chunk, or the owner itself. -/
def gatherSuspects (s : State) (i : Nat) (e : Fetch) : List Accusation :=
  let held := s.ports.filter (fun q => (q.2.tx.queues.getD 3 []).any (fun f => f.slot == i && hDeliverChunk f.h == e.chunk))
  match held with
  | [] => [accDevice (selfId s) syLate]
  | _ => held.map (fun q => accPeer s q.1 syLate)

/-- GATHER_DEADLINE (R123): an entry that is not FILLED by the end of its window aborts the step. -/
def effGatherDeadline (slot : SlotId) (s : State) : State :=
  let i := slot.val
  let sl := getSlot s i
  match firstGatherDue s sl with
  | none => s
  | some e =>
    let s := timeTo s (e.windowStart + usNs sl.ob.gatherDeadline)
    raiseAbort s i caGatherDeadline (gatherSuspects s i e)

/-- Meaning of GATHER_DEADLINE. -/
def execGatherDeadline (slot : SlotId) (s : State) : Out := .next (effGatherDeadline slot s)

/-- The requests of a slot that a test accepts struck off every port's records; a member port is answered STALE_VERSION for each
(R122). `step` is the step that they asked for. -/
def staleRequests (s : State) (i step : Nat) (mine : GatherReq → Bool) : State :=
  s.ports.foldl (fun s q =>
    let rs := q.2.rx.gathers.filter mine
    let s := if q.2.cfg.trunk then s
      else rs.foldl (fun s r =>
        let h := { slotHdr s q.1 i tGather 0 with
          group := r.group, format := r.format, mode := r.mode, tag := r.tag, attempt := 0, step := step }
        let s := sendNack s q.1 h true 0x12 0 0 0
        modDeliv s i (fun d => { d with nackVersion := inc32 d.nackVersion })) s
    if rs.isEmpty then s else modRx s q.1 (fun r => { r with gathers := r.gathers.filter (fun g => !mine g) })) s

/-- A fetch entry abandoned on STALE_VERSION (R122, R370): its waiting member ports are answered. -/
def abandonEntry (s : State) (i : Nat) (e : Fetch) : State :=
  let mine (r : GatherReq) : Bool := r.slot == i && r.chunk == e.chunk && r.format == e.format && r.mode == e.mode
  dropFetch (staleRequests s i (getSlot s i).step.num mine) i e

/-- One waiting requester asks again (R343). -/
def retryWaiter (s : State) (w : Waiter) : State :=
  match w with
  | .fetch i c f m =>
    match findFetch (getSlot s i) c f m with
    | none => dropWaiter s w i 3
    | some e => if e.st == .waitBuffer then tryFetchBuffer s i e else dropWaiter s w i 3
  | .encoder i b j _ => trySendPartial s i b j
  | .stateFormer i b j => trySendPending s i b j
  | .report i => dropWaiter s w i 4
  | .ship i => trySendShips s i (getSlot s i).tan.ships.length

/-- POOL_WAIT_RETRY (R343): the waiting requesters ask again in the order of their first failures. -/
def effPoolWaitRetry (s : State) : State := (s.fab.waiters.map Prod.fst).foldl retryWaiter s

/-- Meaning of POOL_WAIT_RETRY. -/
def execPoolWaitRetry (s : State) : Out := .next (effPoolWaitRetry s)

end Sys2Proof.Machine
end

