-- ==== Sys2Proof/Machine/Mirror.lean ====
section
/-! DEFINITION. The tandem mirror (R262 to R269, R274, R371): STATE frames judged and written, reports compared, restores served,
resyncs at both ends, the end and the breaking of a mirror pass. -/

namespace Sys2Proof.Machine

/-! ### The mirror -/

/-- The slot's tandem changed. -/
def modTan (s : State) (i : Nat) (f : Tandem → Tandem) : State := modSlot s i (fun sl => { sl with tan := f sl.tan })

/-- The slot's transaction record changed. -/
def modStep (s : State) (i : Nat) (f : StepRec → StepRec) : State := modSlot s i (fun sl => { sl with step := f sl.step })

/-- MIRROR_STATE code (R263). -/
def mirrorCode : MirrorSt → Nat
  | .empty => 0
  | .syncing => 1
  | .lagging => 2
  | .current => 3
  | .broken => 4

/-- Whether the mirror holds a step as a frame or request names it: 0 stands for NONE in a slot that has glued no step (R534). -/
def mirrorHolds (sl : Slot) (step : Nat) : Bool :=
  if sl.tan.mirrorNone then step == 0 && sl.step.lastGlued.isNone else sl.tan.mirrorStep == step

/-- Whether the mirror is CURRENT at the step before the current one, NONE for the slot's first (R253 bit 7, R534). -/
def mirrorReady (sl : Slot) : Bool :=
  sl.tan.mirrorOf.isNone || (sl.tan.mirrorSt == .current &&
    (match sl.step.lastGlued with
     | none => sl.tan.mirrorNone
     | some x => !sl.tan.mirrorNone && sl.tan.mirrorStep == x))

/-- RESYNC_REQ on the lowest port of the MIRROR_OF trunk (R262, R266, R308, R362); while a channel is being mapped out it waits
(R430). -/
def requestResync (s : State) (i : Nat) : State :=
  if !s.hbm.moving.isEmpty then s
  else
  match (getSlot s i).tan.mirrorOf with
  | none => s
  | some d =>
    match upTrunk s d with
    | [] => s
    | p :: _ => slotLinkCtrl s p i 0x08 0 []

/-! ### Serving restores (R274) -/

/-- What the partner does with a restore request now. -/
inductive ServeNow where
  | serve | wait | refuse
  deriving DecidableEq, Repr

/-- A request judged by the mirror's state (R274). -/
def serveNow (sl : Slot) (j : RestoreJob) : ServeNow :=
  match sl.tan.mirrorSt with
  | .empty => .refuse
  | .broken => .refuse
  | .lagging => .wait
  | .syncing => if j.rollback then .refuse else .wait
  | .current => if mirrorHolds sl j.step then .serve else if j.rollback then .refuse else .wait

/-- RESTORE_REFUSE to the MIRROR_OF device (R274, R362). -/
def refuseRestore (s : State) (i : Nat) (rollback : Bool) : State :=
  let sl := getSlot s i
  match sl.tan.mirrorOf with
  | none => s
  | some d =>
    match upTrunk s d with
    | [] => s
    | p :: _ => slotLinkCtrl s p i 0x09 0 (leBytes 1 (mirrorCode sl.tan.mirrorSt + 8 * b2n rollback))

/-- Every request judged again: refused ones leave, the others wait or are served. -/
def settleRestores (s : State) (i : Nat) : State :=
  let js := (getSlot s i).tan.restores
  let s := modTan s i (fun t => { t with restores := [] })
  js.foldl (fun s j =>
    match serveNow (getSlot s i) j with
    | .refuse => refuseRestore s i j.rollback
    | .wait => modTan s i (fun t => { t with restores := t.restores ++ [{ j with deferred := true }] })
    | .serve => modTan s i (fun t => { t with restores := t.restores ++ [{ j with deferred := false }] })) s

/-! ### A mirror pass ends or breaks (R265 to R267) -/

/-- The mirror BROKEN (R266): the event, the incident and the RESYNC_REQ. -/
def breakMirror (s : State) (i : Nat) (a : Accusation) : State :=
  let d := (getSlot s i).tan.mirrorOf.getD 0
  let s := modTan s i (fun t => { t with mirrorSt := .broken, syncGot := [], syncNext := [] })
  let s := postEvent s evMirrorBroken i (leBytes 2 d)
  let s := ownIncident s i a.kind a.suspect a.symptom a.detail
  settleRestores (requestResync s i) i

/-! ### Reports (R254, R255, R371) -/

/-- The XOR of the bucket digests over the armed buckets that a device owns (R254). -/
def gradDigest (s : State) (sl : Slot) (dev : Nat) : W64 :=
  ((sl.buckets.map Prod.snd).filter (fun b => !b.abandoned && ownerOf sl (bdChunkIndex b.desc 0) == some dev)).foldl
    (fun x b => x ^^^ bucketDigest s sl b) 0

/-- The armed buckets whose chunks this device mirrors. -/
def mirroredBuckets (sl : Slot) : List Bucket :=
  match sl.tan.mirrorOf with
  | none => []
  | some d => (sl.buckets.map Prod.snd).filter (fun b => !b.abandoned && ownerOf sl (bdChunkIndex b.desc 0) == some d)

/-- A report that disagrees aborts the step (R255). -/
def reportMismatch (s : State) (i dev : Nat) : State := raiseAbort s i caDigestMismatch [accDevice dev syCorrupt]

/-- The partner report compared once the counts have reached it (R255, R371). -/
def judgePartner (s : State) (i : Nat) : State :=
  let sl := getSlot s i
  match sl.step.partnerReport, sl.tan.mirrorOf with
  | some w, some d =>
    if sl.step.partnerAgreed then s
    else
      let n := w.toNat
      let chunks := bitsOf n 0 32
      let rows := bitsOf n 32 32
      let p := sl.tan.pending.length
      let e := sl.tan.pendingEmem.length
      if chunks < p || rows < e then reportMismatch s i d
      else if p < chunks || e < rows || !(mirroredBuckets sl).all bucketDone then s
      else if gradDigest s sl d == BitVec.ofNat 64 (bitsOf n 64 64) then
        modStep s i (fun r => { r with partnerAgreed := true })
      else reportMismatch s i d
  | some _, none => s
  | none, some _ => s
  | none, none => s

/-- A segment report compared once the count has reached it (R255, R371). -/
def judgeSegment (s : State) (i p : Nat) : State :=
  let q := tget segInit (getSlot s i).step.ringPorts p
  match q.report with
  | none => s
  | some (n, d) =>
    if q.got < n then s
    else if q.got = n && q.gotDigest == d then modSeg s i p (fun q => { q with agreed := true })
    else reportMismatch s i (portPeerDev s p)

/-- Every report held compared again. -/
def judgeReports (s : State) (i : Nat) : State :=
  let s := judgePartner s i
  ((getSlot s i).step.ringPorts.map Prod.fst).foldl (fun s p => judgeSegment s i p) s

/-! ### STATE frames (R264, R373) -/

/-- How a STATE frame's step and attempt stand to the slot's (R264). A slot that is rolling or rolled back has not armed its new
attempt yet. -/
def stateAge (sl : Slot) (h : Hdr) : Age :=
  if sl.step.st == .none || sl.step.num < h.step then .newer
  else if h.step < sl.step.num then .older
  else
    match ageOf 0 sl.step.attempt 0 h.attempt with
    | .same => if sl.step.st == .rollingBack || sl.step.st == .rolledBack then .newer else .same
    | .newer => .newer
    | .older => .older

/-- The devices that may send a kind of STATE frame (R308), a spare's source included (R279). -/
def stateSenders (sl : Slot) (kind : Nat) : List Nat :=
  if kind = kRestore then sl.tan.partner.toList
  else if kind = kResync || kind = kResyncEmem then sl.tan.mirrorOf.toList ++ (sl.tan.spareFrom.map Prod.snd).toList
  else sl.tan.mirrorOf.toList

/-- Whether a port is a ring port toward the upstream neighbour of some group of the slot (R373). -/
def isRingPort (s : State) (sl : Slot) (p : Nat) : Bool :=
  let d := portPeerDev s p
  (slotGroups sl).any (fun v => (ringNeighbours v).contains d && (groupTrunk v d).contains p)

/-- Whether the chunk of a row kind belongs to the shard concerned (R373). -/
def stateChunkOk (s : State) (sl : Slot) (kind dev g : Nat) : Bool :=
  let o := ownerOf sl g
  if kind = kRestore then o == some (selfId s)
  else if kind = kEmem || kind = kResyncEmem then o.isSome
  else if kind = kResync then
    (o.isSome && o == sl.tan.mirrorOf && sl.tan.mirrorOf == some dev)
      || (o == some (selfId s) && sl.tan.spareFrom.map Prod.snd == some dev)
  else o.isSome && o == sl.tan.mirrorOf

/-- The first three checks of R373 on a STATE frame. -/
def stateMalformed (s : State) (sl : Slot) (h : Hdr) (p : Nat) : Bool :=
  let k := hStateKind h
  let dev := portPeerDev s p
  if k = 0 || 8 < k then true
  else if k = kSegmentReport then !isRingPort s sl p
  else !(stateSenders sl k).contains dev || !(trunkTo s dev).contains p
    || ((k = kShip || k = kRestore || k = kResync) && sl.ob.w ≤ hStatePlane h)
    || (k != kPartnerReport && !stateChunkOk s sl k dev (hStateChunk h))

/-- The header and payload of a held frame as it was received. -/
def heldRx (x : HeldState) : RxFrame := ⟨Fin.ofNat 512 x.port, hdrEncode x.h, x.payload, x.fcs, false, false⟩

/-- A STATE frame that the device has finished with: its chain is released. -/
def stateTaken (s : State) (i : Nat) (x : HeldState) : State := releaseChain s x.port i 4 x.units

/-- A STATE frame dropped for a reason. -/
def stateDropped (s : State) (i : Nat) (x : HeldState) (r : Reason) : State := dropLate s (heldRx x) x.h i r

/-- A PENDING frame written (R103, R264): the record, and the chunk CRC that the frame carried (R93). -/
def writePending (s : State) (i : Nat) (x : HeldState) : State :=
  let g := hStateChunk x.h
  let s := chunkWrite s i .pending g 0 x.payload
  let s := modTan s i (fun t => { t with pending := tset t.pending g x.fcs })
  judgePartner (stateTaken s i x) i

/-- The mirror's copy of error-memory words written (R87): copy `c`. -/
def writeMirrorEmem (t : Tandem) (c g : Nat) (payload : Bytes) : Tandem :=
  let ws := (wordsOf 4 1024 payload).map (BitVec.ofNat 32)
  if c % 2 = 0 then { t with ememMirror0 := putWords t.ememMirror0 (g * 1024) ws }
  else { t with ememMirror1 := putWords t.ememMirror1 (g * 1024) ws }

/-- An EMEM frame written (R87). -/
def writeStateEmem (s : State) (i : Nat) (x : HeldState) : State :=
  let g := hStateChunk x.h
  let s := modTan s i (fun t => writeMirrorEmem
    { t with pendingEmem := if t.pendingEmem.contains g then t.pendingEmem else g :: t.pendingEmem } x.h.step g x.payload)
  judgePartner (stateTaken s i x) i

/-- A SHIP frame held in the shipment area, or the step aborted (R268). -/
def holdShip (s : State) (i : Nat) (x : HeldState) : State :=
  let sl := getSlot s i
  let g := hStateChunk x.h
  let t := tileOfChunk g
  let s := stateTaken s i x
  if sl.tan.shipRows ≤ (sl.tan.shipped.filter (fun e => tileOfChunk e.1 == t)).length then
    raiseAbort s i caShipOverflow [accProgram s syProgram]
  else modTan s i (fun tn => { tn with shipped := tn.shipped ++ [(g, hStatePlane x.h, x.payload)] })

/-- A partner report taken (R255): the first is kept and compared, a later one is dropped or aborts. -/
def takePartnerReport (s : State) (i : Nat) (x : HeldState) : State :=
  let w := BitVec.ofNat 256 (leNat x.payload)
  let count (s : State) : State := modStep s i (fun r => { r with reportsDropped := inc32 r.reportsDropped })
  match (getSlot s i).step.partnerReport with
  | none => judgePartner (modStep (stateTaken s i x) i (fun r => { r with partnerReport := some w })) i
  | some w0 =>
    if w0 == w then count (stateDropped s i x .duplicate)
    else reportMismatch (count (stateTaken s i x)) i (portPeerDev s x.port)

/-- A segment report taken (R255). -/
def takeSegmentReport (s : State) (i : Nat) (x : HeldState) : State :=
  let v := (leAt x.payload 0 4, BitVec.ofNat 64 (leAt x.payload 8 8))
  let count (s : State) : State := modStep s i (fun r => { r with reportsDropped := inc32 r.reportsDropped })
  match (tget segInit (getSlot s i).step.ringPorts x.port).report with
  | none => judgeSegment (modSeg (stateTaken s i x) i x.port (fun q => { q with report := some v })) i x.port
  | some v0 =>
    if v0 == v then count (stateDropped s i x .duplicate)
    else reportMismatch (count (stateTaken s i x)) i (portPeerDev s x.port)

/-- A RESTORE row written, and its dirty bit cleared (R274). -/
def writeRestore (s : State) (i : Nat) (x : HeldState) : State :=
  let key := (hStateChunk x.h, hStatePlane x.h)
  let sl := getSlot s i
  if x.h.step != servedStep sl then stateDropped s i x .oldAttempt
  else
    let s := stateTaken s i x
    if !sl.tan.dirty.contains key then s
    else
      let s := chunkWrite s i .primary key.1 key.2 x.payload
      modTan s i (fun t =>
        let left := t.dirty.filter (fun e => e != key)
        { t with dirty := left, late := t.late.filter (fun e => e != key), restoring := t.restoring && !left.isEmpty })

/-- How many rows and planes a device's shard has. -/
def shardRows (sl : Slot) (dev : Nat) : Nat := (ownedChunks sl dev).length * sl.ob.w

/-- The mirror CURRENT at the step of the last resync row (R263, R269, R534). -/
def mirrorSynced (s : State) (i step : Nat) : State :=
  let s := modSlot s i (fun sl => { sl with tan := { sl.tan with
    mirrorSt := .current, mirrorStep := step, mirrorNone := step == 0 && sl.step.lastGlued.isNone,
    syncGot := sl.tan.syncNext, syncNext := [] } })
  settleRestores (postEvent s evResyncDone i (leBytes 1 1 ++ leBytes 8 step)) i

/-- A key added to a list of keys that holds it once. -/
def addKey (key : Nat × Nat) (l : List (Nat × Nat)) : List (Nat × Nat) := if l.contains key then l else key :: l

/-- The first row that a resync of the mirrored shard sends (R269). -/
def firstResyncRow (s : State) (sl : Slot) : Option (Nat × Nat) :=
  ((List.range 128).findSome? (fun t => areaChunk s sl .mirror t 0)).map (fun g => (g, 0))

/-- Whether a row begins a resync that this device did not ask for (R441, log entry 62). -/
def startsResync (s : State) (sl : Slot) (x : HeldState) : Bool :=
  sl.tan.mirrorSt == .current && sl.tan.syncGot.isEmpty && sl.tan.mirrorStep == x.h.step
    && firstResyncRow s sl == some (hStateChunk x.h, hStatePlane x.h)

/-- A RESYNC row written to the mirror (R269). Which row is a run's last the frames do not say (DEDUCED, log entry 62): the mirror is
CURRENT when every row of the shard has come; a row that comes again before that counts for the run after. A mirror that is CURRENT is
SYNCING again at the first row of another run; it takes MIRROR_STEP from a row read again after its step was glued, and drops an older
one. -/
def mirrorResync (s : State) (i : Nat) (x : HeldState) : State :=
  let sl := getSlot s i
  let t := sl.tan
  let key := (hStateChunk x.h, hStatePlane x.h)
  let good := t.mirrorSt == .current || t.mirrorSt == .lagging
  if good && x.h.step < t.mirrorStep then s
  else
    let s := chunkWrite s i .mirror key.1 key.2 x.payload
    let t' : Tandem :=
      if good then
        let t := if startsResync s sl x then { t with mirrorSt := .syncing } else t
        let t := if t.mirrorSt == .current && t.mirrorStep < x.h.step then
            { t with mirrorStep := x.h.step, mirrorNone := false } else t
        { t with syncGot := addKey key t.syncGot }
      else if t.mirrorSt != .syncing then { t with mirrorSt := .syncing, syncGot := [key], syncNext := [] }
      else if t.syncGot.contains key then { t with syncNext := addKey key t.syncNext }
      else { t with syncGot := key :: t.syncGot }
    let s := modTan s i (fun _ => t')
    if t'.mirrorSt != .lagging && shardRows sl (t.mirrorOf.getD 0) ≤ t'.syncGot.length then mirrorSynced s i x.h.step else s

/-- A RESYNC row written to the mirror (R269), or to the primary shard of a spare (R279). -/
def writeResync (s : State) (i : Nat) (x : HeldState) : State :=
  let sl := getSlot s i
  let key := (hStateChunk x.h, hStatePlane x.h)
  let s := stateTaken s i x
  if ownerOf sl key.1 == some (selfId s) then
    let s := chunkWrite s i .primary key.1 key.2 x.payload
    let got := addKey key sl.tan.spareGot
    if shardRows sl (selfId s) ≤ got.length then
      let s := modSlot s i (fun sl => { sl with
        tan := { sl.tan with spareFrom := none, spareGot := [] }
        step := { sl.step with lastGlued := if x.h.step = 0 then sl.step.lastGlued else some x.h.step } })
      postEvent s evResyncDone i (leBytes 1 1 ++ leBytes 8 x.h.step)
    else modTan s i (fun t => { t with spareGot := got })
  else mirrorResync s i x

/-- A RESYNC_EMEM frame written (R269): the glued copy of the mirror's error memory, or of a spare's own. -/
def writeResyncEmem (s : State) (i : Nat) (x : HeldState) : State :=
  let sl := getSlot s i
  let g := hStateChunk x.h
  let c := if x.h.step = 0 && sl.step.lastGlued.isNone then sl.shard.gluedCopy else x.h.step % 2
  let s := stateTaken s i x
  let ws := (wordsOf 4 1024 x.payload).map (BitVec.ofNat 32)
  if sl.tan.spareFrom.map Prod.snd == some (portPeerDev s x.port) then
    modSlot s i (fun sl => { sl with shard :=
      if c = 0 then { sl.shard with emem0 := putWords sl.shard.emem0 (g * 1024) ws }
      else { sl.shard with emem1 := putWords sl.shard.emem1 (g * 1024) ws } })
  else modTan s i (fun t => writeMirrorEmem t c g x.payload)

/-- Whether a STATE frame of a kind waits while a mirror pass runs (R264). -/
def heldByPass (k : Nat) : Bool := k != kRestore && k != kSegmentReport

/-- A STATE frame judged by the checks of R373 and R264, and written. -/
def takeState (s : State) (i : Nat) (x : HeldState) : State :=
  let sl := getSlot s i
  let k := hStateKind x.h
  let hold (s : State) : State := modTan s i (fun t => { t with heldStates := t.heldStates ++ [x] })
  if stateMalformed s sl x.h x.port then stateDropped s i x .malformed
  else if sl.tan.passRunning && heldByPass k then hold s
  else if k = kRestore then writeRestore s i x
  else if k = kResync then writeResync s i x
  else if k = kResyncEmem then writeResyncEmem s i x
  else
    match stateAge sl x.h with
    | .newer => hold s
    | .older =>
      let s := if k = kPartnerReport || k = kSegmentReport then
          modStep s i (fun r => { r with reportsDropped := inc32 r.reportsDropped }) else s
      stateDropped s i x .oldAttempt
    | .same =>
      if k = kPending then writePending s i x
      else if k = kEmem then writeStateEmem s i x
      else if k = kShip then holdShip s i x
      else if k = kPartnerReport then takePartnerReport s i x
      else takeSegmentReport s i x

/-- Held STATE frames judged again, as if they had just arrived (R264). -/
def rejudgeHeld (s : State) (i : Nat) : State :=
  let xs := (getSlot s i).tan.heldStates
  let s := modTan s i (fun t => { t with heldStates := [] })
  xs.foldl (fun s x => takeState s i x) s

/-- At an arming, the held frames of the armed step and attempt are judged; those of any other are discarded (R264). Frames that the
mirror pass holds back stay held. -/
def armHeld (s : State) (i : Nat) : State :=
  let xs := (getSlot s i).tan.heldStates
  let s := modTan s i (fun t => { t with heldStates := [] })
  xs.foldl (fun s x =>
    let sl := getSlot s i
    let k := hStateKind x.h
    let rows := k = kResync || k = kResyncEmem
    if rows || (x.h.step == sl.step.num && x.h.attempt == sl.step.attempt) then takeState s i x
    else stateTaken s i x) s

/-- The end of a mirror pass that has run to END (R265, R267): MIRROR_STEP = s, and CURRENT when the digests agree. -/
def endPass (s : State) (i : Nat) : State :=
  let tn := (getSlot s i).tan
  let s := modTan s i (fun t => { t with passRunning := false, passWaiting := false })
  let s :=
    if tn.mirrorSt == .lagging then
      let s := modTan s i (fun t => { t with mirrorStep := t.passStep, mirrorNone := false })
      if tn.mirrorReport == some tn.mirrorDigest then modTan s i (fun t => { t with mirrorSt := .current })
      else breakMirror s i (accDevice (tn.mirrorOf.getD 0) syCorrupt)
    else s
  settleRestores (rejudgeHeld s i) i

/-- A mirror pass that faulted (R266): the mirror BROKEN; no step aborts. -/
def failPass (s : State) (i : Nat) (a : Accusation) : State :=
  let s := modTan s i (fun t => { t with passRunning := false, passWaiting := false })
  settleRestores (rejudgeHeld (breakMirror s i a) i) i

/-- A received STATE frame of a kind that a test accepts. -/
def stateFrame (kind : Nat → Bool) (rx : RxFrame) (s : State) : State :=
  if !kind (hStateKind (hdrDecode rx.hdr)) then s
  else
    match admitFrame tState s rx with
    | (none, s) => s
    | (some (h, i), s) => takeState s i ⟨rx.port.val, h, rx.payload, rx.fcs, unitsOf rx.payload.length⟩

/-- STATE_PENDING (R93, R103, R264). A STATE frame of a reserved KIND comes here too, and is MALFORMED. -/
def effStatePending (rx : RxFrame) (s : State) : State := stateFrame (fun k => k = kPending || k = 0 || 8 < k) rx s

/-- Meaning of STATE_PENDING. -/
def execStatePending (rx : RxFrame) (s : State) : Out := .next (effStatePending rx s)

/-- STATE_EMEM (R87). -/
def effStateEmem (rx : RxFrame) (s : State) : State := stateFrame (· = kEmem) rx s

/-- Meaning of STATE_EMEM. -/
def execStateEmem (rx : RxFrame) (s : State) : Out := .next (effStateEmem rx s)

/-- STATE_SHIP (R268). -/
def effStateShip (rx : RxFrame) (s : State) : State := stateFrame (· = kShip) rx s

/-- Meaning of STATE_SHIP. -/
def execStateShip (rx : RxFrame) (s : State) : Out := .next (effStateShip rx s)

/-- STATE_RESTORE (R274). -/
def effStateRestore (rx : RxFrame) (s : State) : State := stateFrame (· = kRestore) rx s

/-- Meaning of STATE_RESTORE. -/
def execStateRestore (rx : RxFrame) (s : State) : Out := .next (effStateRestore rx s)

/-- STATE_RESYNC (R269, R279). -/
def effStateResync (rx : RxFrame) (s : State) : State := stateFrame (· = kResync) rx s

/-- Meaning of STATE_RESYNC. -/
def execStateResync (rx : RxFrame) (s : State) : Out := .next (effStateResync rx s)

/-- STATE_RESYNC_EMEM (R269). -/
def effStateResyncEmem (rx : RxFrame) (s : State) : State := stateFrame (· = kResyncEmem) rx s

/-- Meaning of STATE_RESYNC_EMEM. -/
def execStateResyncEmem (rx : RxFrame) (s : State) : Out := .next (effStateResyncEmem rx s)

/-- PARTNER_REPORT (R255). -/
def effPartnerReport (rx : RxFrame) (s : State) : State := stateFrame (· = kPartnerReport) rx s

/-- Meaning of PARTNER_REPORT. -/
def execPartnerReport (rx : RxFrame) (s : State) : Out := .next (effPartnerReport rx s)

/-- SEGMENT_REPORT (R255). -/
def effSegmentReport (rx : RxFrame) (s : State) : State := stateFrame (· = kSegmentReport) rx s

/-- Meaning of SEGMENT_REPORT. -/
def execSegmentReport (rx : RxFrame) (s : State) : Out := .next (effSegmentReport rx s)

/-! ### Requests between tandem devices -/

/-- The slot and sender of a LINK_CTRL frame of a kind that concerns a job held OPEN. -/
def tandemRequest (kind : Nat) (rx : RxFrame) (s : State) : Option (Hdr × Nat × Nat) × State :=
  if hLinkKind (hdrDecode rx.hdr) != kind then (none, s)
  else
    match admitLink tLinkCtrl s rx with
    | (none, s) => (none, s)
    | (some h, s) =>
      if !(getPort s rx.port.val).cfg.trunk then (none, dropFor s rx h none .protocol 0x06 0)
      else
        match openSlotOf s h.job with
        | none => (none, s)
        | some i => (some (h, i, portPeerDev s rx.port.val), s)

/-- The runs of a RESTORE_REQ as pairs of chunk and plane (R362). -/
def restoreRuns (w : Nat) (payload : Bytes) : List (Nat × Nat) :=
  (List.range (leAt payload 0 1)).flatMap (fun k =>
    let n := leAt payload (1 + 16 * k) 16
    let g := bitsOf n 0 34
    (List.range (bitsOf n 64 32)).flatMap (fun d =>
      ((List.range w).filter (fun p => bitOf n (96 + p))).map (fun p => (g + d, p))))

/-- Whether a RESTORE_REQ for a step comes from a rollback: this device is not committed at that step. -/
def restoreIsRollback (sl : Slot) (step : Nat) : Bool :=
  step != sl.step.num || sl.step.st == .rollingBack || sl.step.st == .rolledBack || sl.step.st == .none

/-- RESTORE_REQ (R274): taken from the MIRROR_OF device, then served, deferred or refused. -/
def effRestoreReq (rx : RxFrame) (s : State) : State :=
  match tandemRequest 0x07 rx s with
  | (none, s) => s
  | (some (h, i, dev), s) =>
    let sl := getSlot s i
    if sl.tan.mirrorOf != some dev then s
    else
      let rows := (restoreRuns sl.ob.w rx.payload).filter (fun e => ownerOf sl e.1 == some dev)
      let j : RestoreJob := ⟨rows, restoreIsRollback sl h.step, h.step, h.attempt, false⟩
      settleRestores (modTan s i (fun t => { t with restores := t.restores ++ [j] })) i

/-- Meaning of RESTORE_REQ. -/
def execRestoreReq (rx : RxFrame) (s : State) : Out := .next (effRestoreReq rx s)

/-- Whether the port on which a chunk's frame would leave toward a device is up (R308). -/
def portReady (s : State) (dev g : Nat) : Bool :=
  match partnerPort s dev g with
  | none => false
  | some p => (getPort s p).up

/-- RESTORE_ROW_SEND (R274): the next row of the oldest request being served is read from the mirror and sent, when a buffer is
granted. -/
def effRestoreRowSend (slot : SlotId) (s : State) : State :=
  let i := slot.val
  let s := settleRestores s i
  let sl := getSlot s i
  match sl.tan.restores.find? (fun j => !j.deferred), sl.tan.mirrorOf with
  | some j, some d =>
    match j.rows with
    | [] => modTan s i (fun t => { t with restores := t.restores.erase j })
    | (g, p) :: rest =>
      if !portReady s d g then s
      else
      match poolRequest s (tileOfChunk g) i 4 4096 (ownerState i) with
      | (.ok b, s) =>
        let s := modTan s i (fun t => { t with restores :=
          if rest.isEmpty then t.restores.erase j else t.restores.map (fun k => if k == j then { k with rows := rest } else k) })
        sendState s i d kRestore p g j.step sl.step.attempt (chunkRead s i .mirror g p) [b]
      | (.quota, s) => s
      | (.empty, s) => s
  | some _, none => s
  | none, some _ => s
  | none, none => s

/-- Meaning of RESTORE_ROW_SEND. -/
def execRestoreRowSend (slot : SlotId) (s : State) : Out := .next (effRestoreRowSend slot s)

/-- RESTORE_REFUSE (R277): the partner cannot supply the rows, and the slot is LOST. -/
def effRestoreRefuse (rx : RxFrame) (s : State) : State :=
  match tandemRequest 0x09 rx s with
  | (none, s) => s
  | (some (_, i, dev), s) =>
    let sl := getSlot s i
    if sl.tan.partner == some dev && sl.tan.restoring then loseSlot s i else s

/-- Meaning of RESTORE_REFUSE. -/
def execRestoreRefuse (rx : RxFrame) (s : State) : Out := .next (effRestoreRefuse rx s)

/-! ### Resync, the sending end (R269, R279) -/

/-- The chunks of the error-memory region (R88). -/
def ememChunkList (sl : Slot) : List Nat := (List.range sl.shard.ememChunks).map (sl.shard.ememFirst / 1024 + ·)

/-- A resync started, or started again from its first row (R269). -/
def startResync (s : State) (i dest : Nat) (ofMirror : Bool) : State :=
  let sl := getSlot s i
  let j : ResyncJob := ⟨ofMirror, dest, resyncRows s sl (if ofMirror then .mirror else .primary), ememChunkList sl⟩
  modTan s i (fun t => { t with resyncs := t.resyncs.filter (fun k => k.ofMirror != ofMirror) ++ [j] })

/-- RESYNC_REQ (R269): from the PARTNER, for its mirror of this primary shard; from the device whose shard this one mirrors, a
spare's request for that shard (R279). -/
def effResyncReq (rx : RxFrame) (s : State) : State :=
  match tandemRequest 0x08 rx s with
  | (none, s) => s
  | (some (_, i, dev), s) =>
    let sl := getSlot s i
    if sl.tan.partner == some dev then startResync s i dev false
    else if sl.tan.mirrorOf == some dev then startResync s i dev true
    else s

/-- Meaning of RESYNC_REQ. -/
def execResyncReq (rx : RxFrame) (s : State) : Out := .next (effResyncReq rx s)

/-- Whether a resync can go on now: a mirror is sent only once it is CURRENT (R279). -/
def resyncRuns (sl : Slot) (j : ResyncJob) : Bool := !j.ofMirror || sl.tan.mirrorSt == .current

/-- The step of the state that a resync sends, 0 for NONE (R269, R534). -/
def resyncStep (sl : Slot) (j : ResyncJob) : Nat :=
  if j.ofMirror then (if sl.tan.mirrorNone then 0 else sl.tan.mirrorStep) else servedStep sl

/-- The error-memory words that a resync sends for a chunk: the glued copy. -/
def resyncEmem (sl : Slot) (j : ResyncJob) (g : Nat) : List Nat :=
  let t := if j.ofMirror then (if sl.shard.gluedCopy = 0 then sl.tan.ememMirror0 else sl.tan.ememMirror1)
    else (if sl.shard.gluedCopy = 0 then sl.shard.emem0 else sl.shard.emem1)
  (List.range 1024).map (fun k => (tget 0 t (g * 1024 + k)).toNat)

/-- A resync job replaced by what is left of it. -/
def putResync (s : State) (i : Nat) (j k : ResyncJob) : State :=
  modTan s i (fun t => { t with resyncs := t.resyncs.map (fun x => if x == j then k else x) })

/-- A resync that has read every row: RESYNC_DONE (R269, R452). -/
def finishResync (s : State) (i : Nat) (j : ResyncJob) : State :=
  let step := resyncStep (getSlot s i) j
  let s := modTan s i (fun t => { t with resyncs := t.resyncs.erase j })
  postEvent s evResyncDone i (leBytes 1 0 ++ leBytes 8 step)

/-- The first row that may be read now: a row written in a step in dry-fit, or damaged, waits (R269). -/
def resyncNext (s : State) (sl : Slot) (j : ResyncJob) : Option (Nat × Nat) :=
  j.rows.find? (fun e => (j.ofMirror || !sl.tan.dirty.contains e) && portReady s j.dest e.1)

/-- RESYNC_ROW_SEND (R269): the error-memory words first, then each row once in row order; after the last, RESYNC_DONE. -/
def effResyncRowSend (slot : SlotId) (s : State) : State :=
  let i := slot.val
  let sl := getSlot s i
  match sl.tan.resyncs.find? (resyncRuns sl) with
  | none => s
  | some j =>
    let step := resyncStep sl j
    match j.emem with
    | g :: rest =>
      if !portReady s j.dest g then s
      else
      match poolRequest s (tileOfChunk g) i 4 4096 (ownerState i) with
      | (.ok b, s) =>
        let s := putResync s i j { j with emem := rest }
        sendState s i j.dest kResyncEmem 0 g step sl.step.attempt (bytesOfWords 4 (resyncEmem sl j g)) [b]
      | (.quota, s) => s
      | (.empty, s) => s
    | [] =>
      match j.rows, resyncNext s sl j with
      | [], _ => finishResync s i j
      | _ :: _, none => s
      | _ :: _, some (g, p) =>
        match poolRequest s (tileOfChunk g) i 4 4096 (ownerState i) with
        | (.ok b, s) =>
          let k := { j with rows := j.rows.erase (g, p) }
          let s := sendState s i j.dest kResync p g step sl.step.attempt
            (chunkRead s i (if j.ofMirror then .mirror else .primary) g p) [b]
          let s := putResync s i j k
          if k.rows.isEmpty then finishResync s i k else s
        | (.quota, s) => s
        | (.empty, s) => s

/-- Meaning of RESYNC_ROW_SEND. -/
def execResyncRowSend (slot : SlotId) (s : State) : Out := .next (effResyncRowSend slot s)

/-- Every slot's chunk row written by its program is read again by a resync that had already read it (R269). -/
def resyncAgain (t : Tandem) (key : Nat × Nat) : Tandem :=
  { t with resyncs := t.resyncs.map (fun j =>
      if j.ofMirror || j.rows.contains key then j else { j with rows := j.rows ++ [key] }) }

end Sys2Proof.Machine
end

