-- ==== Sys2Proof/Machine/Septone.lean ====
section
/-! DEFINITION. The Septone command word: its fields, what each opcode uses of them, when a word is malformed (R180 to R184), and
what a command computes in one lane (R185 to R199, R206, R215, R533). -/

namespace Sys2Proof.Machine

/-! ### Fields (R180) -/

/-- OP. -/
def cOp (w : W64) : Nat := bitsOf w.toNat 0 8
/-- D. -/
def cD (w : W64) : Nat := bitsOf w.toNat 8 6
/-- A. -/
def cA (w : W64) : Nat := bitsOf w.toNat 14 6
/-- B. -/
def cB (w : W64) : Nat := bitsOf w.toNat 20 6
/-- C. -/
def cC (w : W64) : Nat := bitsOf w.toNat 26 6
/-- PG. -/
def cPG (w : W64) : Nat := bitsOf w.toNat 32 3
/-- GE. -/
def cGE (w : W64) : Bool := bitOf w.toNat 35
/-- RM. -/
def cRM (w : W64) : Nat := bitsOf w.toNat 36 3
/-- DBL. -/
def cDbl (w : W64) : Bool := bitOf w.toNat 39
/-- SW. -/
def cSW (w : W64) : Nat := bitsOf w.toNat 40 8
/-- XF. -/
def cXF (w : W64) : Nat := bitsOf w.toNat 48 16
/-- IMM of BCAST.I. -/
def cImm (w : W64) : W32 := BitVec.ofNat 32 (bitsOf w.toNat 32 32)
/-- FMT of casts and TT of PLOG. -/
def cFmt (w : W64) : Nat := bitsOf w.toNat 48 4
/-- STREAM of casts. -/
def cStream (w : W64) : Nat := bitsOf w.toNat 56 8
/-- TOL of SHCHK. -/
def cTol (w : W64) : Nat := bitsOf w.toNat 48 6
/-- GROUP of fused collective commands. -/
def cGroup (w : W64) : Nat := bitsOf w.toNat 48 14
/-- A word with its SW field replaced. -/
def cWithSW (w : W64) (sw : Nat) : W64 := BitVec.ofNat 64 (putBits w.toNat 40 8 sw)

/-- The rounding mode that RM names (R180). -/
def rmode (n : Nat) : RMode :=
  match n with
  | 0 => .rne
  | 1 => .rtz
  | 2 => .rup
  | 3 => .rdn
  | _ => .sr

/-! ### What each opcode uses (R180, R183, R184) -/

/-- What a register field names: nothing, a vector register, an FP64 pair, a predicate, an exponent or a sum accumulator. -/
inductive Use where
  | none | v | d | p | e | w
  deriving DecidableEq, Repr

/-- What RM says for a command: nothing (zero), a rounding mode, a cast mode, a condition, a kind of MAXEXP. -/
inductive RmUse where
  | zero | round | cast | cond | kind
  deriving DecidableEq, Repr

/-- What SW says: nothing, a staging word, a cast key, ABSX, TAG. -/
inductive SwUse where
  | zero | staging | castKey | absx | tag
  deriving DecidableEq, Repr

/-- A row of R184: class and uses of the fields; `acc` names the accumulator that an X9 command adds to. -/
structure Sep where
  cls : Nat
  d : Use
  a : Use
  b : Use
  c : Use
  guard : Bool
  rm : RmUse
  sw : SwUse
  deriving DecidableEq, Repr

/-- An FP32 command of class X1 to X4 with the sources given. -/
def sepF (cls : Nat) (b c : Use) (rm : RmUse) : Sep := ⟨cls, .v, .v, b, c, true, rm, .zero⟩

/-- An FP64 command. -/
def sepD (cls : Nat) (b c : Use) (rm : RmUse) : Sep := ⟨cls, .d, .d, b, c, true, rm, .zero⟩

/-- The table of R184: none for a reserved opcode. `dbl` is DBL and `rmv` RM, on which the operands of exact-sum commands depend. -/
def sepInfo (op : Nat) (dbl : Bool) (rmv : Nat) : Option Sep :=
  let x : Use := if dbl then .d else .v
  match op with
  | 0x01 => some (sepF 1 .v .none .round)
  | 0x02 => some (sepF 1 .v .none .round)
  | 0x03 => some (sepF 1 .v .none .round)
  | 0x04 => some (sepF 1 .v .v .round)
  | 0x05 => some (sepF 1 .v .v .round)
  | 0x06 => some (sepF 1 .v .none .zero)
  | 0x07 => some (sepF 1 .v .none .zero)
  | 0x08 => some (sepF 1 .none .none .zero)
  | 0x09 => some (sepF 1 .none .none .zero)
  | 0x0A => some (sepF 1 .none .none .zero)
  | 0x0B => some ⟨1, .p, .v, .v, .none, true, .cond, .zero⟩
  | 0x0C => some (sepF 1 .v .p .zero)
  | 0x0D => some ⟨1, .v, .none, .v, .none, true, .zero, .zero⟩
  | 0x0E => some ⟨1, .p, .p, .p, .none, true, .zero, .zero⟩
  | 0x0F => some (sepF 1 .v .none .zero)
  | 0x10 => some (sepF 1 .v .none .zero)
  | 0x11 => some (sepF 1 .v .none .zero)
  | 0x12 => some (sepF 1 .v .none .zero)
  | 0x13 => some (sepF 1 .v .none .zero)
  | 0x14 => some (sepF 1 .v .none .zero)
  | 0x15 => some (sepF 1 .v .none .zero)
  | 0x16 => some (sepF 1 .v .none .zero)
  | 0x17 => some ⟨1, .v, .none, .none, .none, false, .zero, .zero⟩
  | 0x20 => some ⟨2, .v, .v, .none, .none, true, .cast, .castKey⟩
  | 0x21 => some (sepF 2 .none .none .zero)
  | 0x22 => some (sepF 2 .none .none .round)
  | 0x23 => some (sepF 2 .none .none .round)
  | 0x30 => some (sepD 3 .d .none .round)
  | 0x31 => some (sepD 3 .d .none .round)
  | 0x32 => some (sepD 3 .d .none .round)
  | 0x33 => some (sepD 3 .d .d .round)
  | 0x34 => some (sepD 3 .d .none .zero)
  | 0x35 => some (sepD 3 .d .none .zero)
  | 0x36 => some ⟨3, .p, .d, .d, .none, true, .cond, .zero⟩
  | 0x37 => some ⟨3, .d, .v, .none, .none, true, .zero, .zero⟩
  | 0x38 => some ⟨3, .v, .d, .none, .none, true, .round, .zero⟩
  | 0x39 => some ⟨3, .none, .v, .d, .none, true, .zero, .absx⟩
  | 0x40 => some (sepF 4 .v .none .round)
  | 0x41 => some (sepF 4 .none .none .round)
  | 0x48 => some (sepD 5 .d .none .round)
  | 0x49 => some (sepD 5 .none .none .round)
  | 0x50 => some (sepF 6 .none .none .zero)
  | 0x51 => some (sepF 6 .none .none .zero)
  | 0x52 => some (sepF 6 .none .none .zero)
  | 0x53 => some (sepF 6 .none .none .zero)
  | 0x60 => some ⟨7, .v, .none, .none, .none, true, .zero, .staging⟩
  | 0x61 => some ⟨7, .d, .none, .none, .none, true, .zero, .staging⟩
  | 0x62 => some ⟨8, .none, .v, .none, .none, true, .zero, .staging⟩
  | 0x63 => some ⟨8, .none, .d, .none, .none, true, .zero, .staging⟩
  | 0x64 => some ⟨1, .p, .none, .none, .none, false, .zero, .staging⟩
  | 0x70 => some ⟨1, .e, .none, .none, .none, false, .zero, .zero⟩
  | 0x71 => some ⟨1, .w, .none, .w, .none, false, .zero, .zero⟩
  | 0x72 => some ⟨9, .e, x, if rmv = 2 then x else .none, .none, true, .kind, .zero⟩
  | 0x73 => some ⟨9, .e, x, if rmv = 2 then x else .none, .none, true, .kind, .tag⟩
  | 0x74 => some ⟨9, .w, x, .none, .none, true, .zero, .zero⟩
  | 0x75 => some ⟨9, .w, x, .none, .none, true, .zero, .tag⟩
  | 0x76 => some ⟨9, .w, x, .none, .none, true, .zero, .zero⟩
  | 0x77 => some ⟨9, .w, x, .none, .none, true, .zero, .tag⟩
  | 0x78 => some ⟨9, .w, x, x, .none, true, .zero, .zero⟩
  | 0x79 => some ⟨9, .w, x, x, .none, true, .zero, .tag⟩
  | 0x7A => some ⟨9, .none, .none, .none, .none, false, .zero, .tag⟩
  | _ => none

/-- The row of a command word. -/
def sepOf (w : W64) : Option Sep := sepInfo (cOp w) (cDbl w) (cRM w)

/-- Whether an opcode adds to an accumulator, and so takes DBL (R180). -/
def isExactSum (op : Nat) : Bool := 0x72 ≤ op && op ≤ 0x79

/-- Whether a command launches a collective (R200, R203): the odd exact-sum opcodes and BARRIER.STEP. -/
def isFused (op : Nat) : Bool := op == 0x73 || op == 0x75 || op == 0x77 || op == 0x79 || op == 0x7A

/-- Whether a command has a staging operand (R181): CVT.TO only in mode SR. -/
def hasStaging (w : W64) : Bool :=
  match sepOf w with
  | none => false
  | some x => x.sw == .staging || (x.sw == .castKey && cRM w == 4)

/-- Whether a register field agrees with its use. -/
def fieldOk (u : Use) (n : Nat) : Bool :=
  match u with
  | .none => n == 0
  | .v => true
  | .d => n % 2 == 0
  | .p => n < 8
  | .e => n < 4
  | .w => n < 4

/-- The issue occupancy and result latency of a class (R135). -/
def classTimes (cls : Nat) : Nat × Nat :=
  match cls with
  | 1 => (1, 4)
  | 2 => (1, 6)
  | 3 => (4, 10)
  | 4 => (4, 24)
  | 5 => (16, 60)
  | 6 => (1, 8)
  | 7 => (1, 3)
  | 8 => (1, 3)
  | _ => (1, 80)

/-- Whether RM is one that the command defines (R183). -/
def rmOk (u : RmUse) (n : Nat) : Bool :=
  match u with
  | .zero => n == 0
  | .round => n < 4
  | .cast => n < 5
  | .cond => true
  | .kind => n < 3

/-- Whether SW and XF are used as the command says (R180, R183). -/
def extraOk (w : W64) (x : Sep) (groupOk : Nat → Bool) : Bool :=
  let op := cOp w
  let swOk := match x.sw with
    | .zero => cSW w == 0
    | .staging => true
    | .castKey => cRM w == 4 || cSW w == 0
    | .absx => true
    | .tag => true
  let xfOk :=
    if op = 0x20 then
      1 ≤ cFmt w && cFmt w ≤ 5 && bitsOf (cXF w) 4 4 == 0 && (if cRM w = 4 then 0x10 ≤ cStream w else cStream w == 0)
    else if op = 0x21 then 1 ≤ cFmt w && cFmt w ≤ 5 && bitsOf (cXF w) 4 12 == 0
    else if op = 0x0E then bitsOf (cXF w) 4 12 == 0
    else if op = 0x39 then bitsOf (cXF w) 6 10 == 0
    else if isFused op then bitsOf (cXF w) 14 2 == 0 && groupOk (cGroup w)
    else cXF w == 0
  swOk && xfOk

/-- Whether a command takes a scalar in place of B (R181): WSET must. -/
def scalarOk (x : Sep) (scalar : Bool) : Bool :=
  match x.b with
  | .w => scalar
  | .none => !scalar
  | _ => true

/-- A malformed command (R183). `scalar` and `aye` say what its push supplies. -/
def sepMalformed (w : W64) (scalar aye : Bool) (groupOk : Nat → Bool) : Bool :=
  match sepOf w with
  | none => true
  | some x =>
    if cOp w = 0x17 then bitsOf w.toNat 14 18 != 0 || scalar || aye
    else
      let bUse : Use := if scalar || x.b == .w then .none else x.b
      !(fieldOk x.d (cD w) && fieldOk x.a (cA w) && fieldOk bUse (cB w) && fieldOk x.c (cC w)
        && (x.guard || !cGE w) && (cGE w || cPG w == 0) && rmOk x.rm (cRM w) && (isExactSum (cOp w) || !cDbl w)
        && extraOk w x groupOk && scalarOk x scalar && (!aye || hasStaging w))

/-! ### FP32 and FP64 lanes (R185) -/

/-- An operand of a format read under the slot's subnormal mode. -/
def operand (f : Fmt) (flush : Bool) (code : Nat) : Flagged Val := decodeFp f flush code

/-- A result rounded to a format, with the flags of operands and operation. -/
def finish (f : Fmt) (m : RMode) (flush : Bool) (fl : NFlags) (v : Flagged Val) : Flagged Nat :=
  let e := encodeVal f m 0 flush v.1
  (e.1, fl ||| v.2 ||| e.2)

/-- A command of one operand. -/
def arith1 (f : Fmt) (m : RMode) (flush : Bool) (g : Val → Flagged Val) (a : Nat) : Flagged Nat :=
  let x := operand f flush a
  finish f m flush x.2 (g x.1)

/-- A command of two operands. -/
def arith2 (f : Fmt) (m : RMode) (flush : Bool) (g : Val → Val → Flagged Val) (a b : Nat) : Flagged Nat :=
  let x := operand f flush a
  let y := operand f flush b
  finish f m flush (x.2 ||| y.2) (g x.1 y.1)

/-- A fused multiply-add: one rounding; `neg` inverts the product (R40, R185). -/
def arithFma (f : Fmt) (m : RMode) (flush neg : Bool) (a b c : Nat) : Flagged Nat :=
  let x := operand f flush a
  let y := operand f flush b
  let z := operand f flush c
  let p := mulVal x.1 y.1
  let s := addVal m (if neg then negVal p.1 else p.1) z.1
  finish f m flush (x.2 ||| y.2 ||| z.2 ||| p.2) s

/-- The difference of two values. -/
def subVal (m : RMode) (x y : Val) : Flagged Val := addVal m x (negVal y)

/-- A condition of R186 on two values: EQ, NE, LT, LE, GT, GE, UN, ORD. -/
def condVal (c : Nat) (x y : Val) : Bool × NFlags :=
  let un := isNan x || isNan y
  let eq := !un && !ltVal x y && !ltVal y x
  let r := match c with
    | 0 => eq
    | 1 => un || !eq
    | 2 => ltVal x y
    | 3 => ltVal x y || eq
    | 4 => ltVal y x
    | 5 => ltVal y x || eq
    | 6 => un
    | _ => !un
  let ordered := 2 ≤ c && c ≤ 5
  (r, if ordered then nfIf un nfInvalid else sigFlag x ||| sigFlag y)

/-- A comparison of two codes. -/
def compare (f : Fmt) (flush : Bool) (c a b : Nat) : Bool × NFlags :=
  let x := operand f flush a
  let y := operand f flush b
  let r := condVal c x.1 y.1
  (r.1, x.2 ||| y.2 ||| r.2)

/-- The FP32 code of a value of sign, kept as read (R44, R185): a subnormal of a flush slot becomes zero. -/
def readFp32 (flush : Bool) (a : Nat) : Nat × Val × NFlags :=
  let x := operand fmtFp32 flush a
  (if x.2 = nfNone then a else bitsOf a 31 1 * 2 ^ 31, x.1, x.2)

/-- FABS, FNEG (R185): the sign replaced; a NaN gives the canonical NaN. -/
def signOp (flush : Bool) (sign : Bool → Bool) (a : Nat) : Flagged Nat :=
  let x := readFp32 flush a
  if isNan x.2.1 then (0x7FC00000, x.2.2)
  else (bitsOf x.1 0 31 + b2n (sign (bitOf x.1 31)) * 2 ^ 31, x.2.2)

/-- FSIGN (R185). -/
def fsign (flush : Bool) (a : Nat) : Flagged Nat :=
  let x := readFp32 flush a
  if isNan x.2.1 then (0x7FC00000, x.2.2 ||| sigFlag x.2.1)
  else if bitsOf x.1 0 31 = 0 then (x.1, x.2.2)
  else (if bitOf x.1 31 then 0xBF800000 else 0x3F800000, x.2.2)

/-! ### Integer and predicate lanes (R184) -/

/-- The integer commands on 32-bit words. -/
def intOp (op : Nat) (a b : W32) : W32 :=
  match op with
  | 0x0F => a + b
  | 0x10 => a - b
  | 0x11 => a &&& b
  | 0x12 => a ||| b
  | 0x13 => a ^^^ b
  | 0x14 => a <<< (b.toNat % 32)
  | 0x15 => a >>> (b.toNat % 32)
  | _ => a.sshiftRight (b.toNat % 32)

/-- PLOG: the truth-table bit 2 P[A] + P[B]. -/
def plog (tt : Nat) (a b : Bool) : Bool := bitOf tt (2 * b2n a + b2n b)

/-! ### Casts (R187) -/

/-- CVT.TO: FP32 to a format, with the dither word of mode SR. -/
def cvtTo (fmt : Nat) (m : RMode) (r : Nat) (flush : Bool) (a : Nat) : Flagged Nat :=
  convertFp fmtFp32 ((fmtOfCode fmt).getD fmtB16) m r flush a

/-- CVT.FROM: a code of a format as FP32. -/
def cvtFrom (fmt : Nat) (flush : Bool) (a : Nat) : Flagged Nat :=
  let f := (fmtOfCode fmt).getD fmtB16
  convertFp f fmtFp32 .rne 0 flush (a % 2 ^ fmtWidth f)

/-- CVT.F2I. -/
def cvtF2I (m : RMode) (flush : Bool) (a : Nat) : Flagged Nat :=
  let x := operand fmtFp32 flush a
  let r := toIntSat 32 m x.1
  (r.1, x.2 ||| r.2)

/-- CVT.I2F. -/
def cvtI2F (m : RMode) (flush : Bool) (a : Nat) : Flagged Nat :=
  encodeVal fmtFp32 m 0 flush (finOf (toSigned 32 a) 0 false)

/-- CVT.S2D. -/
def cvtS2D (flush : Bool) (a : Nat) : Flagged Nat := convertFp fmtFp32 fmtFp64 .rne 0 flush a

/-- CVT.D2S. -/
def cvtD2S (m : RMode) (flush : Bool) (a : Nat) : Flagged Nat := convertFp fmtFp64 fmtFp32 m 0 flush a

/-! ### Approximate functions (R191 to R195, R533) -/

/-- Magnitude and exponent e of a finite nonzero value: mag = 2^n + rest, value 1.rest × 2^e. -/
def leading (mag : Nat) (b : Int) : Nat × Int := (msb mag, b + (msb mag : Int))

/-- floor((m − 1) × k) for m = mag / 2^n. -/
def fracTop (mag n k : Nat) : Nat := (mag - 2 ^ n) * k / 2 ^ n

/-- RCP.S (R191). -/
def rcpSeed (flush : Bool) (a : Nat) : Flagged Nat :=
  let x := operand fmtFp32 flush a
  match x.1 with
  | .nan s => (0x7FC00000, x.2 ||| nfIf s nfInvalid)
  | .inf n => (zeroCode fmtFp32 n, x.2)
  | .fin n mag b =>
    if mag = 0 then
      let i := infCode fmtFp32 n
      (i.1, x.2 ||| i.2 ||| nfDivZero)
    else
      let l := leading mag b
      let d := 257 + 2 * fracTop mag l.1 128
      let s := (2 * 131072 + d) / (2 * d)
      let r := roundExact n s (-l.2 - 9) fmtFp32 .rne 0 flush
      (r.1, x.2 ||| r.2)

/-- RSQ.S (R193). -/
def rsqSeed (flush : Bool) (a : Nat) : Flagged Nat :=
  let x := operand fmtFp32 flush a
  match x.1 with
  | .nan s => (0x7FC00000, x.2 ||| nfIf s nfInvalid)
  | .inf n => if n then (0x7FC00000, x.2 ||| nfInvalid) else (zeroCode fmtFp32 false, x.2)
  | .fin n mag b =>
    if mag = 0 then
      let i := infCode fmtFp32 n
      (i.1, x.2 ||| i.2 ||| nfDivZero)
    else if n then (0x7FC00000, x.2 ||| nfInvalid)
    else
      let l := leading mag b
      let odd := (l.2 % 2).toNat
      let num := (129 + 2 * fracTop mag l.1 64) * (1 + odd)
      let s := (isqrt (2 ^ 27 / num) + 1) / 2
      let k := (l.2 - odd) / 2
      let r := roundExact false s (-k - 9) fmtFp32 .rne 0 flush
      (r.1, x.2 ||| r.2)

/-- Whether a value is finite and not zero. -/
def finiteNonzero : Val → Bool
  | .nan _ => false
  | .inf _ => false
  | .fin _ m _ => m != 0

/-- What a refinement returns where it passes its estimate through (R533). -/
def passThrough (y : Nat × Val × NFlags) : Nat := if isNan y.2.1 then 0x7FC00000 else y.1

/-- A refinement: y + y × h × (1 − t), all exact, rounded once (R192, R194); h is one half for RSQ.N, and t = x × y or x × y × y. -/
def refine (flush rsq : Bool) (yCode xCode : Nat) : Flagged Nat :=
  let y := readFp32 flush yCode
  let x := readFp32 flush xCode
  let fl := y.2.2 ||| x.2.2 ||| sigFlag y.2.1 ||| sigFlag x.2.1
  if !finiteNonzero y.2.1 || !finiteNonzero x.2.1 || (rsq && valNeg x.2.1) then (passThrough y, fl)
  else
    let one : Val := .fin false 1 0
    let xy := (mulVal x.2.1 y.2.1).1
    let t := if rsq then (mulVal xy y.2.1).1 else xy
    let d := (subVal .rne one t).1
    let h := if rsq then scaleVal (-1) y.2.1 else y.2.1
    let r := (addVal .rne y.2.1 (mulVal h d).1).1
    let e := encodeVal fmtFp32 .rne 0 flush r
    (e.1, fl ||| e.2)

/-! ### Shadow checks (R206, R215) -/

/-- Whether |x| ≤ |y| × 2^k for finite values. -/
def leScaled (x y : Val) (k : Int) : Bool :=
  match x, y with
  | .fin _ m1 b1, .fin _ m2 b2 => !ltVal (.fin false m2 (b2 + k)) (.fin false m1 b1)
  | .fin _ _ _, .nan _ => false
  | .fin _ _ _, .inf _ => false
  | .nan _, _ => false
  | .inf _, _ => false

/-- shadow_agree of R206, exact: the operands are read without flushing. -/
def shadowAgree (a b tol : Nat) (absx : Int) : Bool :=
  let x := (operand fmtFp32 false a).1
  let y := (operand fmtFp64 false b).1
  if isNan x || isNan y then isNan x && isNan y
  else
    match x, y with
    | .inf n, .inf m => n == m
    | .inf _, .fin _ _ _ => false
    | .fin _ _ _, .inf _ => false
    | .fin _ _ _, .fin _ _ _ =>
      let d := (subVal .rne x y).1
      leScaled d y (-(tol : Int)) || leScaled d (.fin false 1 0) absx
    | .nan _, _ => false
    | .inf _, .nan _ => false
    | .fin _ _ _, .nan _ => false

/-- shadow_sample of R215. -/
def shadowSample (job step chunk l : Nat) : Bool :=
  if l = 0xFF then false
  else if l = 0 then true
  else
    let x := dmix (BitVec.ofNat 64 (job * 2 ^ 48) ^^^ 0x3C91D2A76E05B84F#64)
    let x := dmix (x ^^^ BitVec.ofNat 64 step)
    let x := dmix (x ^^^ BitVec.ofNat 64 chunk)
    x.toNat / 2 ^ (64 - l) == 0

/-! ### Terms of exact sums (R198, R199) -/

/-- The format of an operand by DBL. -/
def fmtDbl (dbl : Bool) : Fmt := if dbl then fmtFp64 else fmtFp32

/-- A term a, a × a or a × b, formed exactly (R54): none where an operand is a NaN or infinite; with the flags of reading it
(R41, R44). -/
def sumTerm (dbl flush : Bool) (kind : Nat) (a b : Nat) : Val × NFlags :=
  let x := operand (fmtDbl dbl) flush a
  let y := if kind = 2 then operand (fmtDbl dbl) flush b else (x.1, nfNone)
  let bad (v : Val) : Bool := match v with
    | .fin _ _ _ => false
    | .inf _ => true
    | .nan _ => true
  if bad x.1 || (kind == 2 && bad y.1) then (.nan false, x.2 ||| y.2 ||| sigFlag x.1 ||| sigFlag y.1)
  else if kind = 0 then (x.1, x.2)
  else ((mulVal x.1 y.1).1, x.2 ||| y.2)

end Sys2Proof.Machine
end

