-- ==== Sys2Proof/Machine/BenchOps.lean ====
section
/-! DEFINITION. The bench of a slot as a sequence of events on its schedule clock (R132 to R150): which event comes next, the audit,
the SCHEDULE_FAULT, and the events that no command of the table names. -/

namespace Sys2Proof.Machine

/-- A slot's bench changed. -/
def modBench (s : State) (i : Nat) (f : Bench → Bench) : State := modSlot s i (fun sl => { sl with bench := f sl.bench })

/-- A slot's jig context changed. -/
def modJig (s : State) (i : Nat) (f : Jig → Jig) : State := modBench s i (fun b => { b with jig := f b.jig })

/-- The step that the slot's program works on: in a mirror pass the step of the pass (R265). -/
def progStep (sl : Slot) : Nat := if sl.bench.pass then sl.tan.passStep else sl.step.num

/-- The program version that the slot's context runs (R152, R265). -/
def progVer (sl : Slot) : Option ProgVer :=
  let n := if sl.bench.pass then sl.tan.passVer else sl.running
  n.bind (fun n => sl.progs.find? (fun v => v.num == n))

/-! ### Time and the next event (R143, R144, R177) -/

/-- Of every 16 cycles, those that the bench runs: what the governor's gating leaves (R470), at most 14 while a channel is mapped
out (R422). -/
def benchRate (s : State) : Nat := min (gatingOf (leverDepth s.pwr)) (if s.hbm.chans.any (fun e => e.2.st != 0) then 14 else 16)

/-- Whether a bench domain's clocks are stretched, and with them every bench domain's (R477). -/
def benchDroop (s : State) : Bool := s.pwr.domains.any (fun e => 34 ≤ e.1 && e.1 ≤ 41 && e.2.droop)

/-- Schedule cycles as ns: 2.5 GHz cycles, n of every 16 counted (R144, R470), each a quarter longer while stretched (R477). -/
def cyclesNs (s : State) (n : Nat) : Nat := n * 32 * (if benchDroop s then 5 else 4) / (20 * max 1 (benchRate s))

/-- The device time of a schedule cycle, from the segment's beginning on (R144). -/
def cycleTime (s : State) (b : Bench) (c : Nat) : Nat := b.startTime + cyclesNs s (c - b.startCycle)

/-- Device time at a schedule cycle of a slot. -/
def atCycle (s : State) (i c : Nat) : State := timeTo s (cycleTime s (getSlot s i).bench c)

/-- A change of the bench's clock (R422, R470, R477): the holder's schedule clock goes on from the cycle it has reached. -/
def withBenchClock (f : State → State) (s : State) : State :=
  match s.holder with
  | none => f s
  | some i =>
    f (modSlot s i (fun sl =>
      { sl with bench := { sl.bench with startTime := max sl.bench.startTime (cycleTime s sl.bench sl.bench.clock),
                                         startCycle := sl.bench.clock } }))

/-- An event of a slot's bench: an effect in flight falls due, a queue entry issues, the jig executes, everything in flight is
complete, the turn is too long. -/
inductive BenchEv where
  | flight (f : Flight)
  | issue (x : Issue)
  | instr
  | rest
  | overrun
  deriving DecidableEq, Repr

/-- The order of the queues in one cycle (R143). -/
def queueRank : QId → Nat
  | .bench => 0
  | .move => 1
  | .drain => 2
  | .emit => 3
  | .cadence => 4

/-- Every event that the bench could come to, with its cycle and its rank within the cycle: what falls due, the queues in the order
of R143, the jig, the arbiter (R178). -/
def benchEvents (b : Bench) : List (Nat × Nat × BenchEv) :=
  let turn := b.run == .running || b.run == .completing || b.run == .refused
  b.flight.map (fun f => (f.due, 0, .flight f))
    ++ b.queue.map (fun x => (x.cycle, 1 + queueRank x.q, .issue x))
    ++ (if b.run == .running then [(b.clock, 6, .instr)] else [])
    ++ (if b.run == .completing then [(max b.clock b.flightEnd, 6, .rest)] else [])
    ++ (if turn then [(b.turnStart + 2 ^ 24, 7, .overrun)] else [])

/-- Whether one event comes strictly before another. -/
def evBefore (x y : Nat × Nat × BenchEv) : Bool := x.1 < y.1 || (x.1 == y.1 && x.2.1 < y.2.1)

/-- The first of several events; of equals the one listed first. -/
def firstEv : List (Nat × Nat × BenchEv) → Option (Nat × Nat × BenchEv)
  | [] => none
  | x :: rest =>
    match firstEv rest with
    | none => some x
    | some y => if evBefore y x then some y else some x

/-- The next event of the slot that holds the bench. -/
def nextBench (s : State) (i : Nat) : Option (Nat × BenchEv) :=
  if s.holder == some i then (firstEv (benchEvents (getSlot s i).bench)).map (fun e => (e.1, e.2.2)) else none

/-- The issue that comes next, if an issue does. -/
def nextIssue (s : State) (i : Nat) : Option Issue :=
  match nextBench s i with
  | some (_, .issue x) => some x
  | some (_, .flight _) => none
  | some (_, .instr) => none
  | some (_, .rest) => none
  | some (_, .overrun) => none
  | none => none

/-- The effect that falls due next, if one does. -/
def nextFlight (s : State) (i : Nat) : Option Flight :=
  match nextBench s i with
  | some (_, .flight f) => some f
  | some (_, .issue _) => none
  | some (_, .instr) => none
  | some (_, .rest) => none
  | some (_, .overrun) => none
  | none => none

/-! ### Staging rows and HBM rows (R128 to R131) -/

/-- The area of a code of R169; LINE rows are those of PRIMARY. -/
def areaOf (code : Nat) : Area :=
  match code with
  | 1 => .mirror
  | 2 => .pending
  | 3 => .scratch
  | _ => .primary

/-- The tiles on which a row is not inert (R131). -/
def liveTiles (s : State) (sl : Slot) (a : Area) (row : Nat) : List Nat :=
  (List.range 128).filter (fun t => row < areaRows s sl a t)

/-- One part of a staging row filled from a row's bytes on each live tile; the other lanes are zero (R128, R131). -/
def partOfRows (rows : List (Nat × Bytes)) (q : Nat) : Lanes W32 :=
  ⟨0, rows.flatMap (fun r => ((List.range 256).filterMap (fun j =>
    let v := leAt r.2 (4 * (256 * q + j)) 4
    if v = 0 then none else some (256 * r.1 + j, BitVec.ofNat 32 v))))⟩

/-- The four parts of a staging row from the rows of the live tiles. -/
def partsOfRows (rows : List (Nat × Bytes)) : List (Lanes W32) := (List.range 4).map (partOfRows rows)

/-- The 4,096 bytes that a tile's section of a staging row holds (R128). -/
def rowOfParts (parts : List (Lanes W32)) (t : Nat) : Bytes :=
  (List.range 4).flatMap (fun q => (List.range 256).flatMap (fun j =>
    leBytes 4 (lget (parts.getD q (lconst 0)) (256 * t + j)).toNat))

/-- The chunk that a staging row of a source has on a tile (R188): none for c = 0. -/
def srcChunk (s : State) (sl : Slot) (src : RowSrc) (t : Nat) : Option Nat :=
  match src with
  | .none => none
  | .primary r => areaChunk s sl .primary t r
  | .mirror r => areaChunk s sl .mirror t r

/-- The source of a row moved in from an area (R188). -/
def srcOf (code row : Nat) : RowSrc :=
  match code with
  | 1 => .mirror row
  | 2 => .mirror row
  | 3 => .none
  | _ => .primary row

/-- A staging row as nothing has written it. -/
def srowInit : SRow := ⟨List.replicate 4 (lconst 0), 0, 0, .none⟩

/-! ### SCHEDULE_FAULT (R141, R142, R178, R266) -/

/-- What a fault record says (R178). -/
structure FaultInfo where
  cause : Nat
  queue : Nat
  tile : Option Nat
  operand : Option Nat
  cycle : Nat
  block : Nat
  rep : Nat
  pc : Nat
  detail : Nat
  deriving DecidableEq, Repr

/-- The fault record of a slot (R178). A step of the model is indivisible, so no other abort falls in its cycle. -/
def faultRecord (sl : Slot) (x : FaultInfo) : BitVec 256 :=
  BitVec.ofNat 256 (packFields [(8, x.cause), (3, x.queue), (1, b2n x.tile.isSome), (7, x.tile.getD 0), (1, b2n x.operand.isSome),
    (8, x.operand.getD 0), (4, 0), (24, ofSigned 24 ((x.cycle : Int) - sl.bench.base)), (8, x.block), (12, x.rep), (4, 0),
    (32, sl.bench.segment), (32, x.pc), (32, progStep sl), (8, sl.step.attempt), (8, x.detail)])

/-- The pending write of a MOVE.OUT made (R133). -/
def writeStaged (s : State) (i area plane row : Nat) (parts : List (Lanes W32)) : State :=
  (liveTiles s (getSlot s i) (areaOf area) row).foldl
    (fun s t => rowWrite s i (areaOf area) t row plane (rowOfParts parts t)) s

/-- What issued before a fault completes beyond the bench: the HBM writes (R142). -/
def completeEarlier (s : State) (i : Nat) (fs : List Flight) : State :=
  fs.foldl (fun s f =>
    match f.op with
    | .moveOut a p r parts => writeStaged s i a p r parts
    | .moveIn => s
    | .drain _ => s
    | .serve _ => s
    | .ship _ _ _ => s
    | .launch _ _ _ _ _ _ _ _ _ => s
    | .shadow _ => s) s

/-- The bench of a slot at rest with its clock and account, the turn's cycles debited (R147, R148). -/
def benchReset (b : Bench) : Bench := benchAbort { b with pass := false }

/-- A mirror pass stopped by a fault (R266): the context reset, the mirror BROKEN. -/
def stopPass (s : State) (i symptom : Nat) : State :=
  let s := (shadowsLeft { getSlot s i with bench := { (getSlot s i).bench with pass := false } }).foldl (fun s r => postWatch s i r) s
  let s := modBench s i benchReset
  let s := if s.holder == some i then { s with holder := none, benchLast := i } else s
  failPass s i (accProgram s symptom)

/-- A SCHEDULE_FAULT of a slot at a schedule cycle (R142, R177, R178): what issued at or after the cycle is dropped, what issued
before completes, the record is kept and posted, and the step aborts or the mirror pass ends. -/
def scheduleFault (s : State) (i : Nat) (x : FaultInfo) : State :=
  let s := atCycle s i x.cycle
  let sl := getSlot s i
  let kept := sl.bench.flight.filter (fun f => f.issued < x.cycle)
  let s := completeEarlier s i kept
  let r := faultRecord sl x
  let s := modSlot s i (fun sl => { sl with fault := r, bench := { sl.bench with flight := kept, queue := [], run := .stopped } })
  let s := postEvent s evScheduleFault i (leBytes 32 r.toNat)
  if sl.bench.pass then stopPass s i syProgram else raiseAbort s i caScheduleFault [accProgram s syProgram]

/-- The QUEUE code of a queue (R178). -/
def queueCode : QId → Nat := queueRank

/-- A fault of an issue. -/
def issueFault (s : State) (i : Nat) (x : Issue) (cause : Nat) (tile operand : Option Nat) : State :=
  scheduleFault s i ⟨cause, queueCode x.q, tile, operand, x.cycle, x.blockIdx, x.repIdx, x.pc, 0⟩

/-- READ_NOT_READY (R141). -/
def sfReadNotReady : Nat := 0x01
/-- WRITE_IN_FLIGHT. -/
def sfWriteInFlight : Nat := 0x02
/-- STAGING_BUSY. -/
def sfStagingBusy : Nat := 0x03
/-- ISSUE_CONFLICT. -/
def sfIssueConflict : Nat := 0x04
/-- LATE_PUSH. -/
def sfLatePush : Nat := 0x05
/-- ORDER. -/
def sfOrder : Nat := 0x06
/-- QUEUE_FULL. -/
def sfQueueFull : Nat := 0x07
/-- HBM_HAZARD. -/
def sfHbmHazard : Nat := 0x08
/-- LINE_NOT_ROUNDED. -/
def sfLineNotRounded : Nat := 0x09
/-- SERVED_WRITE. -/
def sfServedWrite : Nat := 0x0A
/-- ARM_REFUSED. -/
def sfArmRefused : Nat := 0x0B
/-- ROW_RANGE. -/
def sfRowRange : Nat := 0x0C
/-- AWAIT_UNKNOWN. -/
def sfAwaitUnknown : Nat := 0x0D
/-- TURN_OVERRUN. -/
def sfTurnOverrun : Nat := 0x0E
/-- YIELD_IN_FLIGHT. -/
def sfYieldInFlight : Nat := 0x0F
/-- ILLEGAL_OPCODE (R176). -/
def sfIllegalOpcode : Nat := 0x40
/-- RESERVED_FIELD. -/
def sfReservedField : Nat := 0x41
/-- MALFORMED_COMMAND. -/
def sfMalformedCommand : Nat := 0x42
/-- CYCLE_RANGE. -/
def sfCycleRange : Nat := 0x43
/-- PC_RANGE. -/
def sfPcRange : Nat := 0x44
/-- CADENCE_NOT_DONE. -/
def sfCadenceNotDone : Nat := 0x46
/-- REP_MISUSE. -/
def sfRepMisuse : Nat := 0x47
/-- LOOP_ZERO. -/
def sfLoopZero : Nat := 0x48
/-- TAG_BUSY. -/
def sfTagBusy : Nat := 0x49
/-- CONST_RANGE. -/
def sfConstRange : Nat := 0x4A
/-- BLOCK_MALFORMED. -/
def sfBlockMalformed : Nat := 0x4B

/-! ### The audit at the issue point (R139, R197, R535) -/

/-- A value that a command reads or writes: a vector register, a predicate, a staging row, an accumulator. -/
inductive Opnd where
  | v (n : Nat)
  | p (n : Nat)
  | s (n : Nat)
  | e (n : Nat)
  | w (n : Nat)
  deriving DecidableEq, Repr

/-- The OPERAND code (R178); an accumulator has none (R197). -/
def opndCode : Opnd → Option Nat
  | .v n => some n
  | .p n => some (0x40 + n)
  | .s n => some (0x80 + n)
  | .e _ => none
  | .w _ => none

/-- Whether a value is written and ready at a cycle. -/
def opndReady (b : Bench) (t : Nat) : Opnd → Bool
  | .v n => ((tget? b.v n).map (fun r => decide (r.ready ≤ t))).getD false
  | .p n => ((tget? b.p n).map (fun r => decide (r.ready ≤ t))).getD false
  | .s n => ((tget? b.srows n).map (fun r => decide (r.ready ≤ t))).getD false
  | .e n => ((b.e[n]?).map (fun a => a.written && a.ready ≤ t)).getD false
  | .w n => ((b.w[n]?).map (fun a => a.written && a.ready ≤ t)).getD false

/-- Whether a value is still being written, or an accumulator still added to, at a cycle. -/
def opndInFlight (b : Bench) (t : Nat) : Opnd → Bool
  | .v n => ((tget? b.v n).map (fun r => decide (t < r.ready))).getD false
  | .p n => ((tget? b.p n).map (fun r => decide (t < r.ready))).getD false
  | .s n => ((tget? b.srows n).map (fun r => decide (t < r.ready))).getD false
  | .e n => ((b.e[n]?).map (fun a => decide (t < a.ready) || decide (t < a.busy))).getD false
  | .w n => ((b.w[n]?).map (fun a => decide (t < a.ready) || decide (t < a.busy))).getD false

/-- Whether a staging row is still being read out at a cycle. -/
def opndBusy (b : Bench) (t : Nat) : Opnd → Bool
  | .s n => ((tget? b.srows n).map (fun r => decide (t < r.busy))).getD false
  | .v _ => false
  | .p _ => false
  | .e _ => false
  | .w _ => false

/-- The first of the three causes of R535 that a command fails, with the first operand that fails it. -/
def audit (b : Bench) (t : Nat) (reads writes : List Opnd) : Option (Nat × Option Nat) :=
  match reads.find? (fun o => !opndReady b t o), writes.find? (opndInFlight b t), writes.find? (opndBusy b t) with
  | some o, _, _ => some (sfReadNotReady, opndCode o)
  | none, some o, _ => some (sfWriteInFlight, opndCode o)
  | none, none, some o => some (sfStagingBusy, opndCode o)
  | none, none, none => none

/-! ### Events that no command names -/

/-- An issue leaves its queue; it stays listed while the spacing rules of R172 look back to it. -/
def takeIssue (b : Bench) (x : Issue) : Bench :=
  { b with queue := b.queue.erase x, past := (x :: b.past).filter (fun y => x.cycle < y.cycle + 80) }

/-- An effect in flight is done. -/
def takeFlight (b : Bench) (f : Flight) : Bench := { b with flight := b.flight.erase f }

/-- An effect put in flight; the segment's in-flight commands end no earlier. -/
def putFlight (b : Bench) (f : Flight) : Bench := { b with flight := b.flight ++ [f], flightEnd := max b.flightEnd f.due }

/-- A shipped staging row sent for each live tile of its primary row (R268). -/
def shipRow (s : State) (i plane row : Nat) (parts : List (Lanes W32)) : State :=
  let sl := getSlot s i
  let rows := (liveTiles s sl .primary row).filterMap (fun t =>
    (areaChunk s sl .primary t row).map (fun g => (⟨g, plane, sl.step.num, sl.step.attempt, rowOfParts parts t⟩ : ShipRow)))
  let s := modTan s i (fun t => { t with ships := t.ships ++ rows })
  trySendShips s i (getSlot s i).tan.ships.length

/-- A cadence operation launched from the bench or the jig (R133, R200, R232); its tag remembers
the instruction behind it (R219). -/
def launchFlight (s : State) (i opc group tag : Nat) (own : CadPart) (own1 : Option Nat) (deadline pc segment : Nat) : State :=
  let s := modBench s i (fun b => { b with tagSrc := tset b.tagSrc tag (pc, segment) })
  launchProgram s i group opc tag own own1 deadline

/-- The operand of a program operation, and for SUM_F32 the FP32 word kept for its second phase (R234). -/
def cadOperand (flush : Bool) (opc : Nat) (v : W64) : CadPart × Option Nat :=
  if opc = ocMaxExp then (partExp (toSigned 16 v.toNat) false, none)
  else if opc = ocSumF32 then
    let e := expOf (decodeFp fmtFp32 flush (v.toNat % 2 ^ 32)).1
    (partExp (e.getD expZero) e.isNone, some (v.toNat % 2 ^ 32))
  else if opc = ocBarrier then (partZero, none)
  else (partWord v.toNat, none)

/-- An issue of the CADENCE queue: its launch follows at T + SKEW_MAX (R132, R133). -/
def issueCadence (sl : Slot) (x : Issue) (word operand : W64) (tag : Nat) : Bench :=
  let opc := bitsOf word.toNat 0 8
  let o := cadOperand sl.ob.flush opc operand
  putFlight (takeIssue sl.bench x) ⟨x.cycle + 28, x.cycle,
    .launch false opc (bitsOf word.toNat 16 14) tag o.1 o.2 (bitsOf word.toNat 32 32) x.pc sl.bench.segment⟩

/-- Whether the jig finds an instruction at its PC (R164, R456). -/
def fetchWord (sl : Slot) (pc mark : Nat) : Option W64 :=
  match progVer sl with
  | none => none
  | some v => if v.marks.getD pc 3 = mark then v.code[pc]? else none

/-- The instruction word at the PC. -/
def jigWord (sl : Slot) : Option W64 := fetchWord sl sl.bench.jig.pc 1

/-- A fault of the jig at its clock (R177). -/
def jigFault (s : State) (i cause detail : Nat) : State :=
  let b := (getSlot s i).bench
  scheduleFault s i ⟨cause, 5, none, none, b.clock, 0, 0, b.jig.pc, detail⟩

/-- The slot at a yield point once nothing is in flight (R146, R148, R175): registers, predicates and rows are UNWRITTEN, the turn's
cycles are debited, and the arbiter keeps the slot if `keep` says that it has work. -/
def yieldBench (b : Bench) (run : RunSt) : Bench :=
  { b with
    v := [], p := [], srows := [], run := run, turnStart := b.clock
    account := b.account - ((b.clock - b.turnStart : Nat) : Int) }

/-- Whether a token is present in a slot (R145). -/
def tokenPresent (sl : Slot) (t : Token) : Bool :=
  match t with
  | .cadence k => (tget? sl.bench.jig.results k).isSome
  | .bucket n => sl.tokens.contains (.bucket n)
  | .armed n => sl.tokens.contains (.armed n)

/-- Whether the token that a slot waits for is present, or it waits for none. -/
def waitOver (sl : Slot) : Bool := ((sl.bench.waitFor).map (tokenPresent sl)).getD true

/-- Whether the eight bench domains are awake (R155). -/
def benchAwake (s : State) : Bool := (List.range 8).all (fun d => bitOf s.pwr.awake (34 + d))

/-- Whether a slot's armed step can begin its program (R147, R155, R248): not begun, no mirror pass running or due, no restore
under way, every row of a resync of the primary shard read, and a spare's rows all written (R279). -/
def canStart (s : State) (sl : Slot) : Bool :=
  sl.step.st == .dryFit && !sl.step.started && !sl.tan.passRunning && !sl.tan.restoring && benchAwake s
    && (progVer { sl with bench := { sl.bench with pass := false } }).isSome
    && sl.tan.resyncs.all (fun j => j.ofMirror || j.rows.isEmpty) && sl.tan.spareFrom.isNone

/-- Whether a slot is ready for the bench (R148): a pass is due, a program can begin, or a yielded context's token is present. -/
def benchReady (s : State) (i : Nat) : Bool :=
  let sl := getSlot s i
  sl.tan.passWaiting || canStart s sl || (sl.bench.run == .yielded && waitOver sl)

/-- Everything in flight is complete (R145, R146, R175): the slot holds the bench for its token, or stands at a yield point where the
arbiter keeps it or lets it go (R148). -/
def restBench (s : State) (i : Nat) : State :=
  let b := (getSlot s i).bench
  let c := max b.clock b.flightEnd
  let s := atCycle s i c
  let s := modBench s i (fun b => { b with clock := c })
  match b.segEnd with
  | .await => modBench s i (fun b => { b with run := .holding })
  | .yield =>
    let s := modBench s i (fun b => yieldBench b .yielded)
    if benchReady s i && 0 < (getSlot s i).bench.account then s else { s with holder := none, benchLast := i }
  | .program =>
    let s := modBench s i (fun b => { yieldBench b .ended with pass := false })
    let s := if b.pass then endPass s i else modStep s i (fun r => { r with programEnd := true })
    if benchReady s i && 0 < (getSlot s i).bench.account then s else { s with holder := none, benchLast := i }

/-- One event of a slot's bench that no command of the table names: a shipped row, the issue of a cadence operation whose launch is
to come, a SHADOW record, the end of what is in flight, a push that was refused, a PC that begins no instruction. None where a
command names the event. -/
def quietEvent (s : State) (i : Nat) : Option State :=
  match nextBench s i with
  | some (c, .flight f) =>
    let s' := atCycle (modBench s i (fun b => takeFlight b f)) i c
    match f.op with
    | .ship p r parts => some (shipRow s' i p r parts)
    | .launch _ _ _ _ _ _ _ _ _ => none
    | .shadow r => some (postWatch s' i r)
    | .moveIn => none
    | .moveOut _ _ _ _ => none
    | .drain _ => none
    | .serve _ => none
  | some (c, .issue x) =>
    match x.op with
    | .fault cause => some (issueFault s i x cause none none)
    | .bench _ _ => none
    | .moveIn _ _ _ _ => none
    | .moveOut _ _ _ _ => none
    | .drain _ _ => none
    | .emitState _ _ _ => none
    | .emitServe _ => none
    | .cadence w v tag => some (modBench (atCycle s i c) i (fun _ => issueCadence (getSlot s i) x w v tag))
  | some (_, .rest) => some (restBench s i)
  | some (_, .instr) => if (jigWord (getSlot s i)).isNone then some (jigFault s i sfPcRange 0) else none
  | some (_, .overrun) => none
  | none => none

/-- The unnamed events that come next, taken until a command's event is next. -/
def settle (s : State) (i : Nat) : Nat → State
  | 0 => s
  | n + 1 =>
    match quietEvent s i with
    | none => s
    | some s => settle s i n

/-- The state after a command's event and the unnamed events behind it. -/
def settled (s : State) (i : Nat) : State :=
  settle s i ((getSlot s i).bench.flight.length + (getSlot s i).bench.queue.length + 2)

end Sys2Proof.Machine
end

