-- ==== Sys2Proof/Machine/Engines.lean ====
section
/-! DEFINITION. The MOVE, DRAIN, EMIT and CADENCE engines: their issues with the checks at the issue point and on the tiles, and what
completes later (R105, R131, R133, R137 to R140, R188, R200, R232, R268, R274, R535). -/

namespace Sys2Proof.Machine

/-- The planes of an area (R130). -/
def areaPlanes (sl : Slot) (a : Area) : Nat :=
  match a with
  | .primary => sl.ob.w
  | .mirror => sl.ob.w
  | .pending => 1
  | .scratch => 1

/-- ROW_RANGE (R131). -/
def rowRange (s : State) (sl : Slot) (a : Area) (plane row : Nat) : Bool :=
  decide (areaRowMax s sl a ≤ row) || decide (areaPlanes sl a ≤ plane)

/-- Whether a plane is a master plane (R102, R140). -/
def isMaster (sl : Slot) (plane : Nat) : Bool := plane == 0 || (plane == 1 && sl.ob.masterFp64)

/-- Whether a tile has a pending write to an area, plane and row that satisfies a test (R140). -/
def pendingWrite (b : Bench) (p : Area → Nat → Nat → Bool) : Bool :=
  b.flight.any (fun f => match f.op with
    | .moveOut a plane row _ => p (areaOf a) plane row
    | .moveIn => false
    | .drain _ => false
    | .serve _ => false
    | .ship _ _ _ => false
    | .launch _ _ _ _ _ _ _ _ _ => false
    | .shadow _ => false)

/-- An issue of an engine audited in the order of R535: ROW_RANGE, then the tags, then on each tile its own check. -/
def engineAudit (s : State) (i : Nat) (x : Issue) (range : Bool) (reads writes : List Opnd) (tiles : List Nat) (cause : Nat)
    (bad : Nat → Bool) : Option State :=
  if range then some (issueFault s i x sfRowRange none none)
  else match audit (getSlot s i).bench x.cycle reads writes with
    | some (c, o) => some (issueFault s i x c none o)
    | none => (tiles.find? bad).map (fun t => issueFault s i x cause (some t) none)

/-- A staging row filled from HBM or a line (R128, R139, R188). -/
def fillRow (b : Bench) (srow ready : Nat) (rows : List (Nat × Bytes)) (src : RowSrc) : Bench :=
  { b with srows := tset b.srows srow ⟨partsOfRows rows, ready, (sRowBusy b srow), src⟩ }
where
  /-- The busy tag that the row keeps. -/
  sRowBusy (b : Bench) (n : Nat) : Nat := ((tget? b.srows n).map (fun r => r.busy)).getD 0

/-- A staging row busy as a source (R139). -/
def busyRow (b : Bench) (srow until_ : Nat) : Bench := { b with srows := tmod srowInit b.srows srow (fun r => { r with busy := until_ }) }

/-- MOVE_IN: a row read into staging (R133); HBM_HAZARD where a write to it is pending (R140). -/
def effMoveIn (slot : SlotId) (s : State) : State :=
  let i := slot.val
  match nextIssue s i with
  | none => s
  | some x =>
    match x.op with
    | .moveIn a p r srow =>
      let s := atCycle s i x.cycle
      let sl := getSlot s i
      let tiles := liveTiles s sl (areaOf a) r
      let hazard := pendingWrite sl.bench (fun b q k => b == areaOf a && q == p && k == r)
      match engineAudit s i x (rowRange s sl (areaOf a) p r) [] [.s srow] tiles sfHbmHazard (fun _ => hazard) with
      | some s => settled s i
      | none =>
        let rows := tiles.map (fun t => (t, rowRead s i (areaOf a) t r p))
        settled (modBench s i (fun b => putFlight (fillRow (takeIssue b x) srow (x.cycle + 1000) rows (srcOf a r))
          ⟨x.cycle + 1000, x.cycle, .moveIn⟩)) i
    | .bench _ _ => s
    | .moveOut _ _ _ _ => s
    | .drain _ _ => s
    | .emitState _ _ _ => s
    | .emitServe _ => s
    | .cadence _ _ _ => s
    | .fault _ => s
/-- Meaning of MOVE_IN. -/
def execMoveIn (slot : SlotId) (s : State) : Out := .next (effMoveIn slot s)

/-- One row written on a tile as its MOVE.OUT issues: dirty in PRIMARY (R274), its digest taken (R267), a resync reads it again. -/
def noteWrite (s : State) (i : Nat) (a : Area) (plane row : Nat) (parts : List (Lanes W32)) (t : Nat) : State :=
  let sl := getSlot s i
  match areaChunk s sl a t row with
  | none => s
  | some g =>
    let d := rowDigest g plane (rowOfParts parts t)
    match a with
    | .primary => modSlot s i (fun sl => { sl with
        step := { sl.step with stateDigest := sl.step.stateDigest ^^^ d }
        tan := resyncAgain { sl.tan with dirty := if sl.tan.dirty.contains (g, plane) then sl.tan.dirty
                                                  else sl.tan.dirty ++ [(g, plane)] } (g, plane) })
    | .mirror => modTan s i (fun t => { t with mirrorDigest := t.mirrorDigest ^^^ d })
    | .pending => s
    | .scratch => s

/-- MOVE_OUT: a staging row written to HBM, pending until T + 1,000 (R133, R140); SERVED_WRITE where it writes a master plane of a
chunk servable in the step. -/
def effMoveOut (slot : SlotId) (s : State) : State :=
  let i := slot.val
  match nextIssue s i with
  | none => s
  | some x =>
    match x.op with
    | .moveOut a p r srow =>
      let s := atCycle s i x.cycle
      let sl := getSlot s i
      let tiles := liveTiles s sl (areaOf a) r
      let served (t : Nat) : Bool := areaOf a == .primary && isMaster sl p && !sl.bench.pass
        && ((areaChunk s sl .primary t r).map (fun g => sl.servable.contains g)).getD false
      match engineAudit s i x (rowRange s sl (areaOf a) p r) [.s srow] [] tiles sfServedWrite served with
      | some s => settled s i
      | none =>
        let parts := (tget srowInit sl.bench.srows srow).parts
        let s := tiles.foldl (fun s t => noteWrite s i (areaOf a) p r parts t) s
        settled (modBench s i (fun b => putFlight (busyRow (takeIssue b x) srow (x.cycle + 16))
          ⟨x.cycle + 1000, x.cycle, .moveOut a p r parts⟩)) i
    | .bench _ _ => s
    | .moveIn _ _ _ _ => s
    | .drain _ _ => s
    | .emitState _ _ _ => s
    | .emitServe _ => s
    | .cadence _ _ _ => s
    | .fault _ => s
/-- Meaning of MOVE_OUT. -/
def execMoveOut (slot : SlotId) (s : State) : Out := .next (effMoveOut slot s)

/-- The rounded results of a chunk, as a row's bytes; none unless its line is ROUNDED (R90, R140). -/
def lineResults (sl : Slot) (g : Nat) : Option Bytes :=
  match chunkAt sl g with
  | none => none
  | some (b, j) =>
    match getChunk sl b j with
    | none => none
    | some (_, c) => if c.st == .rounded then some (bytesOfWords 4 (c.results.map BitVec.toNat)) else none

/-- The results of the chunk in a primary row on a tile. -/
def tileResults (s : State) (sl : Slot) (row t : Nat) : Option Bytes := (areaChunk s sl .primary t row).bind (lineResults sl)

/-- DRAIN: the rounded results of a line row into staging (R133); LINE_NOT_ROUNDED where a line is not ROUNDED (R140). -/
def effDrain (slot : SlotId) (s : State) : State :=
  let i := slot.val
  match nextIssue s i with
  | none => s
  | some x =>
    match x.op with
    | .drain r srow =>
      let s := atCycle s i x.cycle
      let sl := getSlot s i
      let tiles := liveTiles s sl .primary r
      match engineAudit s i x (rowRange s sl .primary 0 r) [] [.s srow] tiles sfLineNotRounded
          (fun t => (tileResults s sl r t).isNone) with
      | some s => settled s i
      | none =>
        let rows := tiles.map (fun t => (t, (tileResults s sl r t).getD []))
        settled (modBench s i (fun b => putFlight (fillRow (takeIssue b x) srow (x.cycle + 64) rows (.primary r))
          ⟨x.cycle + 64, x.cycle, .drain r⟩)) i
    | .bench _ _ => s
    | .moveIn _ _ _ _ => s
    | .moveOut _ _ _ _ => s
    | .emitState _ _ _ => s
    | .emitServe _ => s
    | .cadence _ _ _ => s
    | .fault _ => s
/-- Meaning of DRAIN. -/
def execDrain (slot : SlotId) (s : State) : Out := .next (effDrain slot s)

/-- EMIT_STATE: a staging row sent to the tandem partner; its frames go out from T + 64 on (R133, R137, R268). -/
def effEmitState (slot : SlotId) (s : State) : State :=
  let i := slot.val
  match nextIssue s i with
  | none => s
  | some x =>
    match x.op with
    | .emitState p r srow =>
      let s := atCycle s i x.cycle
      let sl := getSlot s i
      match engineAudit s i x (rowRange s sl .primary p r) [.s srow] [] [] 0 (fun _ => false) with
      | some s => settled s i
      | none =>
        let parts := (tget srowInit sl.bench.srows srow).parts
        settled (modBench s i (fun b => putFlight (busyRow (takeIssue b x) srow (x.cycle + 16))
          ⟨x.cycle + 64, x.cycle, .ship p r parts⟩)) i
    | .bench _ _ => s
    | .moveIn _ _ _ _ => s
    | .moveOut _ _ _ _ => s
    | .drain _ _ => s
    | .emitServe _ => s
    | .cadence _ _ _ => s
    | .fault _ => s
/-- Meaning of EMIT_STATE. -/
def execEmitState (slot : SlotId) (s : State) : Out := .next (effEmitState slot s)

/-- EMIT_SERVE: a primary row's chunks servable at T + 64 (R105, R133); HBM_HAZARD where a master plane of the row has a pending
write (R140). -/
def effEmitServe (slot : SlotId) (s : State) : State :=
  let i := slot.val
  match nextIssue s i with
  | none => s
  | some x =>
    match x.op with
    | .emitServe r =>
      let s := atCycle s i x.cycle
      let sl := getSlot s i
      let tiles := liveTiles s sl .primary r
      let hazard := pendingWrite sl.bench (fun b q k => b == .primary && isMaster sl q && k == r)
      match engineAudit s i x (rowRange s sl .primary 0 r) [] [] tiles sfHbmHazard (fun _ => hazard) with
      | some s => settled s i
      | none => settled (modBench s i (fun b => putFlight (takeIssue b x) ⟨x.cycle + 64, x.cycle, .serve r⟩)) i
    | .bench _ _ => s
    | .moveIn _ _ _ _ => s
    | .moveOut _ _ _ _ => s
    | .drain _ _ => s
    | .emitState _ _ _ => s
    | .cadence _ _ _ => s
    | .fault _ => s
/-- Meaning of EMIT_SERVE. -/
def execEmitServe (slot : SlotId) (s : State) : Out := .next (effEmitServe slot s)

/-! ### Completions -/

/-- MEM_LATE on a tile (R138, R266): counted for the slot and for the channel that was late, which is any live one of the tile; the
step aborts or the mirror pass ends. -/
def memLate (s : State) (i tile : Nat) : State :=
  let d := drawFree s
  let live := liveChannels d.2 tile
  let s := match live[Config.pick d.1 % live.length]? with
    | none => d.2
    | some c => modChan d.2 c (fun x => { x with memLate := inc32 x.memLate })
  let s := modSlot s i (fun sl => { sl with memLate := inc32 sl.memLate })
  if (getSlot s i).bench.pass then stopPass s i syDevice else raiseAbort s i caMemLate [accDevice (selfId s) syDevice]

/-- What falls due next, taken, at its cycle. -/
def dueFlight (s : State) (i : Nat) (f : Flight) : State := atCycle (modBench s i (fun b => takeFlight b f)) i f.due

/-- MOVE_IN_DONE: the data are in staging at T + 1,000, or the tile raises MEM_LATE (R138). -/
def effMoveInDone (slot : SlotId) (tile : TileId) (late : Bool) (s : State) : State :=
  let i := slot.val
  match nextFlight s i with
  | none => s
  | some f =>
    if f.op != .moveIn then s
    else
      let s := dueFlight s i f
      settled (if late then memLate s i tile.val else s) i
/-- Meaning of MOVE_IN_DONE. -/
def execMoveInDone (slot : SlotId) (tile : TileId) (late : Bool) (s : State) : Out := .next (effMoveInDone slot tile late s)

/-- MOVE_OUT_DONE: the write is complete at T + 1,000 and leaves the table of pending writes, or the tile raises MEM_LATE (R138,
R140). -/
def effMoveOutDone (slot : SlotId) (tile : TileId) (late : Bool) (s : State) : State :=
  let i := slot.val
  match nextFlight s i with
  | none => s
  | some f =>
    match f.op with
    | .moveOut a p r parts =>
      let s := dueFlight s i f
      settled (if late then memLate s i tile.val else writeStaged s i a p r parts) i
    | .moveIn => s
    | .drain _ => s
    | .serve _ => s
    | .ship _ _ _ => s
    | .launch _ _ _ _ _ _ _ _ _ => s
    | .shadow _ => s
/-- Meaning of MOVE_OUT_DONE. -/
def execMoveOutDone (slot : SlotId) (tile : TileId) (late : Bool) (s : State) : Out := .next (effMoveOutDone slot tile late s)

/-- The chunks of a primary row on its live tiles. -/
def rowChunks (s : State) (i row : Nat) : List Nat :=
  let sl := getSlot s i
  (liveTiles s sl .primary row).filterMap (fun t => areaChunk s sl .primary t row)

/-- CHUNK_SERVABLE: 64 cycles after an EMIT.SERVE its row's chunks are servable (R105, R114). -/
def effChunkServable (slot : SlotId) (s : State) : State :=
  let i := slot.val
  match nextFlight s i with
  | none => s
  | some f =>
    match f.op with
    | .serve r =>
      let s := dueFlight s i f
      settled ((rowChunks s i r).foldl (fun s g => makeServable s i g) s) i
    | .moveIn => s
    | .moveOut _ _ _ _ => s
    | .drain _ => s
    | .ship _ _ _ => s
    | .launch _ _ _ _ _ _ _ _ _ => s
    | .shadow _ => s
/-- Meaning of CHUNK_SERVABLE. -/
def execChunkServable (slot : SlotId) (s : State) : Out := .next (effChunkServable slot s)

/-- The DRAIN read of a chunk's line counted (R72). -/
def countDrain (s : State) (i g : Nat) : State :=
  match chunkAt (getSlot s i) g with
  | none => s
  | some (b, j) => settleRounded (modChunk s i b j (fun c => { c with drainRead := true })) i b j

/-- DRAIN_READ: 64 cycles after a DRAIN its reads count (R72, R133). -/
def effDrainRead (slot : SlotId) (s : State) : State :=
  let i := slot.val
  match nextFlight s i with
  | none => s
  | some f =>
    match f.op with
    | .drain r =>
      let s := dueFlight s i f
      settled ((rowChunks s i r).foldl (fun s g => countDrain s i g) s) i
    | .moveIn => s
    | .moveOut _ _ _ _ => s
    | .serve _ => s
    | .ship _ _ _ => s
    | .launch _ _ _ _ _ _ _ _ _ => s
    | .shadow _ => s
/-- Meaning of DRAIN_READ. -/
def execDrainRead (slot : SlotId) (s : State) : Out := .next (effDrainRead slot s)

/-! ### Cadence launches (R200, R203, R232, R234) -/

/-- A launch of an opcode that falls due, from the jig or from a fused command. -/
def launchRow (fromFused : Bool) (accept : Nat → Bool) (slot : SlotId) (s : State) : State :=
  let i := slot.val
  match nextFlight s i with
  | none => s
  | some f =>
    match f.op with
    | .launch fused opc g tag own own1 d pc seg =>
      if fused == fromFused && accept opc then settled (launchFlight (dueFlight s i f) i opc g tag own own1 d pc seg) i else s
    | .moveIn => s
    | .moveOut _ _ _ _ => s
    | .drain _ => s
    | .serve _ => s
    | .ship _ _ _ => s
    | .shadow _ => s

/-- FUSED_COLLECTIVE_LAUNCH, at T + 80. -/
def effFusedCollectiveLaunch (slot : SlotId) (s : State) : State := launchRow true (fun _ => true) slot s
/-- Meaning of FUSED_COLLECTIVE_LAUNCH. -/
def execFusedCollectiveLaunch (slot : SlotId) (s : State) : Out := .next (effFusedCollectiveLaunch slot s)
/-- CAD_BARRIER. -/
def effCadBarrier (slot : SlotId) (s : State) : State := launchRow false (· == ocBarrier) slot s
/-- Meaning of CAD_BARRIER. -/
def execCadBarrier (slot : SlotId) (s : State) : Out := .next (effCadBarrier slot s)
/-- MAX_I64. -/
def effMaxI64 (slot : SlotId) (s : State) : State := launchRow false (· == ocMax) slot s
/-- Meaning of MAX_I64. -/
def execMaxI64 (slot : SlotId) (s : State) : Out := .next (effMaxI64 slot s)
/-- MIN_I64. -/
def effMinI64 (slot : SlotId) (s : State) : State := launchRow false (· == ocMin) slot s
/-- Meaning of MIN_I64. -/
def execMinI64 (slot : SlotId) (s : State) : Out := .next (effMinI64 slot s)
/-- SUM_I64. -/
def effSumI64 (slot : SlotId) (s : State) : State := launchRow false (· == ocSum) slot s
/-- Meaning of SUM_I64. -/
def execSumI64 (slot : SlotId) (s : State) : Out := .next (effSumI64 slot s)
/-- AND_U64. -/
def effAndU64 (slot : SlotId) (s : State) : State := launchRow false (· == ocAnd) slot s
/-- Meaning of AND_U64. -/
def execAndU64 (slot : SlotId) (s : State) : Out := .next (effAndU64 slot s)
/-- OR_U64. -/
def effOrU64 (slot : SlotId) (s : State) : State := launchRow false (· == ocOr) slot s
/-- Meaning of OR_U64. -/
def execOrU64 (slot : SlotId) (s : State) : Out := .next (effOrU64 slot s)
/-- CAD_MAXEXP. -/
def effCadMaxexp (slot : SlotId) (s : State) : State := launchRow false (· == ocMaxExp) slot s
/-- Meaning of CAD_MAXEXP. -/
def execCadMaxexp (slot : SlotId) (s : State) : Out := .next (effCadMaxexp slot s)
/-- SUM_F32. -/
def effSumF32 (slot : SlotId) (s : State) : State := launchRow false (· == ocSumF32) slot s
/-- Meaning of SUM_F32. -/
def execSumF32 (slot : SlotId) (s : State) : Out := .next (effSumF32 slot s)

end Sys2Proof.Machine
end

