-- ==== Sys2Proof/Machine/Steps.lean ====
section
/-! DEFINITION. The step transaction (R246 to R278): readiness, reports sent, sealing, READY, GLUE, ABORT and LEAVE, deadlines,
draining. -/

namespace Sys2Proof.Machine

/-! ### Readiness (R253) -/

/-- The buckets armed in the step. -/
def armedBuckets (sl : Slot) : List Bucket := (sl.buckets.map Prod.snd).filter (fun b => !b.abandoned)

/-- The ring ports on which the step's buckets send, ascending (R254). -/
def downPorts (s : State) (sl : Slot) : List Nat :=
  ((armedBuckets sl).flatMap (fun b =>
    if isOwner s sl b then [] else
      match bucketGroup sl b with
      | none => []
      | some v => groupTrunk v (groupDevAt v (ringDown v (bdDir b.desc) (geSelf v))))).eraseDups

/-- The ring ports on which the step's buckets receive (R254). -/
def upPorts (sl : Slot) : List Nat :=
  ((armedBuckets sl).flatMap (fun b =>
    if isOrigin sl b then [] else
      match bucketGroup sl b with
      | none => []
      | some v => groupTrunk v (groupDevAt v (ringUp v (bdDir b.desc) (geSelf v))))).eraseDups

/-- Whether a slot's DELIVER copies are all acknowledged (R253 bit 4). -/
def copiesDone (s : State) (i : Nat) : Bool :=
  s.ports.all (fun e => !((e.2.tx.queues.getD 3 []).any (fun f => f.slot == i)) &&
    !(e.2.tx.unacked.any (fun f => f.slot == i && f.h.cls == 3)))

/-- The nine conditions of R253, from bit 0 up. -/
def readyConds (s : State) (i : Nat) : List Bool :=
  let sl := getSlot s i
  let r := sl.step
  let mirrored := sl.tan.mirrorOf.isSome
  [ r.last, r.programEnd, (armedBuckets sl).all bucketDone,
    (slotMemberPorts sl).all r.stepDone.contains,
    sl.fetch.all (fun e => e.st == .filled) && copiesDone s i,
    !mirrored || (r.partnerAgreed && (mirroredBuckets sl).all (fun b =>
      b.chunks.all (fun e => (tget? sl.tan.pending (bdChunkIndex b.desc e.1)).isSome))),
    (downPorts s sl).all (fun p => let q := tget segInit r.ringPorts p; q.reportSent && q.reportAcked)
      && (upPorts sl).all (fun p => (tget segInit r.ringPorts p).agreed),
    mirrorReady sl,
    !sl.tan.resyncs.any (fun j => !j.ofMirror) ]

/-- READY_COND (R253, R281). -/
def readyCond (s : State) (i : Nat) : Nat :=
  ((readyConds s i).zip (List.range 9)).foldl (fun n e => if e.1 then orBit n e.2 else n) 0

/-- STEP_DONE's checks of R373, in order. -/
def stepDoneCheck (s : State) (sl : Slot) (i : Nat) (h : Hdr) (p : Nat) : Option Reason :=
  if h.group != sl.ob.controlGroup || !(slotMemberPorts sl).contains p then some .nonMember
  else if h.step != sl.step.num || sl.step.st == .none then some .staleStep
  else if h.attempt != sl.step.attempt then some .oldAttempt
  else if (getPort s p).rx.gathers.any (fun g => g.slot == i) then some .protocol
  else if sl.step.stepDone.contains p then some .duplicate
  else none

/-- STEP_DONE (R253, R373). -/
def effStepDone (rx : RxFrame) (s : State) : State :=
  match admitFrame tStepDone s rx with
  | (none, s) => s
  | (some (h, i), s) =>
    let p := rx.port.val
    match stepDoneCheck s (getSlot s i) i h p with
    | some r => dropLate s rx h i r
    | none =>
      let s := releaseChain s p i 0 (unitsOf rx.payload.length)
      modStep s i (fun r => { r with stepDone := p :: r.stepDone })

/-- Meaning of STEP_DONE. -/
def execStepDone (rx : RxFrame) (s : State) : Out := .next (effStepDone rx s)

/-! ### Reports sent (R254) -/

/-- A STATE frame of a report kind on a port (R308, R356). -/
def sendReport (s : State) (i p kind : Nat) (payload : Bytes) : State :=
  let h := { slotHdr s p i tState 4 with len := payload.length, ts := kind }
  match poolRequest s (tileOfPort p) i 4 payload.length (ownerState i) with
  | (.ok b, s) => queueClass (handBuf s b (ownerPort p)) p ⟨h, payload, fcsOf payload, [b], i, tileOfPort p, 0, 0, false⟩
  | (.quota, s) => addWaiter s (.report i)
  | (.empty, s) => addWaiter s (.report i)

/-- Whether a report could take its buffer now. -/
def reportRoom (s : State) (i p bytes : Nat) : Bool :=
  match (poolRequest s (tileOfPort p) i 4 bytes (ownerState i)).1 with
  | .ok _ => true
  | .quota => false
  | .empty => false

/-- The partner report's payload (R254, R356). -/
def partnerReportPayload (s : State) (sl : Slot) : Bytes :=
  leBytes 4 sl.step.roundedChunks ++ leBytes 4 sl.step.ememRows ++ leBytes 8 (gradDigest s sl (selfId s)).toNat
    ++ leBytes 8 sl.step.stateDigest.toNat ++ leBytes 8 0

/-- The partner report sent once bits 1 and 2 of R253 hold (R254). -/
def sendPartnerReport (s : State) (i : Nat) : State :=
  let sl := getSlot s i
  match sl.tan.partner with
  | none => s
  | some d =>
    match trunkTo s d with
    | [] => s
    | p :: _ =>
      if sl.step.st != .dryFit || sl.step.partnerReportSent || !sl.step.programEnd || !(armedBuckets sl).all bucketDone then s
      else if !reportRoom s i p 32 then addWaiter s (.report i)
      else
        let s := sendReport (dropWaiter s (.report i) i 4) i p kPartnerReport (partnerReportPayload s sl)
        modStep s i (fun r => { r with partnerReportSent := true })

/-- Whether everything that a ring port sends in the step is sent and acknowledged (R254, R369). -/
def segmentSettled (s : State) (sl : Slot) (p : Nat) : Bool :=
  let q := tget segInit sl.step.ringPorts p
  sl.step.last && sl.step.programEnd && q.sent == q.sentAcked
    && (armedBuckets sl).all (fun b => isOwner s sl b || b.chunks.all (fun e => e.2.st == .released))

/-- The segment reports that are due (R254). -/
def sendSegmentReports (s : State) (i : Nat) : State :=
  (downPorts s (getSlot s i)).foldl (fun s p =>
    let sl := getSlot s i
    let q := tget segInit sl.step.ringPorts p
    if sl.step.st != .dryFit || q.reportSent || !segmentSettled s sl p then s
    else if !reportRoom s i p 16 then addWaiter s (.report i)
    else
      let payload := leBytes 4 q.sentAcked ++ leBytes 4 0 ++ leBytes 8 q.sentDigest.toNat
      let s := sendReport (dropWaiter s (.report i) i 4) i p kSegmentReport payload
      modSeg s i p (fun q => { q with reportSent := true })) s

/-- PARTNER_REPORT_SEND (R254): the reports that are due. -/
def effPartnerReportSend (slot : SlotId) (s : State) : State := sendSegmentReports (sendPartnerReport s slot.val) slot.val

/-- Meaning of PARTNER_REPORT_SEND. -/
def execPartnerReportSend (slot : SlotId) (s : State) : Out := .next (effPartnerReportSend slot s)

/-! ### Glue-up (R260) -/

/-- The slot's own data at glue-up: points 1 to 3 of R260, and R269's discards while the mirror syncs. -/
def glueSlot (sl : Slot) : Slot :=
  let current := sl.tan.mirrorSt == .current
  { sl with
    step := { sl.step with st := .glued, lastGlued := some sl.step.num, decisionLost := false }
    shard := { sl.shard with gluedCopy := sl.step.num % 2 }
    progs := sl.progs.map (fun v => if v.st == .inUse && some v.num != sl.running then { v with st := .retired } else v)
    tan := { sl.tan with
      dirty := sl.tan.late
      late := []
      shipped := if current then sl.tan.shipped else []
      mirrorDigest := 0
      mirrorReport := sl.step.partnerReport.map (fun w => BitVec.ofNat 64 (bitsOf w.toNat 128 64)) } }

/-- Point 6 of R260: the shipped rows written into the mirror in the order of their arrival (R268), and the mirror pass begun (R265).
A mirror that a resync has already brought to this step runs none: LAGGING is for the glue-up of MIRROR_STEP + 1 (R263). -/
def startPass (s : State) (i : Nat) : State :=
  let sl := getSlot s i
  if sl.tan.mirrorOf.isNone || sl.tan.mirrorSt != .current then s
  else if !sl.tan.mirrorNone && sl.step.num ≤ sl.tan.mirrorStep then modTan s i (fun t => { t with shipped := [] })
  else
    let rows := sl.tan.shipped
    let s := rows.foldl (fun s e => chunkWrite s i .mirror e.1 e.2.1 e.2.2) s
    let d := rows.foldl (fun x e => x ^^^ rowDigest e.1 e.2.1 e.2.2) (0 : W64)
    modTan s i (fun t => { t with
      shipped := [], syncGot := [], syncNext := [], mirrorDigest := d, mirrorSt := .lagging, passRunning := true, passWaiting := true,
      passStep := sl.step.num, passVer := sl.running })

/-- GLUED entered (R260). -/
def glueUp (s : State) (i : Nat) : State :=
  let s := modSlot s i glueSlot
  let sl := getSlot s i
  let s := (slotMemberPorts sl).foldl (fun s p => slotLinkCtrl s p i 0x05 sl.step.attempt []) s
  let s := postEvent s evStepGlued i (leBytes 8 sl.step.num ++ leBytes 1 sl.step.attempt)
  let s := startPass s i
  if sl.tan.dirty.isEmpty then s else startRestore s i

/-! ### Sealing and the decision (R252, R256 to R258) -/

/-- The agreement word (R256). -/
def agreementWord (sl : Slot) : W64 :=
  crc64 (leBytes 8 sl.step.num ++ leBytes 1 sl.step.attempt ++ leBytes 1 (sl.ob.w % 16 + 16 * b2n sl.ob.masterFp64)
    ++ leBytes 2 Config.generation.toNat ++ leBytes 4 (sl.running.getD 0) ++ leBytes 8 sl.shard.mapCrc.toNat
    ++ leBytes 8 (((controlGroup sl).map geListCrc).getD 0))

/-- The body of READY (R398). -/
def readyBody (job step attempt : Nat) (a o : W64) : Bytes :=
  leBytes 2 job ++ leBytes 4 step ++ leBytes 1 attempt ++ leBytes 8 a.toNat ++ leBytes 8 o.toNat

/-- The body of GLUE (R398). -/
def glueBody (sl : Slot) : Bytes := leBytes 2 sl.ob.jobId ++ leBytes 4 sl.step.num ++ leBytes 1 sl.step.attempt

/-- The READY words held for a step and attempt (R257). -/
def readyWords (sl : Slot) (step attempt : Nat) : List ReadyWord :=
  sl.step.readyKids.filter (fun w => w.step == step % 2 ^ 32 && w.attempt == attempt)

/-- Whether every cadence child's READY is held. -/
def readyAll (v : GroupVer) (ws : List ReadyWord) : Bool := (cadKids v).all (fun k => ws.any (fun w => w.link == k))

/-- DECISION_LOST (R278). -/
def loseDecision (s : State) (i : Nat) (a : Accusation) : State :=
  let sl := getSlot s i
  if sl.step.st != .sealed || sl.step.decisionLost then s
  else
    let s := modStep s i (fun r => { r with decisionLost := true })
    let s := postEvent s evDecisionLost i (leBytes 8 sl.step.num ++ leBytes 1 sl.step.attempt)
    ownIncident s i a.kind a.suspect a.symptom a.detail

/-- The end of a slot's step window (R249). -/
def windowEnd (sl : Slot) : Nat := sl.step.armTime + sl.step.deadline

/-- The root decides ABORT (R257, R258). -/
def decideAbort (s : State) (i cause : Nat) (rs : List Accusation) : State :=
  let sl := getSlot s i
  let s := spokeSendAll s (controlLinks sl) kAbort (abortBody sl sl.step.attempt (selfId s) cause)
  let s := enterRollback s i cause (selfId s)
  reportAll s i sl.step.num sl.step.attempt cause true rs

/-- The root decides GLUE (R257). -/
def decideGlue (s : State) (i : Nat) : State :=
  let sl := getSlot s i
  let s := spokeSendAll s (controlLinks sl) kGlue (glueBody sl)
  glueUp (modStep s i (fun r => { r with decision := 1 })) i

/-- The devices on the cadence child links without READY (R285). -/
def missingReady (s : State) (sl : Slot) (v : GroupVer) : List Accusation :=
  let ws := readyWords sl sl.step.num sl.step.attempt
  ((cadKids v).filter (fun k => !ws.any (fun w => w.link == k))).map (fun k => accDevice (getSpoke s k).peer.toNat syLate)

/-- READY sent, or the decision taken at the root, once the device has sealed and holds READY from every child (R257). A READY at
the end of the root's window is late (R258). -/
def tryReady (s : State) (i : Nat) : State :=
  let sl := getSlot s i
  match controlGroup sl with
  | none => s
  | some v =>
    let ws := readyWords sl sl.step.num sl.step.attempt
    if sl.step.st != .sealed || sl.step.readySent || !readyAll v ws then s
    else
      let a := ws.foldl (fun x w => x &&& w.andW) sl.step.agreement
      let o := ws.foldl (fun x w => x ||| w.orW) sl.step.agreement
      if geCadRoot v then
        if windowEnd sl ≤ s.time then decideAbort s i caStepDeadline (missingReady s sl v)
        else if a == o then decideGlue s i
        else decideAbort s i caAgreement [accJob syHost]
      else
        let s := spokeSend s (geCadParent v) kReady (readyBody sl.ob.jobId sl.step.num sl.step.attempt a o)
        modStep s i (fun r => { r with readySent := true })

/-- Whom a step deadline at a device names (R285): by the lowest condition that does not hold. -/
def deadlineSuspects (s : State) (i : Nat) : List Accusation :=
  let sl := getSlot s i
  match (readyConds s i).findIdx? (fun b => !b) with
  | some 3 => ((slotMemberPorts sl).filter (fun p => !sl.step.stepDone.contains p)).map (fun p => accPort s p syLate)
  | some 5 => [accDevice (sl.tan.mirrorOf.getD (selfId s)) syLate]
  | some 6 =>
    let late := (upPorts sl).filter (fun p => (tget segInit sl.step.ringPorts p).report.isNone)
    if late.isEmpty then [accDevice (selfId s) syLate] else ((late.map (portPeerDev s)).eraseDups).map (fun d => accDevice d syLate)
  | _ => [accDevice (selfId s) syLate]

/-- The parent link of a slot's control group is up, or this device is the root. -/
def rootPathUp (s : State) (v : GroupVer) : Bool := geCadRoot v || (getSpoke s (geCadParent v)).st == 2

/-- STEP_SEAL (R249, R253, R255 to R257): every report is compared; with every condition holding inside the window the device seals. -/
def effStepSeal (slot : SlotId) (s : State) : State :=
  let i := slot.val
  if (getSlot s i).step.st != .dryFit then s
  else
    let s := judgeReports s i
    let sl := getSlot s i
    if sl.step.st != .dryFit || !(readyConds s i).all id then s
    else if windowEnd sl ≤ s.time then raiseAbort s i caStepDeadline (deadlineSuspects s i)
    else
      let s := modStep s i (fun r => { r with
        st := .sealed
        sealTime := s.time
        armToSeal := min ((s.time - r.armTime) / 1000) (2 ^ 32 - 1)
        agreement := agreementWord sl })
      match controlGroup sl with
      | none => s
      | some v =>
        let s := if rootPathUp s v then s
          else loseDecision s i ⟨2, spokeSuspect s (geCadParent v), syLink, 0, 0xFF⟩
        tryReady s i

/-- Meaning of STEP_SEAL. -/
def execStepSeal (slot : SlotId) (s : State) : Out := .next (effStepSeal slot s)

/-- STEP_DEADLINE (R249): the step window ends in DRY_FIT. -/
def effStepDeadline (slot : SlotId) (s : State) : State :=
  let i := slot.val
  let sl := getSlot s i
  if sl.step.st != .dryFit then s
  else
    let s := timeTo s (windowEnd sl)
    raiseAbort s i caStepDeadline (deadlineSuspects s i)

/-- Meaning of STEP_DEADLINE. -/
def execStepDeadline (slot : SlotId) (s : State) : Out := .next (effStepDeadline slot s)

/-- ROOT_DEADLINE (R258): the root's window ends before it holds READY from every child. -/
def effRootDeadline (slot : SlotId) (s : State) : State :=
  let i := slot.val
  let sl := getSlot s i
  match controlGroup sl with
  | none => s
  | some v =>
    if sl.step.st != .sealed || !geCadRoot v then s
    else
      let s := timeTo s (windowEnd sl)
      decideAbort s i caStepDeadline (missingReady s sl v)

/-- Meaning of ROOT_DEADLINE. -/
def execRootDeadline (slot : SlotId) (s : State) : Out := .next (effRootDeadline slot s)

/-! ### Control sequences (R243, R257, R273) -/

/-- A READY, GLUE or ABORT sequence taken on a link of the control tree of a job held OPEN: its slot, step bits and attempt. One of
another job, or on another link, is dropped and counted. -/
def takeControl (rx : SpokeRx) (sym len : Nat) (s : State) : Option (Nat × Nat × Nat) × State :=
  if rx.ksym.toNat != sym || rx.body.length != len then (none, s)
  else
    match spokeTake s rx with
    | (false, s) => (none, s)
    | (true, s) =>
      let k := rx.link.val
      let dropped := modSpoke s k (fun l => { l with dropped := inc32 l.dropped })
      match openSlotOf s (leAt rx.body 0 2) with
      | none => (none, dropped)
      | some i =>
        if (controlLinks (getSlot s i)).contains k then (some (i, leAt rx.body 2 4, leAt rx.body 6 1), s) else (none, dropped)

/-- A sequence forwarded on every other link of the control tree (R243). -/
def forwardControl (s : State) (i link sym : Nat) (body : Bytes) : State :=
  spokeSendAll s ((controlLinks (getSlot s i)).filter (fun l => l != link)) sym body

/-- READY at a relay (R257): sent on once every child's is held. -/
def relayReady (s : State) (i step attempt : Nat) (v : GroupVer) : State :=
  let sl := getSlot s i
  match readyWords sl step attempt with
  | [] => s
  | w :: ws =>
    if !readyAll v (w :: ws) then s
    else
      let a := ws.foldl (fun x w => x &&& w.andW) w.andW
      let o := ws.foldl (fun x w => x ||| w.orW) w.orW
      let s := spokeSend s (geCadParent v) kReady (readyBody sl.ob.jobId step attempt a o)
      modStep s i (fun r => { r with readyKids := r.readyKids.filter (fun w => !(w.step == step && w.attempt == attempt)) })

/-- READY_SEQ (R257, R258): a child's words kept; READY goes on, or the root decides. -/
def effReadySeq (rx : SpokeRx) (s : State) : State :=
  match takeControl rx kReady 23 s with
  | (none, s) => s
  | (some (i, step, attempt), s) =>
    let k := rx.link.val
    match controlGroup (getSlot s i) with
    | none => s
    | some v =>
      if !(cadKids v).contains k then s
      else
        let w : ReadyWord := ⟨k, step, attempt, BitVec.ofNat 64 (leAt rx.body 7 8), BitVec.ofNat 64 (leAt rx.body 15 8)⟩
        let known (r : StepRec) : Bool := r.readyKids.any (fun x => x.link == k && x.step == step && x.attempt == attempt)
        let s := modStep s i (fun r => if known r then r else { r with readyKids := r.readyKids ++ [w] })
        if geRelay v then relayReady s i step attempt v else tryReady s i

/-- Meaning of READY_SEQ. -/
def execReadySeq (rx : SpokeRx) (s : State) : Out := .next (effReadySeq rx s)

/-- A decision that the slot does not take (R273, R282, R538): counted, and an incident of symptom HOST where it conflicts. -/
def staleDecision (s : State) (i : Nat) (incident : Bool) : State :=
  let s := modStep s i (fun r => { r with staleDecisions := inc32 r.staleDecisions })
  if incident then ownIncident s i 4 0 syHost 0 else s

/-- Whether a step and attempt are the slot's current ones. -/
def isCurrent (sl : Slot) (step attempt : Nat) : Bool := step == sl.step.num % 2 ^ 32 && attempt == sl.step.attempt && sl.step.st != .none

/-- Whether a step and attempt are those of the last rollback, whose replay is not armed yet (R273). -/
def isRolledBack (sl : Slot) (step attempt : Nat) : Bool :=
  step == sl.step.num % 2 ^ 32 && (attempt + 1) % 256 == sl.step.attempt && (sl.step.st == .rollingBack || sl.step.st == .rolledBack)

/-- A GLUE judged (R251, R273, R282, R538). -/
def takeGlue (s : State) (i step attempt : Nat) : State :=
  let sl := getSlot s i
  if isCurrent sl step attempt then
    if sl.step.st == .sealed then glueUp s i
    else staleDecision s i (sl.step.st == .dryFit)
  else staleDecision s i (isRolledBack sl step attempt)

/-- An ABORT judged (R251, R273, R282). A second one of the same step and attempt changes nothing. -/
def takeAbort (s : State) (i step attempt origin cause : Nat) : State :=
  let sl := getSlot s i
  if isCurrent sl step attempt then
    if sl.step.st == .sealed || sl.step.st == .dryFit then enterRollback s i cause origin
    else staleDecision s i (sl.step.st == .glued)
  else if isRolledBack sl step attempt then s
  else staleDecision s i false

/-- GLUE_SEQ (R243, R251, R260): forwarded and judged; a relay only forwards it. -/
def effGlueSeq (rx : SpokeRx) (s : State) : State :=
  match takeControl rx kGlue 7 s with
  | (none, s) => s
  | (some (i, step, attempt), s) =>
    let s := forwardControl s i rx.link.val kGlue rx.body
    if isControlRelay (getSlot s i) then s else takeGlue s i step attempt

/-- Meaning of GLUE_SEQ. -/
def execGlueSeq (rx : SpokeRx) (s : State) : Out := .next (effGlueSeq rx s)

/-- ABORT_SEQ (R243, R271, R272): forwarded and judged; a relay only forwards it. -/
def effAbortSeq (rx : SpokeRx) (s : State) : State :=
  match takeControl rx kAbort 10 s with
  | (none, s) => s
  | (some (i, step, attempt), s) =>
    let s := forwardControl s i rx.link.val kAbort rx.body
    if isControlRelay (getSlot s i) then s else takeAbort s i step attempt (leAt rx.body 7 2) (leAt rx.body 9 1)

/-- Meaning of ABORT_SEQ. -/
def execAbortSeq (rx : SpokeRx) (s : State) : Out := .next (effAbortSeq rx s)

/-- ROLLBACK_CLEARED (R251, R272): ROLLING_BACK to ROLLED_BACK. -/
def effRollbackCleared (slot : SlotId) (s : State) : State :=
  if (getSlot s slot.val).step.st == .rollingBack then modStep s slot.val (fun r => { r with st := .rolledBack }) else s

/-- Meaning of ROLLBACK_CLEARED. -/
def execRollbackCleared (slot : SlotId) (s : State) : Out := .next (effRollbackCleared slot s)

/-! ### Leave notices (R273, R401) -/

/-- A partner that has left can supply no rows (R277). -/
def partnerLeft (s : State) (i dev : Nat) : State :=
  let s := modTan s i (fun t => { t with leftDevices := if t.leftDevices.contains dev then t.leftDevices else dev :: t.leftDevices })
  let sl := getSlot s i
  if sl.tan.restoring && sl.tan.partner == some dev then loseSlot s i else s

/-- The step aborted by a leave notice (R273): as for an abort raised here, also when this device has sealed, since the leaving
device has not. -/
def leaveAbort (s : State) (i dev : Nat) : State :=
  let sl := getSlot s i
  if sl.step.st == .dryFit then raiseAbort s i caLeave [accDevice dev syPower]
  else if sl.step.st == .sealed then decideAbort s i caLeave [accDevice dev syPower]
  else s

/-- One entry of a leave notice (R273, R278, R401). -/
def takeLeaveEntry (s : State) (dev link : Nat) (e : Bytes) : State :=
  match openSlotOf s (leAt e 0 2) with
  | none => s
  | some i =>
    let s := partnerLeft s i dev
    let sl := getSlot s i
    let step := leAt e 2 4
    let attempt := leAt e 6 1
    let flags := leAt e 7 1
    let decision := bitsOf flags 2 2
    if !isCurrent sl step attempt || !(controlLinks sl).contains link then s
    else if decision = 1 then takeGlue (forwardControl s i link kGlue (e.take 7)) i step attempt
    else if decision = 2 then
      takeAbort (forwardControl s i link kAbort (e.take 7 ++ leBytes 2 dev ++ leBytes 1 caLeave)) i step attempt dev caLeave
    else if !bitOf flags 0 then leaveAbort s i dev
    else if bitOf flags 1 then loseDecision s i (accDevice dev syPower)
    else s

/-- LEAVE_SEQ (R273, R401): each entry of a job held OPEN is applied. -/
def effLeaveSeq (rx : SpokeRx) (s : State) : State :=
  let n := leAt rx.body 3 1
  if rx.ksym.toNat != kLeave || rx.body.length != 4 + 8 * n || 64 < n then s
  else
    match spokeTake s rx with
    | (false, s) => s
    | (true, s) =>
      let dev := leAt rx.body 0 2
      (piecesOf 8 n (rx.body.drop 4)).foldl (fun s e => takeLeaveEntry s dev rx.link.val e) s

/-- Meaning of LEAVE_SEQ. -/
def execLeaveSeq (rx : SpokeRx) (s : State) : Out := .next (effLeaveSeq rx s)

/-- The entry of a leave notice for an OPEN slot (R401). -/
def leaveEntry (sl : Slot) : Bytes :=
  let sealed_ := sl.step.st == .sealed
  let root := isControlRoot sl
  let decision := if root && sl.step.st == StepSt.glued then 1 else 0
  leBytes 2 sl.ob.jobId ++ leBytes 4 sl.step.num ++ leBytes 1 sl.step.attempt
    ++ leBytes 1 (b2n sealed_ + 2 * b2n root + 4 * decision)

/-- LEAVE sent on every up spoke link (R401): reason 1 last gasp, 2 FATAL. -/
def sendLeave (s : State) (reason : Nat) : State :=
  let es := (slotsWhere s (fun sl => sl.st == SlotSt.open_)).map (fun i => leaveEntry (getSlot s i))
  spokeSendAll s ((List.range 8).filter (fun k => (getSpoke s k).st == 2)) kLeave
    (leBytes 2 (selfId s) ++ leBytes 1 reason ++ leBytes 1 es.length ++ es.flatten)

/-! ### Draining (R36, R540) -/

/-- A slot enters DRAINING (R36): its step in dry-fit aborts across the job, and buffers, lines and quotas go back. -/
def drainSlot (s : State) (i : Nat) : State :=
  let s := raiseAbort s i caSlotClose (if (getSlot s i).step.st == .dryFit then [accJob syHost] else [])
  let sl := getSlot s i
  let s := s.ports.foldl (fun s e =>
    let gone := (e.2.tx.queues.flatten).filter (fun f => f.slot == i)
    let s := gone.foldl (fun s f => dropFrameBufs s e.1 f.bufs) s
    modTx s e.1 (fun t => { t with queues := t.queues.map (fun l => l.filter (fun f => f.slot != i)) })) s
  let s := releaseParked s i (sl.buckets.flatMap (fun e => e.2.chunks.map Prod.snd))
  let s := dropSlotWaiters (releaseHeld (abandonFetch s i) i) i
  let s := if s.holder == some i then { s with holder := none } else s
  modSlot s i (fun sl => { sl with
    st := .draining
    drainStart := s.time
    drainTimeoutPosted := false
    bench := benchInit
    ctxs := []
    cadHeld := []
    buckets := tmap sl.buckets (fun _ b => abandonBucket b)
    servable := []
    tokens := []
    tan := { sl.tan with passRunning := false, passWaiting := false, restores := [], resyncs := [], restoring := false } })

/-- The granules of a slot on every tile, zeroed (R416, R540). -/
def scrubGranules (s : State) (sl : Slot) : State :=
  (List.range 128).foldl (fun s t =>
    let gs := tget [] sl.shard.grPrimary t ++ tget [] sl.shard.grMirror t ++ tget [] sl.shard.grScratch t
    gs.foldl (fun s g => (List.range 512).foldl (fun s f => frameWrite s t (512 * g + f) (List.replicate 4096 0)) s) s) s

/-- SLOT_DRAIN_DONE (R35, R36, R540): the partition is zero, the slot FREE with its generation kept. -/
def effSlotDrainDone (slot : SlotId) (s : State) : State :=
  let i := slot.val
  let sl := getSlot s i
  if sl.st != .draining then s
  else
    let s := scrubGranules s sl
    let s := setSlot s i { slotInit with gen := sl.gen, pools := sl.pools }
    let s := { s with incidents := s.incidents.filter (fun n => n.slot != i) }
    postEvent s evSlotFree i []

/-- Meaning of SLOT_DRAIN_DONE. -/
def execSlotDrainDone (slot : SlotId) (s : State) : Out := .next (effSlotDrainDone slot s)

/-- SLOT_DRAIN_TIMEOUT (R540): 50 ms after its start a slot still DRAINING posts its timeout once. -/
def effSlotDrainTimeout (slot : SlotId) (s : State) : State :=
  let i := slot.val
  let sl := getSlot s i
  if sl.st != .draining || sl.drainTimeoutPosted then s
  else
    let s := timeTo s (sl.drainStart + msNs 50)
    postEvent (modSlot s i (fun sl => { sl with drainTimeoutPosted := true })) evDrainTimeout i []

/-- Meaning of SLOT_DRAIN_TIMEOUT. -/
def execSlotDrainTimeout (slot : SlotId) (s : State) : Out := .next (effSlotDrainTimeout slot s)

end Sys2Proof.Machine
end

