-- ==== Sys2Proof/Machine/Links.lean ====
section
/-! DEFINITION. Ports coming up and going down, credits, NACKs and replay, die links and buffer slices that fail, and rehearsals
(R26, R299, R327, R335, R358 to R378). -/

namespace Sys2Proof.Machine

/-! ### FATAL (R283) -/

/-- The device stops taking part in every job (R283): FATAL in GLB_STATUS and as its phase (R482), a leave notice with reason FATAL,
and an incident against itself in every OPEN slot. -/
def becomeFatal (s : State) (symptom : Nat) : State :=
  if s.host.fatal then s
  else
    let s := { s with host := { s.host with fatal := true }, pwr := { s.pwr with phase := 0xA } }
    let s := sendLeave s 2
    (slotsWhere s (fun sl => sl.st == SlotSt.open_)).foldl
      (fun s i => ownIncident s i 1 (selfId s * 65536) symptom 0) s

/-! ### A port down (R335, R358, R365) -/

/-- Every slot whose step in DRY_FIT used a port that went down aborts (R270, R335); in any other state the report stays an
incident of a SEALED step, and a restore without a path is lost (R277). -/
def portDownSlots (s : State) (p : Nat) : State :=
  let a := if (getPort s p).cfg.trunk then accLink s p syLink else accPort s p syLink
  (slotsOfPort s p).foldl (fun s i =>
    let sl := getSlot s i
    let s := if sl.step.st == .dryFit || sl.step.st == .sealed then raiseAbort s i caLinkDown [a] else s
    let sl := getSlot s i
    if sl.tan.restoring && (sl.tan.partner.map (fun d => (upTrunk s d).isEmpty)).getD true then loseSlot s i else s) s

/-- The frames that a port held are released (R335): waiting ones, and unacknowledged ones, whose window units come back. Sequence
numbers, credits and requests start anew (R358). -/
def resetPort (s : State) (p : Nat) : State :=
  let q := getPort s p
  let s := (q.tx.queues.flatten ++ q.tx.unacked).foldl (fun s f => dropFrameBufs s p f.bufs) s
  let s := q.tx.unacked.foldl (fun s f => debit s p f true) s
  let source := portSource s p
  let s := q.rx.owedWin.foldl (fun s e => modSlot s (e.1 / 8) (fun sl =>
    { sl with winRx := tmod 0 sl.winRx (winKey source (e.1 % 8)) (fun n => n - e.2) })) s
  modPort s p (fun q => { q with
    up := false, helloSent := false, helloRx := false, creditInitRx := false, tx := portTxInit, rx := portRxInit })

/-- A port goes down (R335, R365): reported, the slots' steps end, and what it held is released. -/
def portDown (s : State) (p : Nat) : State :=
  if (getPort s p).up then
    let s := postEvent s evPortState devEvent (leBytes 2 p ++ leBytes 1 0)
    let s := modPort s p (fun q => { q with up := false })
    resetPort (portDownSlots s p) p
  else resetPort s p

/-- PORT_DOWN (R335): an up port goes down. -/
def effPortDown (port : PortId) (s : State) : State := if (getPort s port.val).up then portDown s port.val else s

/-- Meaning of PORT_DOWN. -/
def execPortDown (port : PortId) (s : State) : Out := .next (effPortDown port s)

/-! ### Link-up (R358, R359, R362) -/

/-- HELLO and CREDIT_INIT sent at link-up (R358, R362). -/
def sendHello (s : State) (p : Nat) : State :=
  let s := modPort s p (fun q => { q with helloSent := true })
  let q := getPort s p
  let hello := leBytes 8 (packFields [(32, endpointId (selfId s) p), (1, 1), (2, q.cfg.width), (29, 0)])
  let s := linkCtrl s p 0x01 0 0 0 0 hello
  linkCtrl s p 0x02 0 0 0 0 ((List.range 5).flatMap (fun c => leBytes 2 (natAt q.cfg.rxCredits c)))

/-- JOB_ANNOUNCE or JOB_WITHDRAW of a slot on a port (R359). -/
def announceJob (s : State) (p i kind : Nat) : State :=
  let sl := getSlot s i
  linkCtrl s p kind sl.ob.jobId sl.gen 0 sl.step.num []

/-- A JOB_ANNOUNCE or JOB_WITHDRAW on every up port (R359). -/
def announceAll (s : State) (i kind : Nat) : State :=
  ((s.ports.filter (fun e => e.2.up)).map Prod.fst).foldl (fun s p => announceJob s p i kind) s

/-- The port comes up when both ends' HELLO and CREDIT_INIT have passed and the roles agree (R358); it reports and announces the
OPEN slots (R359). -/
def tryPortUp (s : State) (p : Nat) : State :=
  let q := getPort s p
  if q.up || !q.cfg.enable || !q.helloSent || !q.helloRx || !q.creditInitRx || q.peerRole != b2n q.cfg.trunk then s
  else
    let s := modPort s p (fun q => { q with up := true })
    let s := postEvent s evPortState devEvent (leBytes 2 p ++ leBytes 1 1)
    (slotsWhere s (fun sl => sl.st == SlotSt.open_)).foldl (fun s i => announceJob s p i 0x03) s

/-- A LINK_CTRL frame of a kind taken from a far end that may send it (R362, R372). -/
def takeLinkCtrl (kind : Nat) (rx : RxFrame) (s : State) : Option Hdr × State :=
  if hLinkKind (hdrDecode rx.hdr) != kind then (none, s)
  else
    match admitLink tLinkCtrl s rx with
    | (none, s) => (none, s)
    | (some h, s) =>
      if 3 ≤ kind && !(getPort s rx.port.val).cfg.trunk then (none, dropFor s rx h none .protocol 0x06 0) else (some h, s)

/-- A HELLO that starts the link anew (R358, R378): it comes while the port is up, or with the first LSEQ of a new link-up. The
port goes down and sends its own HELLO again. -/
def helloRestart (rx : RxFrame) (s : State) : State :=
  let p := rx.port.val
  let h := hdrDecode rx.hdr
  let q := getPort s p
  let sound := !rx.hdrBad && hcrcOk rx.hdr && !rx.payBad && rx.fcs == fcsOf rx.payload && h.typ == tLinkCtrl
  if sound && q.helloSent && ((h.seq == 0 && q.rx.expLseq != 0) || (q.up && h.seq == q.rx.expLseq)) then
    let s := sendHello (portDown s p) p
    modRx s p (fun r => { r with expLseq := h.seq })
  else s

/-- HELLO (R358, R362), and the LINK_CTRL kinds that no far end may send (R372). -/
def effHello (rx : RxFrame) (s : State) : State :=
  let p := rx.port.val
  let kind := hLinkKind (hdrDecode rx.hdr)
  if kind = 1 then
    match takeLinkCtrl 1 rx (helloRestart rx s) with
    | (none, s) => s
    | (some _, s) =>
      let n := leNat rx.payload
      tryPortUp (modPort s p (fun q => { q with
        helloRx := true, peer := BitVec.ofNat 32 n, peerRole := bitsOf n 32 1 })) p
  else if kind = 0 || kind = 5 || kind = 6 || 10 ≤ kind then
    match admitLink tLinkCtrl s rx with
    | (none, s) => s
    | (some h, s) => dropFor s rx h none .protocol (if kind = 5 || kind = 6 then 0x06 else 0x02) 0
  else s

/-- Meaning of HELLO. -/
def execHello (rx : RxFrame) (s : State) : Out := .next (effHello rx s)

/-- CREDIT_INIT (R358, R362): the initial hop credits; C3 has none from a device (R320). -/
def effCreditInit (rx : RxFrame) (s : State) : State :=
  let p := rx.port.val
  match takeLinkCtrl 2 rx s with
  | (none, s) => s
  | (some _, s) =>
    let hop := (List.range 5).map (fun c =>
      if c = 3 && (getPort s p).cfg.trunk then 0 else leAt rx.payload (2 * c) 2)
    tryPortUp (modPort s p (fun q => { q with creditInitRx := true, tx := { q.tx with hop := hop } })) p

/-- Meaning of CREDIT_INIT. -/
def execCreditInit (rx : RxFrame) (s : State) : Out := .next (effCreditInit rx s)

/-- JOB_ANNOUNCE (R359): the generation that the far device uses for a job. -/
def effJobAnnounce (rx : RxFrame) (s : State) : State :=
  match takeLinkCtrl 3 rx s with
  | (none, s) => s
  | (some h, s) => modRx s rx.port.val (fun r => { r with gens := tset r.gens h.job h.gen })

/-- Meaning of JOB_ANNOUNCE. -/
def execJobAnnounce (rx : RxFrame) (s : State) : Out := .next (effJobAnnounce rx s)

/-- JOB_WITHDRAW (R359): the far slot has left OPEN; its generation is forgotten and so are the windows that it granted. -/
def effJobWithdraw (rx : RxFrame) (s : State) : State :=
  match takeLinkCtrl 4 rx s with
  | (none, s) => s
  | (some h, s) =>
    let p := rx.port.val
    let dev := portPeerDev s p
    let s := modRx s p (fun r => { r with gens := terase r.gens h.job })
    match slotOfJob s h.job with
    | none => s
    | some i => modSlot s i (fun sl => { sl with winTx := sl.winTx.filter (fun e => e.1 / 8 / 65536 != dev) })

/-- Meaning of JOB_WITHDRAW. -/
def execJobWithdraw (rx : RxFrame) (s : State) : Out := .next (effJobWithdraw rx s)

/-! ### CREDIT (R360, R364, R366) -/

/-- A frame whose acknowledgment covers it (R364, R366): its buffers go back; unless a NACK has answered it, what waited for the
acknowledgment is done (R72, R93). -/
def frameAcked (s : State) (p : Nat) (f : TxFrame) : State :=
  let s := dropFrameBufs s p f.bufs
  let i := f.slot
  let h := f.h
  let r := (getSlot s i).step
  if f.nacked then s
  else if h.typ = tAccumulate then ackPartial s i p h f.payload
  else if h.typ = tState && h.step = r.num && h.attempt = r.attempt then
    if hStateKind h = kPending then
      match chunkAt (getSlot s i) (hStateChunk h) with
      | none => s
      | some (b, j) => settleRounded (modChunk s i b j (fun c => { c with stateAcked := true })) i b j
    else if hStateKind h = kSegmentReport then modSeg s i p (fun q => { q with reportAcked := true })
    else s
  else s

/-- ACK_SEQ taken (R364): every frame below it is acknowledged; a replay goes on from it. -/
def takeAck (s : State) (p ack : Nat) : State :=
  let below (f : TxFrame) : Bool := seqCheck ack f.h.seq == .below
  let gone := (getPort s p).tx.unacked.filter below
  let s := modTx s p (fun t =>
    let left := t.unacked.filter (fun f => !below f)
    let at_ : Option Nat := match t.replayAt with
      | none => none
      | some r => if seqCheck ack r == .below then left.head?.map (fun f => f.h.seq) else some r
    { t with unacked := left, replayAt := at_ })
  gone.foldl (fun s f => frameAcked s p f) s

/-- One window entry of a CREDIT from a device (R323, R360): JOB, CLASS and UNITS. -/
def takeWindowUnits (s : State) (dev n : Nat) : State :=
  match slotOfJob s (bitsOf n 0 16) with
  | none => s
  | some i =>
    let c := bitsOf n 16 3
    modSlot s i (fun sl => { sl with winTx := tset sl.winTx (winKey (dev * 65536) c) (winAvail sl dev c + bitsOf n 24 24) })

/-- CREDIT (R360, R364, R372): increments added, frames acknowledged. HOP[3] from a device is a protocol error. -/
def effCredit (rx : RxFrame) (s : State) : State :=
  let p := rx.port.val
  match admitLink tCredit s rx with
  | (none, s) => s
  | (some h, s) =>
    let trunk := (getPort s p).cfg.trunk
    let hop := (List.range 5).map (fun c => leAt rx.payload (4 + 2 * c) 2)
    let nwin := leAt rx.payload 14 2
    if trunk && natAt hop 3 != 0 then dropFor s rx h none .protocol 0x02 0
    else if rx.payload.length != 16 + 8 * nwin then dropFor s rx h none .protocol 0x05 0
    else
      let s := modTx s p (fun t => { t with hop := (List.range 5).map (fun c => natAt t.hop c + natAt hop c) })
      let s := if trunk then
          (wordsOf 8 nwin (rx.payload.drop 16)).foldl (fun s n => takeWindowUnits s (portPeerDev s p) n) s
        else s
      let s := takeAck s p (leAt rx.payload 0 4)
      (slotsWhere s (fun sl => sl.step.st == StepSt.dryFit)).foldl sendSegmentReports s

/-- Meaning of CREDIT. -/
def execCredit (rx : RxFrame) (s : State) : Out := .next (effCredit rx s)

/-! ### Replay (R365, R378) -/

/-- A replay from a SEQ on (R365): credits and window units of the frames to be sent again come back. A replay under way goes on
unless the new start is lower (R378); a frame that has been replayed eight times takes the port down. -/
def startReplay (s : State) (p seq : Nat) : State :=
  let t := (getPort s p).tx
  match t.unacked.find? (fun f => f.h.seq == seq) with
  | none => s
  | some f =>
    let again : Bool := match t.replayAt with
      | none => true
      | some _ => seqCheck t.replayStart seq == .below
    if !again then s
    else if 8 ≤ f.replays then portDown s p
    else
      let back := t.unacked.filter (fun g => seqCheck seq g.h.seq != .below && (match t.replayAt with
        | none => true
        | some r => seqCheck r g.h.seq == .below))
      let s := back.foldl (fun s g => debit s p g true) s
      modTx s p (fun t => { t with replayAt := some seq, replayStart := seq })

/-- REPLAY_TIMEOUT (R365): the oldest unacknowledged class frame has waited 3 µs without a NACK. -/
def effReplayTimeout (port : PortId) (s : State) : State :=
  let p := port.val
  match (getPort s p).tx.unacked with
  | [] => s
  | f :: _ => if f.nacked || !(getPort s p).up then s else startReplay (timeTo s (f.sentAt + usNs 3)) p f.h.seq

/-- Meaning of REPLAY_TIMEOUT. -/
def execReplayTimeout (port : PortId) (s : State) : Out := .next (effReplayTimeout port s)

/-! ### NACK (R364, R376) -/

/-- Whether a NACK of a code leaves the frame it answers acknowledged (R364): LATE and DUPLICATE, and the codes that end the
frame's handling (R376). -/
def nackEnds (code : Nat) : Bool := code == 0x0C || code == 0x10 || code == 0x12 || code == 0x1A || code == 0x1B

/-- The unacknowledged frame of a SEQ marked as answered by a NACK. -/
def markNacked (s : State) (p seq : Nat) : State :=
  modTx s p (fun t => { t with unacked := t.unacked.map (fun f => if f.h.seq == seq then { f with nacked := true } else f) })

/-- CREDIT (R361, R376): AVAIL is adopted and the frame waits again as a new one, in front of its class. -/
def nackCredit (s : State) (p detail avail : Nat) (f : TxFrame) : State :=
  let c := f.h.cls
  let dev := f.h.dst / 65536
  let s := if detail = 1 then modSlot s f.slot (fun sl => { sl with winTx := tset sl.winTx (winKey (dev * 65536) c) avail })
    else modTx s p (fun t => { t with hop := modAt t.hop c (fun _ => avail) })
  modTx s p (fun t => { t with
    unacked := t.unacked.map (fun g => if g.h.seq == f.h.seq then { g with nacked := true, bufs := [] } else g)
    queues := modAt t.queues c (fun l => { f with replays := 0, nacked := false } :: l) })

/-- UNARMED and WINDOW_PENDING (R369): the partial is sent again 1 µs later. -/
def nackAgain (s : State) (p : Nat) (f : TxFrame) : State :=
  let s := markNacked s p f.h.seq
  if f.h.typ != tAccumulate then s
  else modChunk s f.slot f.h.bucket f.h.chunk (fun c =>
    if c.st == .sending then { c with resend := c.resend ++ [(hAccPart f.h, s.time + usNs 1)] } else c)

/-- The C3 grant of a device-level GATHER taken back (R320). -/
def takeGrant (s : State) (p : Nat) (f : TxFrame) : State :=
  modRx s p (fun r => { r with inUse := modAt r.inUse 3 (fun n => n - gatherUnits f.h.format 1) })

/-- The fetch entry that a device-level GATHER asked for. -/
def gatherEntry (s : State) (f : TxFrame) : Option Fetch :=
  findFetch (getSlot s f.slot) (hGatherFirst f.h / 1024) f.h.format f.h.mode

/-- TABLE_FULL for a device-level GATHER (R370): the request is sent again 1 µs later. -/
def nackTableFull (s : State) (p : Nat) (f : TxFrame) : State :=
  let s := takeGrant (markNacked s p f.h.seq) p f
  match gatherEntry s f with
  | none => s
  | some e => modFetch s f.slot e.chunk e.format e.mode (fun e => { e with resendAt := some (s.time + usNs 1) })

/-- STALE_VERSION for a device-level GATHER (R122, R370): the entry is abandoned. -/
def nackStale (s : State) (p : Nat) (f : TxFrame) : State :=
  let s := takeGrant s p f
  match gatherEntry s f with
  | none => s
  | some e => if e.st == .fetching then abandonEntry s f.slot e else s

/-- DELIVER_CRC from a member (R120, R285, R299): the step aborts, naming the owner; the report of a copy that a rehearsal
corrupted keeps its mark. -/
def nackDeliverCrc (s : State) (p : Nat) (f : TxFrame) : State :=
  let i := f.slot
  let sl := getSlot s i
  let g := hDeliverChunk f.h
  let owner := (ownerOf sl g).getD (selfId s)
  let hops := ((stepGroup sl f.h.group).map (fun v => hopsToOwner v owner)).getD 0xFF
  let mark := b2n (sl.health.corrupted.contains (p, g))
  let cause := caMemberReport + 128 * mark
  let accuser := endpointId (selfId s) p
  let rep (aborted : Bool) : Report :=
    ⟨1, owner * 65536, syCorrupt, sl.step.num, sl.step.attempt, if aborted then caMemberReport else 0, 0x1A, hops, aborted,
     mark == 1, accuser⟩
  if sl.step.st == .dryFit then reportFault (raiseAbort s i cause []) i (rep true)
  else reportFault s i (rep false)

/-- DELIVER_UNEXPECTED from a member (R376): an incident of symptom PROTOCOL against this device, without an abort. -/
def nackUnexpected (s : State) (p : Nat) (f : TxFrame) : State :=
  let sl := getSlot s f.slot
  reportFault s f.slot ⟨1, selfId s * 65536, syProtocol, sl.step.num, sl.step.attempt, 0, 0x1B, 0xFF, false, false,
    endpointId (selfId s) p⟩

/-- NACK (R364, R376): counted and acted on by its code. -/
def effNack (rx : RxFrame) (s : State) : State :=
  let p := rx.port.val
  match admitLink tNack s rx with
  | (none, s) => s
  | (some _, s) =>
    let s := modCnt s p (fun k => { k with nacksReceived := inc32 k.nacksReceived })
    let code := leAt rx.payload 0 1
    let detail := leAt rx.payload 1 1
    let nseq := leAt rx.payload 4 4
    let avail := leAt rx.payload 8 4
    let trunk := (getPort s p).cfg.trunk
    if code = 0x01 then startReplay s p nseq
    else
      match (getPort s p).tx.unacked.find? (fun f => f.h.seq == nseq && !f.nacked) with
      | none => s
      | some f =>
        if code = 0x07 then nackCredit s p detail avail f
        else if code = 0x09 || code = 0x0D then nackAgain s p f
        else if code = 0x16 && trunk && f.h.typ = tGather then nackTableFull s p f
        else if code = 0x12 && trunk && f.h.typ = tGather then nackStale s p f
        else if code = 0x1A && !trunk && f.h.typ = tDeliver then nackDeliverCrc s p f
        else if code = 0x1B && !trunk && f.h.typ = tDeliver then nackUnexpected s p f
        else if nackEnds code then s
        else markNacked s p nseq

/-- Meaning of NACK. -/
def execNack (rx : RxFrame) (s : State) : Out := .next (effNack rx s)

/-! ### Slices and die links (R26, R327, R328) -/

/-- Whether a buffer lies in a slice. -/
def bufIn (slice b : Nat) : Bool := (bufSlicePool b).1 == slice

/-- Frames held in a slice discarded: waiting ones leave their lists, and unacknowledged ones lose their buffers (R327). -/
def dropSliceFrames (s : State) (slice : Nat) : State :=
  (s.ports.map Prod.fst).foldl (fun s p =>
    let q := getPort s p
    let hit (f : TxFrame) : Bool := f.bufs.any (bufIn slice)
    let s := ((q.tx.queues.flatten ++ q.tx.unacked).filter hit).foldl (fun s f => dropFrameBufs s p f.bufs) s
    modTx s p (fun t => { t with
      queues := t.queues.map (fun l => l.filter (fun f => !hit f))
      unacked := t.unacked.map (fun f => if hit f then { f with bufs := [] } else f) })) s

/-- The frames fetched into a slice's buffers, dropped (R327). -/
def dropSliceFetches (s : State) (slice : Nat) : State :=
  (List.range 64).foldl (fun s i =>
    ((getSlot s i).fetch.filter (fun e => (e.buf.map (bufIn slice)).getD false)).foldl (fun s e => dropFetch s i e) s) s

/-- The four ports of a tile, down and disabled where they were enabled (R327). -/
def disableTilePorts (s : State) (tile : Nat) : State :=
  (List.range 4).foldl (fun s k =>
    let p := 4 * tile + k
    if (getPort s p).cfg.enable then
      modPort (portDown s p) p (fun q => { q with cfg := { q.cfg with enable := false } })
    else s) s

/-- SLICE_MAPOUT (R327, R328): steps abort, what the slice held is discarded, and the tile is served by its helper or loses its
ports. -/
def effSliceMapout (tile : TileId) (s : State) : State :=
  let t := tile.val
  if s.fab.sliceOut.contains t then s
  else
    let s := abortEveryStep s caStateUncorrectable syDevice
    let s := dropSliceFrames (dropSliceFetches s t) t
    let s := modFab s (fun x => { x with sliceOut := x.sliceOut ++ [t] })
    let s := { s with host := { s.host with degraded := true } }
    let s := postEvent s evDegraded devEvent (leBytes 1 2 ++ leBytes 2 t)
    if (sliceOf s t).isSome then s else disableTilePorts s t

/-- Meaning of SLICE_MAPOUT. -/
def execSliceMapout (tile : TileId) (s : State) : Out := .next (effSliceMapout tile s)

/-- The two dies of each die-to-die link, in the order of R16. -/
def dieLinks : List (Nat × Nat) :=
  [(0, 1), (1, 2), (2, 3), (4, 5), (5, 6), (6, 7), (0, 4), (1, 5), (2, 6), (3, 7)]

/-- The dies within n hops of a die over the links that have not failed. -/
def dieReach (failed : List Nat) (a : Nat) : Nat → List Nat
  | 0 => [a]
  | n + 1 =>
    let r := dieReach failed a n
    let more := (dieLinks.zipIdx.filter (fun e => !failed.contains e.2)).flatMap (fun e =>
      (if r.contains e.1.1 then [e.1.2] else []) ++ (if r.contains e.1.2 then [e.1.1] else []))
    (r ++ more).eraseDups

/-- The die-hop count between two dies (R25, R26), if a path survives. -/
def dieHops (failed : List Nat) (a b : Nat) : Option Nat :=
  (List.range 8).find? (fun n => (dieReach failed a n).contains b)

/-- The pairs of dies a < b. -/
def diePairs : List (Nat × Nat) := (List.range 8).flatMap (fun a => ((List.range 8).filter (a < ·)).map (fun b => (a, b)))

/-- DIE_LINK_FAIL (R26): steps abort; routes follow the surviving links and the new hop counts are reported, or the device is
FATAL when two dies have no path. -/
def effDieLinkFail (dlink : DieLink) (s : State) : State :=
  let k := dlink.val
  let old := s.fab.dieFailed
  if old.contains k then s
  else
    let new := old ++ [k]
    let s := abortEveryStep s caDieLink syDevice
    let s := modFab s (fun x => { x with dieFailed := new })
    if diePairs.any (fun e => (dieHops new e.1 e.2).isNone) then becomeFatal s syDevice
    else
      let changed := diePairs.filter (fun e => dieHops new e.1 e.2 != dieHops old e.1 e.2)
      let counts := changed.flatMap (fun e => leBytes 1 e.1 ++ leBytes 1 e.2 ++ leBytes 1 ((dieHops new e.1 e.2).getD 0))
      let s := { s with host := { s.host with degraded := true } }
      postEvent s evDegraded devEvent (leBytes 1 1 ++ leBytes 2 k ++ counts)

/-- Meaning of DIE_LINK_FAIL. -/
def execDieLinkFail (dlink : DieLink) (s : State) : Out := .next (effDieLinkFail dlink s)

/-! ### Rehearsals (R299) -/

/-- The draw of a rehearsal window k (R299). -/
def rehearsalDraw (h : Health) (job k : Nat) : Nat :=
  (dmix (BitVec.ofNat 64 h.reSeed ^^^ BitVec.ofNat 64 k ^^^ BitVec.ofNat 64 (job * 2 ^ 48))).toNat

/-- The rehearsal interval in ns. -/
def rehearsalInterval (h : Health) : Nat := h.reI * 1000000000

/-- The first tile, from a tile on in ascending order, that holds a line of the slot in OPEN. -/
def openLineTile (sl : Slot) (t : Nat) : Option Nat :=
  let tiles := (armedBuckets sl).flatMap (fun b =>
    (b.chunks.filter (fun e => e.2.st == .open_)).map (fun e => tileOfChunk (bdChunkIndex b.desc e.1)))
  ((List.range 128).map (fun d => (t + d) % 128)).find? tiles.contains

/-- What an injection of a kind does (R299); none where it cannot act yet. -/
def injectFault (s : State) (i kind index : Nat) : Option State :=
  let sl := getSlot s i
  let ports := slotMemberPorts sl
  let port : Option Nat := if ports.isEmpty then none else ports[index % ports.length]?
  match kind, port with
  | 0, some p =>
    let s := modPort s p (fun q => { q with dropSlots := q.dropSlots ++ [(i, s.time + usNs 100)] })
    some (raiseAbort s i (caLinkDown + 128) [accPort s p syLink])
  | 1, some p => some (modHealth s i (fun h => { h with corruptNext := some p }))
  | 2, some p => some (modHealth s i (fun h => { h with stallNext := some p }))
  | 3, _ => (openLineTile sl (index % 128)).map (fun _ =>
      raiseAbort s i (caStateUncorrectable + 128) [accDevice (selfId s) syDevice])
  | _, _ => none

/-- REHEARSAL_INJECT (R299): the window's drawn injection fires in a step in DRY_FIT at attempt 0. -/
def effRehearsalInject (slot : SlotId) (s : State) : State :=
  let i := slot.val
  let sl := getSlot s i
  let h := sl.health
  let interval := rehearsalInterval h
  let kinds := setBitsBelow 4 h.reKinds
  if sl.st != .open_ || interval = 0 || kinds.isEmpty then s
  else
    let k := s.time / interval
    let x := rehearsalDraw h sl.ob.jobId k
    let kind := natAt kinds (x / 2 ^ 32 % kinds.length)
    if h.reFired == some k || sl.step.st != .dryFit || sl.step.attempt != 0 then s
    else
      match injectFault (timeTo s (k * interval + x % (interval / 2))) i kind (x / 2 ^ 16) with
      | none => s
      | some s => modHealth s i (fun h => { h with reFired := some k })

/-- Meaning of REHEARSAL_INJECT. -/
def execRehearsalInject (slot : SlotId) (s : State) : Out := .next (effRehearsalInject slot s)

/-- REHEARSAL_SKIP (R299): a window ends whose injection has not fired. -/
def effRehearsalSkip (slot : SlotId) (s : State) : State :=
  let i := slot.val
  let sl := getSlot s i
  let h := sl.health
  let interval := rehearsalInterval h
  if sl.st != .open_ || interval = 0 || h.reKinds % 16 = 0 then s
  else
    let k := s.time / interval
    if h.reFired == some k then s
    else
      let s := timeTo s ((k + 1) * interval)
      modHealth s i (fun h => { h with reSkipped := inc32 h.reSkipped })

/-- Meaning of REHEARSAL_SKIP. -/
def execRehearsalSkip (slot : SlotId) (s : State) : Out := .next (effRehearsalSkip slot s)

/-- LINK_DROP_END (R299): 100 µs after its injection the port stops discarding the slot's frames. -/
def effLinkDropEnd (port : PortId) (slot : SlotId) (s : State) : State :=
  let p := port.val
  match (getPort s p).dropSlots.find? (fun e => e.1 == slot.val) with
  | none => s
  | some e => modPort (timeTo s e.2) p (fun q => { q with dropSlots := q.dropSlots.filter (fun x => x.1 != slot.val) })

/-- Meaning of LINK_DROP_END. -/
def execLinkDropEnd (port : PortId) (slot : SlotId) (s : State) : Out := .next (effLinkDropEnd port slot s)

end Sys2Proof.Machine
end

