-- ==== Sys2Proof/Machine/Serial.lean ====
section
/-! DEFINITION. Main lanes: training, deskew, faults and electrical idle; spoke links coming up and going down; device time
(R379 to R410). -/

namespace Sys2Proof.Machine

/-! ### Lanes and ports -/

/-- The lanes of a port (R21, R381): from its number on, one, two or four of them. -/
def portLanes (q : Port) (p : Nat) : List Nat := (List.range (2 ^ q.cfg.width)).map (p + ·)

/-- The enabled port that a lane belongs to. -/
def portOfLane (s : State) (n : Nat) : Option Nat :=
  (List.range 4).findSome? (fun d =>
    if d ≤ n && (getPort s (n - d)).cfg.enable && (portLanes (getPort s (n - d)) (n - d)).contains n then some (n - d) else none)

/-- Whether a request asks for a change of STEP or PRESET (R387). -/
def asksChange (r : Nat) : Bool := bitsOf r 3 2 != 0 || bitsOf r 5 3 != 0

/-- The transmitter's answer to a request and its taps after it (R387): a preset takes precedence over a step, a tap keeps within
the limits of the interface, a reserved value is not supported. -/
def applyRequest (cr : Bool) (taps : List Int) (r : Nat) : Nat × List Int :=
  let tap := bitsOf r 0 3
  let step := bitsOf r 3 2
  let preset := bitsOf r 5 3
  if preset != 0 then
    if 6 ≤ preset then (3, taps) else (1, (List.range 5).map (Config.presetTap cr preset))
  else if step = 0 then (0, taps)
  else if step = 3 || 5 ≤ tap then (3, taps)
  else
    let v := taps.getD tap 0 + (if step = 1 then 1 else -1)
    if Config.tapLimit cr true tap < v || v < Config.tapLimit cr false tap then (2, taps) else (1, taps.set tap v)

/-- The request that this end sends next (R387): while one is outstanding it stays; once answered STEP and PRESET go back to hold
and none; otherwise what the receiver asks for is free, never a reserved value. -/
def nextRequest (last farResp draw : Nat) : Nat :=
  let pre := bitsOf last 8 1 * 2 ^ 8
  if asksChange last then (if farResp = 0 then last else pre)
  else if farResp != 0 then pre
  else
    let ready := bitsOf draw 9 1
    if ready = 1 then bitsOf draw 8 1 * 2 ^ 8 + 2 ^ 9
    else packFields [(3, bitsOf draw 0 3 % 5), (2, bitsOf draw 3 2 % 3), (3, bitsOf draw 5 3 % 6), (1, bitsOf draw 8 1), (1, 0)]

/-- The STATUS of a lane's transmitter (R386). -/
def laneStatus (l : Lane) : W32 := BitVec.ofNat 32 (packFields [(2, l.resp), (1, b2n l.precoding), (29, 0)])

/-- A lane starts training (R388): a training counted, its first frame sent with hold and not updated. -/
def startTraining (s : State) (n : Nat) : State :=
  let s := modLane s n (fun l => { l with
    st := .training, trainings := satAdd 28 l.trainings 1, trainStart := s.time, request := 0, resp := 0, readyRx := 0,
    readyTx := 0, locked := false })
  emit s (.training n 0 (laneStatus (getLane s n)))

/-- Whether the lanes of a port group can train: its domain is awake (R29) and the 156.25 MHz reference is present (R479). -/
def lanesRun (s : State) (n : Nat) : Bool := s.pwr.awake.testBit (2 + n / 32) && s.pwr.ref156

/-- SIGNAL_DETECTED (R388): a lane of an enabled port that is not held down begins training. -/
def effSignalDetected (lane : LaneId) (s : State) : State :=
  let n := lane.val
  match portOfLane s n with
  | none => s
  | some p =>
    if (getLane s n).st == .down && (getLane s n).loopback = 0 && !(getPort s p).failed && lanesRun s n then startTraining s n else s

/-- Meaning of SIGNAL_DETECTED. -/
def execSignalDetected (lane : LaneId) (s : State) : Out := .next (effSignalDetected lane s)

/-- TRAINING_FRAME (R386, R387): the far end's request applied and answered, and this end's next request sent. -/
def effTrainingFrame (lane : LaneId) (request status : W32) (s : State) : State :=
  let n := lane.val
  let l := getLane s n
  if l.st != .training then s
  else
    let cr := ((portOfLane s n).map (fun p => (getPort s p).cfg.cr)).getD false
    let r := request.toNat
    let held := l.resp != 0
    let a := if !asksChange r then (0, l.taps) else if held then (l.resp, l.taps) else applyRequest cr l.taps r
    let d := drawFree s
    let s := d.2
    let own := nextRequest l.request.toNat (bitsOf status.toNat 0 2) (Config.rxRequest d.1).toNat
    let s := modLane s n (fun l => { l with
      taps := a.2, resp := a.1, precoding := bitOf r 8, request := BitVec.ofNat 32 own, precode := bitOf own 8
      readyRx := if bitOf r 9 then l.readyRx + 1 else 0
      readyTx := if bitOf own 9 then l.readyTx + 1 else 0 })
    emit s (.training n (BitVec.ofNat 32 own) (laneStatus (getLane s n)))

/-- Meaning of TRAINING_FRAME. -/
def execTrainingFrame (lane : LaneId) (request status : W32) (s : State) : Out := .next (effTrainingFrame lane request status s)

/-- TRAINING_COMPLETE (R387): RX_READY sent and received in 64 frames in a row; codewords begin. -/
def effTrainingComplete (lane : LaneId) (s : State) : State :=
  let n := lane.val
  let l := getLane s n
  if l.st == .training && 64 ≤ l.readyRx && 64 ≤ l.readyTx then modLane s n (fun l => { l with st := .locking, failRun := 0 }) else s

/-- Meaning of TRAINING_COMPLETE. -/
def execTrainingComplete (lane : LaneId) (s : State) : Out := .next (effTrainingComplete lane s)

/-- The lanes of a port set down; each trains again when its signal is detected. -/
def lanesDown (s : State) (p : Nat) : State :=
  (portLanes (getPort s p) p).foldl (fun s n => modLane s n (fun l => { l with
    st := if l.loopback = 0 then .down else l.st, locked := false })) s

/-- TRAINING_TIMEOUT (R388): a lane misses its bound, 50 ms for C2M and 500 ms for CR, and trains again; the eighth failure in a
row takes the port down until LINK_CONFIG enables it again. -/
def effTrainingTimeout (lane : LaneId) (s : State) : State :=
  let n := lane.val
  let l := getLane s n
  match portOfLane s n with
  | none => s
  | some p =>
    if l.st != .training then s
    else
      let s := timeTo s (l.trainStart + msNs (if (getPort s p).cfg.cr then 500 else 50))
      let s := modLane s n (fun l => { l with failRun := l.failRun + 1 })
      if 8 ≤ l.failRun + 1 then
        let s := modPort (lanesDown s p) p (fun q => { q with failed := true })
        postEvent s evPortState devEvent (leBytes 2 p ++ leBytes 1 0)
      else startTraining s n

/-- Meaning of TRAINING_TIMEOUT. -/
def execTrainingTimeout (lane : LaneId) (s : State) : Out := .next (effTrainingTimeout lane s)

/-- CODEWORD_LOCK (R388): the lane learns its index and its delay from the alignment markers (R381, R395). -/
def effCodewordLock (lane : LaneId) (rxLane : LaneIx) (skew : W16) (s : State) : State :=
  if (getLane s lane.val).st == .locking then
    modLane s lane.val (fun l => { l with rxLane := rxLane.val, skew := skew.toNat, locked := true })
  else s

/-- Meaning of CODEWORD_LOCK. -/
def execCodewordLock (lane : LaneId) (rxLane : LaneIx) (skew : W16) (s : State) : Out := .next (effCodewordLock lane rxLane skew s)

/-- Whether the lanes of a port can be deskewed (R388): all locked, each with an index of its own in the port, within 180 ns of one
another, none in loopback (R393). -/
def canDeskew (s : State) (p : Nat) : Bool :=
  let q := getPort s p
  let ls := (portLanes q p).map (getLane s)
  q.cfg.enable && !q.failed && !q.helloSent && ls.all (fun l => l.st == .locking && l.locked && l.loopback == 0 && l.skew ≤ 18000)
    && (List.range (2 ^ q.cfg.width)).all (fun k => ls.any (fun l => l.rxLane == k))

/-- PORT_DESKEWED (R388, R358): the lanes are up and HELLO is sent. -/
def effPortDeskewed (port : PortId) (s : State) : State :=
  let p := port.val
  if canDeskew s p then
    let s := (portLanes (getPort s p) p).foldl (fun s n => modLane s n (fun l => { l with st := .up })) s
    sendHello (modPort s p (fun q => { q with idleTx := false, idleRx := false, lastBusy := s.time })) p
  else s

/-- Meaning of PORT_DESKEWED. -/
def execPortDeskewed (port : PortId) (s : State) : Out := .next (effPortDeskewed port s)

/-- A port taken down by one of its lanes (R389): R335 applies and every lane trains again. -/
def lanePortDown (s : State) (p : Nat) : State :=
  let s := lanesDown (portDown s p) p
  modPort s p (fun q => { q with idleTx := false, idleRx := false })

/-- Whether a lane carries codewords. -/
def laneCarries (l : Lane) : Bool := l.st == .locking || l.st == .up || l.st == .idle

/-- LANE_FAULT (R389): lock, markers or signal lost, or too many uncorrectable codewords. -/
def effLaneFault (lane : LaneId) (s : State) : State :=
  match portOfLane s lane.val with
  | none => s
  | some p => if laneCarries (getLane s lane.val) then lanePortDown s p else s

/-- Meaning of LANE_FAULT. -/
def execLaneFault (lane : LaneId) (s : State) : Out := .next (effLaneFault lane s)

/-! ### Electrical idle (R390 to R392) -/

/-- Whether anything is queued for a port's transmit direction. -/
def txQueued (q : Port) : Bool := !q.tx.linkWait.isEmpty || !q.tx.queues.flatten.isEmpty || q.tx.replayAt.isSome

/-- Whether a port owes its far end a CREDIT. -/
def owesCredit (q : Port) : Bool := q.rx.ackOwed || q.rx.owedHop.any (0 < ·) || !q.rx.owedWin.isEmpty || q.rx.linkAckOwed

/-- IDLE_ENTRY (R390): nothing unacknowledged, waiting or queued, and only IDLE words for IDLE_ENTRY. -/
def effIdleEntry (port : PortId) (s : State) : State :=
  let p := port.val
  let q := getPort s p
  if q.up && q.cfg.idleEn && !q.idleTx && q.tx.unacked.isEmpty && q.tx.linkUnacked.isEmpty && !txQueued q && !owesCredit q then
    let s := timeTo s (q.lastBusy + q.cfg.idleEntry)
    emit (modPort s p (fun q => { q with idleTx := true })) (.idleEntry p)
  else s

/-- Meaning of IDLE_ENTRY. -/
def execIdleEntry (port : PortId) (s : State) : Out := .next (effIdleEntry port s)

/-- IDLE_EXIT (R391): something is queued for the direction, a CREDIT that is owed included. -/
def effIdleExit (port : PortId) (s : State) : State :=
  let p := port.val
  let q := getPort s p
  if q.idleTx && (txQueued q || owesCredit q) then
    emit (modPort s p (fun q => { q with idleTx := false, lastBusy := s.time })) (.exitBurst p)
  else s

/-- Meaning of IDLE_EXIT. -/
def execIdleExit (port : PortId) (s : State) : Out := .next (effIdleExit port s)

/-- EI_CODEWORDS_RECEIVED (R390): the lane's receive direction is idle; the port's, once every lane's is. -/
def effEiCodewordsReceived (lane : LaneId) (s : State) : State :=
  match portOfLane s lane.val with
  | none => s
  | some p =>
    if (getLane s lane.val).st == .up then
      let s := modLane s lane.val (fun l => { l with st := .idle })
      let all := (portLanes (getPort s p) p).all (fun n => (getLane s n).st == .idle)
      modPort s p (fun q => { q with idleRx := all })
    else s

/-- Meaning of EI_CODEWORDS_RECEIVED. -/
def execEiCodewordsReceived (lane : LaneId) (s : State) : Out := .next (effEiCodewordsReceived lane s)

/-- EXIT_BURST_RECEIVED (R391, R392): the lane deskews on the AM after the burst and leaves idle; missing it takes the port
down. -/
def effExitBurstReceived (lane : LaneId) (deskewed : Bool) (s : State) : State :=
  match portOfLane s lane.val with
  | none => s
  | some p =>
    if (getLane s lane.val).st != .idle then s
    else if deskewed then
      let s := modLane s lane.val (fun l => { l with st := .up, eiExits := inc32 l.eiExits })
      modPort s p (fun q => { q with idleRx := false })
    else lanePortDown s p

/-- Meaning of EXIT_BURST_RECEIVED. -/
def execExitBurstReceived (lane : LaneId) (deskewed : Bool) (s : State) : Out := .next (effExitBurstReceived lane deskewed s)

/-! ### Spoke links (R396 to R403) -/

/-- Spoke links are brought up from phase LINKS on (R482). -/
def spokesRun (s : State) : Bool := s.pwr.phase == 6 || s.pwr.phase == 7 || s.pwr.phase == 8

/-- SPOKE_ALIGN (R403): 64 good idle sets have been taken, and HELLO is sent with this device's ID and the link's number. -/
def effSpokeAlign (link : LinkId) (s : State) : State :=
  let k := link.val
  if (getSpoke s k).st != 0 || !spokesRun s then s
  else
    let s := modSpoke s k (fun l => { l with st := 1, helloSseq := some l.nextSseq, helloAcked := false, helloTaken := false })
    spokeSend s k kLinkctl (leBytes 1 1 ++ leBytes 2 (selfId s) ++ leBytes 1 k)

/-- Meaning of SPOKE_ALIGN. -/
def execSpokeAlign (link : LinkId) (s : State) : Out := .next (effSpokeAlign link s)

/-- A spoke link goes down (R403): counted, its cadence operations fail (R245), HOLDOVER when it is the time parent (R407), and a
sealed slot whose path to the root it was cannot learn the decision (R278). -/
def spokeDown (s : State) (k : Nat) : State :=
  let l := getSpoke s k
  if l.st = 0 then s
  else
    let s := modSpoke s k (fun l => { l with
      st := 0, linkDowns := inc32 l.linkDowns, lastSseq := none, helloSseq := none, helloAcked := false, helloTaken := false })
    let s := failLinkOps s k
    let t := s.timeRec
    let s := if t.parent = k && t.st != 3 && l.st = 2 then
        let s := { s with timeRec := { t with st := 2, goodRun := 0, t1 := none } }
        if t.st = 2 then s else postEvent s evTimeHoldover devEvent (leBytes 1 k)
      else s
    (slotsWhere s (fun sl => sl.step.st == StepSt.sealed)).foldl (fun s i =>
      match controlGroup (getSlot s i) with
      | none => s
      | some v =>
        if !geCadRoot v && geCadParent v = k then loseDecision s i ⟨2, spokeSuspect s k, syLink, 0, 0xFF⟩ else s) s

/-- SPOKE_LINK_DOWN (R403): alignment or signal lost, or too many errors. -/
def effSpokeLinkDown (link : LinkId) (s : State) : State := spokeDown s link.val

/-- Meaning of SPOKE_LINK_DOWN. -/
def execSpokeLinkDown (link : LinkId) (s : State) : Out := .next (effSpokeLinkDown link s)

/-- SPOKE_HELLO (R398, R403): the far device's ID is taken and acknowledged; the link is up once both HELLOs are. A HELLO that
names another device than the one that brought the link up takes it down. -/
def effSpokeHello (rx : SpokeRx) (s : State) : State :=
  let k := rx.link.val
  if rx.ksym.toNat != kLinkctl || leAt rx.body 0 1 != 0x01 || rx.body.length != 4 then s
  else
    let t := spokeTake s rx
    let s := t.2
    if !t.1 then s
    else
      let peer := leAt rx.body 1 2
      let l := getSpoke s k
      if l.st = 2 && l.peer.toNat != peer then spokeDown s k
      else
        let s := spokeSend s k kLinkctl (leBytes 1 2 ++ leBytes 1 rx.sseq.toNat ++ leBytes 1 0)
        modSpoke s k (fun l => { l with peer := BitVec.ofNat 16 peer, helloTaken := true, st := if l.helloAcked then 2 else l.st })

/-- Meaning of SPOKE_HELLO. -/
def execSpokeHello (rx : SpokeRx) (s : State) : Out := .next (effSpokeHello rx s)

/-! ### Device time (R404 to R408) -/

/-- Device time in 1/256 ns. -/
def now256 (s : State) : Nat := s.time * 256 + s.timeRec.frac / 100000

/-- A timestamp's nine bytes (R405): ns, then 1/256 ns. -/
def stampBytes (t : Nat) : Bytes := leBytes 8 (t / 256) ++ leBytes 1 t

/-- The timestamp in nine bytes. -/
def stampAt (b : Bytes) (o : Nat) : Nat := leAt b o 8 * 256 + leAt b (o + 8) 1

/-- One nanosecond of the reference passes: device time counts it, except while the counter is held (R406) and but for the rate's
gain or loss (R406). -/
def tickTime (s : State) : State :=
  let t := s.timeRec
  if 256 ≤ t.hold then { s with timeRec := { t with hold := t.hold - 256 } }
  else
    let total : Nat := ((t.frac : Int) + 25600000 + t.slew - (t.hold * 100000 : Nat)).toNat
    { s with time := timeMask (s.time + total / 25600000), timeRec := { t with frac := total % 25600000, hold := 0 } }

/-- TIME_EXCHANGE (R405): every 100 µs a device that is not the root sends TIME REQ on its parent link. -/
def effTimeExchange (s : State) : State :=
  let t := s.timeRec
  if t.st = 3 || (getSpoke s t.parent).st != 2 then s
  else
    let s := timeTo s (nextBoundary s.time (usNs 100))
    let n := (t.tseq + 1) % 65536
    let s := { s with timeRec := { s.timeRec with tseq := n, t1 := some (now256 s) } }
    spokeSend s t.parent kTime (leBytes 1 1 ++ leBytes 2 n)

/-- Meaning of TIME_EXCHANGE. -/
def execTimeExchange (s : State) : Out := .next (effTimeExchange s)

/-- A TIME sequence of a kind that is none (R408), or of a length that its kind has not, counted as a CRC error. -/
def badTime (s : State) (k : Nat) : State := modSpoke s k (fun l => { l with crcErrors := inc32 l.crcErrors })

/-- TIME_REQ (R405, R408): answered with the instants of arrival and answer and this device's DEPTH; a TIME sequence that is
neither REQ nor RESP is discarded and counted. -/
def effTimeReq (rx : SpokeRx) (s : State) : State :=
  let k := rx.link.val
  let kind := leAt rx.body 0 1 % 4
  if rx.ksym.toNat != kTime || kind = 2 then s
  else if rx.good && (kind != 1 || rx.body.length != 3) then badTime s k
  else
    let t := spokeTake s rx
    let s := t.2
    if !t.1 then s
    else
      let now := stampBytes (now256 s)
      spokeSend s k kTime (leBytes 1 (2 + 4 * s.timeRec.depth) ++ (rx.body.drop 1).take 2 ++ now ++ now)

/-- Meaning of TIME_REQ. -/
def execTimeReq (rx : SpokeRx) (s : State) : Out := .next (effTimeReq rx s)

/-- delay and offset of an exchange (R405). -/
def timeOffset (t1 t2 t3 t4 : Nat) : Int × Int :=
  (((((t4 : Int) - t1) - ((t3 : Int) - t2)).tdiv 2), ((((t2 : Int) - t1) - ((t4 : Int) - t3)).tdiv 2))

/-- An offset removed (R406): by a forward step or by holding the counter while ACQUIRING with no slot OPEN, else by a rate of at
most 100 ppm. -/
def removeOffset (s : State) (off : Int) : State :=
  let t := s.timeRec
  if t.st = 0 && (slotsWhere s (fun sl => sl.st == SlotSt.open_)).isEmpty then
    if 0 ≤ off then
      let n := now256 s + off.toNat
      { s with time := timeMask (n / 256), timeRec := { t with frac := n % 256 * 100000, slew := 0 } }
    else { s with timeRec := { t with hold := t.hold + (-off).toNat, slew := 0 } }
  else { s with timeRec := { t with slew := max (-2560) (min 2560 off) } }

/-- What an exchange leaves in the time record (R406 to R408): 16 offsets in a row within 2 ns lock it. -/
def countExchange (t : TimeRec) (delay off : Int) (depth : Nat) : TimeRec :=
  let good := off.natAbs ≤ 512
  let run := if good then t.goodRun + 1 else 0
  { t with exchanges := (t.exchanges + 1) % 65536, offset := off, delay := delay, depth := (depth + 1) % 32, goodRun := run
           st := if 16 ≤ run then 1 else t.st }

/-- TIME_RESP (R405 to R408), stamped t4 in 1/256 ns. It is taken only on the parent link, with the TSEQ of the last REQ and within
10 µs of it. -/
def effTimeResp (rx : SpokeRx) (t4 : Nat) (s : State) : State :=
  let k := rx.link.val
  if rx.ksym.toNat != kTime || leAt rx.body 0 1 % 4 != 2 then s
  else if rx.good && rx.body.length != 21 then badTime s k
  else
    let u := spokeTake s rx
    let s := u.2
    let t := s.timeRec
    if !u.1 || t.st = 3 || t.parent != k || leAt rx.body 1 2 != t.tseq then s
    else
      match t.t1 with
      | none => s
      | some t1 =>
        if t4 < t1 || 2560000 < t4 - t1 then s
        else
          let r := timeOffset t1 (stampAt rx.body 3) (stampAt rx.body 12) t4
          let s := timeTo s (t4 / 256)
          let fault := t.st = 1 && 25600 < r.2.natAbs
          let s := removeOffset s r.2
          let s := { s with timeRec := countExchange s.timeRec r.1 r.2 (leAt rx.body 0 1 / 4) }
          if fault then
            let s := { s with timeRec := { s.timeRec with faults := inc32 s.timeRec.faults } }
            postEvent s evTimeFault devEvent (leBytes 8 (ofSigned 64 r.2))
          else s

/-- Meaning of TIME_RESP. -/
def execTimeResp (rx : SpokeRx) (t4 : Nat) (s : State) : Out := .next (effTimeResp rx t4 s)

end Sys2Proof.Machine
end

