-- ==== Sys2Proof/Machine/Hbm.lean ====
section
/-! DEFINITION. HBM: what lies where, uncorrectable sectors, channels mapped out, patrol scrub (R104, R411 to R432). -/

namespace Sys2Proof.Machine

/-! ### The state area (R104, R411, R416) -/

/-- Channels mapped out, N. -/
def mappedOut (s : State) : Nat := (s.hbm.chans.filter (fun e => e.2.st != 0)).length

/-- State granules of a tile, of 512 frames, with n channels mapped out. -/
def tileGranules (n : Nat) : Nat := 7168 - 7 * n

/-- The state area of the device in bytes (R104). -/
def stateArea (s : State) : Nat := 128 * 512 * tileGranules (mappedOut s) * 4096

/-- Where the state area of a live channel of a tile ends (R411). -/
def stateEnd (s : State) (t : Nat) : Nat :=
  if (liveChannels s t).length = 8 then 512 * 512 * tileGranules (mappedOut s) else 512 * (2 ^ 22 - 4096 * mappedOut s)

/-- The frame that a state sector of a live channel belongs to (R415). -/
def sectorFrame (s : State) (chan addr : Nat) : Option Nat :=
  let t := chan / 8
  let live := liveChannels s t
  if stateEnd s t ≤ addr then none
  else (live.findIdx? (· == chan)).map (fun q => (addr / 512 * live.length + q) / 8)

/-- The granules that a slot holds on a tile. -/
def slotGranules (sl : Slot) (t : Nat) : List Nat :=
  tget [] sl.shard.grPrimary t ++ tget [] sl.shard.grMirror t ++ tget [] sl.shard.grScratch t

/-- The granules in use on a tile. -/
def usedGranules (s : State) (t : Nat) : List Nat := s.slots.flatMap (fun e => slotGranules e.2 t)

/-- Free granules of a tile. -/
def freeGranules (s : State) (t : Nat) : Nat := tileGranules (mappedOut s) - (usedGranules s t).length

/-- The smallest number of free granules on any tile (R429, R454). -/
def minFreeGranules (s : State) : Nat := ((List.range 128).map (freeGranules s)).foldl min (tileGranules (mappedOut s))

/-- The slot, area and virtual frame that a physical frame of a tile holds. -/
def frameOwner (s : State) (t f : Nat) : Option (Nat × Area × Nat) :=
  s.slots.findSome? (fun e => [Area.primary, Area.mirror, Area.scratch].findSome? (fun a =>
    ((granules e.2 a t).findIdx? (· == f / 512)).map (fun k => (e.1, a, k * 512 + f % 512))))

/-! ### Uncorrectable sectors (R426) -/

/-- A row and plane of the primary shard damaged (R252, R274, R426): dirty, kept through a decision that is awaited, restored from
the mirror once no step stands against it. -/
def markDirty (s : State) (i : Nat) (keys : List (Nat × Nat)) : State :=
  modTan s i (fun t => { t with
    dirty := (t.dirty ++ keys).eraseDups
    late := if (getSlot s i).step.st == .sealed then (t.late ++ keys).eraseDups else t.late })

/-- What follows from damage to state of a slot (R252, R426): a DRY_FIT step aborts, a SEALED one records an incident, and in any
other state the repair starts. -/
def damaged (s : State) (i : Nat) (repair : Bool) : State :=
  let st := (getSlot s i).step.st
  let s := raiseAbort s i caStateUncorrectable [accDevice (selfId s) syDevice]
  if repair && (st == .glued || st == .none || st == .rolledBack || st == .rollingBack) then startRestore s i else s

/-- An uncorrectable primary row (R426). -/
def primaryBad (s : State) (i t v : Nat) : State :=
  let sl := getSlot s i
  let w := max 1 sl.ob.w
  match chunkOfRow sl (selfId s) t (v / w) with
  | none => s
  | some g => damaged (markDirty s i [(g, v % w)]) i true

/-- An uncorrectable mirror row or pending record, or a mirror that lost its rows (R426, R429). -/
def mirrorBad (s : State) (i : Nat) : State :=
  let st := (getSlot s i).tan.mirrorSt
  if st == .empty || st == .broken then s else breakMirror s i (accDevice (selfId s) syDevice)

/-- A sector of the state area (R426). -/
def stateSectorBad (s : State) (t f : Nat) : State :=
  match frameOwner s t f with
  | none => s
  | some (i, .primary, v) => primaryBad s i t v
  | some (i, .mirror, _) => damaged (mirrorBad s i) i false
  | some (i, .pending, _) => damaged (mirrorBad s i) i false
  | some (i, .scratch, _) => damaged s i false

/-- A version whose region has an uncorrectable sector (R426). -/
def versionBad (s : State) (i k : Nat) : State :=
  modSlot s i (fun sl => { sl with progs := modAt sl.progs (k % max 1 sl.progs.length) (fun v => { v with bad := true }) })

/-- A log entry lost and counted (R426). -/
def logEntryLost (s : State) (i k : Nat) : State :=
  modSlot s i (fun sl => if sl.log.isEmpty then sl
    else { sl with log := sl.log.eraseIdx (k % sl.log.length), logOverflow := inc32 sl.logOverflow })

/-- A trace record lost and counted (R426): it reads as one that the ring does not hold. -/
def traceEntryLost (s : State) (k : Nat) : State :=
  if s.trc.ring.isEmpty then s
  else { s with trc := { s.trc with
    ring := s.trc.ring.set (k % s.trc.ring.length) (BitVec.allOnes 1024)
    lost := BitVec.ofNat 32 (inc32 s.trc.lost.toNat) } }

/-- A sector of service space (R417, R426). Which object lies there, Gorirgen's allocation decides, so it is drawn: nothing, step
data of a slot, its error memory, a program region, a control object, the loss of its second copy too, a log, trace or event
entry, a shipment area. -/
def serviceSectorBad (s : State) : State :=
  let d := drawFree s
  let s := d.2
  let x := Config.pick d.1
  let i := x / 16 % 64
  let k := x / 1024
  match x % 16 with
  | 1 => damaged s i false
  | 2 => damaged s i false
  | 3 => versionBad s i k
  | 4 => s
  | 5 => abortEveryStep (postEvent s evMemError devEvent (leBytes 1 (1 + k % 4))) caStateUncorrectable syDevice
  | 6 => logEntryLost s i k
  | 7 => traceEntryLost s k
  | 8 => { s with evt := { s.evt with lost := s.evt.lost + 1 } }
  | 9 => damaged (mirrorBad s i) i false
  | _ => s

/-- An uncorrectable sector counted in its channel's record and window (R428, R431). -/
def countUncorrectable (s : State) (c : Nat) : State :=
  let w := s.time / 60000000000
  modChan s c (fun x => { x with
    uncorrectable := inc32 x.uncorrectable, retries := inc32 x.retries, uncWindow := w
    uncInWindow := if x.uncWindow = w then x.uncInWindow + 1 else 1 })

/-- HBM_UNCORRECTABLE (R425, R426): a failed repeat makes a sector of a live channel uncorrectable. -/
def effHbmUncorrectable (chan : ChanId) (addr : ChanAddr) (s : State) : State :=
  let c := chan.val
  let a := addr.toNat / 32 * 32
  if (getChan s c).st != 0 then s
  else
    let s := countUncorrectable s c
    let s := { s with hbm := { s.hbm with bad := (s.hbm.bad ++ [memKey c a]).eraseDups } }
    match sectorFrame s c a with
    | some f => stateSectorBad s (c / 8) f
    | none => serviceSectorBad s

/-- Meaning of HBM_UNCORRECTABLE. -/
def execHbmUncorrectable (chan : ChanId) (addr : ChanAddr) (s : State) : Out := .next (effHbmUncorrectable chan addr s)

/-- PATROL_SCRUB (R427): a sector of a live channel read, and rewritten and counted when it was corrected; the channel's last sector
completes a pass. In sleep the scrub is paused (R473). -/
def effPatrolScrub (chan : ChanId) (addr : ChanAddr) (corrected : Bool) (s : State) : State :=
  let c := chan.val
  if (getChan s c).st != 0 || !s.pwr.awake.testBit (42 + c / 128) then s
  else
    modChan s c (fun x => { x with
      corrected := if corrected then inc32 x.corrected else x.corrected
      scrubFixes := if corrected then inc32 x.scrubFixes else x.scrubFixes
      scrubPasses := if addr.toNat / 32 = 2 ^ 26 - 1 then inc32 x.scrubPasses else x.scrubPasses })

/-- Meaning of PATROL_SCRUB. -/
def execPatrolScrub (chan : ChanId) (addr : ChanAddr) (corrected : Bool) (s : State) : Out :=
  .next (effPatrolScrub chan addr corrected s)

/-! ### Mapping a channel out (R412, R428 to R430) -/

/-- Every primary row of a slot on a tile, in all planes. -/
def primaryKeys (s : State) (sl : Slot) (t : Nat) : List (Nat × Nat) :=
  (List.range (rowsOn sl (selfId s) t)).flatMap (fun r => match chunkOfRow sl (selfId s) t r with
    | none => []
    | some g => (List.range sl.ob.w).map (fun p => (g, p)))

/-- Whether a cell of HBM outlives the restriping of a tile: cells of other tiles do, and of the tile those that lie, under the new
striping, in a primary or mirror granule. -/
def cellKept (s : State) (t : Nat) (key : Nat) : Bool :=
  let c := key / 2 ^ 31
  if c / 8 != t then true
  else match sectorFrame s c (key % 2 ^ 31) with
    | none => false
    | some f => match frameOwner s t f with
      | some (_, .primary, _) => true
      | some (_, .mirror, _) => true
      | some (_, .pending, _) => true
      | some (_, .scratch, _) => false
      | none => false

/-- A tile restriped over its seven live channels (R429, point 2): primary rows dirty, mirrors BROKEN, SCRATCH rows zero, shipped
rows discarded. -/
def restripe (s : State) (t : Nat) : State :=
  let s := modMem s (fun m => m.filter (fun c => cellKept s t c.1))
  let s := { s with hbm := { s.hbm with bad := s.hbm.bad.filter (fun b => b / 2 ^ 34 != t) } }
  (slotsWhere s (fun sl => sl.shard.placed)).foldl (fun s i =>
    let sl := getSlot s i
    let s := markDirty s i (primaryKeys s sl t)
    let s := modTan s i (fun x => { x with shipped := x.shipped.filter (fun e => tileOfChunk e.1 != t) })
    if (tget [] sl.shard.grMirror t).isEmpty then s else mirrorBad s i) s

/-- A slot's shard changed. -/
def modShard (s : State) (i : Nat) (f : Shard → Shard) : State := modSlot s i (fun sl => { sl with shard := f sl.shard })

/-- One granule of a tile emptied. -/
def zeroGranule (s : State) (t g : Nat) : State :=
  (List.range 512).foldl (fun s k => frameWrite s t (512 * g + k) (List.replicate 4096 0)) s

/-- The last granule of a slot on a tile taken away (R429, point 3), of its SCRATCH, its mirror or its primary rows, in this order:
the slot is SHORT, and its mirror BROKEN when it loses a part of it. -/
def takeGranule (s : State) (i t : Nat) : State :=
  let h := (getSlot s i).shard
  let drop (x : Tbl (List Nat)) : Tbl (List Nat) := tset x t (tget [] x t).dropLast
  let s := match (slotGranules (getSlot s i) t).getLast? with
    | none => s
    | some g => zeroGranule s t g
  if !(tget [] h.grScratch t).isEmpty then modShard s i (fun h => { h with short := true, grScratch := drop h.grScratch })
  else if !(tget [] h.grMirror t).isEmpty then
    mirrorBad (modShard s i (fun h => { h with short := true, grMirror := drop h.grMirror })) i
  else modShard s i (fun h => { h with short := true, grPrimary := drop h.grPrimary })

/-- n granules of a tile taken from the highest-numbered slots that hold some. -/
def takeGranules (s : State) (t : Nat) : Nat → State
  | 0 => s
  | n + 1 =>
    match ((List.range 64).reverse.find? (fun i => !(slotGranules (getSlot s i) t).isEmpty)) with
    | none => s
    | some i => takeGranules (takeGranule s i t) t n

/-- A granule of a tile moved to a free one: its frames copied, the old one zeroed, the tables changed. -/
def moveGranule (s : State) (t a b : Nat) : State :=
  let s := (List.range 512).foldl (fun s k => frameWrite s t (512 * b + k) (frameRead s t (512 * a + k))) s
  let s := zeroGranule s t a
  let sub (x : Tbl (List Nat)) : Tbl (List Nat) := tmap x (fun k l => if k = t then l.map (fun g => if g = a then b else g) else l)
  { s with slots := tmap s.slots (fun _ sl => { sl with shard := { sl.shard with
      grPrimary := sub sl.shard.grPrimary, grMirror := sub sl.shard.grMirror, grScratch := sub sl.shard.grScratch } }) }

/-- The granules of a tile brought below a limit (R429, point 3). -/
def shrinkTile (s : State) (t limit : Nat) : State :=
  let s := takeGranules s t ((usedGranules s t).length - limit)
  let used := usedGranules s t
  let free := (List.range limit).filter (fun g => !used.contains g)
  ((used.filter (limit ≤ ·)).zip free).foldl (fun s e => moveGranule s t e.1 e.2) s

/-- Why and when a channel may be mapped out (R428): training and the start-up test during HBM_TRAIN, the uncorrectable rate by the
count of its window; the corrected rate counts reads that are no commands. -/
def mapoutDue (s : State) (c reason : Nat) : Bool :=
  match reason with
  | 1 => s.pwr.phase == 4
  | 2 => s.pwr.phase == 4
  | 3 => (getChan s c).uncWindow == s.time / 60000000000 && 4 ≤ (getChan s c).uncInWindow
  | _ => true

/-- CHANNEL_MAPOUT (R412, R422, R429): the channel fenced, every DRY_FIT step aborted, its tile restriped, seven granules of every
tile released. A second channel of a tile, or a 33rd of the device, makes the device FATAL. -/
def effChannelMapout (chan : ChanId) (reason : MapReason) (s : State) : State :=
  let c := chan.val
  let r := reason.val + 1
  let t := c / 8
  if (getChan s c).st != 0 || !mapoutDue s c r then s
  else if (liveChannels s t).length < 8 || 32 ≤ mappedOut s then becomeFatal s syDevice
  else
    let s := withBenchClock (fun s => modChan s c (fun x => { x with st := if r = 1 then 2 else 1, reason := r })) s
    let s := { s with hbm := { s.hbm with moving := s.hbm.moving ++ [c] } }
    let s := abortEveryStep s caStateUncorrectable syDevice
    let s := restripe s t
    let limit := tileGranules (mappedOut s)
    (List.range 128).foldl (fun s t => shrinkTile s t limit) s

/-- Meaning of CHANNEL_MAPOUT. -/
def execChannelMapout (chan : ChanId) (reason : MapReason) (s : State) : Out := .next (effChannelMapout chan reason s)

/-- MEM_MAPOUT (R429, R430): the objects have moved, the device is degraded and says so; the restores and resyncs that waited start
once no other channel is being mapped out. -/
def effMemMapout (chan : ChanId) (s : State) : State :=
  let c := chan.val
  if !s.hbm.moving.contains c then s
  else
    let s := { s with
      hbm := { s.hbm with moving := s.hbm.moving.filter (· != c) }
      host := { s.host with degraded := true } }
    let s := postEvent s evMemMapout devEvent (leBytes 2 c ++ leBytes 8 (stateArea s) ++ leBytes 4 (minFreeGranules s))
    if !s.hbm.moving.isEmpty then s
    else
      (slotsWhere s (fun sl => sl.st == SlotSt.open_)).foldl (fun s i =>
        let sl := getSlot s i
        let s := if sl.tan.mirrorSt == .broken then requestResync s i else s
        if sl.tan.dirty.isEmpty || sl.step.st == .dryFit || sl.step.st == .sealed then s else startRestore s i) s

/-- Meaning of MEM_MAPOUT. -/
def execMemMapout (chan : ChanId) (s : State) : Out := .next (effMemMapout chan s)

end Sys2Proof.Machine
end

