-- ==== Sys2Proof/Machine/Sha.lean ====
section
/-! DEFINITION. SHA-384 as FIPS 180-4 defines it, over byte strings (R489 to R495): the spec names the standard, whose constants and
rounds stand here (log entry 40). -/

namespace Sys2Proof.Machine

/-- Round constants 0 to 15 of FIPS 180-4, 4.2.3. -/
def shaK0 : List W64 := [
  0x428a2f98d728ae22, 0x7137449123ef65cd, 0xb5c0fbcfec4d3b2f, 0xe9b5dba58189dbbc,
  0x3956c25bf348b538, 0x59f111f1b605d019, 0x923f82a4af194f9b, 0xab1c5ed5da6d8118,
  0xd807aa98a3030242, 0x12835b0145706fbe, 0x243185be4ee4b28c, 0x550c7dc3d5ffb4e2,
  0x72be5d74f27b896f, 0x80deb1fe3b1696b1, 0x9bdc06a725c71235, 0xc19bf174cf692694]

/-- Round constants 16 to 31 of FIPS 180-4, 4.2.3. -/
def shaK1 : List W64 := [
  0xe49b69c19ef14ad2, 0xefbe4786384f25e3, 0x0fc19dc68b8cd5b5, 0x240ca1cc77ac9c65,
  0x2de92c6f592b0275, 0x4a7484aa6ea6e483, 0x5cb0a9dcbd41fbd4, 0x76f988da831153b5,
  0x983e5152ee66dfab, 0xa831c66d2db43210, 0xb00327c898fb213f, 0xbf597fc7beef0ee4,
  0xc6e00bf33da88fc2, 0xd5a79147930aa725, 0x06ca6351e003826f, 0x142929670a0e6e70]

/-- Round constants 32 to 47 of FIPS 180-4, 4.2.3. -/
def shaK2 : List W64 := [
  0x27b70a8546d22ffc, 0x2e1b21385c26c926, 0x4d2c6dfc5ac42aed, 0x53380d139d95b3df,
  0x650a73548baf63de, 0x766a0abb3c77b2a8, 0x81c2c92e47edaee6, 0x92722c851482353b,
  0xa2bfe8a14cf10364, 0xa81a664bbc423001, 0xc24b8b70d0f89791, 0xc76c51a30654be30,
  0xd192e819d6ef5218, 0xd69906245565a910, 0xf40e35855771202a, 0x106aa07032bbd1b8]

/-- Round constants 48 to 63 of FIPS 180-4, 4.2.3. -/
def shaK3 : List W64 := [
  0x19a4c116b8d2d0c8, 0x1e376c085141ab53, 0x2748774cdf8eeb99, 0x34b0bcb5e19b48a8,
  0x391c0cb3c5c95a63, 0x4ed8aa4ae3418acb, 0x5b9cca4f7763e373, 0x682e6ff3d6b2b8a3,
  0x748f82ee5defb2fc, 0x78a5636f43172f60, 0x84c87814a1f0ab72, 0x8cc702081a6439ec,
  0x90befffa23631e28, 0xa4506cebde82bde9, 0xbef9a3f7b2c67915, 0xc67178f2e372532b]

/-- Round constants 64 to 79 of FIPS 180-4, 4.2.3. -/
def shaK4 : List W64 := [
  0xca273eceea26619c, 0xd186b8c721c0c207, 0xeada7dd6cde0eb1e, 0xf57d4f7fee6ed178,
  0x06f067aa72176fba, 0x0a637dc5a2c898a6, 0x113f9804bef90dae, 0x1b710b35131c471b,
  0x28db77f523047d84, 0x32caab7b40c72493, 0x3c9ebe0a15c9bebc, 0x431d67c49c100d4c,
  0x4cc5d4becb3e42b6, 0x597f299cfc657e2a, 0x5fcb6fab3ad6faec, 0x6c44198c4a475817]

/-- The 80 round constants. -/
def shaK : List W64 := shaK0 ++ shaK1 ++ shaK2 ++ shaK3 ++ shaK4

/-- The initial hash value of SHA-384 (FIPS 180-4, 5.3.4). -/
def shaInit : List W64 := [
  0xcbbb9d5dc1059ed8, 0x629a292a367cd507, 0x9159015a3070dd17, 0x152fecd8f70e5939,
  0x67332667ffc00b31, 0x8eb44a8768581511, 0xdb0c2e0d64f98fa7, 0x47b5481dbefa4fa4]

/-- Rotation right. -/
def shaRotr (x : W64) (n : Nat) : W64 := (x >>> n) ||| (x <<< (64 - n))

/-- σ0 of the message schedule. -/
def shaLow0 (x : W64) : W64 := shaRotr x 1 ^^^ shaRotr x 8 ^^^ (x >>> 7)

/-- σ1 of the message schedule. -/
def shaLow1 (x : W64) : W64 := shaRotr x 19 ^^^ shaRotr x 61 ^^^ (x >>> 6)

/-- Σ0. -/
def shaUp0 (x : W64) : W64 := shaRotr x 28 ^^^ shaRotr x 34 ^^^ shaRotr x 39

/-- Σ1. -/
def shaUp1 (x : W64) : W64 := shaRotr x 14 ^^^ shaRotr x 18 ^^^ shaRotr x 41

/-- The number that a byte string holds, most significant byte first. -/
def beNat (bs : Bytes) : Nat := bs.foldl (fun n b => n * 256 + b.toNat) 0

/-- The k low bytes of a number, most significant first. -/
def beBytes (k n : Nat) : Bytes := (leBytes k n).reverse

/-- The message schedule, newest word first. -/
def shaExtend : Nat → List W64 → List W64
  | 0, ws => ws
  | n + 1, ws => shaExtend n ((shaLow1 (ws.getD 1 0) + ws.getD 6 0 + shaLow0 (ws.getD 14 0) + ws.getD 15 0) :: ws)

/-- The eight working variables after one round. -/
def shaRound (v : List W64) (kw : W64) : List W64 :=
  let g (i : Nat) : W64 := v.getD i 0
  let t1 := g 7 + shaUp1 (g 4) + ((g 4 &&& g 5) ^^^ (~~~ (g 4) &&& g 6)) + kw
  let t2 := shaUp0 (g 0) + ((g 0 &&& g 1) ^^^ (g 0 &&& g 2) ^^^ (g 1 &&& g 2))
  [t1 + t2, g 0, g 1, g 2, g 3 + t1, g 4, g 5, g 6]

/-- One block of 128 bytes taken into the hash value. -/
def shaBlock (h : List W64) (b : Bytes) : List W64 :=
  let w := ((piecesOf 8 16 b).map (fun p => BitVec.ofNat 64 (beNat p))).reverse
  let ws := (shaExtend 64 w).reverse
  let v := (shaK.zip ws).foldl (fun v kw => shaRound v (kw.1 + kw.2)) h
  (h.zip v).map (fun e => e.1 + e.2)

/-- The message padded to whole blocks. -/
def shaPad (m : Bytes) : Bytes :=
  m ++ [0x80#8] ++ List.replicate ((240 - (m.length + 1) % 128) % 128) 0#8 ++ beBytes 16 (8 * m.length)

/-- SHA-384: its 48 bytes in the order in which FIPS 180-4 emits them. -/
def sha384 (m : Bytes) : Bytes :=
  let p := shaPad m
  let h := (piecesOf 128 (p.length / 128) p).foldl shaBlock shaInit
  (h.take 6).flatMap (fun w => beBytes 8 w.toNat)

/-- A digest as a register holds it: byte j of the output at byte j (R514). -/
def shaDigest (m : Bytes) : Digest := BitVec.ofNat 384 (leNat (sha384 m))

end Sys2Proof.Machine
end

