-- ==== Sys2Proof/Machine/Power.lean ====
section
/-! DEFINITION. Supply, last gasp, governor, domains, droop, clocks, resets, keeper takeover and temperature (R28, R463 to R488). -/

namespace Sys2Proof.Machine

/-- The always-on block changed. -/
def modPwr (s : State) (f : Power → Power) : State := { s with pwr := f s.pwr }

/-- A 16-bit count one higher, saturating. -/
def inc16 (n : W16) : W16 := BitVec.ofNat 16 (satAdd 16 n.toNat 1)

/-- A POWER event (R487). -/
def powerEvent (s : State) (kind domain value : Nat) : State :=
  postEvent s evPower devEvent (fitBytes 16 (leBytes 1 kind ++ leBytes 1 domain ++ leBytes 2 s.pwr.voltage.toNat ++ leBytes 4 value))

/-- No domain (R487). -/
def noDomain : Nat := 0xFF

/-! ### Supply (R463 to R466) -/

/-- The end of the ride-through window (R466). -/
def rideEnd (s : State) : Nat := s.pwr.rideStart + msNs 2

/-- RIDE_THROUGH entered (R463); bursts end, since every interval is then held at SUSTAINED_CAP (R469). -/
def enterRide (s : State) : State := modPwr s (fun p => { p with inputState := 1, rideStart := s.time })

/-- INPUT_DROPOUT (R463): the input below 40 V for 1 µs. -/
def effInputDropout (s : State) : State := if s.pwr.inputState = 0 then enterRide s else s

/-- Meaning of INPUT_DROPOUT. -/
def execInputDropout (s : State) : Out := .next (effInputDropout s)

/-- The length of a dropout in µs, as the device knows it at the input's return: it began 1 µs before RIDE_THROUGH and ended when the
input came back in range, 100 µs ago (R463, R464). -/
def dropoutUs (s : State) : Nat := (s.time + usNs 1 - s.pwr.rideStart - usNs 100) / 1000

/-- INPUT_RECOVER (R464): in range for 100 µs before the trigger; at the window's end it is late (R466). -/
def effInputRecover (s : State) : State :=
  if s.pwr.inputState = 1 && !s.pwr.switchOpen && s.time < rideEnd s then
    let s := modPwr s (fun p => { p with inputState := 0, rideThroughs := inc16 p.rideThroughs })
    powerEvent s 0x01 noDomain (dropoutUs s)
  else s

/-- Meaning of INPUT_RECOVER. -/
def execInputRecover (s : State) : Out := .next (effInputRecover s)

/-- SURGE_OPEN (R465): the input switch opens and the device rides through. -/
def effSurgeOpen (s : State) : State :=
  if s.pwr.switchOpen || !(s.pwr.inputState = 0 || s.pwr.inputState = 1) then s
  else
    let s := modPwr s (fun p => { p with switchOpen := true, switchSince := s.time, surges := inc16 p.surges })
    if s.pwr.inputState = 0 then enterRide s else s

/-- Meaning of SURGE_OPEN. -/
def execSurgeOpen (s : State) : Out := .next (effSurgeOpen s)

/-- SURGE_CLOSE (R465): the input in range for 100 µs, the switch closes and the state is NORMAL again. -/
def effSurgeClose (s : State) : State :=
  if s.pwr.switchOpen && s.pwr.inputState = 1 && s.time < rideEnd s then
    let us := (s.time - s.pwr.switchSince) / 1000
    let s := modPwr s (fun p => { p with switchOpen := false, inputState := 0 })
    powerEvent s 0x02 noDomain us
  else s

/-- Meaning of SURGE_CLOSE. -/
def execSurgeClose (s : State) : Out := .next (effSurgeClose s)

/-! ### Last gasp (R466 to R468) -/

/-- The slots that are OPEN and SEALED, as a mask (R518). -/
def sealedMask (s : State) : Nat :=
  (slotsWhere s (fun sl => sl.st == SlotSt.open_ && sl.step.st == StepSt.sealed)).foldl orBit 0

/-- Slots OPEN. -/
def openCount (s : State) : Nat := (slotsWhere s (fun sl => sl.st == SlotSt.open_)).length

/-- The last-gasp record (R468, R518). -/
def gaspRecord (s : State) (samples cause : Nat) : BitVec 512 :=
  BitVec.ofNat 512 (packFields [(64, s.time), (320, samples), (8, cause), (7, openCount s), (1, 0), (64, sealedMask s), (48, 0)])

/-- A step in DRY_FIT aborted on this device alone (R467): the leave notice tells the others. -/
def abortLocal (s : State) (i cause : Nat) (rs : List Accusation) : State :=
  let sl := getSlot s i
  if sl.step.st == .dryFit then
    reportAll (enterRollback s i cause (selfId s)) i sl.step.num sl.step.attempt cause true rs
  else s

/-- LAST_GASP (R466, R467): two milliseconds after RIDE_THROUGH, cause 1, or when the store falls to its reserve, cause 2. The leave
notice carries the slots as they stand at the trigger; every DRY_FIT step aborts here. -/
def effLastGasp (cause : GaspCause) (s : State) : State :=
  let c := cause.val
  if s.pwr.inputState != 1 || !(c = 1 || c = 2) then s
  else
    let s := if c = 1 then timeTo s (rideEnd s) else s
    let d := drawFree s
    let s := d.2
    let r := gaspRecord s (Config.inputSamples d.1).toNat c
    let s := modPwr s (fun p => { p with
      inputState := 2, phase := 9, gaspActive := true, lastGasps := inc16 p.lastGasps, gaspRecord := some r })
    let s := sendLeave s 1
    let s := (List.range 64).foldl (fun s i => abortLocal s i caLastGasp [accDevice (selfId s) syPower]) s
    powerEvent s 0x03 noDomain c

/-- Meaning of LAST_GASP. -/
def execLastGasp (cause : GaspCause) (s : State) : Out := .next (effLastGasp cause s)

/-! ### Resets (R480, R508) -/

/-- What fuses and the carrier flash keep through every reset (R489, R496). -/
def keptSecurity (x : Security) : Security :=
  { securityInit with minSvn := x.minSvn, revoked := x.revoked, debugLock := x.debugLock, flashCounter := x.flashCounter }

/-- The always-on block after a reset (R508, R513): straps and references are the board's, the record in carrier flash stays, and
but for power-on the event counts stay too. BOOT_SEL is sampled. -/
def keptPower (powerOn : Bool) (x : Power) : Power :=
  let p := { powerInit with
    bootSel := x.bootSelPin, bootSelPin := x.bootSelPin, ref25 := x.ref25, ref156 := x.ref156, flashRecord := x.flashRecord }
  if powerOn then p
  else { p with rideThroughs := x.rideThroughs, surges := x.surges, lastGasps := x.lastGasps, throttles := x.throttles }

/-- The device at ALWAYS_ON again (R480): everything but what R508 keeps. What has been sent and what waits to arrive is not the
device's. -/
def resetDevice (powerOn : Bool) (s : State) : State :=
  { State.reset with
    pending := s.pending
    out := s.out
    freeCount := s.freeCount
    pwr := keptPower powerOn s.pwr
    sec := keptSecurity s.sec
    trc := if powerOn then traceInit else { traceInit with lgaspValid := s.trc.lgaspValid, lgasp := s.trc.lgasp } }

/-- A pin or device reset (R480): a leave notice first when a slot is OPEN. -/
def softReset (s : State) : State := resetDevice false (if openCount s = 0 then s else sendLeave s 2)

/-- PIN_RESET (R480, R532): ignored during a last gasp and while OFF. -/
def effPinReset (s : State) : State := if s.pwr.gaspActive || s.pwr.phase = 0 then s else softReset s

/-- Meaning of PIN_RESET. -/
def execPinReset (s : State) : Out := .next (effPinReset s)

/-- LAST_GASP_COMPLETE (R467): the record is in carrier flash, every domain but D0 is off and the device is held in reset, OFF. -/
def effLastGaspComplete (s : State) : State :=
  if !s.pwr.gaspActive then s
  else
    let r := s.pwr.gaspRecord
    let s := resetDevice false s
    modPwr s (fun p => { p with phase := 0, inputState := 3, pwrGood := false, flashRecord := r })

/-- Meaning of LAST_GASP_COMPLETE. -/
def execLastGaspComplete (s : State) : Out := .next (effLastGaspComplete s)

/-- POWER_ON (R482): the input has held 40 to 60 V, and start-up begins at ALWAYS_ON. -/
def effPowerOn (s : State) : State := if s.pwr.phase = 0 then resetDevice true s else s

/-- Meaning of POWER_ON. -/
def execPowerOn (s : State) : Out := .next (effPowerOn s)

/-! ### The governor (R469 to R472) -/

/-- The burst intervals among the last 99,999 (R469). -/
def burstsUsed (p : Power) (k : Nat) : List Nat := p.bursts.filter (fun b => k < b + 100000)

/-- The limit that applies to interval k (R469). -/
def powerLimit (p : Power) (k : Nat) : Nat :=
  if p.inputState = 1 || 100 * p.burstMs ≤ (burstsUsed p k).length then p.sustainedCap.toNat else p.burstCap.toNat

/-- A change of the lever depths with its THROTTLE events (R471). -/
def setDepths (s : State) (pow th limit : Nat) : State :=
  let was := leverDepth s.pwr
  let s := withBenchClock (fun s => modPwr s (fun p => { p with powDepth := min 21 pow, thDepth := min 21 th })) s
  let now := leverDepth s.pwr
  let s := modPwr s (fun p => { p with deepest := if was = 0 then now else max p.deepest now })
  if was = 0 && 0 < now then
    powerEvent (modPwr s (fun p => { p with throttles := inc16 p.throttles, lastLift := s.time })) 0x05 noDomain limit
  else if 0 < was && now = 0 then powerEvent s 0x06 noDomain s.pwr.deepest
  else s

/-- The caps that POWER_POLICY has set, taken at an interval's beginning (R472). -/
def takeCaps (p : Power) : Power :=
  match p.nextCaps with
  | none => p
  | some (a, b, m) => { p with sustainedCap := BitVec.ofNat 16 a, burstCap := BitVec.ofNat 16 b, sleepMask := m, nextCaps := none }

/-- GOVERNOR_INTERVAL (R469, R470): the interval that ends is measured. An interval over its limit steps a lever at the beginning of
the interval after next, which is one command later; temperature at THROTTLE steps as well (R486). -/
def effGovernorInterval (power voltage : W16) (s : State) : State :=
  let k := s.time / usNs 10
  let s := timeTo s (nextBoundary s.time (usNs 10))
  let limit := powerLimit s.pwr k
  let s := setDepths s (s.pwr.powDepth + b2n s.pwr.owed) (s.pwr.thDepth + b2n s.pwr.throttling) limit
  let p := power.toNat
  let excess := decide (limit < p)
  let s := modPwr s (fun q => { q with
    power := power, voltage := voltage, peak := BitVec.ofNat 16 (max q.peak.toNat p)
    bursts := burstsUsed q k ++ (if q.sustainedCap.toNat < p then [k] else [])
    owed := excess, belowRun := if excess then 0 else q.belowRun + 1 })
  let w := s.time / 1000000000
  let s := if excess && leverDepth s.pwr = 21 && s.pwr.overWindow != some w then
      powerEvent (modPwr s (fun q => { q with overWindow := some w })) 0x07 noDomain p
    else s
  modPwr s takeCaps

/-- Meaning of GOVERNOR_INTERVAL. -/
def execGovernorInterval (power voltage : W16) (s : State) : Out := .next (effGovernorInterval power voltage s)

/-- LEVER_LIFT (R470, R486): one step per 100 µs, of each demand that has ended: power after three intervals below the limit,
temperature once the sensor has been 3 °C below THROTTLE for 10 ms. -/
def effLeverLift (s : State) : State :=
  let p := s.pwr
  let a := 0 < p.powDepth && 3 ≤ p.belowRun
  let b := 0 < p.thDepth && !p.throttling
  if !a && !b then s
  else
    let s := timeTo s (p.lastLift + usNs 100)
    let s := modPwr s (fun p => { p with lastLift := s.time })
    setDepths s (p.powDepth - b2n a) (p.thDepth - b2n b) (powerLimit p (s.time / usNs 10))

/-- Meaning of LEVER_LIFT. -/
def execLeverLift (s : State) : Out := .next (effLeverLift s)

/-! ### Temperature (R486) -/

/-- The level of a sensor against its four thresholds, in 0.1 °C. -/
def thermalLevel (t warn throttle limit trip : Nat) : Nat :=
  if trip ≤ t then 4 else if limit ≤ t then 3 else if throttle ≤ t then 2 else if warn ≤ t then 1 else 0

/-- Every enabled port down, with its lanes. -/
def allPortsDown (s : State) : State :=
  ((s.ports.filter (fun e => e.2.cfg.enable)).map Prod.fst).foldl lanePortDown s

/-- TRIP (R486): FATAL, and every domain but D0 and D1 off. -/
def thermalTrip (s : State) : State := modPwr (allPortsDown (becomeFatal s syDevice)) (fun p => { p with awake := 3 })

/-- THERMAL_SAMPLE (R486, R487): the hottest sensor of each kind, every 100 µs. A level entered from below is posted, with the domain
of the sensor that reached it. -/
def effThermalSample (junction stack : W16) (hotTile : TileId) (hotStack : StackId) (s : State) : State :=
  let s := timeTo s (nextBoundary s.time (usNs 100))
  let j := thermalLevel junction.toNat 950 1000 1050 1100
  let h := thermalLevel stack.toNat 850 950 1000 1050
  let level := max j h
  let was := s.pwr.thermal.toNat
  let temp := if h ≤ j then junction.toNat else stack.toNat
  let domain := if h ≤ j then 34 + hotTile.val / 16 else 42 + hotStack.val / 4
  let cool := junction.toNat < 970 && stack.toNat < 920
  let since := if cool then some (s.pwr.coolSince.getD s.time) else none
  let ended := match since with
    | none => false
    | some t => decide (t + msNs 10 ≤ s.time)
  let s := modPwr s (fun p => { p with
    junction := junction, stack := stack, hotTile := BitVec.ofNat 7 hotTile.val, hotStack := BitVec.ofNat 5 hotStack.val
    thermal := BitVec.ofNat 2 (min 3 level), coolSince := since
    throttling := 2 ≤ level || (p.throttling && !ended) })
  let s := if was = 0 && 1 ≤ level then powerEvent s 0x08 domain temp else s
  let s := if was < 2 && 2 ≤ level then powerEvent s 0x09 domain temp else s
  let s := if 3 ≤ level then setDepths s s.pwr.powDepth 21 (powerLimit s.pwr (s.time / usNs 10)) else s
  if level = 4 && !s.host.fatal then thermalTrip s else s

/-- Meaning of THERMAL_SAMPLE. -/
def execThermalSample (junction stack : W16) (hotTile : TileId) (hotStack : StackId) (s : State) : Out :=
  .next (effThermalSample junction stack hotTile hotStack s)

/-! ### Domains (R473 to R477) -/

/-- Whether a slot keeps the bench awake (R473): a mirror pass is due, or a step is armed whose program is not stopped at a yield
point with its token absent. -/
def slotNeedsBench (sl : Slot) : Bool :=
  sl.tan.passRunning || sl.tan.passWaiting || (sl.step.st == StepSt.dryFit && !sl.step.programEnd
    && !(sl.bench.run == .yielded && sl.bench.waitFor.isSome && !waitOver sl))

/-- Whether the condition for a domain's sleep holds (R473). -/
def domainQuiet (s : State) (d : Nat) : Bool :=
  if d < 2 then false
  else if d < 18 then
    ((List.range 32).map (32 * (d - 2) + ·)).all (fun n => !(getPort s n).cfg.enable && (getLane s n).loopback == 0)
  else if d < 34 then s.ports.all (fun e => !e.2.up) && openCount s = 0
  else if d < 42 then (slotsWhere s slotNeedsBench).isEmpty && s.holder.isNone
  else openCount s = 0

/-- DOMAIN_SLEEP (R473): the mask allows it and the condition has held for 1 ms. -/
def effDomainSleep (domain : DomainId) (s : State) : State :=
  let d := domain.val
  if s.pwr.awake.testBit d && s.pwr.sleepMask.testBit d && domainQuiet s d then
    modPwr s (fun p => { p with awake := clearBit p.awake d })
  else s

/-- Meaning of DOMAIN_SLEEP. -/
def execDomainSleep (domain : DomainId) (s : State) : Out := .next (effDomainSleep domain s)

/-- DOMAIN_WAKE (R473, R474): a wake event of a sleeping domain; a memory group wakes on any access (log entry 61). -/
def effDomainWake (domain : DomainId) (s : State) : State :=
  let d := domain.val
  if d < 42 && domainQuiet s d then s else wakeDomain s d

/-- Meaning of DOMAIN_WAKE. -/
def execDomainWake (domain : DomainId) (s : State) : Out := .next (effDomainWake domain s)

/-- DOMAIN_AWAKE (R474): within 50 µs of its wake event the domain is awake; what waited for it goes on. -/
def effDomainAwake (domain : DomainId) (s : State) : State :=
  let d := domain.val
  let x := getDomain s d
  if !x.waking || x.wakeStart + usNs 50 < s.time then s
  else
    let s := modDomain s d (fun x => { x with waking := false, attempts := 0 })
    modPwr s (fun p => { p with awake := orBit p.awake d })

/-- Meaning of DOMAIN_AWAKE. -/
def execDomainAwake (domain : DomainId) (s : State) : Out := .next (effDomainAwake domain s)

/-- DOMAIN_FAULT (R475): 50 µs have passed; the wake is retried once, and a second failure makes the device FATAL. -/
def effDomainFault (domain : DomainId) (s : State) : State :=
  let d := domain.val
  let x := getDomain s d
  if !x.waking then s
  else
    let s := timeTo s (x.wakeStart + usNs 50)
    if x.attempts < 2 then modDomain s d (fun x => { x with attempts := x.attempts + 1, wakeStart := s.time })
    else
      let s := modDomain s d (fun x => { x with waking := false })
      becomeFatal (powerEvent s 0x0B d x.attempts) syDevice

/-- Meaning of DOMAIN_FAULT. -/
def execDomainFault (domain : DomainId) (s : State) : Out := .next (effDomainFault domain s)

/-- DROOP_TRIP (R477): a rail 4 % below its setpoint stretches its domain's clocks, and in a bench domain the whole bench's. -/
def effDroopTrip (domain : DomainId) (s : State) : State :=
  let d := domain.val
  if d = 0 || (getDomain s d).droop then s
  else withBenchClock (fun s => modDomain s d (fun x => { x with droop := true, droopAt := s.time })) s

/-- Meaning of DROOP_TRIP. -/
def execDroopTrip (domain : DomainId) (s : State) : Out := .next (effDroopTrip domain s)

/-- DROOP_RECOVER (R477): 64 cycles after the rail recovers the clocks have their full period; a droop of more than 200 µs asks for a
higher setpoint. -/
def effDroopRecover (domain : DomainId) (s : State) : State :=
  let d := domain.val
  let x := getDomain s d
  if !x.droop then s
  else withBenchClock (fun s => modDomain s d (fun x => { x with droop := false, lift := x.lift || x.droopAt + usNs 200 < s.time })) s

/-- Meaning of DROOP_RECOVER. -/
def execDroopRecover (domain : DomainId) (s : State) : Out := .next (effDroopRecover domain s)

/-- VOLTAGE_STEP (R476): a setpoint moves by 5 mV, at most once per 100 µs and between 0.65 V and 0.90 V; upward when a droop has
asked for it, else as the monitors say, which is drawn. -/
def effVoltageStep (domain : DomainId) (s : State) : State :=
  let d := domain.val
  if d = 0 then s
  else
    let f := drawFree s
    let s := timeTo f.2 ((getDomain f.2 d).lastStep + usNs 100)
    modDomain s d (fun x => { x with
      setpoint := if x.lift || Config.pick f.1 % 2 = 1 then min 180 (x.setpoint + 1) else max 130 (x.setpoint - 1)
      lift := false, lastStep := s.time })

/-- Meaning of VOLTAGE_STEP. -/
def execVoltageStep (domain : DomainId) (s : State) : Out := .next (effVoltageStep domain s)

/-! ### References (R479) -/

/-- REF25_LOSS (R479): REF_LOSS, a leave notice, and the device is FATAL. -/
def effRef25Loss (s : State) : State :=
  if !s.pwr.ref25 then s
  else becomeFatal (powerEvent (modPwr s (fun p => { p with ref25 := false })) 0x0A noDomain 1) syDevice

/-- Meaning of REF25_LOSS. -/
def execRef25Loss (s : State) : Out := .next (effRef25Loss s)

/-- REF156_LOSS (R479): every port goes down, and REF_LOSS is posted. -/
def effRef156Loss (s : State) : State :=
  if !s.pwr.ref156 then s
  else powerEvent (allPortsDown (modPwr s (fun p => { p with ref156 := false }))) 0x0A noDomain 2

/-- Meaning of REF156_LOSS. -/
def execRef156Loss (s : State) : Out := .next (effRef156Loss s)

/-- REF156_RETURN (R479): present for 100 µs; the ports retrain as their lanes' signals are detected. -/
def effRef156Return (s : State) : State := modPwr s (fun p => { p with ref156 := true })

/-- Meaning of REF156_RETURN. -/
def execRef156Return (s : State) : Out := .next (effRef156Return s)

/-! ### Keeper takeover (R28, R481) -/

/-- Whether Gorirgen runs: from HBM_TRAIN to READY, and while FATAL (R283, R485). -/
def gorirgenRuns (s : State) : Bool := (4 ≤ s.pwr.phase.toNat && s.pwr.phase.toNat ≤ 8) || s.pwr.phase = 0xA

/-- Health state of a slot lost with the keeper core: its settings stand (R28). -/
def dropHealth (h : Health) : Health :=
  { h with subjects := [], penalised := [], accuse := [], linkCounts := [], escalated := [], closedKeys := [],
           members := { h.members with expelled := 0 }, devices := { h.devices with expelled := 0 } }

/-- KEEPER_WATCHDOG (R481): no kick for 10 ms. Every DRY_FIT step aborts and the failed core's incidents and health state are gone;
when the standby core is the one that fails, the device is FATAL. In a last gasp there is no takeover (R488). -/
def effKeeperWatchdog (s : State) : State :=
  if !gorirgenRuns s || s.pwr.gaspActive || s.host.keeperDown then s
  else if s.host.standbyActive then becomeFatal s syDevice
  else
    let s := { s with host := { s.host with keeperDown := true }, incidents := [], droppedReports := 0 }
    let s := (slotsWhere s (fun sl => sl.st != SlotSt.free)).foldl (fun s i => modHealth s i dropHealth) s
    abortEveryStep s caTakeover syDevice

/-- Meaning of KEEPER_WATCHDOG. -/
def execKeeperWatchdog (s : State) : Out := .next (effKeeperWatchdog s)

/-- Whether the image in HBM still agrees with the boot measurement (R481, R492). -/
def imageAgrees (x : Security) : Bool :=
  shaDigest (x.image.take 232) == x.meas.getD 1 0 && sha384 (x.image.drop 4096) == (x.image.drop 28).take 48

/-- The response of a command that had committed before the takeover (R445). -/
def answerCommitted (s : State) (m : Nat) : State :=
  match (getMbx s m).committed with
  | none => s
  | some r =>
    let b := getMbx s m
    let s := modMbx s m (fun b => { b with rsp := r, own := false, st := .idle, committed := none })
    let s := { s with ownOrder := s.ownOrder.filter (· != m) }
    if b.irqEn then raiseIrq s (1 + m) else s

/-- TAKEOVER (R28, R445, R481): the standby core has verified the image, posts TAKEOVER before any other event, and serves the
mailboxes. An image that does not verify makes the device FATAL (R492). -/
def effTakeover (s : State) : State :=
  if !s.host.keeperDown || s.pwr.gaspActive then s
  else
    let s := { s with host := { s.host with keeperDown := false } }
    if !imageAgrees s.sec then becomeFatal s syDevice
    else
      let late := s.evt.deferred
      let last := (s.evt.issued - 1).toNat
      let s := { s with host := { s.host with standbyActive := true }, evt := { s.evt with deferred := [] } }
      let s := postEvent s evTakeover devEvent (leBytes 4 last)
      let s := late.foldl (fun s e => postEvent s e.1 e.2.1 e.2.2) s
      (List.range 65).foldl answerCommitted s

/-- Meaning of TAKEOVER. -/
def execTakeover (s : State) : Out := .next (effTakeover s)

end Sys2Proof.Machine
end

