-- ==== Sys2Proof/Machine/HostWin.lean ====
section
/-! DEFINITION. The host window: HTL packets, registers, mailbox pages, trace readout, sideband, event ring (R433 to R444, R449 to
R451, R506 to R518). -/

namespace Sys2Proof.Machine

/-! ### HTL packets (R434, R435) -/

/-- TYPE of an HTL header. -/
def htlType (q : HtlReq) : Nat := bitsOf q.hdr.toNat 0 4
/-- AOP. -/
def htlAop (q : HtlReq) : Nat := bitsOf q.hdr.toNat 4 2
/-- STATUS. -/
def htlStatus (q : HtlReq) : Nat := bitsOf q.hdr.toNat 6 2
/-- TAG. -/
def htlTag (q : HtlReq) : Nat := bitsOf q.hdr.toNat 8 10
/-- The access length in bytes: LEN + 1 words. -/
def htlBytes (q : HtlReq) : Nat := 4 * (bitsOf q.hdr.toNat 18 7 + 1)
/-- The window offset. -/
def htlOff (q : HtlReq) : Nat := bitsOf q.hdr.toNat 32 28

/-- Whether a host request is formed as R434 says and stays within 256 bytes (R435). -/
def htlSound (q : HtlReq) : Bool :=
  let n := q.hdr.toNat
  let t := htlType q
  (t == 1 || t == 2 || t == 3) && (if t = 3 then htlAop q != 3 else htlAop q == 0)
    && htlStatus q == 0 && bitsOf n 25 7 == 0 && bitsOf n 60 36 == 0 && bitsOf n 96 32 == 0
    && htlOff q % 256 + htlBytes q ≤ 256

/-- COMPLETION statuses (R434). -/
def htlOk : Nat := 0
/-- UNSUPPORTED. -/
def htlUnsupported : Nat := 1
/-- REFUSED. -/
def htlRefused : Nat := 2
/-- DATA_ERROR. -/
def htlDataError : Nat := 3

/-- A COMPLETION (R434, R436), on the module of the request, counted when it is UNSUPPORTED or REFUSED (R510). -/
def complete (s : State) (q : HtlReq) (status : Nat) (payload : Bytes) : State :=
  let hdr := BitVec.ofNat 128 (packFields [(4, 4), (2, 0), (2, status), (10, htlTag q), (7, htlBytes q / 4 - 1)])
  let s := emit s (.completion q.mdl.val hdr (if status = 0 then payload else []))
  if status = 1 then { s with host := { s.host with unsupported := BitVec.ofNat 32 (inc32 s.host.unsupported.toNat) } }
  else if status = 2 then { s with host := { s.host with refused := BitVec.ofNat 32 (inc32 s.host.refused.toNat) } }
  else s

/-- Whether a module is up (R436). -/
def moduleUp (s : State) (m : Nat) : Bool := s.host.ucieUp.getD m false

/-! ### Registers of the three pages (R506 to R518) -/

/-- The slots that are in restore or resync keep the device in PRIORITY mode, as do start-up and a mapping-out (R421). -/
def priorityMode (s : State) : Bool :=
  s.pwr.phase != 8 || !s.hbm.moving.isEmpty
    || !(slotsWhere s (fun sl => sl.tan.restoring || !sl.tan.resyncs.isEmpty || sl.tan.mirrorSt == .syncing)).isEmpty

/-- GLB_STATUS (R510). -/
def glbStatus (s : State) : Nat :=
  packFields [(1, b2n s.host.degraded), (1, b2n s.host.standbyActive), (1, b2n s.sec.debugLock), (1, b2n s.host.fatal),
    (1, b2n (s.pwr.phase == 8)), (1, b2n (priorityMode s)), (2, 0), (7, openCount s), (1, 0), (10, mappedOut s)]

/-- PWR_STATUS to PWR_EVENTS by number (R513). -/
def pwrReg (s : State) (k : Nat) : Nat :=
  let p := s.pwr
  let d := leverDepth p
  match k with
  | 0 => packFields [(4, p.phase.toNat), (2, p.inputState.toNat), (1, b2n p.pwrGood), (1, b2n p.bootSel), (5, benchRate s),
      (3, hbmStepOf d), (3, c1StepOf d), (2, p.thermal.toNat)]
  | 1 => packFields [(16, p.voltage.toNat), (16, p.power.toNat), (16, p.peak.toNat)]
  | 2 => packFields [(16, p.junction.toNat), (16, p.stack.toNat), (7, p.hotTile.toNat), (1, 0), (5, p.hotStack.toNat)]
  | 3 => packFields [(16, p.sustainedCap.toNat), (16, p.burstCap.toNat), (8, p.burstMs),
      (15, (burstsUsed p (s.time / usNs 10)).length)]
  | 4 => p.awake % 2 ^ 50
  | 5 => p.sleepMask % 2 ^ 50
  | _ => packFields [(16, p.rideThroughs.toNat), (16, p.surges.toNat), (16, p.lastGasps.toNat), (16, p.throttles.toNat)]

/-- SEC_BOOT_STATUS (R491). -/
def secBootStatus (x : Security) : Nat :=
  packFields [(4, x.bootCode.toNat), (1, b2n x.bootSource), (3, 0), (8, x.keyIndex.toNat), (16, 0), (32, x.version.toNat)]

/-- TRC_CTL (R516). -/
def trcCtl (t : Trace) : Nat :=
  let stopped := t.mode && traceCapacity t ≤ t.ring.length && t.sizeLog2 != 0
  packFields [(6, t.sizeLog2), (1, b2n t.mode), (1, b2n stopped), (1, 0),
    (4, (List.range 4).foldl (fun n i => n + filterField (t.filters.getD i 0) 0 1 * 2 ^ i) 0)]

/-- The value of a 64-bit register of the global, always-on and trace pages by offset; none where no register stands (R506). The
write-only fields read zero. -/
def reg64 (s : State) (off : Nat) : Option Nat :=
  if off % 8 != 0 then none
  else if off = 0x0 then some (packFields [(16, 0x2E02), (8, Config.revision.toNat), (8, 0), (16, Config.generation.toNat)])
  else if off = 0x8 then some (packFields [(16, s.host.deviceId.toNat), (1, b2n s.host.deviceIdValid)])
  else if off = 0x10 then some s.host.gorirgenVersion.toNat
  else if off = 0x20 then some (glbStatus s)
  else if off = 0x28 then some s.time
  else if off = 0x40 then some (packFields [(32, s.host.unsupported.toNat), (32, s.host.refused.toNat)])
  else if off = 0x100 then some 0
  else if off = 0x200 then some (packFields [(4, s.host.apView.toNat), (6, s.host.apSlot.toNat), (6, 0), (48, s.host.apBase.toNat)])
  else if off = 0x300 then some s.host.bootAddr.toNat
  else if off = 0x308 then some s.host.bootLen.toNat
  else if 0x10000 ≤ off && off ≤ 0x10030 then some (pwrReg s ((off - 0x10000) / 8))
  else if off = 0x10800 then some (secBootStatus s.sec)
  else if off = 0x10808 then some (packFields [(32, s.sec.nextLeaf.toNat), (32, s.sec.counter.toNat)])
  else if 0x10840 ≤ off && off < 0x10940 && off % 64 < 48 then
    some (bitsOf (s.sec.meas.getD ((off - 0x10840) / 64) 0).toNat (8 * (off % 64)) 64)
  else if off = 0x200000 then some (trcCtl s.trc)
  else if off = 0x200008 then some (packFields [(32, s.trc.nextSeq.toNat), (32, s.trc.oldestSeq.toNat)])
  else if off = 0x200010 then some s.trc.lost.toNat
  else if off = 0x200018 then some s.trc.winSeq.toNat
  else if off = 0x200020 then some (b2n s.trc.lgaspValid)
  else if 0x200040 ≤ off && off < 0x200080 then some (bitsOf s.trc.lgasp.toNat (8 * (off - 0x200040)) 64)
  else none

/-- A register access of 4 or 8 bytes, naturally aligned (R435). -/
def regAligned (off n : Nat) : Bool := (n == 4 || n == 8) && off % n == 0

/-- The bytes of a register access within its 64-bit register. -/
def regBytes (v off n : Nat) : Bytes := ((leBytes 8 v).drop (off % 8)).take n

/-- Whether a register of the three pages has a field that can be written (R506). -/
def regWritable (off : Nat) : Bool :=
  let r := off / 8 * 8
  r == 0x100 || r == 0x200 || r == 0x300 || r == 0x308 || r == 0x200018 || r == 0x200020

/-- The value of a register with some of its bytes written. -/
def regMerge (old off : Nat) (v : Bytes) : Nat := leNat (splice (leBytes 8 old) (off % 8) v)

/-! ### Mailbox pages (R438, R442, R449, R507, R515) -/

/-- The mailbox and page offset that a window offset lies in. -/
def mbxPage (off : Nat) : Option (Nat × Nat) :=
  if 0x100000 ≤ off && off < 0x141000 then some ((off - 0x100000) / 0x1000, off % 0x1000) else none

/-- MBX_CTL (R442). -/
def mbxCtl (b : Mailbox) : Nat :=
  let st := match b.st with
    | .idle => 0
    | .queued => 1
    | .executing => 2
    | .held => 3
  packFields [(1, b2n b.own), (1, b2n b.irqEn), (6, 0), (2, st), (22, 0), (32, b.discarded.toNat)]

/-- A 64-bit register of a mailbox page (R442, R449). -/
def mbxReg (s : State) (m off : Nat) : Option Nat :=
  let e := s.evt
  if off = 0x80 then some (mbxCtl (getMbx s m))
  else if m != 0 then none
  else if off = 0xC0 then some e.base.toNat
  else if off = 0xC8 then some (packFields [(5, e.sizeLog2.toNat), (3, 0), (1, b2n e.en), (23, 0), (32, e.holdoff.toNat)])
  else if off = 0xD0 then some e.head.toNat
  else if off = 0xD8 then some e.tail.toNat
  else if off = 0xE0 then some e.lost.toNat
  else none

/-- An access to a 64-byte slot of a mailbox page: 4 to 64 bytes, aligned, within the slot (R507). -/
def slotAccess (base off n : Nat) : Bool := base ≤ off && off + n ≤ base + 64 && off % 4 == 0 && 4 ≤ n && n ≤ 64

/-- What a read of the register pages or of a mailbox page returns; none where it completes with UNSUPPORTED (R435, R506, R507). -/
def windowRead (s : State) (off n : Nat) : Option Bytes :=
  match mbxPage off with
  | some (m, o) =>
    if slotAccess 0 o n then some (((slotBytes (getMbx s m).cmd).drop o).take n)
    else if slotAccess 0x40 o n then some (((slotBytes (getMbx s m).rsp).drop (o - 0x40)).take n)
    else if regAligned o n then (mbxReg s m (o / 8 * 8)).map (fun v => regBytes v o n)
    else none
  | none => if regAligned off n then (reg64 s (off / 8 * 8)).map (fun v => regBytes v off n) else none

/-! ### Registers that a read clears (R12, R442, R449, R510, R513, R516) -/

/-- Whether an access touches bytes [lo, hi) of the register at an offset. -/
def touches (reg lo hi off n : Nat) : Bool := off / 8 * 8 == reg && off % 8 < hi && lo < off % 8 + n

/-- The registers with fields that a read clears. -/
inductive RcReg where
  | htlErr | inputPeak | discarded | evtLost | traceLost
  deriving DecidableEq, Repr

/-- The clearing register that a sound register read touches, if any. -/
def rcOf (off n : Nat) : Option RcReg :=
  if !regAligned off n then none
  else if touches 0x40 0 8 off n then some .htlErr
  else if touches 0x10008 4 6 off n then some .inputPeak
  else if touches 0x200010 0 4 off n then some .traceLost
  else match mbxPage off with
    | none => none
    | some (m, o) => if touches 0x80 4 8 o n then some .discarded else if m = 0 && touches 0xE0 0 4 o n then some .evtLost else none

/-- The fields that a read has returned, cleared. -/
def rcClear (s : State) (off n : Nat) : State :=
  match rcOf off n with
  | none => s
  | some .htlErr => { s with host := { s.host with
      unsupported := if touches 0x40 0 4 off n then 0 else s.host.unsupported
      refused := if touches 0x40 4 8 off n then 0 else s.host.refused } }
  | some .inputPeak => modPwr s (fun p => { p with peak := 0 })
  | some .traceLost => { s with trc := { s.trc with lost := 0 } }
  | some .discarded => match mbxPage off with
    | none => s
    | some (m, _) => modMbx s m (fun b => { b with discarded := 0 })
  | some .evtLost => { s with evt := { s.evt with lost := 0 } }

/-- The trace readout window (R438). -/
def inTraceWindow (off : Nat) : Bool := 0x280000 ≤ off && off < 0x300000

/-- The HBM aperture (R438). -/
def inAperture (off : Nat) : Bool := 0x1000000 ≤ off && off < 0x5000000

/-- Whether a READ is served as a register read. -/
def isRegRead (s : State) (q : HtlReq) : Bool :=
  moduleUp s q.mdl.val && htlType q == 1 && !inTraceWindow (htlOff q) && !inAperture (htlOff q)

/-- A register read served: its bytes, and the fields that it clears. -/
def serveRead (q : HtlReq) (s : State) : State :=
  let off := htlOff q
  let n := htlBytes q
  if !htlSound q then complete s q htlUnsupported []
  else match windowRead s off n with
    | none => complete s q htlUnsupported []
    | some bs => complete (rcClear s off n) q htlOk bs

/-- HOST_READ (R434 to R436): a READ of a register or mailbox that no other command serves. -/
def effHostRead (req : HtlReq) (s : State) : State :=
  if isRegRead s req && (rcOf (htlOff req) (htlBytes req)).isNone then serveRead req s else s

/-- Meaning of HOST_READ. -/
def execHostRead (req : HtlReq) (s : State) : Out := .next (effHostRead req s)

/-- A read of a register that it clears. -/
def readClearing (r : RcReg) (q : HtlReq) (s : State) : State :=
  if isRegRead s q && rcOf (htlOff q) (htlBytes q) == some r then serveRead q s else s

/-- HTL_ERR_READ (R510). -/
def effHtlErrRead (req : HtlReq) (s : State) : State := readClearing .htlErr req s

/-- Meaning of HTL_ERR_READ. -/
def execHtlErrRead (req : HtlReq) (s : State) : Out := .next (effHtlErrRead req s)

/-- INPUT_PEAK_READ (R513). -/
def effInputPeakRead (req : HtlReq) (s : State) : State := readClearing .inputPeak req s

/-- Meaning of INPUT_PEAK_READ. -/
def execInputPeakRead (req : HtlReq) (s : State) : Out := .next (effInputPeakRead req s)

/-- MBX_DISCARDED_READ (R442). -/
def effMbxDiscardedRead (req : HtlReq) (s : State) : State := readClearing .discarded req s

/-- Meaning of MBX_DISCARDED_READ. -/
def execMbxDiscardedRead (req : HtlReq) (s : State) : Out := .next (effMbxDiscardedRead req s)

/-- EVENT_LOST_READ (R449). -/
def effEventLostRead (req : HtlReq) (s : State) : State := readClearing .evtLost req s

/-- Meaning of EVENT_LOST_READ. -/
def execEventLostRead (req : HtlReq) (s : State) : Out := .next (effEventLostRead req s)

/-- TRACE_LOST_READ (R516). -/
def effTraceLostRead (req : HtlReq) (s : State) : State := readClearing .traceLost req s

/-- Meaning of TRACE_LOST_READ. -/
def execTraceLostRead (req : HtlReq) (s : State) : Out := .next (effTraceLostRead req s)

/-- A trace record by SEQ (R517); all ones when the ring does not hold it. -/
def traceRecordAt (t : Trace) (seq : Nat) : BitVec 1024 :=
  let k := (seq + 2 ^ 32 - t.oldestSeq.toNat) % 2 ^ 32
  if k < (t.nextSeq - t.oldestSeq).toNat then t.ring.getD k (BitVec.allOnes 1024) else BitVec.allOnes 1024

/-- TRACE_WINDOW_READ (R507, R517): 4 to 128 bytes within one record. -/
def effTraceWindowRead (req : HtlReq) (s : State) : State :=
  let off := htlOff req
  let n := htlBytes req
  if !moduleUp s req.mdl.val || htlType req != 1 || !inTraceWindow off then s
  else
    let o := off - 0x280000
    if !htlSound req || 128 < o % 128 + n || o % 4 != 0 then complete s req htlUnsupported []
    else
      let r := traceRecordAt s.trc ((s.trc.winSeq.toNat + o / 128) % 2 ^ 32)
      complete s req htlOk (((leBytes 128 r.toNat).drop (o % 128)).take n)

/-- Meaning of TRACE_WINDOW_READ. -/
def execTraceWindowRead (req : HtlReq) (s : State) : Out := .next (effTraceWindowRead req s)

/-! ### Writes -/

/-- The writes that have rows of their own (R449, R450, R511, R512, R516). -/
inductive OwnWrite where
  | reset | bootGo | ringEnable | tail | lgasp
  deriving DecidableEq, Repr

/-- The value that a register of 64 bits takes by a write (R435), the rest of it as it reads. -/
def written (s : State) (off : Nat) (v : Bytes) : Nat :=
  match mbxPage off with
  | some (m, o) => regMerge ((mbxReg s m (o / 8 * 8)).getD 0) o v
  | none => regMerge ((reg64 s (off / 8 * 8)).getD 0) off v

/-- The own row that a sound write of n bytes belongs to, if any. -/
def ownWrite (s : State) (off n : Nat) (v : Bytes) : Option OwnWrite :=
  if !regAligned off n then none
  else
    let x := written s off v
    if off / 8 * 8 = 0x100 then some .reset
    else if off / 8 * 8 = 0x308 then (if touches 0x308 4 5 off n && bitOf x 32 then some .bootGo else none)
    else if off / 8 * 8 = 0x200020 then (if touches 0x200020 0 1 off n && (leAt v 0 1) % 2 = 1 then some .lgasp else none)
    else match mbxPage off with
      | some (0, o) =>
        if o / 8 * 8 = 0xD8 then some .tail
        else if o / 8 * 8 = 0xC8 then (if touches 0xC8 1 2 o n && bitOf x 8 && !s.evt.en then some .ringEnable else none)
        else none
      | some (_, _) => none
      | none => none

/-- GLB_BOOT_LEN's LENGTH written (R512). -/
def writeBootLen (s : State) (x : Nat) : State := { s with host := { s.host with bootLen := BitVec.ofNat 25 x } }

/-- A write of a register of the three pages (R506). -/
def writeReg (s : State) (off : Nat) (v : Bytes) : State :=
  let x := written s off v
  let r := off / 8 * 8
  if r = 0x200 then { s with host := { s.host with
      apView := BitVec.ofNat 4 x, apSlot := BitVec.ofNat 6 (bitsOf x 4 6), apBase := BitVec.ofNat 48 (bitsOf x 16 48) } }
  else if r = 0x300 then { s with host := { s.host with bootAddr := BitVec.ofNat 64 x } }
  else if r = 0x308 then writeBootLen s x
  else if r = 0x200018 then { s with trc := { s.trc with winSeq := BitVec.ofNat 32 x } }
  else s

/-- MBX_CTL written (R442, R443): OWN hands the command over; writing 0 to it has no effect. -/
def writeMbxCtl (s : State) (m x : Nat) : State :=
  let b := getMbx s m
  let s := modMbx s m (fun b => { b with irqEn := bitOf x 1 })
  if bitOf x 0 && !b.own then
    { modMbx s m (fun b => { b with own := true, st := .queued }) with ownOrder := s.ownOrder.filter (· != m) ++ [m] }
  else s

/-- MBX_EVT_CTL written, EN not going from 0 to 1 (R449): SIZE_LOG2 keeps its value while EN is 1 or when the new one is out of
range. -/
def writeEvtCtl (e : EvtRing) (x : Nat) : EvtRing :=
  let size := bitsOf x 0 5
  { e with
    sizeLog2 := if e.en || size < 6 || 16 < size then e.sizeLog2 else BitVec.ofNat 5 size
    en := bitOf x 8, holdoff := BitVec.ofNat 32 (bitsOf x 32 32) }

/-- A write in a mailbox page (R442, R443, R449); none where it completes with UNSUPPORTED. -/
def writeMbx (s : State) (m o n : Nat) (v : Bytes) : Option State :=
  if slotAccess 0 o n then
    some (modMbx s m (fun b =>
      if b.own then { b with discarded := BitVec.ofNat 32 (inc32 b.discarded.toNat) }
      else { b with cmd := BitVec.ofNat 512 (leNat (splice (slotBytes b.cmd) o v)) }))
  else if !regAligned o n then none
  else
    let x := regMerge ((mbxReg s m (o / 8 * 8)).getD 0) o v
    if o / 8 * 8 = 0x80 then
      some (if o % 8 = 0 then writeMbxCtl s m x else s)
    else if m != 0 then none
    else if o / 8 * 8 = 0xC0 then
      some (if s.evt.en then s else { s with evt := { s.evt with base := BitVec.ofNat 64 x } })
    else if o / 8 * 8 = 0xC8 then some { s with evt := writeEvtCtl s.evt x }
    else none

/-- A write or an ADD that no other row takes (R506): the fields set, or UNSUPPORTED. -/
def serveWrite (q : HtlReq) (s : State) : State :=
  let off := htlOff q
  let n := htlBytes q
  let v := fitBytes n q.payload
  if !htlSound q || htlType q != 2 || inTraceWindow off then complete s q htlUnsupported []
  else match mbxPage off with
    | some (m, o) => match writeMbx s m o n v with
      | none => complete s q htlUnsupported []
      | some s => complete s q htlOk []
    | none =>
      if regAligned off n && (reg64 s (off / 8 * 8)).isSome && regWritable off then complete (writeReg s off v) q htlOk []
      else complete s q htlUnsupported []

/-- The own row of a host's WRITE, if it has one. -/
def ownRow (s : State) (q : HtlReq) : Option OwnWrite :=
  if htlSound q && htlType q = 2 then ownWrite s (htlOff q) (htlBytes q) (fitBytes (htlBytes q) q.payload) else none

/-- REGISTER_WRITE (R435, R442, R443, R506): writes without a row of their own, and every malformed or reserved request. -/
def effRegisterWrite (req : HtlReq) (s : State) : State :=
  if !moduleUp s req.mdl.val || htlType req = 1 || htlType req = 4 || inAperture (htlOff req) || (ownRow s req).isSome then s
  else serveWrite req s

/-- Meaning of REGISTER_WRITE. -/
def execRegisterWrite (req : HtlReq) (s : State) : Out := .next (effRegisterWrite req s)

/-- A WRITE that belongs to an own row, on a module that is up. -/
def isOwn (s : State) (q : HtlReq) (r : OwnWrite) : Bool := moduleUp s q.mdl.val && ownRow s q == some r

/-- DEVICE_RESET (R480, R511): the COMPLETION goes first, then the leave notice, then the reset. -/
def effDeviceReset (req : HtlReq) (s : State) : State :=
  if !isOwn s req .reset then s
  else
    let x := written s (htlOff req) (fitBytes (htlBytes req) req.payload)
    let s := complete s req htlOk []
    if x = 0xA5C3 && !s.pwr.gaspActive then softReset s else s

/-- Meaning of DEVICE_RESET. -/
def execDeviceReset (req : HtlReq) (s : State) : Out := .next (effDeviceReset req s)

/-- GO taken (R512): the boot image is read in SECURE_BOOT from the host. -/
def bootRead (s : State) : State :=
  if s.pwr.phase = 3 && s.pwr.bootSel && !s.host.bootReading then
    let s := { s with host := { s.host with bootReading := true } }
    emit s (.hostRead (deviceModule s) (s.host.bootAddr.toNat / 64 * 64) s.host.bootLen.toNat)
  else s

/-- BOOT_GO (R512): a write of GLB_BOOT_LEN with GO set; its other fields are applied in any case. -/
def effBootGo (req : HtlReq) (s : State) : State :=
  if !isOwn s req .bootGo then s
  else bootRead (complete (writeBootLen s (written s (htlOff req) (fitBytes (htlBytes req) req.payload))) req htlOk [])

/-- Meaning of BOOT_GO. -/
def execBootGo (req : HtlReq) (s : State) : Out := .next (effBootGo req s)

/-- EVENT_RING_ENABLE (R449): EN goes from 0 to 1; HEAD and TAIL are 0. -/
def effEventRingEnable (req : HtlReq) (s : State) : State :=
  if !isOwn s req .ringEnable then s
  else
    let e := writeEvtCtl s.evt (written s (htlOff req) (fitBytes (htlBytes req) req.payload))
    complete { s with evt := { e with head := 0, tail := 0, issued := 0, flight := [], headMoved := false } } req htlOk []

/-- Meaning of EVENT_RING_ENABLE. -/
def execEventRingEnable (req : HtlReq) (s : State) : Out := .next (effEventRingEnable req s)

/-- EVENT_RING_TAIL_WRITE (R449, R450): room is freed; a loss is reported first. -/
def effEventRingTailWrite (req : HtlReq) (s : State) : State :=
  if !isOwn s req .tail then s
  else
    let x := written s (htlOff req) (fitBytes (htlBytes req) req.payload)
    evtOverflow (complete { s with evt := { s.evt with tail := BitVec.ofNat 32 x } } req htlOk [])

/-- Meaning of EVENT_RING_TAIL_WRITE. -/
def execEventRingTailWrite (req : HtlReq) (s : State) : Out := .next (effEventRingTailWrite req s)

/-- LGASP_CLEAR (R516): VALID cleared, the record zero. -/
def effLgaspClear (req : HtlReq) (s : State) : State :=
  if !isOwn s req .lgasp then s
  else complete { s with trc := { s.trc with lgaspValid := false, lgasp := 0 } } req htlOk []

/-- Meaning of LGASP_CLEAR. -/
def execLgaspClear (req : HtlReq) (s : State) : Out := .next (effLgaspClear req s)

/-! ### Event records on their way (R435, R450, R451) -/

/-- Tags given to the records that wait for one, oldest first. -/
def tagWaiting (s : State) : Nat → State
  | 0 => s
  | n + 1 =>
    match s.evt.flight.find? (fun w => w.tag.isNone), freeTag s.evt.flight with
    | some w, some t =>
      let m := deviceModule s
      let fl := modFirst (fun x => x == w) (fun x => { x with tag := some t, mdl := m }) s.evt.flight
      tagWaiting (emit { s with evt := { s.evt with flight := fl } } (.hostWrite m t w.addr w.data)) n
    | some _, none => s
    | none, some _ => s
    | none, none => s

/-- Vector 0 when HEAD has advanced (R451): at once, or at the hold-off's end. -/
def headInterrupt (s : State) : State :=
  let due := match s.evt.lastIrq with
    | none => true
    | some t => decide (t + s.evt.holdoff.toNat ≤ s.time)
  if due then raiseIrq { s with evt := { s.evt with lastIrq := some s.time, headMoved := false } } 0
  else { s with evt := { s.evt with headMoved := true } }

/-- HTL_COMPLETION (R434, R435, R450): the completion of an event record's write; HEAD passes every record completed in order. -/
def effHtlCompletion (req : HtlReq) (s : State) : State :=
  if !moduleUp s req.mdl.val || htlType req != 4 then s
  else
    let t := some (htlTag req)
    if !s.evt.flight.any (fun w => w.tag == t && !w.done && w.mdl == req.mdl.val) then s
    else
      let fl := s.evt.flight.map (fun w => if w.tag == t && !w.done then { w with done := true } else w)
      let n := (fl.takeWhile (fun w => w.done)).length
      let s := { s with evt := { s.evt with flight := fl.drop n, head := s.evt.head + BitVec.ofNat 32 n } }
      let s := tagWaiting s s.evt.flight.length
      if n = 0 then s else headInterrupt s

/-- Meaning of HTL_COMPLETION. -/
def execHtlCompletion (req : HtlReq) (s : State) : Out := .next (effHtlCompletion req s)

/-- EVENT_HOLDOFF_EXPIRY (R451): one more vector 0 at the end of a hold-off in which HEAD advanced. -/
def effEventHoldoffExpiry (s : State) : State :=
  match s.evt.lastIrq with
  | none => s
  | some t =>
    if !s.evt.headMoved then s
    else
      let s := timeTo s (t + s.evt.holdoff.toNat)
      raiseIrq { s with evt := { s.evt with lastIrq := some s.time, headMoved := false } } 0

/-- Meaning of EVENT_HOLDOFF_EXPIRY. -/
def execEventHoldoffExpiry (s : State) : Out := .next (effEventHoldoffExpiry s)

/-- The records whose module is down sent again on the one that is up (R436). -/
def reissue (s : State) : State :=
  let m := deviceModule s
  if !moduleUp s m then s
  else
    let lost := s.evt.flight.filter (fun w => w.tag.isSome && !w.done && !moduleUp s w.mdl)
    let fl := s.evt.flight.map (fun w => if w.tag.isSome && !w.done && !moduleUp s w.mdl then { w with mdl := m } else w)
    lost.foldl (fun s w => emit s (.hostWrite m (w.tag.getD 0) w.addr w.data)) { s with evt := { s.evt with flight := fl } }

/-- UCIE_MODULE_DOWN (R436): the device's requests move to the other module. -/
def effUcieModuleDown (mdl : ModuleId) (s : State) : State :=
  if !moduleUp s mdl.val then s
  else reissue { s with host := { s.host with ucieUp := modAt s.host.ucieUp mdl.val (fun _ => false) } }

/-- Meaning of UCIE_MODULE_DOWN. -/
def execUcieModuleDown (mdl : ModuleId) (s : State) : Out := .next (effUcieModuleDown mdl s)

/-- UCIE_MODULE_UP (R436, R482): a module has trained, which needs D1. -/
def effUcieModuleUp (mdl : ModuleId) (s : State) : State :=
  if moduleUp s mdl.val || !s.pwr.awake.testBit 1 then s
  else reissue { s with host := { s.host with ucieUp := modAt s.host.ucieUp mdl.val (fun _ => true) } }

/-- Meaning of UCIE_MODULE_UP. -/
def execUcieModuleUp (mdl : ModuleId) (s : State) : Out := .next (effUcieModuleUp mdl s)

/-! ### The sideband (R437, R508) -/

/-- An access over the sideband answered; counted as host requests are (R510). -/
def answerSide (s : State) (q : HtlReq) (status : Nat) (payload : Bytes) : State :=
  let s := emit s (.sideband q.mdl.val status (if status = 0 then payload else []))
  if status = 1 then { s with host := { s.host with unsupported := BitVec.ofNat 32 (inc32 s.host.unsupported.toNat) } } else s

/-- A register written over the sideband, with the effects that its mainband row has (R511, R512). -/
def sideWrite (s : State) (q : HtlReq) (off n : Nat) (v : Bytes) : State :=
  match ownWrite s off n v with
  | some .reset =>
    let x := written s off v
    let s := answerSide s q htlOk []
    if x = 0xA5C3 && !s.pwr.gaspActive then softReset s else s
  | some .bootGo => bootRead (answerSide (writeBootLen s (written s off v)) q htlOk [])
  | some .ringEnable => answerSide s q htlUnsupported []
  | some .tail => answerSide s q htlUnsupported []
  | some .lgasp => answerSide s q htlUnsupported []
  | none =>
    if (reg64 s (off / 8 * 8)).isSome && regWritable off then answerSide (writeReg s off v) q htlOk []
    else answerSide s q htlUnsupported []

/-- SIDEBAND_ACCESS (R437, R508): 4 or 8 bytes of the global and always-on pages, from KEEPER_BOOT on. -/
def effSidebandAccess (req : HtlReq) (s : State) : State :=
  let off := htlOff req
  let n := htlBytes req
  if !s.pwr.awake.testBit 1 then s
  else if !htlSound req || htlType req = 3 || 0x20000 ≤ off || !regAligned off n then answerSide s req htlUnsupported []
  else if htlType req = 1 then
    match windowRead s off n with
    | none => answerSide s req htlUnsupported []
    | some bs => answerSide (rcClear s off n) req htlOk bs
  else sideWrite s req off n (fitBytes n req.payload)

/-- Meaning of SIDEBAND_ACCESS. -/
def execSidebandAccess (req : HtlReq) (s : State) : Out := .next (effSidebandAccess req s)

end Sys2Proof.Machine
end

