-- ==== Sys2Proof/Machine/Aperture.lean ====
section
/-! DEFINITION. The HBM aperture: its views, reads, writes and adds (R423, R424, R438 to R441). -/

namespace Sys2Proof.Machine

/-- What an access through the aperture comes to: not allowed, a read of an uncorrectable sector, bytes, or an effect. -/
inductive ApRes where
  | refused
  | bad
  | bytes (b : Bytes)
  | done (s : State)

/-- The view's slot, if it is OPEN (R440). -/
def viewSlot (s : State) : Option Nat :=
  let i := s.host.apSlot.toNat
  if (getSlot s i).st == .open_ then some i else none

/-- Whether a slot has a step armed: DRY_FIT or SEALED (R262). -/
def stepArmed (sl : Slot) : Bool := sl.step.st == .dryFit || sl.step.st == .sealed

/-! ### Records of chunks -/

/-- Whether an uncorrectable sector lies in n bytes from an offset of a row's frame. -/
def frameBad (s : State) (t f o n : Nat) : Bool :=
  match pieceKey s t f (o / 512) with
  | none => false
  | some k => s.hbm.bad.any (fun b => b < k + o % 512 + n && k + o % 512 < b + 32)

/-- Where a view finds byte y of the chunks from a base on: the chunk, the plane and the offset in it (R440). -/
def viewPlace (sl : Slot) (a : Area) (base o : Nat) : Nat × Nat × Nat :=
  let w := if a == .pending then 1 else max 1 sl.ob.w
  (base + o / (4096 * w), o % (4096 * w) / 4096, o % 4096)

/-- The device whose shard a view shows: this one's, or the one that it mirrors. -/
def viewOwner (s : State) (sl : Slot) (a : Area) : Option Nat := if a == .primary then some (selfId s) else sl.tan.mirrorOf

/-- Whether the slot holds a chunk in a view. -/
def viewHolds (s : State) (sl : Slot) (a : Area) (g : Nat) : Bool :=
  g < jobChunks sl && (match viewOwner s sl a, ownerOf sl g with
    | some d, some o => d == o
    | some _, none => false
    | none, some _ => false
    | none, none => false)

/-- The tile and frame of a chunk's plane in an area. -/
def chunkFrame (sl : Slot) (a : Area) (g p : Nat) : Option (Nat × Nat) :=
  match rowOfChunk sl g with
  | none => none
  | some r => (rowFrame sl a (tileOfChunk g) r p).map (fun f => (tileOfChunk g, f))

/-- A read of a record (R440): zeros for a chunk that the slot does not hold. -/
def recordRead (s : State) (i : Nat) (a : Area) (base o n : Nat) : ApRes :=
  let sl := getSlot s i
  let v := viewPlace sl a base o
  if !viewHolds s sl a v.1 then .bytes (List.replicate n 0)
  else match chunkFrame sl a v.1 v.2.1 with
    | none => .bytes (List.replicate n 0)
    | some (t, f) => if frameBad s t f v.2.2 n then .bad else .bytes (((frameRead s t f).drop v.2.2).take n)

/-- HOST_WRITTEN (R441). -/
def hostWritten (s : State) (i : Nat) : State := modTan s i (fun t => { t with hostWritten := true })

/-- A write of a primary record (R440, R441), while no step is armed; what the slot does not hold keeps nothing of it. -/
def recordWrite (s : State) (i : Nat) (base o : Nat) (v : Bytes) : ApRes :=
  let sl := getSlot s i
  if stepArmed sl then .refused
  else
    let x := viewPlace sl .primary base o
    if !viewHolds s sl .primary x.1 then .done s
    else match chunkFrame sl .primary x.1 x.2.1 with
      | none => .done s
      | some (t, f) => .done (hostWritten (frameWrite s t f (splice (frameRead s t f) x.2.2 v)) i)

/-! ### Error memory -/

/-- Whether a parameter index has error-memory words (R88). -/
def ememHolds (h : Shard) (k : Nat) : Bool := h.ememFirst ≤ k && k < h.ememFirst + 1024 * h.ememChunks

/-- A byte of the error memory (R440): word copy (o mod 8) / 4 of an index. -/
def ememByte (h : Shard) (base y : Nat) : Byte :=
  let k := base + y / 8
  if !ememHolds h k then 0
  else (leBytes 4 (tget 0 (if y % 8 < 4 then h.emem0 else h.emem1) k).toNat).getD (y % 4) 0

/-- One byte of the error memory written. -/
def ememPut (h : Shard) (base y : Nat) (b : Byte) : Shard :=
  let k := base + y / 8
  if !ememHolds h k then h
  else
    let put (t : Tbl W32) : Tbl W32 := putWords t k [BitVec.ofNat 32 (putBits (tget 0 t k).toNat (8 * (y % 4)) 8 b.toNat)]
    if y % 8 < 4 then { h with emem0 := put h.emem0 } else { h with emem1 := put h.emem1 }

/-- A write of error-memory words, as of a primary record (R440, R441). -/
def ememWrite (s : State) (i : Nat) (base o : Nat) (v : Bytes) : ApRes :=
  if stepArmed (getSlot s i) then .refused
  else
    let h := (getSlot s i).shard
    let s := modShard s i (fun h => ((v.zip (List.range v.length)).foldl (fun h e => ememPut h base (o + e.2) e.1) h))
    .done (if (List.range v.length).any (fun y => ememHolds h (base + (o + y) / 8)) then hostWritten s i else s)

/-! ### Objects (R223, R224, R77, R99, R423) -/

/-- The size in bytes of host region r, and whether it is UNORDERED (R453). -/
def regionSize (h : Shard) (r : Nat) : Nat := natAt h.hostReg r % 2 ^ 15 * 2 ^ 20
/-- The UNORDERED flag of host region r. -/
def regionUnordered (h : Shard) (r : Nat) : Bool := bitOf (natAt h.hostReg r) 15

/-- The key of byte y of host region r. -/
def regionKey (r y : Nat) : Nat := r * 2 ^ 40 + y

/-- Bytes of a host region; zeros past its end. -/
def regionRead (h : Shard) (r y n : Nat) : Bytes :=
  (List.range n).map (fun k => if y + k < regionSize h r then tget 0 h.hostBytes (regionKey r (y + k)) else 0)

/-- Bytes written to a host region. -/
def regionWrite (h : Shard) (r y : Nat) (v : Bytes) : Shard :=
  { h with hostBytes := (v.zip (List.range v.length)).foldl (fun t e =>
      if e.1 = 0 then terase t (regionKey r (y + e.2)) else tset t (regionKey r (y + e.2)) e.1) h.hostBytes }

/-- The group entry as the aperture shows it (R223, R440): the current version, with STAGED while one waits. -/
def entryShown (g : GroupSet) : Nat :=
  match g.cur with
  | none => 0
  | some v => putBits v.entry.toNat 537 1 (b2n g.staged.isSome)

/-- The member-list entry of the device's table at an index, as far as a slot's groups use it (R223). -/
def listEntryAt (sl : Slot) (k : Nat) : Nat :=
  (sl.groups.findSome? (fun e => match e.2.cur with
    | none => none
    | some v => if geField v 576 22 ≤ k && k < geField v 576 22 + v.list.length then
        (v.list[k - geField v 576 22]?).map (fun x => x.toNat) else none)).getD 0

/-- Bytes y to y + n of an array of elements of w bytes. -/
def arrayBytes (w : Nat) (elem : Nat → Nat) (y n : Nat) : Bytes :=
  (List.range n).map (fun k => (leBytes w (elem ((y + k) / w))).getD ((y + k) % w) 0)

/-- A read of an object (R440). -/
def objectRead (s : State) (i code y n : Nat) : ApRes :=
  let sl := getSlot s i
  match code with
  | 1 => .bytes (arrayBytes 128 (fun g => entryShown (tget ⟨none, none, none, 0⟩ sl.groups g)) y n)
  | 2 => .bytes (arrayBytes 8 (listEntryAt sl) y n)
  | 3 => .bytes (arrayBytes 16 (fun k => (tget 0 sl.logRing k).toNat) y n)
  | 4 => .bytes (arrayBytes 4 (fun k => (sl.shard.map.getD k 0).toNat) y n)
  | 5 => .bytes (regionRead sl.shard 0 y n)
  | 6 => .bytes (regionRead sl.shard 1 y n)
  | 7 => .bytes (regionRead sl.shard 2 y n)
  | 8 => .bytes (regionRead sl.shard 3 y n)
  | _ => .refused

/-- The host region that an object code names (R440). -/
def regionOf (code : Nat) : Option Nat := if 5 ≤ code && code ≤ 8 then some (code - 5) else none

/-- A write of an object: host regions alone, within their size. -/
def objectWrite (s : State) (i code y : Nat) (v : Bytes) : ApRes :=
  match regionOf code with
  | none => .refused
  | some r =>
    if regionSize (getSlot s i).shard r < y + v.length then .refused
    else .done (modShard s i (fun h => regionWrite h r y v))

/-! ### RAW (R440) -/

/-- Bytes of a channel (R440). What service space or a mapped-out channel holds, Gorirgen's allocation decides: it is drawn. -/
def rawRead (s : State) (c a n : Nat) : ApRes × State :=
  let k := memKey c a
  if s.hbm.bad.any (fun b => b < k + n && k < b + 32) then (.bad, s)
  else if (getChan s c).st = 0 && a + n ≤ stateEnd s (c / 8) then (.bytes (memRead s.hbm.mem k n), s)
  else
    let d := drawFree s
    (.bytes ((List.range n).map (fun j => Config.serviceByte d.1 (k + j))), d.2)

/-! ### Accesses -/

/-- The object code and byte of the OBJECT view (R440). -/
def viewObject (s : State) (o : Nat) : Nat × Nat :=
  let b := s.host.apBase.toNat
  (bitsOf b 40 8, bitsOf b 0 40 + o)

/-- A read through the aperture at an offset (R440). -/
def apRead (s : State) (o n : Nat) : ApRes × State :=
  let base := s.host.apBase.toNat
  let v := s.host.apView.toNat
  if v = 0 then (if openCount s = 0 then rawRead s (base % 1024) o n else (.refused, s))
  else match viewSlot s with
    | none => (.refused, s)
    | some i =>
      match v with
      | 1 => (recordRead s i .primary base o n, s)
      | 2 => (recordRead s i .mirror base o n, s)
      | 3 => (recordRead s i .pending base o n, s)
      | 4 => (.bytes ((List.range n).map (fun k => ememByte (getSlot s i).shard base (o + k))), s)
      | 5 => (objectRead s i (viewObject s o).1 (viewObject s o).2 n, s)
      | _ => (.refused, s)

/-- A write through the aperture at an offset (R440, R441). -/
def apWrite (s : State) (o : Nat) (bs : Bytes) : ApRes :=
  let base := s.host.apBase.toNat
  let v := s.host.apView.toNat
  if v = 0 then
    (if openCount s = 0 then .done (pieceWrite s (memKey (base % 1024) o) bs) else .refused)
  else match viewSlot s with
    | none => .refused
    | some i =>
      match v with
      | 1 => recordWrite s i base o bs
      | 4 => ememWrite s i base o bs
      | 5 => objectWrite s i (viewObject s o).1 (viewObject s o).2 bs
      | _ => .refused

/-- An access completed. -/
def apComplete (q : HtlReq) (r : ApRes) (s : State) : State :=
  match r with
  | .refused => complete s q htlRefused []
  | .bad => complete s q htlDataError []
  | .bytes b => complete s q htlOk b
  | .done t => complete t q htlOk []

/-- Whether a request of a type goes to the aperture. -/
def isAperture (s : State) (q : HtlReq) (typ : Nat) : Bool :=
  moduleUp s q.mdl.val && htlType q == typ && inAperture (htlOff q)

/-- APERTURE_READ (R440). -/
def effApertureRead (req : HtlReq) (s : State) : State :=
  if !isAperture s req 1 then s
  else if !htlSound req then complete s req htlUnsupported []
  else
    let r := apRead s (htlOff req - 0x1000000) (htlBytes req)
    apComplete req r.1 r.2

/-- Meaning of APERTURE_READ. -/
def execApertureRead (req : HtlReq) (s : State) : Out := .next (effApertureRead req s)

/-- APERTURE_WRITE (R440, R441). -/
def effApertureWrite (req : HtlReq) (s : State) : State :=
  if !isAperture s req 2 then s
  else if !htlSound req then complete s req htlUnsupported []
  else apComplete req (apWrite s (htlOff req - 0x1000000) (fitBytes (htlBytes req) req.payload)) s

/-- Meaning of APERTURE_WRITE. -/
def execApertureWrite (req : HtlReq) (s : State) : Out := .next (effApertureWrite req s)

/-- The element size of an add (R423). -/
def addSize (aop : Nat) : Nat := match aop with
  | 0 => 16
  | 1 => 8
  | _ => 4

/-- One element added (R423): modulo 2^128 or 2^64, or in FP32 with RNE in preserve mode and no flags. -/
def addElem (aop a b : Nat) : Nat :=
  match aop with
  | 0 => (a + b) % 2 ^ 128
  | 1 => (a + b) % 2 ^ 64
  | _ =>
    let x := (decodeFp fmtFp32 false a).1
    let y := (decodeFp fmtFp32 false b).1
    (encodeVal fmtFp32 .rne 0 false (addVal .rne x y).1).1

/-- An ADD to a host region: aligned whole elements within it, FP32 only where it is UNORDERED (R423, R440). -/
def apAdd (s : State) (aop o : Nat) (v : Bytes) : ApRes :=
  match viewSlot s with
  | none => .refused
  | some i =>
    let h := (getSlot s i).shard
    let y := (viewObject s o).2
    let w := addSize aop
    match (if s.host.apView = 5 then regionOf (viewObject s o).1 else none) with
    | none => .refused
    | some r =>
      if y % w != 0 || v.length % w != 0 || regionSize h r < y + v.length || (aop = 2 && !regionUnordered h r) then .refused
      else
        let n := v.length / w
        let sums := ((wordsOf w n (regionRead h r y v.length)).zip (wordsOf w n v)).map (fun e => addElem aop e.1 e.2)
        .done (modShard s i (fun h => regionWrite h r y (bytesOfWords w sums)))

/-- APERTURE_ADD (R423, R440). -/
def effApertureAdd (req : HtlReq) (s : State) : State :=
  if !isAperture s req 3 then s
  else if !htlSound req then complete s req htlUnsupported []
  else apComplete req (apAdd s (htlAop req) (htlOff req - 0x1000000) (fitBytes (htlBytes req) req.payload)) s

/-- Meaning of APERTURE_ADD. -/
def execApertureAdd (req : HtlReq) (s : State) : Out := .next (effApertureAdd req s)

end Sys2Proof.Machine
end

