-- ==== Sys2Proof/Machine/Bench.lean ====
section
/-! DEFINITION. The Septone commands as they issue (R135, R136, R180 to R207): each runs when the next event of its slot's bench is
an issue of its opcode, is audited, and then acts on every guarded lane. -/

namespace Sys2Proof.Machine

/-! ### Registers -/

/-- The words of a vector register; zero where it is UNWRITTEN (R182). -/
def vData (b : Bench) (n : Nat) : Lanes W32 := ((tget? b.v n).map (fun r => r.data)).getD (lconst 0)
/-- The bits of a predicate register. -/
def pData (b : Bench) (n : Nat) : Lanes Bool := ((tget? b.p n).map (fun r => r.data)).getD (lconst false)
/-- A staging row. -/
def sRow (b : Bench) (n : Nat) : SRow := tget srowInit b.srows n

/-- The value in each lane of what a register field names. -/
def useLanes (b : Bench) (u : Use) (n : Nat) : Lanes Nat :=
  match u with
  | .v => lmap BitVec.toNat (vData b n)
  | .d => lzip (fun lo hi => lo.toNat + hi.toNat * 2 ^ 32) (vData b n) (vData b (n + 1))
  | .p => lmap b2n (pData b n)
  | .none => lconst 0
  | .e => lconst 0
  | .w => lconst 0

/-- A vector register written where a lane has a result, ready at a cycle. -/
def putV (b : Bench) (n ready : Nat) (r : Lanes (Option Nat)) : Bench :=
  { b with v := tset b.v n ⟨lzip (fun old x => (x.map (BitVec.ofNat 32)).getD old) (vData b n) r, ready⟩ }

/-- A predicate register written where a lane has a result. -/
def putP (b : Bench) (n ready : Nat) (r : Lanes (Option Nat)) : Bench :=
  { b with p := tset b.p n ⟨lzip (fun old x => (x.map (· == 1)).getD old) (pData b n) r, ready⟩ }

/-- A destination written (R182): a guarded-off lane keeps its value. -/
def putUse (b : Bench) (u : Use) (n ready : Nat) (r : Lanes (Option Nat)) : Bench :=
  match u with
  | .v => putV b n ready r
  | .d => putV (putV b n ready r) (n + 1) ready (lmap (fun x => x.map (· / 2 ^ 32)) r)
  | .p => putP b n ready r
  | .none => b
  | .e => b
  | .w => b

/-! ### Issue (R139, R197, R535) -/

/-- The values that a register field names. -/
def useOpnds (u : Use) (n : Nat) : List Opnd :=
  match u with
  | .v => [.v n]
  | .d => [.v n, .v (n + 1)]
  | .p => [.p n]
  | .e => [.e n]
  | .w => [.w n]
  | .none => []

/-- The row that SW names. -/
def swRow (cmd : W64) : Nat := cSW cmd / 4
/-- The part that SW names. -/
def swPart (cmd : W64) : Nat := cSW cmd % 4

/-- What a command reads: A, B and C, the destination that a refinement or an exact sum starts from, the guard, its rows. -/
def sepReads (x : Sep) (cmd : W64) (scalar : Bool) : List Opnd :=
  let op := cOp cmd
  let b := if scalar then [] else useOpnds x.b (cB cmd)
  let d := if op = 0x51 || op = 0x53 || x.cls = 9 then useOpnds x.d (cD cmd) else []
  let g := if cGE cmd && op != 0x17 then [Opnd.p (cPG cmd)] else []
  let r := if op = 0x60 || op = 0x64 then [Opnd.s (swRow cmd)]
    else if op = 0x61 then [Opnd.s (swRow cmd), Opnd.s ((swRow cmd + 1) % 64)] else []
  (if op = 0x17 then [] else useOpnds x.a (cA cmd) ++ b ++ useOpnds x.c (cC cmd)) ++ d ++ g ++ r

/-- What a command writes: its destination and its rows. -/
def sepWrites (x : Sep) (cmd : W64) : List Opnd :=
  let op := cOp cmd
  (if x.cls = 9 then [] else useOpnds x.d (cD cmd))
    ++ (if op = 0x62 then [Opnd.s (swRow cmd)]
      else if op = 0x63 then [Opnd.s (swRow cmd), Opnd.s ((swRow cmd + 1) % 64)] else [])

/-- What a command's meaning is given: the slot and its bench after the issue, the issue, the command, its row of R184, its scalar
and the cycle in which its results are written. -/
structure BenchIn where
  i : Nat
  sl : Slot
  x : Issue
  cmd : W64
  sep : Sep
  scalar : Option W64
  ready : Nat
  deriving DecidableEq, Repr

/-- The state in which a command takes effect: its issue has left the queue. -/
def issued (s : State) (i : Nat) (x : Issue) (lat : Nat) : State :=
  modBench s i (fun b => { takeIssue b x with flightEnd := max b.flightEnd (x.cycle + lat) })

/-- A BENCH issue of an opcode: audited, then given its effect. -/
def benchRow (op : Nat) (f : BenchIn → State → State) (slot : SlotId) (s : State) : State :=
  let i := slot.val
  match nextIssue s i with
  | none => s
  | some x =>
    match x.op with
    | .bench cmd sc =>
      match sepOf cmd with
      | none => s
      | some p =>
        if cOp cmd != op then s
        else
          let s := atCycle s i x.cycle
          match audit (getSlot s i).bench x.cycle (sepReads p cmd sc.isSome) (sepWrites p cmd) with
          | some (c, o) => settled (issueFault s i x c none o) i
          | none =>
            let s := issued s i x (classTimes p.cls).2
            settled (f ⟨i, getSlot s i, x, cmd, p, sc, x.cycle + (classTimes p.cls).2⟩ s) i
    | .moveIn _ _ _ _ => s
    | .moveOut _ _ _ _ => s
    | .drain _ _ => s
    | .emitState _ _ _ => s
    | .emitServe _ => s
    | .cadence _ _ _ => s
    | .fault _ => s

/-! ### Lanes -/

/-- What a lane's operation is given: the values of A, B, C and D, and whether the guard lets the lane take part. -/
structure LaneIn where
  a : Nat
  b : Nat
  c : Nat
  d : Nat
  on : Bool
  deriving DecidableEq, Repr

/-- What every lane of a command shares: the subnormal mode, the rounding mode, RM's code, FMT or TT, IMM. -/
structure LaneCtx where
  flush : Bool
  rm : RMode
  rmCode : Nat
  tt : Nat
  imm : Nat
  deriving DecidableEq, Repr

/-- The shared part of a command. -/
def laneCtx (y : BenchIn) : LaneCtx := ⟨y.sl.ob.flush, rmode (cRM y.cmd), cRM y.cmd, cFmt y.cmd, (cImm y.cmd).toNat⟩

/-- The values that a command's B operand has: the scalar in place of the register (R181). -/
def bLanes (y : BenchIn) : Lanes Nat :=
  match y.scalar with
  | none => useLanes y.sl.bench y.sep.b (cB y.cmd)
  | some v => lconst (if y.sep.b == .d then v.toNat else v.toNat % 2 ^ 32)

/-- The operands of every lane (R182). BCAST.I has none. -/
def laneIns (y : BenchIn) : Lanes LaneIn :=
  let b := y.sl.bench
  if cOp y.cmd = 0x17 then lconst ⟨0, 0, 0, 0, true⟩
  else
    let ab := lzip Prod.mk (useLanes b y.sep.a (cA y.cmd)) (bLanes y)
    let cd := lzip Prod.mk (useLanes b y.sep.c (cC y.cmd)) (useLanes b y.sep.d (cD y.cmd))
    let g := if cGE y.cmd then pData b (cPG y.cmd) else lconst true
    lzip (fun v g => ⟨v.1.1, v.1.2, v.2.1, v.2.2, g⟩) (lzip Prod.mk ab cd) g

/-- Every bench lane listed. -/
def lfull {α : Type} (l : Lanes α) : Lanes α := ⟨l.base, (List.range 32768).map (fun k => (k, lget l k))⟩

/-- The lanes that take part, each with how many lanes it stands for: those listed, and the rest together. -/
def lanesOn (l : Lanes LaneIn) : List (LaneIn × Nat) :=
  (l.exc.map (fun (e : Nat × LaneIn) => (e.2, 1)) ++ [(l.base, lrest 32768 l)]).filter (fun (e : LaneIn × Nat) => e.1.on && 0 < e.2)

/-- The results of the lanes that take part. -/
def laneResults (f : Nat → LaneIn → Flagged Nat) (l : Lanes LaneIn) : Lanes (Option (Flagged Nat)) :=
  let g (k : Nat) (x : LaneIn) : Option (Flagged Nat) := if x.on then some (f k x) else none
  lmapAt (g 0) g l

/-- The flags that the lanes set, ORed together. -/
def laneFlags (l : Lanes (Option (Flagged Nat))) : NFlags :=
  nfJoin ((l.exc.map Prod.snd ++ (if 0 < lrest 32768 l then [l.base] else [])).map (fun x => (x.map Prod.snd).getD nfNone))

/-- Results written to the destination, flags set (R136, R182). -/
def finishLanes (y : BenchIn) (r : Lanes (Option (Flagged Nat))) (s : State) : State :=
  let s := modBench s y.i (fun b => putUse b y.sep.d (cD y.cmd) y.ready (lmap (fun x => x.map Prod.fst) r))
  setFlags s y.i (laneFlags r)

/-- A command whose lanes depend on their operands alone. -/
def laneRow (op : Nat) (f : LaneCtx → LaneIn → Flagged Nat) (slot : SlotId) (s : State) : State :=
  benchRow op (fun y s => finishLanes y (laneResults (fun _ x => f (laneCtx y) x) (laneIns y)) s) slot s

/-! ### Casts with dither (R187, R188) -/

/-- The element index of a lane in the staging word that SW names (R129, R188): c = 0 where the row has no chunk. -/
def laneIndex (s : State) (sl : Slot) (cmd : W64) (lane : Nat) : Nat :=
  let c := ((srcChunk s sl (sRow sl.bench (swRow cmd)).src (lane / 256)).map (1024 * ·)).getD 0
  c + 256 * swPart cmd + lane % 256

/-- CVT.TO: in mode SR every lane draws its own dither word, keyed with the step of the program. -/
def castRow (slot : SlotId) (s : State) : State :=
  benchRow 0x20 (fun y s =>
    let m := rmode (cRM y.cmd)
    let r (k : Nat) : Nat := if cRM y.cmd = 4 then dither y.sl.ob.seed (progStep y.sl) (laneIndex s y.sl y.cmd k) (cStream y.cmd) else 0
    let ins := if cRM y.cmd = 4 then lfull (laneIns y) else laneIns y
    finishLanes y (laneResults (fun k x => cvtTo (cFmt y.cmd) m (r k) y.sl.ob.flush x.a) ins) s) slot s

/-! ### Staging access (R189, R190) -/

/-- The part of a staging row. -/
def rowPart (b : Bench) (row q : Nat) : Lanes W32 := (sRow b row).parts.getD q (lconst 0)

/-- Word k of the two-row array at a row, for lane j of a section (R190). -/
def pairWord (b : Bench) (row k lane : Nat) : W32 :=
  let r := if k < 1024 then row else (row + 1) % 64
  lget (rowPart b r (k % 1024 / 256)) (lane / 256 * 256 + k % 256)

/-- The element that LOAD.D moves in a lane: element 256q + j of the array (R190). -/
def pairElement (b : Bench) (row q lane : Nat) : Nat :=
  let e := 256 * q + lane % 256
  (pairWord b row (2 * e) lane).toNat + (pairWord b row (2 * e + 1) lane).toNat * 2 ^ 32

/-- The lanes on which an array of two rows is not the same everywhere: those of the tiles that any part lists. -/
def pairLanes (b : Bench) (row : Nat) : List Nat :=
  let ps := (sRow b row).parts ++ (sRow b ((row + 1) % 64)).parts
  ((ps.flatMap (fun p => p.exc.map (fun e => e.1 / 256))).mergeSort.eraseDups).flatMap (fun t => (List.range 256).map (256 * t + ·))

/-- LOAD and LOAD.D: the value of each lane is that of its staging word, or of its element of the array. On a tile that no part lists
every word of a part is the same; the two halves of an element lie in parts of one row, so a lane there depends on its place only
through the part. -/
def loadLanes (op : Nat) (b : Bench) (cmd : W64) : Lanes Nat :=
  if op = 0x60 then lmap BitVec.toNat (rowPart b (swRow cmd) (swPart cmd))
  else
    let all := (List.range 4).all (fun q => (rowPart b (swRow cmd) q).base == (rowPart b (swRow cmd) 0).base
      && (rowPart b ((swRow cmd + 1) % 64) q).base == (rowPart b ((swRow cmd + 1) % 64) 0).base)
    let keys := if all then pairLanes b (swRow cmd) else List.range 32768
    let r := if swPart cmd < 2 then swRow cmd else (swRow cmd + 1) % 64
    let w := (rowPart b r 0).base.toNat
    ⟨w + w * 2 ^ 32, keys.map (fun k => (k, pairElement b (swRow cmd) (swPart cmd) k))⟩

/-- LOAD and LOAD.D (R189, R190). -/
def loadRow (op : Nat) (slot : SlotId) (s : State) : State :=
  benchRow op (fun y s =>
    let l := lzip (fun v x => ({ x with a := v } : LaneIn)) (loadLanes op y.sl.bench y.cmd) (laneIns y)
    finishLanes y (laneResults (fun _ x => (x.a, nfNone)) l) s) slot s

/-- A staging row with one part written where a lane has a value, ready at a cycle. -/
def putPart (b : Bench) (row q ready : Nat) (r : Lanes (Option Nat)) : Bench :=
  let old := sRow b row
  let part := lzip (fun o x => (x.map (BitVec.ofNat 32)).getD o) (old.parts.getD q (lconst 0)) r
  { b with srows := tset b.srows row { old with parts := old.parts.set q part, ready := ready } }

/-- The staging lanes that hold word 2e + h of the elements that STORE.D writes: lane j of part q writes words 2 (256 q + j) and the
next, which lie in lanes 2j mod 256 and the next of part 2q + j / 128 of the array. -/
def storeHalves (q : Nat) (l : Lanes (Option Nat)) (part : Nat) : Lanes (Option Nat) :=
  ⟨none, (List.range 32768).filterMap (fun k =>
    let w := 256 * part + k % 256
    let e := w / 2
    if e / 256 != q then none
    else match lget l (k / 256 * 256 + e % 256) with
      | none => none
      | some v => some (k, some (if w % 2 = 0 then v % 2 ^ 32 else v / 2 ^ 32)))⟩

/-- STORE and STORE.D (R189, R190): STORE.D sets the ready tags of both rows. -/
def storeRow (op : Nat) (slot : SlotId) (s : State) : State :=
  benchRow op (fun y s =>
    let v := lmap (fun x => if x.on then some x.a else none) (laneIns y)
    let r := swRow y.cmd
    let q := swPart y.cmd
    modBench s y.i (fun b =>
      if op = 0x62 then putPart b r q y.ready v
      else
        let row := fun k => if k < 4 then r else (r + 1) % 64
        let b := putPart (putPart b r 0 y.ready (lconst none)) ((r + 1) % 64) 0 y.ready (lconst none)
        [2 * q, 2 * q + 1].foldl (fun b k => putPart b (row k) (k % 4) y.ready (storeHalves q v k)) b)) slot s

/-! ### Shadow checks (R205, R206, R219 to R221) -/

/-- SHSEL (R205): the shadow sample bit of each tile's chunk, zero without a chunk. -/
def shselRow (slot : SlotId) (s : State) : State :=
  benchRow 0x64 (fun y s =>
    let src := (sRow y.sl.bench (swRow y.cmd)).src
    let tiles := (List.range 128).filter (fun t => match srcChunk s y.sl src t with
      | none => false
      | some g => shadowSample y.sl.ob.jobId (progStep y.sl) g y.sl.ob.shadowRate)
    let bits : Lanes (Option Nat) :=
      ⟨some 0, tiles.flatMap (fun t => (List.range 256).map (fun j => (256 * t + j, some 1)))⟩
    modBench s y.i (fun b => putP b (cD y.cmd) y.ready bits)) slot s

/-- The lowest bench lane that satisfies a test. -/
def lowestLane (l : Lanes Bool) : Option Nat := (List.range 32768).find? (lget l)

/-- The SHADOW record of a command with disagreeing lanes (R219): INDEX ends in the lane's place, and the row it lies in is a free
value, since SHCHK names none. -/
def shadowRecord (y : BenchIn) (draw count lane : Nat) (v : LaneIn) : BitVec 384 :=
  let sl := y.sl
  watchRecord { sl with step := { sl.step with num := progStep sl } } { watchKind 1 with
    count := count, index := 256 * (Config.shadowRow draw).toNat + lane % 256, pc := y.x.pc, block := y.x.blockIdx
    cycle := ofSigned 24 ((y.x.cycle : Int) - sl.bench.base), segment := sl.bench.segment, aValue := v.a, bValue := v.b }

/-- SHCHK: counts at issue, and one record visible at T + 64 where a lane disagrees. -/
def shchkRow (slot : SlotId) (s : State) : State :=
  benchRow 0x39 (fun y s =>
    let ins := laneIns y
    let tol := cTol y.cmd
    let absx := toSigned 8 (cSW y.cmd)
    let bad (x : LaneIn) : Bool := x.on && !shadowAgree x.a x.b tol absx
    let n := ((lanesOn ins).filter (fun e => bad e.1)).foldl (fun n e => n + e.2) 0
    let on := (lanesOn ins).foldl (fun n e => n + e.2) 0
    let s := modSlot s y.i (fun sl => { sl with watch := { sl.watch with
      shchk := inc32 sl.watch.shchk
      lanes := satAdd 64 sl.watch.lanes on
      disCmds := if n = 0 then sl.watch.disCmds else inc32 sl.watch.disCmds
      disLanes := satAdd 64 sl.watch.disLanes n } })
    match lowestLane (lmap bad ins) with
    | none => s
    | some k =>
      let (d, s) := drawFree s
      modBench s y.i (fun b => putFlight b ⟨y.x.cycle + 64, y.x.cycle, .shadow (shadowRecord y d n k (lget ins k))⟩)) slot s

/-! ### Accumulators and exact sums (R196 to R203) -/

/-- An exponent accumulator changed. -/
def modE (b : Bench) (n : Nat) (f : EAcc → EAcc) : Bench := { b with e := b.e.setIfInBounds n (f (b.e.getD n eAccInit)) }
/-- A sum accumulator changed. -/
def modW (b : Bench) (n : Nat) (f : WAcc → WAcc) : Bench := { b with w := b.w.setIfInBounds n (f (b.w.getD n wAccInit)) }

/-- ECLR (R197). -/
def eclrRow (slot : SlotId) (s : State) : State :=
  benchRow 0x70 (fun y s => modBench s y.i (fun b => modE b (cD y.cmd) (fun a =>
    { a with exp := expZero, nonFinite := false, written := true, ready := y.ready }))) slot s

/-- WSET (R197): the window from the scalar's low 16 bits. -/
def wsetRow (slot : SlotId) (s : State) : State :=
  benchRow 0x71 (fun y s => modBench s y.i (fun b => modW b (cD y.cmd) (fun a =>
    { wAccInit with emax := toSigned 16 ((y.scalar.map BitVec.toNat).getD 0), written := true, ready := y.ready, busy := a.busy }))) slot s

/-- One lane's term taken into an exponent accumulator (R198). -/
def eAdd (dbl flush : Bool) (kind : Nat) (a : EAcc) (x : LaneIn) : EAcc :=
  match expOf (sumTerm dbl flush kind x.a x.b).1 with
  | none => { a with nonFinite := true }
  | some e => { a with exp := max a.exp e }

/-- The terms of n equal lanes placed into a sum accumulator (R199). -/
def wAdd (dbl flush : Bool) (kind : Nat) (a : WAcc) (x : LaneIn × Nat) : WAcc :=
  let v := (sumTerm dbl flush kind x.1.a x.1.b).1
  let p := placeVal (windowBase a.emax) v
  { a with
    w := a.w + BitVec.ofInt 128 (p.grid * (x.2 : Int))
    count := satAdd 64 a.count x.2
    floorHits := satAdd 32 a.floorHits (b2n p.floorHit * x.2)
    clamps := satAdd 32 a.clamps (b2n p.clamped * x.2)
    nonFinite := a.nonFinite || p.nonFinite
    overWin := a.overWin || (match expOf v with
      | some e => decide (a.emax < e)
      | none => false) }

/-- The flags of reading the operands of an exact sum (R44). -/
def sumFlags (dbl flush : Bool) (kind : Nat) (xs : List (LaneIn × Nat)) : NFlags :=
  nfJoin (xs.map (fun e => (sumTerm dbl flush kind e.1.a e.1.b).2))

/-- What an exponent accumulator hands to the cadence engine. -/
def eOperand (a : EAcc) : CadPart := partExp a.exp a.nonFinite
/-- What a sum accumulator hands to the cadence engine. -/
def wOperand (a : WAcc) : CadPart :=
  { partZero with
    w := a.w, emax := a.emax, count := a.count, overWin := a.overWin, nonFinite := a.nonFinite, floorHits := a.floorHits
    clamps := a.clamps }

/-- A fused collective's launch put in flight for T + 80 (R200, R203). -/
def fuseLaunch (b : Bench) (y : BenchIn) (opc : Nat) (own : CadPart) : Bench :=
  putFlight b ⟨y.x.cycle + 80, y.x.cycle, .launch true opc (cGroup y.cmd) (cSW y.cmd) own none 0 y.x.pc b.segment⟩

/-- MAXEXP and MAXEXP.ALL (R198, R200). -/
def maxexpRow (op : Nat) (slot : SlotId) (s : State) : State :=
  benchRow op (fun y s =>
    let n := cD y.cmd
    let xs := lanesOn (laneIns y)
    let dbl := cDbl y.cmd
    let flush := y.sl.ob.flush
    let s := modBench s y.i (fun b =>
      let b := modE b n (fun a => { xs.foldl (fun a x => eAdd dbl flush (cRM y.cmd) a x.1) a with busy := y.x.cycle + 80 })
      if op = 0x73 then modE (fuseLaunch b y ocMaxExp (eOperand (b.e.getD n eAccInit))) n (fun a => { a with written := false }) else b)
    setFlags s y.i (sumFlags dbl flush (cRM y.cmd) xs)) slot s

/-- SUM, NORM, DOT and their .ALL forms (R199, R200). -/
def sumRow (op kind : Nat) (slot : SlotId) (s : State) : State :=
  benchRow op (fun y s =>
    let n := cD y.cmd
    let xs := lanesOn (laneIns y)
    let dbl := cDbl y.cmd
    let flush := y.sl.ob.flush
    let s := modBench s y.i (fun b =>
      let b := modW b n (fun a => { xs.foldl (wAdd dbl flush kind) a with busy := y.x.cycle + 80 })
      if isFused op then modW (fuseLaunch b y ocSumW128 (wOperand (b.w.getD n wAccInit))) n (fun a => { a with written := false }) else b)
    setFlags s y.i (sumFlags dbl flush kind xs)) slot s

/-- BARRIER.STEP (R203). -/
def barrierRow (slot : SlotId) (s : State) : State :=
  benchRow 0x7A (fun y s => modBench s y.i (fun b => fuseLaunch b y ocBarrier partZero)) slot s

/-! ### One meaning for each command (R184) -/

/-- FADD: d ← a + b, FP32. -/
def effSepFadd (slot : SlotId) (s : State) : State := laneRow 0x01 (fun c x => arith2 fmtFp32 c.rm c.flush (addVal c.rm) x.a x.b) slot s
/-- Meaning of FADD. -/
def execSepFadd (slot : SlotId) (s : State) : Out := .next (effSepFadd slot s)
/-- FSUB: d ← a − b. -/
def effSepFsub (slot : SlotId) (s : State) : State := laneRow 0x02 (fun c x => arith2 fmtFp32 c.rm c.flush (subVal c.rm) x.a x.b) slot s
/-- Meaning of FSUB. -/
def execSepFsub (slot : SlotId) (s : State) : Out := .next (effSepFsub slot s)
/-- FMUL: d ← a × b. -/
def effSepFmul (slot : SlotId) (s : State) : State := laneRow 0x03 (fun c x => arith2 fmtFp32 c.rm c.flush (mulVal) x.a x.b) slot s
/-- Meaning of FMUL. -/
def execSepFmul (slot : SlotId) (s : State) : Out := .next (effSepFmul slot s)
/-- FFMA: d ← a × b + c, one rounding. -/
def effSepFfma (slot : SlotId) (s : State) : State := laneRow 0x04 (fun c x => arithFma fmtFp32 c.rm c.flush false x.a x.b x.c) slot s
/-- Meaning of FFMA. -/
def execSepFfma (slot : SlotId) (s : State) : Out := .next (effSepFfma slot s)
/-- FFNMA: d ← −(a × b) + c, one rounding. -/
def effSepFfnma (slot : SlotId) (s : State) : State := laneRow 0x05 (fun c x => arithFma fmtFp32 c.rm c.flush true x.a x.b x.c) slot s
/-- Meaning of FFNMA. -/
def execSepFfnma (slot : SlotId) (s : State) : Out := .next (effSepFfnma slot s)
/-- FMIN. -/
def effSepFmin (slot : SlotId) (s : State) : State := laneRow 0x06 (fun c x => arith2 fmtFp32 c.rm c.flush (minVal) x.a x.b) slot s
/-- Meaning of FMIN. -/
def execSepFmin (slot : SlotId) (s : State) : Out := .next (effSepFmin slot s)
/-- FMAX. -/
def effSepFmax (slot : SlotId) (s : State) : State := laneRow 0x07 (fun c x => arith2 fmtFp32 c.rm c.flush (maxVal) x.a x.b) slot s
/-- Meaning of FMAX. -/
def execSepFmax (slot : SlotId) (s : State) : Out := .next (effSepFmax slot s)
/-- FABS. -/
def effSepFabs (slot : SlotId) (s : State) : State := laneRow 0x08 (fun c x => signOp c.flush (fun _ => false) x.a) slot s
/-- Meaning of FABS. -/
def execSepFabs (slot : SlotId) (s : State) : Out := .next (effSepFabs slot s)
/-- FNEG. -/
def effSepFneg (slot : SlotId) (s : State) : State := laneRow 0x09 (fun c x => signOp c.flush (fun n => !n) x.a) slot s
/-- Meaning of FNEG. -/
def execSepFneg (slot : SlotId) (s : State) : Out := .next (effSepFneg slot s)
/-- FSIGN. -/
def effSepFsign (slot : SlotId) (s : State) : State := laneRow 0x0A (fun c x => fsign c.flush x.a) slot s
/-- Meaning of FSIGN. -/
def execSepFsign (slot : SlotId) (s : State) : Out := .next (effSepFsign slot s)
/-- FCMP: P[D] ← a cond b. -/
def effSepFcmp (slot : SlotId) (s : State) : State := laneRow 0x0B (fun c x => let r := compare fmtFp32 c.flush c.rmCode x.a x.b; (b2n r.1, r.2)) slot s
/-- Meaning of FCMP. -/
def execSepFcmp (slot : SlotId) (s : State) : Out := .next (effSepFcmp slot s)
/-- SEL: d ← P[C] ? a : b. -/
def effSepSel (slot : SlotId) (s : State) : State := laneRow 0x0C (fun _ x => (if x.c = 1 then x.a else x.b, nfNone)) slot s
/-- Meaning of SEL. -/
def execSepSel (slot : SlotId) (s : State) : Out := .next (effSepSel slot s)
/-- MOV: d ← b. -/
def effSepMov (slot : SlotId) (s : State) : State := laneRow 0x0D (fun _ x => (x.b, nfNone)) slot s
/-- Meaning of MOV. -/
def execSepMov (slot : SlotId) (s : State) : Out := .next (effSepMov slot s)
/-- PLOG: P[D] ← TT bit. -/
def effSepPlog (slot : SlotId) (s : State) : State := laneRow 0x0E (fun c x => (b2n (plog c.tt (x.a == 1) (x.b == 1)), nfNone)) slot s
/-- Meaning of PLOG. -/
def execSepPlog (slot : SlotId) (s : State) : Out := .next (effSepPlog slot s)
/-- IADD. -/
def effSepIadd (slot : SlotId) (s : State) : State := laneRow 0x0F (fun _ x => ((intOp 0x0F (BitVec.ofNat 32 x.a) (BitVec.ofNat 32 x.b)).toNat, nfNone)) slot s
/-- Meaning of IADD. -/
def execSepIadd (slot : SlotId) (s : State) : Out := .next (effSepIadd slot s)
/-- ISUB. -/
def effSepIsub (slot : SlotId) (s : State) : State := laneRow 0x10 (fun _ x => ((intOp 0x10 (BitVec.ofNat 32 x.a) (BitVec.ofNat 32 x.b)).toNat, nfNone)) slot s
/-- Meaning of ISUB. -/
def execSepIsub (slot : SlotId) (s : State) : Out := .next (effSepIsub slot s)
/-- AND. -/
def effSepAnd (slot : SlotId) (s : State) : State := laneRow 0x11 (fun _ x => ((intOp 0x11 (BitVec.ofNat 32 x.a) (BitVec.ofNat 32 x.b)).toNat, nfNone)) slot s
/-- Meaning of AND. -/
def execSepAnd (slot : SlotId) (s : State) : Out := .next (effSepAnd slot s)
/-- OR. -/
def effSepOr (slot : SlotId) (s : State) : State := laneRow 0x12 (fun _ x => ((intOp 0x12 (BitVec.ofNat 32 x.a) (BitVec.ofNat 32 x.b)).toNat, nfNone)) slot s
/-- Meaning of OR. -/
def execSepOr (slot : SlotId) (s : State) : Out := .next (effSepOr slot s)
/-- XOR. -/
def effSepXor (slot : SlotId) (s : State) : State := laneRow 0x13 (fun _ x => ((intOp 0x13 (BitVec.ofNat 32 x.a) (BitVec.ofNat 32 x.b)).toNat, nfNone)) slot s
/-- Meaning of XOR. -/
def execSepXor (slot : SlotId) (s : State) : Out := .next (effSepXor slot s)
/-- SHL. -/
def effSepShl (slot : SlotId) (s : State) : State := laneRow 0x14 (fun _ x => ((intOp 0x14 (BitVec.ofNat 32 x.a) (BitVec.ofNat 32 x.b)).toNat, nfNone)) slot s
/-- Meaning of SHL. -/
def execSepShl (slot : SlotId) (s : State) : Out := .next (effSepShl slot s)
/-- SHR. -/
def effSepShr (slot : SlotId) (s : State) : State := laneRow 0x15 (fun _ x => ((intOp 0x15 (BitVec.ofNat 32 x.a) (BitVec.ofNat 32 x.b)).toNat, nfNone)) slot s
/-- Meaning of SHR. -/
def execSepShr (slot : SlotId) (s : State) : Out := .next (effSepShr slot s)
/-- SAR. -/
def effSepSar (slot : SlotId) (s : State) : State := laneRow 0x16 (fun _ x => ((intOp 0x16 (BitVec.ofNat 32 x.a) (BitVec.ofNat 32 x.b)).toNat, nfNone)) slot s
/-- Meaning of SAR. -/
def execSepSar (slot : SlotId) (s : State) : Out := .next (effSepSar slot s)
/-- BCAST.I: d ← IMM in every lane. -/
def effSepBcastI (slot : SlotId) (s : State) : State := laneRow 0x17 (fun c _ => (c.imm, nfNone)) slot s
/-- Meaning of BCAST_I. -/
def execSepBcastI (slot : SlotId) (s : State) : Out := .next (effSepBcastI slot s)
/-- CVT.TO. -/
def effSepCvtTo (slot : SlotId) (s : State) : State := castRow slot s
/-- Meaning of CVT_TO. -/
def execSepCvtTo (slot : SlotId) (s : State) : Out := .next (effSepCvtTo slot s)
/-- CVT.FROM. -/
def effSepCvtFrom (slot : SlotId) (s : State) : State := laneRow 0x21 (fun c x => cvtFrom c.tt c.flush x.a) slot s
/-- Meaning of CVT_FROM. -/
def execSepCvtFrom (slot : SlotId) (s : State) : Out := .next (effSepCvtFrom slot s)
/-- CVT.F2I. -/
def effSepCvtF2i (slot : SlotId) (s : State) : State := laneRow 0x22 (fun c x => cvtF2I c.rm c.flush x.a) slot s
/-- Meaning of CVT_F2I. -/
def execSepCvtF2i (slot : SlotId) (s : State) : Out := .next (effSepCvtF2i slot s)
/-- CVT.I2F. -/
def effSepCvtI2f (slot : SlotId) (s : State) : State := laneRow 0x23 (fun c x => cvtI2F c.rm c.flush x.a) slot s
/-- Meaning of CVT_I2F. -/
def execSepCvtI2f (slot : SlotId) (s : State) : Out := .next (effSepCvtI2f slot s)
/-- DADD: FP64. -/
def effSepDadd (slot : SlotId) (s : State) : State := laneRow 0x30 (fun c x => arith2 fmtFp64 c.rm c.flush (addVal c.rm) x.a x.b) slot s
/-- Meaning of DADD. -/
def execSepDadd (slot : SlotId) (s : State) : Out := .next (effSepDadd slot s)
/-- DSUB. -/
def effSepDsub (slot : SlotId) (s : State) : State := laneRow 0x31 (fun c x => arith2 fmtFp64 c.rm c.flush (subVal c.rm) x.a x.b) slot s
/-- Meaning of DSUB. -/
def execSepDsub (slot : SlotId) (s : State) : Out := .next (effSepDsub slot s)
/-- DMUL. -/
def effSepDmul (slot : SlotId) (s : State) : State := laneRow 0x32 (fun c x => arith2 fmtFp64 c.rm c.flush (mulVal) x.a x.b) slot s
/-- Meaning of DMUL. -/
def execSepDmul (slot : SlotId) (s : State) : Out := .next (effSepDmul slot s)
/-- DFMA, one rounding. -/
def effSepDfma (slot : SlotId) (s : State) : State := laneRow 0x33 (fun c x => arithFma fmtFp64 c.rm c.flush false x.a x.b x.c) slot s
/-- Meaning of DFMA. -/
def execSepDfma (slot : SlotId) (s : State) : Out := .next (effSepDfma slot s)
/-- DMIN. -/
def effSepDmin (slot : SlotId) (s : State) : State := laneRow 0x34 (fun c x => arith2 fmtFp64 c.rm c.flush (minVal) x.a x.b) slot s
/-- Meaning of DMIN. -/
def execSepDmin (slot : SlotId) (s : State) : Out := .next (effSepDmin slot s)
/-- DMAX. -/
def effSepDmax (slot : SlotId) (s : State) : State := laneRow 0x35 (fun c x => arith2 fmtFp64 c.rm c.flush (maxVal) x.a x.b) slot s
/-- Meaning of DMAX. -/
def execSepDmax (slot : SlotId) (s : State) : Out := .next (effSepDmax slot s)
/-- DCMP. -/
def effSepDcmp (slot : SlotId) (s : State) : State := laneRow 0x36 (fun c x => let r := compare fmtFp64 c.flush c.rmCode x.a x.b; (b2n r.1, r.2)) slot s
/-- Meaning of DCMP. -/
def execSepDcmp (slot : SlotId) (s : State) : Out := .next (effSepDcmp slot s)
/-- CVT.S2D. -/
def effSepCvtS2d (slot : SlotId) (s : State) : State := laneRow 0x37 (fun c x => cvtS2D c.flush x.a) slot s
/-- Meaning of CVT_S2D. -/
def execSepCvtS2d (slot : SlotId) (s : State) : Out := .next (effSepCvtS2d slot s)
/-- CVT.D2S. -/
def effSepCvtD2s (slot : SlotId) (s : State) : State := laneRow 0x38 (fun c x => cvtD2S c.rm c.flush x.a) slot s
/-- Meaning of CVT_D2S. -/
def execSepCvtD2s (slot : SlotId) (s : State) : Out := .next (effSepCvtD2s slot s)
/-- SHCHK. -/
def effSepShchk (slot : SlotId) (s : State) : State := shchkRow slot s
/-- Meaning of SHCHK. -/
def execSepShchk (slot : SlotId) (s : State) : Out := .next (effSepShchk slot s)
/-- FDIV. -/
def effSepFdiv (slot : SlotId) (s : State) : State := laneRow 0x40 (fun c x => arith2 fmtFp32 c.rm c.flush (divVal) x.a x.b) slot s
/-- Meaning of FDIV. -/
def execSepFdiv (slot : SlotId) (s : State) : Out := .next (effSepFdiv slot s)
/-- FSQRT. -/
def effSepFsqrt (slot : SlotId) (s : State) : State := laneRow 0x41 (fun c x => arith1 fmtFp32 c.rm c.flush sqrtVal x.a) slot s
/-- Meaning of FSQRT. -/
def execSepFsqrt (slot : SlotId) (s : State) : Out := .next (effSepFsqrt slot s)
/-- DDIV. -/
def effSepDdiv (slot : SlotId) (s : State) : State := laneRow 0x48 (fun c x => arith2 fmtFp64 c.rm c.flush (divVal) x.a x.b) slot s
/-- Meaning of DDIV. -/
def execSepDdiv (slot : SlotId) (s : State) : Out := .next (effSepDdiv slot s)
/-- DSQRT. -/
def effSepDsqrt (slot : SlotId) (s : State) : State := laneRow 0x49 (fun c x => arith1 fmtFp64 c.rm c.flush sqrtVal x.a) slot s
/-- Meaning of DSQRT. -/
def execSepDsqrt (slot : SlotId) (s : State) : Out := .next (effSepDsqrt slot s)
/-- RCP.S. -/
def effSepRcpS (slot : SlotId) (s : State) : State := laneRow 0x50 (fun c x => rcpSeed c.flush x.a) slot s
/-- Meaning of RCP_S. -/
def execSepRcpS (slot : SlotId) (s : State) : Out := .next (effSepRcpS slot s)
/-- RCP.N. -/
def effSepRcpN (slot : SlotId) (s : State) : State := laneRow 0x51 (fun c x => refine c.flush false x.d x.a) slot s
/-- Meaning of RCP_N. -/
def execSepRcpN (slot : SlotId) (s : State) : Out := .next (effSepRcpN slot s)
/-- RSQ.S. -/
def effSepRsqS (slot : SlotId) (s : State) : State := laneRow 0x52 (fun c x => rsqSeed c.flush x.a) slot s
/-- Meaning of RSQ_S. -/
def execSepRsqS (slot : SlotId) (s : State) : Out := .next (effSepRsqS slot s)
/-- RSQ.N. -/
def effSepRsqN (slot : SlotId) (s : State) : State := laneRow 0x53 (fun c x => refine c.flush true x.d x.a) slot s
/-- Meaning of RSQ_N. -/
def execSepRsqN (slot : SlotId) (s : State) : Out := .next (effSepRsqN slot s)
/-- LOAD. -/
def effSepLoad (slot : SlotId) (s : State) : State := loadRow 0x60 slot s
/-- Meaning of LOAD. -/
def execSepLoad (slot : SlotId) (s : State) : Out := .next (effSepLoad slot s)
/-- LOAD.D. -/
def effSepLoadD (slot : SlotId) (s : State) : State := loadRow 0x61 slot s
/-- Meaning of LOAD_D. -/
def execSepLoadD (slot : SlotId) (s : State) : Out := .next (effSepLoadD slot s)
/-- STORE. -/
def effSepStore (slot : SlotId) (s : State) : State := storeRow 0x62 slot s
/-- Meaning of STORE. -/
def execSepStore (slot : SlotId) (s : State) : Out := .next (effSepStore slot s)
/-- STORE.D. -/
def effSepStoreD (slot : SlotId) (s : State) : State := storeRow 0x63 slot s
/-- Meaning of STORE_D. -/
def execSepStoreD (slot : SlotId) (s : State) : Out := .next (effSepStoreD slot s)
/-- SHSEL. -/
def effSepShsel (slot : SlotId) (s : State) : State := shselRow slot s
/-- Meaning of SHSEL. -/
def execSepShsel (slot : SlotId) (s : State) : Out := .next (effSepShsel slot s)
/-- ECLR. -/
def effSepEclr (slot : SlotId) (s : State) : State := eclrRow slot s
/-- Meaning of ECLR. -/
def execSepEclr (slot : SlotId) (s : State) : Out := .next (effSepEclr slot s)
/-- WSET. -/
def effSepWset (slot : SlotId) (s : State) : State := wsetRow slot s
/-- Meaning of WSET. -/
def execSepWset (slot : SlotId) (s : State) : Out := .next (effSepWset slot s)
/-- MAXEXP. -/
def effSepMaxexp (slot : SlotId) (s : State) : State := maxexpRow 0x72 slot s
/-- Meaning of MAXEXP. -/
def execSepMaxexp (slot : SlotId) (s : State) : Out := .next (effSepMaxexp slot s)
/-- MAXEXP.ALL. -/
def effSepMaxexpAll (slot : SlotId) (s : State) : State := maxexpRow 0x73 slot s
/-- Meaning of MAXEXP_ALL. -/
def execSepMaxexpAll (slot : SlotId) (s : State) : Out := .next (effSepMaxexpAll slot s)
/-- SUM. -/
def effSepSum (slot : SlotId) (s : State) : State := sumRow 0x74 0 slot s
/-- Meaning of SUM. -/
def execSepSum (slot : SlotId) (s : State) : Out := .next (effSepSum slot s)
/-- SUM.ALL. -/
def effSepSumAll (slot : SlotId) (s : State) : State := sumRow 0x75 0 slot s
/-- Meaning of SUM_ALL. -/
def execSepSumAll (slot : SlotId) (s : State) : Out := .next (effSepSumAll slot s)
/-- NORM. -/
def effSepNorm (slot : SlotId) (s : State) : State := sumRow 0x76 1 slot s
/-- Meaning of NORM. -/
def execSepNorm (slot : SlotId) (s : State) : Out := .next (effSepNorm slot s)
/-- NORM.ALL. -/
def effSepNormAll (slot : SlotId) (s : State) : State := sumRow 0x77 1 slot s
/-- Meaning of NORM_ALL. -/
def execSepNormAll (slot : SlotId) (s : State) : Out := .next (effSepNormAll slot s)
/-- DOT. -/
def effSepDot (slot : SlotId) (s : State) : State := sumRow 0x78 2 slot s
/-- Meaning of DOT. -/
def execSepDot (slot : SlotId) (s : State) : Out := .next (effSepDot slot s)
/-- DOT.ALL. -/
def effSepDotAll (slot : SlotId) (s : State) : State := sumRow 0x79 2 slot s
/-- Meaning of DOT_ALL. -/
def execSepDotAll (slot : SlotId) (s : State) : Out := .next (effSepDotAll slot s)
/-- BARRIER.STEP. -/
def effSepBarrierStep (slot : SlotId) (s : State) : State := barrierRow slot s
/-- Meaning of BARRIER_STEP. -/
def execSepBarrierStep (slot : SlotId) (s : State) : Out := .next (effSepBarrierStep slot s)

end Sys2Proof.Machine
end

