-- ==== Sys2Proof/Machine/Arming.lean ====
section
/-! DEFINITION. Arming a bucket (R61 to R63, R323, R368): the checks in the order of R62 and what a successful arming reserves. -/

namespace Sys2Proof.Machine

/-- BAD_BUCKET (R459). -/
def rsBadBucket : Nat := 0x27
/-- BUCKET_SPLITS_SHARD (R459). -/
def rsSplitsShard : Nat := 0x28
/-- NO_ERROR_MEMORY (R459). -/
def rsNoErrorMemory : Nat := 0x29
/-- LINES_EXHAUSTED (R459). -/
def rsLinesExhausted : Nat := 0x2A

/-- A bucket that has just been armed with a descriptor at an instant. -/
def bucketArmed (d : BitVec 256) (now : Nat) : Bucket := { bucketInit with desc := d, armTime := now, abandoned := false }

/-- The fields of a descriptor that arming refuses whatever the slot (R61, R62). -/
def descMalformed (d : BitVec 256) : Bool :=
  let mode := bdMode d
  bdField d 60 4 != 0 || bdField d 81 15 != 0 || bdField d 130 14 != 0 || bdField d 192 64 != 0
    || bdBase d % 1024 != 0 || mode == 3 || (mode != 2 && bdEmaxFixed d != 0) || (mode != 1 && bdHeldQuota d != 0)
    || bdChunks d == 0 || 65536 < bdChunks d || bdDeadline d == 0

/-- The chunks of a descriptor, ascending. -/
def descChunks (d : BitVec 256) : List Nat := (List.range (bdChunks d)).map (bdChunkIndex d)

/-- The owners of a descriptor's chunks, one for each extent that it touches (R98, R100). -/
def descOwners (sl : Slot) (d : BitVec 256) : List (Option Nat) :=
  let first := bdBase d / 1024
  let last := first + bdChunks d - 1
  (List.range (last / 1024 + 1 - first / 1024)).map (fun k => ownerOf sl (max first ((first / 1024 + k) * 1024)))

/-- Whether a descriptor collides with a bucket armed in the step, by number or by index (R62). -/
def descCollides (sl : Slot) (d : BitVec 256) : Bool :=
  sl.buckets.any (fun e => !e.2.abandoned && (e.1 == bdBucket d
    || (bdBase d < bdBase e.2.desc + 1024 * bdChunks e.2.desc && bdBase e.2.desc < bdBase d + 1024 * bdChunks d)))

/-- Whether a C1 or C2 window of the slot is smaller than a largest frame where the group has a source of that class (R62, R322,
R323): 4,160 bytes are 17 units and 16,448 bytes are 65 units. -/
def windowsTooSmall (sl : Slot) (v : GroupVer) : Bool :=
  (!(groupPorts v).isEmpty && windowOf sl 1 < 17) || (2 ≤ geDevices v && windowOf sl 2 < 65)

/-- Whether arming answers BAD_BUCKET (R62). -/
def descBad (sl : Slot) (d : BitVec 256) : Bool :=
  descMalformed d || 2 ^ 44 < bdBase d + 1024 * bdChunks d || sl.shard.l < bdBase d + 1024 * bdChunks d
    || (match stepGroup sl (bdGroup d) with
      | none => true
      | some v => geRelay v || windowsTooSmall sl v
          || (descOwners sl d).any (fun o => match o with
            | none => true
            | some x => (groupPos v x).isNone))
    || descCollides sl d

/-- Whether arming answers NO_ERROR_MEMORY (R62): a chunk that this device sends thinned lies outside its error memory. -/
def lacksErrorMemory (s : State) (sl : Slot) (b : Bucket) : Bool :=
  !isOwner s sl b && sendsThin sl b && (descChunks b.desc).any (fun g =>
    1024 * g < sl.shard.ememFirst || sl.shard.ememFirst + 1024 * sl.shard.ememChunks ≤ 1024 * g)

/-- Whether a chunk still holds its line (R72). -/
def holdsLine (c : Chunk) : Bool := c.st != .released && c.st != .abandoned

/-- The lines that the slot's buckets hold: in SRAM and in all. -/
def linesHeld (s : State) (sl : Slot) : Nat × Nat :=
  sl.buckets.foldl (fun n e =>
    let live := e.2.chunks.filter (fun c => holdsLine c.2)
    (n.1 + (live.filter (fun c => !chunkSpilled s e.2 c.1)).length, n.2 + live.length)) (0, 0)

/-- What arming a descriptor answers: none on success, else the first status of R62 that holds. -/
def armStatus (s : State) (i : Nat) (d : BitVec 256) : Option Nat :=
  let sl := getSlot s i
  let b := bucketArmed d s.time
  let os := descOwners sl d
  if descBad sl d then some rsBadBucket
  else if os.any (fun o => o != os.headD none) then some rsSplitsShard
  else if lacksErrorMemory s sl b then some rsNoErrorMemory
  else if sl.ob.sramLines + sl.ob.spillLines < (linesHeld s sl).2 + bdChunks d then some rsLinesExhausted
  else none

/-- A rehearsal's stall passes to the bucket armed next, in a step at attempt 0 (R299). -/
def takeStall (sl : Slot) (b : Nat) : Health :=
  match sl.health.stallNext with
  | some p => if sl.step.attempt = 0 then { sl.health with stallNext := none, stalled := sl.health.stalled ++ [(p, b)] } else sl.health
  | none => sl.health

/-- A bucket armed (R63, R65 to R67, R368): its lines reserved in ascending chunk order, its WINDOW frames sent, and its window round
launched at once where no member takes part. -/
def armBucket (s : State) (i : Nat) (d : BitVec 256) : State :=
  let sl := getSlot s i
  let n := bdBucket d
  let fixed := bdMode d == 2
  let b := { bucketArmed d s.time with
    emax := if fixed then some (bdEmaxFixed d) else none
    chunks := (List.range (bdChunks d)).map (fun j => (j, chunkInit (if fixed then .open_ else .armed)))
    sramLines := sl.ob.sramLines - (linesHeld s sl).1 }
  let s := modSlot s i (fun sl => { sl with buckets := tset sl.buckets n b, health := takeStall sl n })
  if fixed then sendWindows s i b 2 (bdEmaxFixed d)
  else checkWindowRound (sendWindows s i b 1 0) i n

end Sys2Proof.Machine
end

