-- ==== Sys2Proof/Machine/Mailbox.lean ====
section
/-! DEFINITION. Executing a mailbox command (R443 to R447, R453, R485): which command is next, what every command is refused for
before its own checks, its buffer, its response; and the system commands that read or set one record (R330, R431, R454, R472). -/

namespace Sys2Proof.Machine

/-! ### Status codes (R459) -/

/-- OK. -/
def rsOk : Nat := 0x00
/-- BAD_COMMAND. -/
def rsBadCommand : Nat := 0x01
/-- BAD_MAILBOX. -/
def rsBadMailbox : Nat := 0x02
/-- BAD_ARGUMENT. -/
def rsBadArgument : Nat := 0x03
/-- HOST_BUFFER. -/
def rsHostBuffer : Nat := 0x04
/-- NOT_OPEN. -/
def rsNotOpen : Nat := 0x05
/-- SLOT_IN_USE. -/
def rsSlotInUse : Nat := 0x06
/-- JOB_ID_IN_USE. -/
def rsJobIdInUse : Nat := 0x07
/-- BUSY_DRAINING. -/
def rsBusyDraining : Nat := 0x08
/-- RESOURCE_EXHAUSTED. -/
def rsResourceExhausted : Nat := 0x09
/-- CACHE_SHARE_EXHAUSTED. -/
def rsCacheShareExhausted : Nat := 0x0A
/-- POOL_BAD_CARVE. -/
def rsPoolBadCarve : Nat := 0x0B
/-- POOL_BUSY. -/
def rsPoolBusy : Nat := 0x0C
/-- POOL_NO_SPACE. -/
def rsPoolNoSpace : Nat := 0x0D
/-- PORT_BUSY. -/
def rsPortBusy : Nat := 0x0E
/-- NO_SPACE. -/
def rsNoSpace : Nat := 0x0F
/-- SHARD_BUSY. -/
def rsShardBusy : Nat := 0x10
/-- SHARD_NO_SPACE. -/
def rsShardNoSpace : Nat := 0x11
/-- GROUP_BAD_LIST. -/
def rsGroupBadList : Nat := 0x12
/-- GROUP_EXISTS. -/
def rsGroupExists : Nat := 0x13
/-- GROUP_UNDEFINED. -/
def rsGroupUndefined : Nat := 0x14
/-- GROUP_TABLE_FULL. -/
def rsGroupTableFull : Nat := 0x15
/-- GROUP_NO_SPACE. -/
def rsGroupNoSpace : Nat := 0x16
/-- PROGRAM_TOO_LARGE. -/
def rsProgramTooLarge : Nat := 0x17
/-- PROGRAM_BAD. -/
def rsProgramBad : Nat := 0x18
/-- REGION_PINNED. -/
def rsRegionPinned : Nat := 0x19
/-- NO_FREE_REGION. -/
def rsNoFreeRegion : Nat := 0x1A
/-- PROGRAM_UNKNOWN. -/
def rsProgramUnknown : Nat := 0x1B
/-- NO_PROGRAM. -/
def rsNoProgram : Nat := 0x1C
/-- NO_MIRROR_ENTRY. -/
def rsNoMirrorEntry : Nat := 0x1D
/-- STEP_SEQUENCE. -/
def rsStepSequence : Nat := 0x1E
/-- STEP_SEALED. -/
def rsStepSealed : Nat := 0x1F
/-- STEP_CLOSED. -/
def rsStepClosed : Nat := 0x20
/-- BUSY_ROLLBACK. -/
def rsBusyRollback : Nat := 0x21
/-- SLOT_LOST. -/
def rsSlotLost : Nat := 0x22
/-- NOT_SEALED. -/
def rsNotSealed : Nat := 0x23
/-- STEP_COMMITTED. -/
def rsStepCommitted : Nat := 0x24
/-- MEMBER_EXPELLED. -/
def rsMemberExpelled : Nat := 0x25
/-- PARTNER_UNREACHABLE. -/
def rsPartnerUnreachable : Nat := 0x26
/-- KEY_EXHAUSTED. -/
def rsKeyExhausted : Nat := 0x2B
/-- DEVICE_FAILED. -/
def rsDeviceFailed : Nat := 0x2C

/-! ### The next command (R444, R453, R485) -/

/-- The opcodes of R453. -/
def isCommandOp (op : Nat) : Bool := 1 ≤ op && op ≤ 0x14

/-- The commands of the system mailbox (R453). -/
def isSystemOp (op : Nat) : Bool := op == 0x01 || op == 0x02 || (0x11 ≤ op && op ≤ 0x14)

/-- The opcode of a command slot (R446). -/
def opOf (c : Bytes) : Nat := leAt c 0 1

/-- Whether a mailbox's command may execute now (R485): from READY on every command does; from FABRIC_TEST on DEVICE_INFO,
LINK_CONFIG, TRACE_SET, POWER_POLICY and ATTEST of the system mailbox do. -/
def mayExecute (s : State) (m : Nat) : Bool :=
  let ph := s.pwr.phase.toNat
  let op := opOf (slotBytes (getMbx s m).cmd)
  if 8 ≤ ph && ph ≤ 10 then true
  else 5 ≤ ph && ph ≤ 7 && m == 0 && (op == 0x01 || (0x11 ≤ op && op ≤ 0x14))

/-- The mailbox whose command the keeper core takes next (R444): the oldest QUEUED one that may execute, while a core serves (R28). -/
def nextMbx (s : State) : Option Nat :=
  if s.host.keeperDown then none else s.ownOrder.find? (fun m => (getMbx s m).st == .queued && mayExecute s m)

/-- The slot of a job mailbox (R438). -/
def slotOfMbx (m : Nat) : Nat := m - 1

/-- What every command is refused for before its own checks (R283, R453). -/
def gateStatus (s : State) (m op : Nat) : Option Nat :=
  if !isCommandOp op then some rsBadCommand
  else if isSystemOp op != (m == 0) then some rsBadMailbox
  else if s.host.fatal && op != 0x01 && op != 0x14 then some rsDeviceFailed
  else if !isSystemOp op && (getSlot s (slotOfMbx m)).st != .open_ then some rsNotOpen
  else none

/-- Whether the bytes outside OPCODE, TOKEN and the arguments that a command uses are zero (R446). -/
def unusedArgsZero (c : Bytes) (used : List (Nat × Nat)) : Bool :=
  (List.range 64).all (fun k => k == 0 || (4 ≤ k && k < 8) || used.any (fun u => u.1 ≤ k && k < u.1 + u.2) || leAt c k 1 == 0)

/-- A command refused (R446): nothing changes but its mailbox. -/
def refuseMbx (s : State) (m status : Nat) : State := answerMbx s m status 0 []

/-- A command held (R444): its mailbox HELD, nothing else changed. -/
def holdMbx (s : State) (m : Nat) : State := modMbx s m (fun b => { b with st := .held })

/-- The next command taken, if it is of the kind that a test accepts: refused by the common checks, or by its unused bytes, or run. -/
def runCommand (accept : Bytes → Bool) (used : List (Nat × Nat)) (f : Nat → Bytes → State → State) (s : State) : State :=
  match nextMbx s with
  | none => s
  | some m =>
    let c := slotBytes (getMbx s m).cmd
    if !accept c then s
    else
      match gateStatus s m (opOf c) with
      | some st => refuseMbx s m st
      | none => if unusedArgsZero c used then f m c s else refuseMbx s m rsBadArgument

/-! ### Host buffers (R447) -/

/-- The address of the buffer whose argument stands at offset o. -/
def bufAddr (c : Bytes) (o : Nat) : Nat := leAt c o 8

/-- Its length. -/
def bufLen (c : Bytes) (o : Nat) : Nat := leAt c (o + 8) 4

/-- Whether a buffer is aligned, long enough and was accessed without an error (R447). -/
def bufSound (c : Bytes) (o need : Nat) (buf : HostBuf) : Bool := bufAddr c o % 64 == 0 && need ≤ bufLen c o && (need == 0 || buf.ok)

/-- The reads of n bytes of a buffer that the device sends. -/
def bufFetch (s : State) (c : Bytes) (o n : Nat) : State :=
  if n = 0 then s else emit s (.hostRead (deviceModule s) (bufAddr c o) n)

/-- The writes of a buffer that the device sends. -/
def bufStore (s : State) (c : Bytes) (o : Nat) (bs : Bytes) : State :=
  if bs.isEmpty then s else emit s (.hostBuffer (bufAddr c o) bs)

/-- A command that reads n bytes of its buffer: HOST_BUFFER, or what follows on the bytes. -/
def withRead (m : Nat) (c : Bytes) (o n : Nat) (buf : HostBuf) (f : Bytes → State → State) (s : State) : State :=
  if bufSound c o n buf then f (fitBytes n buf.bytes) (bufFetch s c o n) else refuseMbx s m rsHostBuffer

/-- A command that writes bytes to its buffer and answers OK: its writes come before its response (R447). -/
def answerWith (m : Nat) (c : Bytes) (o : Nat) (buf : HostBuf) (bs results : Bytes) (s : State) : State :=
  if bufSound c o bs.length buf then answerMbx (bufStore s c o bs) m rsOk 0 results else refuseMbx s m rsHostBuffer

/-! ### BAD_COMMAND -/

/-- BAD_COMMAND (R453): an opcode that R453 does not list. -/
def effBadCommand (s : State) : State := runCommand (fun c => !isCommandOp (opOf c)) [] (fun m _ s => refuseMbx s m rsBadCommand) s

/-- Meaning of BAD_COMMAND. -/
def execBadCommand (s : State) : Out := .next (effBadCommand s)

/-! ### DEVICE_INFO (R431, R454) -/

/-- The identity results (R454). -/
def identityResults (s : State) : Bytes :=
  leBytes 2 (selfId s) ++ leBytes 2 Config.generation.toNat ++ leBytes 4 s.host.gorirgenVersion.toNat
    ++ leBytes 8 (stateArea s) ++ leBytes 4 (minFreeGranules s) ++ leBytes 2 (mappedOut s)
    ++ leBytes 1 (packFields [(1, b2n s.host.degraded), (1, b2n s.host.standbyActive), (1, b2n s.sec.debugLock),
        (1, b2n s.host.deviceIdValid), (1, b2n s.host.fatal)])
    ++ leBytes 1 (openCount s) ++ leBytes 8 s.time

/-- DEVICE_INFO_IDENTITY (R454): FORM 0; a FORM above 1 is out of range. -/
def effDeviceInfoIdentity (s : State) : State :=
  runCommand (fun c => opOf c == 0x01 && leAt c 8 1 != 1) [(8, 1)]
    (fun m c s => if leAt c 8 1 = 0 then answerMbx s m rsOk 0 (identityResults s) else refuseMbx s m rsBadArgument) s

/-- Meaning of DEVICE_INFO_IDENTITY. -/
def execDeviceInfoIdentity (s : State) : Out := .next (effDeviceInfoIdentity s)

/-- What an analogue path has counted since its record was last read, added to a count (a free value, log entry 2). -/
def countLine (n : Nat) (s : State) : Nat × State :=
  let d := drawFree s
  (satAdd 32 n (Config.lineCount d.1).toNat, d.2)

/-- A live channel's counts of corrected reads brought up to date. -/
def readChan (s : State) (c : Nat) : State :=
  let x := getChan s c
  if x.st != 0 || s.pwr.phase.toNat < 4 then s
  else
    let a := countLine x.corrected s
    let b := countLine x.ondie a.2
    let r := countLine x.retries b.2
    modChan r.2 c (fun x => { x with corrected := a.1, ondie := b.1, retries := r.1 })

/-- LIVE_INDEX of a channel (R411, R431): its place among the live channels of its tile, and for one mapped out its own number on
the tile. -/
def liveIndex (s : State) (c : Nat) : Nat := ((liveChannels s (c / 8)).findIdx? (· == c)).getD (c % 8)

/-- A channel record (R431). -/
def chanRecord (s : State) (c : Nat) : Bytes :=
  let x := getChan s c
  leBytes 4 (packFields [(2, x.st), (3, x.reason), (3, 0), (3, liveIndex s c)])
    ++ leBytes 4 x.corrected ++ leBytes 4 x.ondie ++ leBytes 4 x.retries ++ leBytes 4 x.uncorrectable
    ++ leBytes 4 x.scrubFixes ++ leBytes 4 x.memLate ++ leBytes 4 x.scrubPasses

/-- DEVICE_INFO_CHANNELS (R431): FORM 1 writes the 1,024 channel records. -/
def effDeviceInfoChannels (buf : HostBuf) (s : State) : State :=
  runCommand (fun c => opOf c == 0x01 && leAt c 8 1 == 1) [(8, 1), (16, 12)]
    (fun m c s =>
      if bufSound c 16 32768 buf then
        let s := (List.range 1024).foldl readChan s
        answerMbx (bufStore s c 16 ((List.range 1024).flatMap (chanRecord s))) m rsOk 0 []
      else refuseMbx s m rsHostBuffer) s

/-- Meaning of DEVICE_INFO_CHANNELS. -/
def execDeviceInfoChannels (buf : HostBuf) (s : State) : Out := .next (effDeviceInfoChannels buf s)

/-! ### Device-wide space (R417) -/

/-- Bytes of an object rounded up to blocks of 64 KiB (R417). -/
def spaceBlocks (bytes : Nat) : Nat := (bytes + 65535) / 65536 * 65536

/-- The device-wide space that a shard asks for: its map in two copies (R418), its error memory of 8 bytes an index (R88), its host
regions (R423). -/
def shardSpace (h : Shard) : Nat :=
  2 * spaceBlocks (4 * h.map.length) + spaceBlocks (8192 * h.ememChunks)
    + (h.hostReg.map (fun r => spaceBlocks (r % 2 ^ 15 * 2 ^ 20))).foldl (· + ·) 0

/-- The device-wide space that a slot holds: its spill lines of 16 KiB (R63) and what its shard asked for. -/
def slotSpace (sl : Slot) : Nat := spaceBlocks (16384 * sl.ob.spillLines) + shardSpace sl.shard

/-- The bytes of the trace ring. -/
def ringSpace (size : Nat) : Nat := if size = 0 then 0 else 2 ^ size

/-- The device-wide space in use, of the objects whose size a command sets. -/
def spaceUsed (s : State) : Nat := (s.slots.map (fun e => slotSpace e.2)).foldl (· + ·) 0 + ringSpace s.trc.sizeLog2

/-- The device-wide space of the device (R417). -/
def spaceLimit : Nat := 246 * 2 ^ 30

/-! ### TRACE_SET (R330, R461) -/

/-- Whether R330 refuses a filter. -/
def filterBad (f : BitVec 256) : Bool :=
  let g (lo w : Nat) : Nat := bitsOf f.toNat lo w
  g 96 24 == 0 || g 41 9 < g 32 9 || g 11 5 != 0 || g 50 14 != 0 || g 120 8 != 0

/-- The filters that a buffer of four holds. -/
def filtersOf (bs : Bytes) : List (BitVec 256) := (wordsOf 32 4 bs).map (BitVec.ofNat 256)

/-- The trace with a new size, where one is given, a mode, and the filters of a mask; a ring of a new size is empty (R330, R331). -/
def traceSet (t : Trace) (size : Nat) (mode : Bool) (mask : Nat) (fs : List (BitVec 256)) : Trace :=
  let t := if size = 0 then t else { t with sizeLog2 := size, ring := [], oldestSeq := t.nextSeq }
  { t with
    mode := mode
    filters := (List.range 4).map (fun i => if bitOf mask i then fs.getD i 0 else t.filters.getD i filterInit)
    counts := (List.range 4).map (fun i => if bitOf mask i then 0 else natAt t.counts i) }

/-- TRACE_SET on its arguments, after its buffer. -/
def runTraceSet (m : Nat) (c : Bytes) (fs : List (BitVec 256)) (s : State) : State :=
  let size := leAt c 8 1
  let mask := leAt c 10 1
  if (List.range 4).any (fun i => bitOf mask i && filterBad (fs.getD i 0)) then refuseMbx s m rsBadArgument
  else if size != 0 && spaceLimit < spaceUsed s - ringSpace s.trc.sizeLog2 + ringSpace size then refuseMbx s m rsNoSpace
  else answerMbx { s with trc := traceSet s.trc size (leAt c 9 1 == 1) mask fs } m rsOk 0 []

/-- TRACE_SET (R330, R461): every argument checked before anything changes; without a filter to write the buffer is not used. -/
def effTraceSet (buf : HostBuf) (s : State) : State :=
  runCommand (fun c => opOf c == 0x11) [(8, 3), (16, 12)]
    (fun m c s =>
      let size := leAt c 8 1
      let mask := leAt c 10 1
      if (size != 0 && (size < 20 || 34 < size)) || 1 < leAt c 9 1 || 15 < mask || (mask == 0 && leAt c 16 12 != 0) then
        refuseMbx s m rsBadArgument
      else if mask = 0 then runTraceSet m c [] s
      else withRead m c 16 128 buf (fun bs s => runTraceSet m c (filtersOf bs) s) s) s

/-- Meaning of TRACE_SET. -/
def execTraceSet (buf : HostBuf) (s : State) : Out := .next (effTraceSet buf s)

/-! ### POWER_POLICY (R453, R472) -/

/-- The results of POWER_POLICY (R453). -/
def policyResults (p : Power) : Bytes := leBytes 2 p.power.toNat ++ leBytes 2 p.voltage.toNat ++ leBytes 2 p.junction.toNat

/-- POWER_POLICY_READ (R453). -/
def effPowerPolicyRead (s : State) : State :=
  runCommand (fun c => opOf c == 0x13 && !bitOf (leAt c 8 1) 0) []
    (fun m _ s => answerMbx s m rsOk 0 (policyResults s.pwr)) s

/-- Meaning of POWER_POLICY_READ. -/
def execPowerPolicyRead (s : State) : Out := .next (effPowerPolicyRead s)

/-- Whether the settings of POWER_POLICY are in range (R453, R472). -/
def policyInRange (sust burst ms mask : Nat) : Bool :=
  1000 ≤ sust && sust ≤ 3600 && sust ≤ burst && burst ≤ 5000 && ms ≤ 200 && mask % 4 == 0 && mask < 2 ^ 50

/-- POWER_POLICY_SET (R472): the caps and the mask are taken at the next interval, the burst budget at once. -/
def effPowerPolicySet (s : State) : State :=
  runCommand (fun c => opOf c == 0x13 && bitOf (leAt c 8 1) 0) [(8, 1), (10, 14)]
    (fun m c s =>
      let sust := leAt c 10 2
      let burst := leAt c 12 2
      let ms := leAt c 14 2
      let mask := leAt c 16 8
      if leAt c 8 1 != 1 || !policyInRange sust burst ms mask then refuseMbx s m rsBadArgument
      else
        let s := modPwr s (fun p => { p with nextCaps := some (sust, burst, mask), burstMs := ms })
        answerMbx s m rsOk 0 (policyResults s.pwr)) s

/-- Meaning of POWER_POLICY_SET. -/
def execPowerPolicySet (s : State) : Out := .next (effPowerPolicySet s)

end Sys2Proof.Machine
end

