-- ==== Sys2Proof/Machine/Placement.lean ====
section
/-! DEFINITION. Placing a shard, binding a tandem, admitting a spare (R98 to R104, R262, R279, R416, R417, R423). -/

namespace Sys2Proof.Machine

/-! ### Granules (R416) -/

/-- Granules for a number of frames. -/
def granulesFor (frames : Nat) : Nat := (frames + 511) / 512

/-- The granules that a slot's primary rows, mirror rows and scratch rows take on a tile (R416). -/
def wantGranules (s : State) (sl : Slot) (t : Nat) : Nat × Nat × Nat :=
  (granulesFor (rowsOn sl (selfId s) t * sl.ob.w),
   granulesFor (((sl.tan.mirrorOf.map (fun d => rowsOn sl d t)).getD 0) * (sl.ob.w + 1)),
   granulesFor sl.shard.scratchRows)

/-- The granules of a tile that other slots hold. -/
def othersGranules (s : State) (i t : Nat) : List Nat := (s.slots.filter (fun e => e.1 != i)).flatMap (fun e => slotGranules e.2 t)

/-- Whether every tile has the granules for a slot as it would stand (R104, R416). -/
def granulesFit (s : State) (i : Nat) (sl : Slot) : Bool :=
  (List.range 128).all (fun t =>
    let w := wantGranules s sl t
    w.1 + w.2.1 + w.2.2 ≤ tileGranules (mappedOut s) - (othersGranules s i t).length)

/-- A slot's granules on a tile brought to what it takes there: what it holds too much is zeroed and given back, what it lacks is
taken from the lowest free ones (R416). -/
def grantTile (s : State) (i t : Nat) : State :=
  let sl := getSlot s i
  let w := wantGranules s sl t
  let p := tget [] sl.shard.grPrimary t
  let m := tget [] sl.shard.grMirror t
  let c := tget [] sl.shard.grScratch t
  let kept := p.take w.1 ++ m.take w.2.1 ++ c.take w.2.2
  let s := (p.drop w.1 ++ m.drop w.2.1 ++ c.drop w.2.2).foldl (fun s g => zeroGranule s t g) s
  let used := othersGranules s i t ++ kept
  let free := (List.range (tileGranules (mappedOut s))).filter (fun g => !used.contains g)
  let np := w.1 - p.length
  let nm := w.2.1 - m.length
  modShard s i (fun h => { h with
    grPrimary := tset h.grPrimary t (p.take w.1 ++ free.take np)
    grMirror := tset h.grMirror t (m.take w.2.1 ++ (free.drop np).take nm)
    grScratch := tset h.grScratch t (c.take w.2.2 ++ (free.drop (np + nm)).take (w.2.2 - c.length)) })

/-- The planes of a chunk in an area that are not all zero. -/
def savedPlanes (s : State) (i : Nat) (a : Area) (planes g : Nat) : List (Area × Nat × Nat × Bytes) :=
  (List.range planes).filterMap (fun p =>
    let bs := chunkRead s i a g p
    if bs.all (· == 0) then none else some (a, g, p, bs))

/-- The rows that a slot keeps when its placement changes: those of chunks that it owns before and after, and of chunks that it
mirrors before and after (R101). -/
def keptRows (s : State) (i : Nat) (new : Slot) : List (Area × Nat × Nat × Bytes) :=
  let old := getSlot s i
  let mine := (ownedChunks old (selfId s)).filter (fun g => ownerOf new g == some (selfId s))
  let theirs := match old.tan.mirrorOf, new.tan.mirrorOf with
    | some d, some e => if new.tan.mirrorSt == MirrorSt.empty then [] else (ownedChunks old d).filter (fun g => ownerOf new g == some e)
    | some _, none => []
    | none, some _ => []
    | none, none => []
  mine.flatMap (savedPlanes s i .primary old.ob.w)
    ++ theirs.flatMap (fun g => savedPlanes s i .mirror old.ob.w g ++ savedPlanes s i .pending 1 g)

/-- A slot set as it is to stand, with granules to match: the state of what it keeps stays, all other state of its shard and mirror
is zero (R101, R416); it is no longer SHORT (R429). -/
def placeSlot (s : State) (i : Nat) (new : Slot) : State :=
  let old := getSlot s i
  let rows := keptRows s i new
  let s := (List.range 128).foldl (fun s t =>
    (tget [] old.shard.grPrimary t ++ tget [] old.shard.grMirror t).foldl (fun s g => zeroGranule s t g) s) s
  let s := setSlot s i new
  let s := (List.range 128).foldl (fun s t => grantTile s i t) s
  let s := rows.foldl (fun s r => chunkWrite s i r.1 r.2.1 r.2.2.1 r.2.2.2) s
  modShard s i (fun h => { h with short := false })

/-! ### SHARD_PLACE (R98 to R104) -/

/-- The entries of a shard map (R99). -/
def mapEntries (n : Nat) (bs : Bytes) : List W32 := (wordsOf 4 n bs).map (BitVec.ofNat 32)

/-- Whether the arguments of SHARD_PLACE are in range (R98, R453). -/
def placeArgsOk (c : Bytes) : Bool :=
  let l := leAt c 8 8
  l % 1024 == 0 && 1024 ≤ l && l ≤ 2 ^ 44 && leAt c 40 8 % 1024 == 0

/-- The device that now owns every extent that a device owned, where the map names it in that device's place (R279). -/
def replacedBy (old new : Slot) (d : Nat) : Nat :=
  let xs := ownedExtents old d
  if !(ownedExtents new d).isEmpty then d
  else match xs with
    | [] => d
    | x :: _ => match ownerOf new (1024 * x) with
      | none => d
      | some y => if ownedExtents new y == xs then y else d

/-- The shard that SHARD_PLACE sets: its error-memory words and host bytes outside the new regions are gone. -/
def newShard (h : Shard) (c : Bytes) (es : List W32) : Shard :=
  let first := leAt c 40 8
  let chunks := leAt c 48 4
  let regs := (List.range 4).map (fun k => leAt c (52 + 2 * k) 2)
  let inEmem (e : Nat × W32) : Bool := first ≤ e.1 && e.1 < first + 1024 * chunks
  { h with
    placed := true
    l := leAt c 8 8
    map := es
    mapCrc := crc64 (es.flatMap (fun e => leBytes 4 e.toNat))
    scratchRows := leAt c 32 4
    ememFirst := first
    ememChunks := chunks
    hostReg := regs
    emem0 := h.emem0.filter inEmem
    emem1 := h.emem1.filter inEmem
    hostBytes := h.hostBytes.filter (fun e => e.1 % 2 ^ 40 < natAt regs (e.1 / 2 ^ 40) % 2 ^ 15 * 2 ^ 20) }

/-- The slot that SHARD_PLACE makes: its map, the mirrored device's new name, and of the dirty rows, shipped rows and resyncs what
the new map still gives it. -/
def placedSlot (s : State) (sl : Slot) (c : Bytes) (es : List W32) : Slot :=
  let new := { sl with shard := newShard sl.shard c es }
  let mine (k : Nat × Nat) : Bool := ownerOf new k.1 == some (selfId s)
  { new with tan := { sl.tan with
      mirrorOf := sl.tan.mirrorOf.map (replacedBy sl new)
      dirty := sl.tan.dirty.filter mine
      late := sl.tan.late.filter mine
      resyncs := sl.tan.resyncs.map (fun j => if j.ofMirror then j else { j with rows := j.rows.filter mine }) } }

/-- SHARD_PLACE on a map whose entries have been read. -/
def runShardPlace (m : Nat) (c : Bytes) (es : List W32) (s : State) : State :=
  let i := slotOfMbx m
  let sl := getSlot s i
  let new := placedSlot s sl c es
  if es.any (fun e => bitsOf e.toNat 17 15 != 0) then refuseMbx s m rsBadArgument
  else if stepArmed sl then refuseMbx s m rsShardBusy
  else if !granulesFit s i new || spaceLimit < spaceUsed s - shardSpace sl.shard + shardSpace new.shard then
    refuseMbx s m rsShardNoSpace
  else
    let s := placeSlot s i new
    answerMbx s m rsOk 0 (leBytes 8 new.shard.mapCrc.toNat ++ leBytes 8 (ownedChunks new (selfId s)).length)

/-- SHARD_PLACE (R98 to R104, R453): arguments, buffer, map, SHARD_BUSY, space, in this order. -/
def effShardPlace (buf : HostBuf) (s : State) : State :=
  runCommand (fun c => opOf c == 0x04) [(8, 8), (16, 12), (32, 4), (40, 20)]
    (fun m c s =>
      if !placeArgsOk c then refuseMbx s m rsBadArgument
      else
        let n := (leAt c 8 8 + 2 ^ 20 - 1) / 2 ^ 20
        withRead m c 16 (4 * n) buf (fun bs s => runShardPlace m c (mapEntries n bs) s) s) s

/-- Meaning of SHARD_PLACE. -/
def execShardPlace (buf : HostBuf) (s : State) : Out := .next (effShardPlace buf s)

/-! ### TANDEM_BIND (R262) -/

/-- What a slot drops when the mirror that it holds is dropped: the mirror is EMPTY, with no row, word, report or request. -/
def mirrorDropped (t : Tandem) : Tandem :=
  { t with
    mirrorSt := .empty
    mirrorStep := 0
    mirrorNone := true
    shipped := []
    pending := []
    pendingEmem := []
    ememMirror0 := []
    ememMirror1 := []
    mirrorDigest := 0
    mirrorReport := none
    passRunning := false
    passWaiting := false
    passVer := none
    restores := []
    syncGot := []
    syncNext := []
    resyncs := t.resyncs.filter (fun j => !j.ofMirror) }

/-- A mirror pass that runs or is due ends with its mirror, and leaves the bench. -/
def dropPass (s : State) (i : Nat) : State :=
  let s := releaseHeld s i
  if !(getSlot s i).bench.pass then s
  else
    let s := if s.holder == some i then { s with holder := none, benchLast := i } else s
    modSlot s i (fun sl => { sl with bench := { benchInit with clock := sl.bench.clock, account := sl.bench.account } })

/-- The slot with another binding. -/
def boundSlot (sl : Slot) (partner mirrorOf : Option Nat) (ship : Nat) : Slot :=
  let t := if mirrorOf == sl.tan.mirrorOf then sl.tan else mirrorDropped sl.tan
  let t := if partner == sl.tan.partner then t else { t with resyncs := t.resyncs.filter (fun j => j.ofMirror) }
  { sl with tan := { t with
      partner := partner
      mirrorOf := mirrorOf
      shipRows := ship
      leftDevices := t.leftDevices.filter (fun d => some d != partner && some d != mirrorOf) } }

/-- The rows of all shipment areas but a slot's own (R417). -/
def shipRowsOthers (s : State) (i : Nat) : Nat := ((s.slots.filter (fun e => e.1 != i)).map (fun e => e.2.tan.shipRows)).foldl (· + ·) 0

/-- The resync to a new PARTNER (R262, R269). A spare's source already holds the spare's mirror, which stays bound (R279). -/
def bindPartner (s : State) (i : Nat) (old new : Option Nat) : State :=
  match new with
  | none => s
  | some d => if old == some d || (getSlot s i).tan.spareFrom.map Prod.snd == some d then s else startResync s i d false

/-- The resync that a new mirror asks for (R262); a mirror of no rows is CURRENT at once (R263). -/
def bindMirror (s : State) (i : Nat) (old new : Option Nat) : State :=
  match new with
  | none => s
  | some d =>
    if old == some d then s
    else
      let sl := getSlot s i
      if (ownedChunks sl d).isEmpty then mirrorSynced s i (servedStep sl) else requestResync s i

/-- A binding set or removed (R262, R416, R417), after the checks of the arguments. -/
def runBind (m : Nat) (partner mirrorOf : Option Nat) (ship : Nat) (s : State) : State :=
  let i := slotOfMbx m
  let sl := getSlot s i
  let new := boundSlot sl partner mirrorOf ship
  if stepArmed sl then refuseMbx s m rsShardBusy
  else if !granulesFit s i new || 3584 < shipRowsOthers s i + ship then refuseMbx s m rsShardNoSpace
  else
    let s := if mirrorOf == sl.tan.mirrorOf then s else dropPass s i
    let s := placeSlot s i (boundSlot (getSlot s i) partner mirrorOf ship)
    let s := bindPartner s i sl.tan.partner partner
    let s := bindMirror s i sl.tan.mirrorOf mirrorOf
    answerMbx s m rsOk 0 []

/-- TANDEM_BIND (R262). -/
def effTandemBind (s : State) : State :=
  runCommand (fun c => opOf c == 0x05 && !bitOf (leAt c 12 1) 0) [(8, 4), (16, 4)]
    (fun m c s =>
      let p := leAt c 8 2
      let d := leAt c 10 2
      if p = selfId s || d = selfId s then refuseMbx s m rsBadArgument
      else runBind m (some p) (some d) (leAt c 16 4) s) s

/-- Meaning of TANDEM_BIND. -/
def execTandemBind (s : State) : Out := .next (effTandemBind s)

/-- TANDEM_UNBIND (R262): UNBIND uses no other argument. -/
def effTandemUnbind (s : State) : State :=
  runCommand (fun c => opOf c == 0x05 && bitOf (leAt c 12 1) 0) [(12, 1)]
    (fun m c s => if leAt c 12 1 != 1 then refuseMbx s m rsBadArgument else runBind m none none 0 s) s

/-- Meaning of TANDEM_UNBIND. -/
def execTandemUnbind (s : State) : Out := .next (effTandemUnbind s)

/-! ### SPARE_ADMIT (R279) -/

/-- RESYNC_REQ to the source of a spare's rows, on the lowest port of its trunk (R279, R362). -/
def requestSpare (s : State) (i source : Nat) : State :=
  match upTrunk s source with
  | [] => s
  | p :: _ => slotLinkCtrl s p i 0x08 0 []

/-- A spare named (R279): the source is asked for the lost device's mirror; a spare without rows has none to wait for. -/
def admitSpare (s : State) (i lost source : Nat) : State :=
  let sl := getSlot s i
  if (ownedChunks sl (selfId s)).isEmpty then postEvent s evResyncDone i (leBytes 1 1 ++ leBytes 8 (servedStep sl))
  else requestSpare (modTan s i (fun t => { t with spareFrom := some (lost, source), spareGot := [] })) i source

/-- SPARE_ADMIT (R279). -/
def effSpareAdmit (s : State) : State :=
  runCommand (fun c => opOf c == 0x06) [(8, 4)]
    (fun m c s =>
      let lost := leAt c 8 2
      let source := leAt c 10 2
      if source = selfId s || lost = selfId s then refuseMbx s m rsBadArgument
      else answerMbx (admitSpare s (slotOfMbx m) lost source) m rsOk 0 []) s

/-- Meaning of SPARE_ADMIT. -/
def execSpareAdmit (s : State) : Out := .next (effSpareAdmit s)

end Sys2Proof.Machine
end

