-- ==== Sys2Proof/Machine/JobCmds.lean ====
section
/-! DEFINITION. Opening and closing a job slot, and its program versions (R34 to R37, R151 to R153, R455, R456, R495, R539). -/

namespace Sys2Proof.Machine

/-! ### JOB_OPEN (R455) -/

/-- The open block that 128 bytes spell (R455). -/
def openBlockOf (b : Bytes) : OpenBlock where
  jobId := leAt b 0 2
  flush := bitOf (leAt b 2 1) 0
  masterFp64 := bitOf (leAt b 2 1) 1
  w := leAt b 3 1
  controlGroup := leAt b 4 2
  benchWeight := leAt b 6 1
  cacheShare := leAt b 7 1
  seed := leAt b 8 8
  shadowRate := leAt b 16 1
  hbmWeight := leAt b 17 1
  hbmCap := leAt b 18 1
  watchMask := leAt b 20 2
  gatherDeadline := leAt b 24 4
  stepDeadline := leAt b 28 4
  rxQuota := (List.range 4).map (fun k => leAt b (32 + 4 * k) 4)
  txQuota := (List.range 5).map (fun k => leAt b (48 + 4 * k) 4)
  castCache := leAt b 68 4
  fetchEntries := leAt b 72 4
  memberListEntries := leAt b 76 4
  sramLines := leAt b 80 4
  spillLines := leAt b 84 4

/-- Whether a block keeps its reserved parts zero and its fields in their ranges (R217, R455). -/
def openBlockOk (b : Bytes) : Bool :=
  let o := openBlockOf b
  leAt b 2 1 < 4 && leAt b 19 1 == 0 && leAt b 22 2 == 0 && leAt b 88 40 == 0
    && 1 ≤ o.w && o.w ≤ 8 && (!o.masterFp64 || 2 ≤ o.w) && o.controlGroup < 2 ^ 14 && 1 ≤ o.benchWeight
    && 1 ≤ o.cacheShare && o.cacheShare ≤ 64 && (o.shadowRate ≤ 32 || o.shadowRate == 0xFF) && 1 ≤ o.hbmWeight && o.hbmCap ≤ 64
    && !bitOf o.watchMask 7 && o.watchMask < 2 ^ 10 && 1 ≤ o.gatherDeadline && 1 ≤ o.stepDeadline
    && o.castCache ≤ natAt o.txQuota 3

/-- A field of the open blocks summed over the OPEN slots. -/
def openSum (s : State) (f : OpenBlock → Nat) : Nat :=
  ((s.slots.filter (fun e => e.2.st == .open_)).map (fun e => f e.2.ob)).foldl (· + ·) 0

/-- The units of the device's whole pool area (R337, R342). -/
def poolAreaUnits (s : State) : Nat := (256 - 16 * s.fab.accArea) * 4096

/-- Whether a sum of R455 would not fit with a new slot. -/
def openExhausts (s : State) (o : OpenBlock) : Bool :=
  65536 < openSum s (·.fetchEntries) + o.fetchEntries
    || 2 ^ 22 < openSum s (·.memberListEntries) + o.memberListEntries
    || 1024 * s.fab.accArea < openSum s (·.sramLines) + o.sramLines
    || spaceLimit < spaceUsed s + spaceBlocks (16384 * o.spillLines)

/-- What JOB_OPEN answers for a FREE slot and a sound block, if it refuses. -/
def openStatus (s : State) (o : OpenBlock) : Option Nat :=
  if (slotOfJob s o.jobId).isSome then some rsJobIdInUse
  else if 64 < openSum s (·.cacheShare) + o.cacheShare then some rsCacheShareExhausted
  else if (o.rxQuota ++ o.txQuota).any (fun q => poolAreaUnits s < q) then some rsPoolBadCarve
  else if openExhausts s o then some rsResourceExhausted
  else none

/-- A 16-bit generation advanced, skipping zero (R35, R230). -/
def nextGen (g : Nat) : Nat := if g % 65536 = 65535 then 1 else g % 65536 + 1

/-- The slot that JOB_OPEN makes: the defaults of R300, a new generation (R35) and its measurement (R495). -/
def openedSlot (old : Slot) (b : Bytes) : Slot :=
  { slotInit with
    st := .open_
    gen := nextGen old.gen
    pools := old.pools
    ob := openBlockOf b
    meas := shaDigest (List.replicate 48 0 ++ sha384 b) }

/-- JOB_OPEN on a slot and its block (R37, R455). -/
def runJobOpen (m : Nat) (c b : Bytes) (s : State) : State :=
  let i := leAt c 8 1
  let sl := getSlot s i
  if !openBlockOk b then refuseMbx s m rsBadArgument
  else if sl.st == .open_ then refuseMbx s m rsSlotInUse
  else if sl.st == .draining then (if bitOf (leAt c 9 1) 0 then holdMbx s m else refuseMbx s m rsBusyDraining)
  else
    match openStatus s (openBlockOf b) with
    | some st => refuseMbx s m st
    | none =>
      let new := openedSlot sl b
      answerMbx (announceAll (setSlot s i new) i 0x03) m rsOk 0 (leBytes 2 new.gen)

/-- JOB_OPEN on its command: SLOT and QUEUE, then its buffer. -/
def startJobOpen (m : Nat) (c : Bytes) (buf : HostBuf) (s : State) : State :=
  if 63 < leAt c 8 1 || 1 < leAt c 9 1 then refuseMbx s m rsBadArgument
  else withRead m c 16 128 buf (fun b s => runJobOpen m c b s) s

/-- JOB_OPEN (R34, R37, R455). -/
def effJobOpen (buf : HostBuf) (s : State) : State :=
  runCommand (fun c => opOf c == 0x02) [(8, 2), (16, 12)] (fun m c s => startJobOpen m c buf s) s

/-- Meaning of JOB_OPEN. -/
def execJobOpen (buf : HostBuf) (s : State) : Out := .next (effJobOpen buf s)

/-! ### JOB_CLOSE (R34, R36, R252) -/

/-- JOB_CLOSE on a slot: held while it is SEALED (R252), else the slot drains and its job is withdrawn from the links (R359). -/
def runJobClose (m : Nat) (s : State) : State :=
  let i := slotOfMbx m
  if (getSlot s i).step.st == .sealed then holdMbx s m
  else answerMbx (announceAll (drainSlot s i) i 0x04) m rsOk 0 []

/-- JOB_CLOSE (R34, R36). -/
def effJobClose (s : State) : State := runCommand (fun c => opOf c == 0x03) [] (fun m _ s => runJobClose m s) s

/-- Meaning of JOB_CLOSE. -/
def execJobClose (s : State) : Out := .next (effJobClose s)

/-! ### PROGRAM_LOAD (R152, R153, R456, R539) -/

/-- The 64-bit words of a byte string. -/
def words64 (n : Nat) (bs : Bytes) : List W64 := (wordsOf 8 n bs).map (BitVec.ofNat 64)

/-- CODE_WORDS of an image. -/
def imageCode (b : Bytes) : Nat := leAt b 4 4

/-- CONST_WORDS of an image. -/
def imageConsts (b : Bytes) : Nat := leAt b 8 4

/-- MIRROR_ENTRY of an image. -/
def imageMirror (b : Bytes) : Nat := leAt b 12 4

/-- The length of an image by its header (R456). -/
def imageLength (b : Bytes) : Nat := 64 + 8 * (imageCode b + (imageCode b + 31) / 32 + imageConsts b)

/-- Whether the header keeps its zero bytes and ranges (R539 check 2). -/
def imageHeaderOk (b : Bytes) : Bool :=
  leAt b 0 4 == 0 && leAt b 24 40 == 0 && imageCode b != 0 && imageConsts b ≤ 512

/-- The code words of an image. -/
def imageWords (b : Bytes) : List W64 := words64 (imageCode b) (b.drop 64)

/-- The mark map as one number, whose bits [2i + 1 : 2i] are word i's mark. -/
def imageMap (b : Bytes) : Nat := leAt b (64 + 8 * imageCode b) (8 * ((imageCode b + 31) / 32))

/-- The marks of an image's code words. -/
def imageMarks (b : Bytes) : List Nat :=
  let m := imageMap b
  (List.range (imageCode b)).map (fun i => bitsOf m (2 * i) 2)

/-- The constants of an image. -/
def imageConstWords (b : Bytes) : List W64 :=
  words64 (imageConsts b) (b.drop (64 + 8 * (imageCode b + (imageCode b + 31) / 32)))

/-- Whether a word is the first of a two-word opcode of R163: PUSH.BENCH, PUSH.BLK or PUSH.CADENCE. -/
def firstOfTwo (w : W64) : Bool :=
  let op := bitsOf w.toNat 0 8
  op == 0x41 || op == 0x42 || op == 0x46

/-- Whether the marks agree with the opcodes (R539 check 3): a continuation stands after a first word of two, and only there. -/
def marksAgree : Bool → List W64 → List Nat → Bool
  | expect, w :: ws, m :: ms =>
    if expect then m == 0 && marksAgree false ws ms
    else if m = 1 then marksAgree (firstOfTwo w) ws ms
    else if m = 2 then marksAgree false ws ms
    else false
  | expect, [], [] => !expect
  | _, [], _ :: _ => false
  | _, _ :: _, [] => false

/-- Whether an image is sound (R539 check 3), its buffer having the given length. -/
def imageSound (b : Bytes) (len : Nat) : Bool :=
  let n := imageCode b
  let marks := imageMarks b
  len == imageLength b && (crc64 (b.drop 64)).toNat == leAt b 16 8 && imageMap b < 2 ^ (2 * n)
    && marksAgree false (imageWords b) marks && natAt marks 0 == 1
    && (imageMirror b == 0xFFFFFFFF || natAt marks (imageMirror b) == 1)

/-- Where a load goes (R539 check 5): the versions without the one whose region it takes, or the status that refuses it. -/
def regionFor (ps : List ProgVer) (num : Nat) : Except Nat (List ProgVer) :=
  match ps.find? (fun v => v.num == num) with
  | some v =>
    if v.st == .selected || v.st == .inUse then .error rsRegionPinned else .ok (ps.filter (fun v => v.num != num))
  | none =>
    if ps.length < 8 then .ok ps
    else
      let old := ps.filter (fun v => v.st == .ready || v.st == .retired)
      match old with
      | [] => .error rsNoFreeRegion
      | v :: vs =>
        let w := vs.foldl (fun a x => if x.order < a.order then x else a) v
        .ok (ps.filter (fun v => v.num != w.num))

/-- The version that an image gives (R152, R456). -/
def loadedVersion (ps : List ProgVer) (num : Nat) (b : Bytes) : ProgVer where
  num := num
  st := .ready
  code := imageWords b
  marks := imageMarks b
  consts := imageConstWords b
  mirror := if imageMirror b = 0xFFFFFFFF then none else some (imageMirror b)
  order := (ps.map (·.order)).foldl max 0 + 1
  bad := false

/-- A slot with a version loaded and its measurement extended (R495); the cache share holds no copy of a region that was taken. -/
def loadVersion (sl : Slot) (kept : List ProgVer) (v : ProgVer) (b : Bytes) : Slot :=
  { sl with
    progs := kept ++ [v]
    resident := if kept.any (fun x => some x.num == sl.resident) then sl.resident else none
    meas := shaDigest (leBytes 48 sl.meas.toNat ++ sha384 b) }

/-- PROGRAM_LOAD on its image (R539, checks 2 to 5). -/
def runProgramLoad (m : Nat) (c b : Bytes) (s : State) : State :=
  let i := slotOfMbx m
  let sl := getSlot s i
  if !imageHeaderOk b then refuseMbx s m rsBadArgument
  else if !imageSound b (bufLen c 16) then refuseMbx s m rsProgramBad
  else if 4096 * sl.ob.cacheShare < 8 * imageCode b then refuseMbx s m rsProgramTooLarge
  else
    match regionFor sl.progs (leAt c 8 4) with
    | .error st => refuseMbx s m st
    | .ok kept =>
      let v := loadedVersion sl.progs (leAt c 8 4) b
      answerMbx (modSlot s i (fun sl => loadVersion sl kept v b)) m rsOk 0 []

/-- PROGRAM_LOAD (R539): check 1, then the image as long as its buffer. -/
def effProgramLoad (buf : HostBuf) (s : State) : State :=
  runCommand (fun c => opOf c == 0x09) [(8, 4), (16, 12)]
    (fun m c s =>
      if bufLen c 16 < 64 then refuseMbx s m rsHostBuffer
      else withRead m c 16 (bufLen c 16) buf (fun b s => runProgramLoad m c b s) s) s

/-- Meaning of PROGRAM_LOAD. -/
def execProgramLoad (buf : HostBuf) (s : State) : Out := .next (effProgramLoad buf s)

/-! ### PROGRAM_SELECT (R152, R539) -/

/-- The versions with one selected: the former selection is READY again, and the IN_USE version keeps its state. -/
def selectVersion (ps : List ProgVer) (num : Nat) : List ProgVer :=
  ps.map (fun v =>
    if v.num = num then (if v.st == .inUse then v else { v with st := .selected })
    else if v.st == .selected then { v with st := .ready }
    else v)

/-- PROGRAM_SELECT (R152, R539). -/
def effProgramSelect (s : State) : State :=
  runCommand (fun c => opOf c == 0x0A) [(8, 4)]
    (fun m c s =>
      let i := slotOfMbx m
      let num := leAt c 8 4
      match (getSlot s i).progs.find? (fun v => v.num == num) with
      | none => refuseMbx s m rsProgramUnknown
      | some v =>
        if v.st == .loading || v.st == .selected then refuseMbx s m rsProgramUnknown
        else answerMbx (modSlot s i (fun sl => { sl with progs := selectVersion sl.progs num })) m rsOk 0 []) s

/-- Meaning of PROGRAM_SELECT. -/
def execProgramSelect (s : State) : Out := .next (effProgramSelect s)

end Sys2Proof.Machine
end

