-- ==== Sys2Proof/Machine/GroupCmds.lean ====
section
/-! DEFINITION. Defining, regenerating and removing groups (R222 to R231, R453). -/

namespace Sys2Proof.Machine

/-! ### Member-list space (R229) -/

/-- The granules of 16 entries of a version's run. -/
def runGranules (v : GroupVer) : Nat := (v.list.length + 15) / 16

/-- The first granule of a version's run, from LIST_BASE. -/
def runBase (v : GroupVer) : Nat := geField v 576 22 / 16

/-- The version that a staged one is, if it is no removal. -/
def stagedVer (g : GroupSet) : Option GroupVer := g.staged.getD none

/-- The versions of a group whose runs are held: current, staged, and one still bound that is no longer current (R229). -/
def heldVersions (g : GroupSet) : List GroupVer :=
  g.cur.toList ++ (stagedVer g).toList ++ (if g.bound == g.cur then [] else g.bound.toList)

/-- The granules that a slot's groups hold. -/
def slotRunGranules (gs : Tbl GroupSet) : Nat := ((gs.flatMap (fun e => heldVersions e.2)).map runGranules).foldl (· + ·) 0

/-- The runs of the device, as first granule and length. -/
def deviceRuns (s : State) : List (Nat × Nat) :=
  s.slots.flatMap (fun e => e.2.groups.flatMap (fun g => (heldVersions g.2).map (fun v => (runBase v, runGranules v))))

/-- The lowest free run of n granules of the 2^18 that the device has, beside the runs in use (R222, R229). -/
def freeRun (runs : List (Nat × Nat)) (n : Nat) : Option Nat :=
  let fits (b : Nat) : Bool := b + n ≤ 2 ^ 18 && runs.all (fun r => r.1 + r.2 ≤ b || b + n ≤ r.1)
  ((0 :: runs.map (fun r => r.1 + r.2)).filter fits).foldl (fun best b => match best with
    | none => some b
    | some x => some (min x b)) none

/-! ### The checks of R228 -/

/-- Whether the entries of a list are distinct. -/
def allDistinct : List Nat → Bool
  | [] => true
  | x :: xs => !xs.contains x && allDistinct xs

/-- Whether the reserved fields of an entry are zero (R223). -/
def entryReservedZero (v : GroupVer) : Bool :=
  geField v 526 2 == 0 && geField v 538 6 == 0 && geField v 598 10 == 0 && geField v 625 15 == 0 && geField v 650 6 == 0
    && geField v 673 15 == 0 && geField v 730 38 == 0 && geField v 832 192 == 0

/-- Whether a device entry is well formed (R224). -/
def deviceEntryOk (tree : Bool) (e : W64) : Bool :=
  let n := e.toNat
  bitsOf n 0 2 == 0 && bitsOf n 3 13 == 0 && (tree || bitsOf n 32 32 == 0)

/-- Whether a trunk entry is well formed (R224). -/
def trunkEntryOk (e : W64) : Bool :=
  let n := e.toNat
  bitsOf n 0 2 == 1 && bitsOf n 2 1 == 0 && bitsOf n 12 4 == 0 && bitsOf n 32 32 == 0

/-- Whether the list has its counts and its entries their types (R223, R224). -/
def listShapeOk (v : GroupVer) : Bool :=
  let d := geDevices v
  1 ≤ d && d ≤ 65536 && geTrunks v ≤ 512 && v.list.length == d + geTrunks v
    && (groupDevEntries v).all (deviceEntryOk (geTree v)) && (v.list.drop d).all trunkEntryOk

/-- An open subtree while a preorder is read: its position, its last position and its children so far. -/
structure TreeOpen where
  pos : Nat
  last : Nat
  kids : Nat
  deriving DecidableEq, Repr

/-- Reads the positions of a multicast tree in order (R226): each position's parent is the innermost open subtree, whose end it does
not pass, and no device has more than 16 tree neighbours. -/
def treeReads : List TreeOpen → Nat → List W64 → Bool
  | _, _, [] => true
  | stack, i, e :: es =>
    let par := bitsOf e.toNat 32 16
    let last := bitsOf e.toNat 48 16
    match stack.dropWhile (fun o => o.last < i) with
    | [] => i == 0 && par == 0 && last == es.length && treeReads [⟨0, last, 0⟩] 1 es
    | o :: rest =>
      let k := o.kids + 1
      par == o.pos && i ≤ last && last ≤ o.last && k + b2n (o.pos != 0) ≤ 16
        && treeReads (⟨i, last, 0⟩ :: { o with kids := k } :: rest) (i + 1) es

/-- The devices that a trunk may lead to under the applicable rule (R225, R226). -/
def trunkNeighbours (v : GroupVer) : List Nat :=
  if geRelay v then []
  else if geTree v then (treeNeighbours v).map (groupDevAt v)
  else ringNeighbours v

/-- Whether the trunk entries name every neighbour and nothing else, on configured ports that are used once (R228). -/
def trunksOk (s : State) (v : GroupVer) : Bool :=
  let ts := groupTrunkEntries v
  let ns := trunkNeighbours v
  ns.all (fun d => ts.any (fun t => t.2 == d)) && ts.all (fun t => ns.contains t.2)
    && ts.all (fun t => (getPort s t.1).cfg.enable && !bitOf (geLocalPorts v) t.1) && allDistinct (ts.map Prod.fst)

/-- Whether the device entries name distinct devices, with this one at SELF or, for a relay, nowhere (R228). -/
def membersOk (s : State) (v : GroupVer) : Bool :=
  let ds := groupDevs v
  allDistinct ds
    && (if geRelay v then !ds.contains (selfId s) && geLocalPorts v == 0 && geSelf v == 0 && geTrunks v == 0
        else geSelf v < geDevices v && groupDevAt v (geSelf v) == selfId s)

/-- Whether the cadence fields describe a root, or a parent link and children apart from it (R228). -/
def cadenceOk (v : GroupVer) : Bool :=
  geCadDepth v ≤ 24 && 1 ≤ geCadDeadline v && (geCadRoot v || !bitOf (geCadChildren v) (geCadParent v))

/-- Whether a version passes every check of R228. -/
def listOk (s : State) (v : GroupVer) : Bool :=
  entryReservedZero v && listShapeOk v && (!geTree v || treeReads [] 0 (groupDevEntries v)) && membersOk s v && trunksOk s v
    && cadenceOk v

/-- Whether an entry asks for a removal and is sound as such (R230): no devices, no list, reserved fields zero. -/
def removalOk (v : GroupVer) : Bool := geDevices v == 0 && geTrunks v == 0 && v.list.isEmpty && entryReservedZero v

/-! ### Writing an entry (R223) -/

/-- LIST_CRC: over the device entries in list order. -/
def listCrc (v : GroupVer) : W64 := crc64 ((groupDevEntries v).flatMap (fun e => leBytes 8 e.toNat))

/-- A version with the fields that the device writes (R223). -/
def grantedVer (v : GroupVer) (slot gen base : Nat) : GroupVer :=
  let e := putBits v.entry.toNat 528 6 slot
  let e := putBits e 534 1 1
  let e := putBits e 537 1 0
  let e := putBits e 544 16 gen
  let e := putBits e 576 22 (16 * base)
  let e := putBits e 720 10 (groupPorts v).length
  { v with entry := BitVec.ofNat 1024 (putBits e 768 64 (listCrc v).toNat) }

/-- The version that a command's buffer holds: the entry and then its list. -/
def versionOf (n : Nat) (b : Bytes) : GroupVer := ⟨BitVec.ofNat 1024 (leAt b 0 128), words64 n (b.drop 128)⟩

/-- The results of GROUP_DEFINE and GROUP_REGEN (R453). -/
def groupResults (gen : Nat) (crc : W64) : Bytes := fitBytes 8 (leBytes 2 gen) ++ leBytes 8 crc.toNat

/-- A group's results stand at bytes 8 to 9 and 16 to 23 of the response. -/
def answerGroup (s : State) (m gen : Nat) (crc : W64) : State := answerMbx s m rsOk 0 (groupResults gen crc)

/-- What a slot holds for a group ID that it has never defined. -/
def groupSetInit : GroupSet := ⟨none, none, none, 0⟩

/-- A place for a new run (R229): within the slot's quota beside the runs that it holds, and free on the device. -/
def placeRun (s : State) (i : Nat) (held : Tbl GroupSet) (v : GroupVer) : Option Nat :=
  let s' := modSlot s i (fun sl => { sl with groups := held })
  if (getSlot s i).ob.memberListEntries < 16 * (slotRunGranules held + runGranules v) then none
  else freeRun (deviceRuns s') (runGranules v)

/-! ### GROUP_DEFINE (R228, R230) -/

/-- The group entries that the device holds (R222). -/
def groupEntries (s : State) : Nat := (s.slots.map (fun e => e.2.groups.length)).foldl (· + ·) 0

/-- GROUP_DEFINE on its entry and list. -/
def runGroupDefine (m : Nat) (c : Bytes) (v : GroupVer) (s : State) : State :=
  let i := slotOfMbx m
  let sl := getSlot s i
  let gid := leAt c 8 2
  let g := tget groupSetInit sl.groups gid
  if geGroupId v != gid then refuseMbx s m rsBadArgument
  else if g.cur.isSome then refuseMbx s m rsGroupExists
  else if !listOk s v then refuseMbx s m rsGroupBadList
  else if (tget? sl.groups gid).isNone && 16384 ≤ groupEntries s then refuseMbx s m rsGroupTableFull
  else
    match placeRun s i sl.groups v with
    | none => refuseMbx s m rsGroupNoSpace
    | some base =>
      let new := grantedVer v i 1 base
      answerGroup (modSlot s i (fun sl => { sl with groups := tset sl.groups gid { g with cur := some new } })) m 1 (listCrc v)

/-- A group command on its arguments: GROUP_ID and ENTRIES, then the entry and the list from its buffer. -/
def startGroup (f : Nat → Bytes → GroupVer → State → State) (buf : HostBuf) (m : Nat) (c : Bytes) (s : State) : State :=
  let n := leAt c 12 4
  if 2 ^ 14 ≤ leAt c 8 2 then refuseMbx s m rsBadArgument
  else withRead m c 16 (128 + 8 * n) buf (fun b s => f m c (versionOf n b) s) s

/-- GROUP_DEFINE (R228, R453). -/
def effGroupDefine (buf : HostBuf) (s : State) : State :=
  runCommand (fun c => opOf c == 0x07) [(8, 2), (12, 4), (16, 12)] (startGroup runGroupDefine buf) s

/-- Meaning of GROUP_DEFINE. -/
def execGroupDefine (buf : HostBuf) (s : State) : Out := .next (effGroupDefine buf s)

/-! ### GROUP_REGEN (R228, R230) -/

/-- A group's set put back in its slot's table, or out of it when nothing of the group is left. -/
def putGroup (gs : Tbl GroupSet) (gid : Nat) (g : GroupSet) : Tbl GroupSet :=
  if g.cur.isNone && g.staged.isNone && g.bound.isNone then terase gs gid else tset gs gid g

/-- A group with its next version, or its removal: staged while a step is armed, else current at once (R230). -/
def stageGroup (armed : Bool) (g : GroupSet) (v : Option GroupVer) : GroupSet :=
  if armed then { g with staged := some v } else { g with cur := v, staged := none }

/-- GROUP_REGEN on its entry and list. -/
def runGroupRegen (m : Nat) (c : Bytes) (v : GroupVer) (s : State) : State :=
  let i := slotOfMbx m
  let sl := getSlot s i
  let gid := leAt c 8 2
  let g := tget groupSetInit sl.groups gid
  let put (w : Option GroupVer) : State :=
    modSlot s i (fun sl => { sl with groups := putGroup sl.groups gid (stageGroup (stepArmed sl) g w) })
  if geGroupId v != gid then refuseMbx s m rsBadArgument
  else
    match g.cur with
    | none => refuseMbx s m rsGroupUndefined
    | some cur =>
      let gen := nextGen (geGen cur)
      if removalOk v then answerGroup (put none) m gen (listCrc v)
      else if !listOk s v then refuseMbx s m rsGroupBadList
      else
        match placeRun s i (tset sl.groups gid { g with staged := none }) v with
        | none => refuseMbx s m rsGroupNoSpace
        | some base => answerGroup (put (some (grantedVer v i gen base))) m gen (listCrc v)

/-- GROUP_REGEN (R228, R230, R453). -/
def effGroupRegen (buf : HostBuf) (s : State) : State :=
  runCommand (fun c => opOf c == 0x08) [(8, 2), (12, 4), (16, 12)] (startGroup runGroupRegen buf) s

/-- Meaning of GROUP_REGEN. -/
def execGroupRegen (buf : HostBuf) (s : State) : Out := .next (effGroupRegen buf s)

end Sys2Proof.Machine
end

