-- ==== Sys2Proof/Machine/Jig.lean ====
section
/-! DEFINITION. The jig core's instructions (R157 to R179), one meaning for each; each runs when the jig's next event is an
instruction of its opcode. -/

namespace Sys2Proof.Machine

/-! ### Fields (R162) -/

/-- OP. -/
def jOp (w : W64) : Nat := bitsOf w.toNat 0 8
/-- RD. -/
def jRD (w : W64) : Nat := bitsOf w.toNat 8 5
/-- RA. -/
def jRA (w : W64) : Nat := bitsOf w.toNat 13 5
/-- RB. -/
def jRB (w : W64) : Nat := bitsOf w.toNat 18 5
/-- AN of format A. -/
def jAN (w : W64) : Nat := bitsOf w.toNat 23 4
/-- IMM, zero-extended. -/
def jImm (w : W64) : W64 := w >>> 32
/-- IMM, sign-extended. -/
def jSImm (w : W64) : W64 := w.sshiftRight 32
/-- RA of format B. -/
def jBA (w : W64) : Nat := bitsOf w.toNat 8 5
/-- RB of format B. -/
def jBB (w : W64) : Nat := bitsOf w.toNat 13 5
/-- LC of format B. -/
def jLC (w : W64) : Nat := bitsOf w.toNat 18 2
/-- OFF of format B, signed. -/
def jOff (w : W64) : Int := toSigned 32 (bitsOf w.toNat 32 32)

/-- The bits that an instruction of format R uses. -/
def useR : W64 := 0x00000000007FFFFF#64
/-- The bits that an instruction of format I uses. -/
def useI : W64 := 0xFFFFFFFF0003FFFF#64
/-- The bits of OP, RD and IMM. -/
def useRdImm : W64 := 0xFFFFFFFF00001FFF#64
/-- The bits of OP, RA and IMM. -/
def useRaImm : W64 := 0xFFFFFFFF0003E0FF#64
/-- The bits of OP, the registers and the offset of a conditional branch. -/
def useB : W64 := 0xFFFFFFFF0003FFFF#64

/-! ### Registers (R157) -/

/-- A general register; G0 reads zero. -/
def jG (j : Jig) (n : Nat) : W64 := if n = 0 then 0 else j.g.getD n 0
/-- A general register written; writes to G0 are discarded. -/
def setG (j : Jig) (n : Nat) (v : W64) : Jig := if n = 0 then j else { j with g := j.g.setIfInBounds n v }
/-- An address register. -/
def jA (j : Jig) (n : Nat) : W64 := j.a.getD n 0
/-- A stride register. -/
def jS (j : Jig) (n : Nat) : W64 := j.s.getD n 0
/-- A loop counter. -/
def jL (j : Jig) (n : Nat) : W32 := j.l.getD n 0
/-- An address register written. -/
def setA (j : Jig) (n : Nat) (v : W64) : Jig := { j with a := j.a.setIfInBounds n v }
/-- A stride register written. -/
def setS (j : Jig) (n : Nat) (v : W64) : Jig := { j with s := j.s.setIfInBounds n v }
/-- A loop counter written. -/
def setL (j : Jig) (n : Nat) (v : W32) : Jig := { j with l := j.l.setIfInBounds n v }

/-! ### Executing one instruction (R160, R163, R177) -/

/-- How an instruction ends: the context after it with the PC it goes to and its cycles, or an exception with its detail. -/
inductive JigEnd where
  | done (j : Jig) (pc : Nat) (cycles : Nat)
  | fault (cause : Nat)
  deriving DecidableEq, Repr

/-- The word of the instruction that a slot's jig executes next, if the next event of its bench is an instruction with this opcode. -/
def jigNext (s : State) (i op : Nat) : Option W64 :=
  match nextBench s i with
  | some (_, .instr) => (jigWord (getSlot s i)).filter (fun w => jOp w == op)
  | some (_, .flight _) => none
  | some (_, .issue _) => none
  | some (_, .rest) => none
  | some (_, .overrun) => none
  | none => none

/-- What stops an instruction before its own checks: REP pending before an instruction that is no push (R172), and a nonzero
field that it does not use (R162). -/
def jigRefuses (j : Jig) (w used : W64) : Option Nat :=
  if j.rep.isSome then some sfRepMisuse else if w &&& ~~~used != 0 then some sfReservedField else none

/-- The jig's context and clock after an instruction. -/
def jigDone (s : State) (i : Nat) (j : Jig) (pc cycles : Nat) : State :=
  modBench s i (fun b => { b with jig := { j with pc := pc }, clock := b.clock + cycles })

/-- An instruction of an opcode that touches the context alone. -/
def jigRow (op : Nat) (used : W64) (f : Slot → W64 → JigEnd) (slot : SlotId) (s : State) : State :=
  let i := slot.val
  match jigNext s i op with
  | none => s
  | some w =>
    let s := atCycle s i (getSlot s i).bench.clock
    let sl := getSlot s i
    match jigRefuses sl.bench.jig w used with
    | some c => settled (jigFault s i c 0) i
    | none =>
      match f sl w with
      | .done j pc n => settled (jigDone s i j pc n) i
      | .fault c => settled (jigFault s i c 0) i

/-- The end of an instruction that writes one general register (R163). -/
def jigWrite (j : Jig) (rd : Nat) (v : W64) (cycles : Nat) : JigEnd := .done (setG j rd v) (j.pc + 1) cycles

/-- A register instruction of format R (R163). -/
def jigAlu (f : W64 → W64 → W64) (cycles : Nat) (sl : Slot) (w : W64) : JigEnd :=
  let j := sl.bench.jig
  jigWrite j (jRD w) (f (jG j (jRA w)) (jG j (jRB w))) cycles

/-- A register instruction with an immediate (R163). -/
def jigAluImm (f : W64 → W64 → W64) (imm : W64 → W64) (sl : Slot) (w : W64) : JigEnd :=
  let j := sl.bench.jig
  jigWrite j (jRD w) (f (jG j (jRA w)) (imm w)) 1

/-- A shift by an immediate whose bits [31:6] must be zero (R163). -/
def jigShiftImm (f : W64 → W64 → W64) (sl : Slot) (w : W64) : JigEnd :=
  if 64 ≤ (jImm w).toNat then .fault sfReservedField else jigAluImm f jImm sl w

/-- A word with 1 where a test holds and 0 elsewhere. -/
def bitWord (b : Bool) : W64 := if b then 1 else 0

/-- Shift left by the low six bits. -/
def jSll (a b : W64) : W64 := a <<< (b.toNat % 64)
/-- Logical shift right by the low six bits. -/
def jSrl (a b : W64) : W64 := a >>> (b.toNat % 64)
/-- Arithmetic shift right by the low six bits. -/
def jSra (a b : W64) : W64 := a.sshiftRight (b.toNat % 64)
/-- The high 64 bits of the unsigned product. -/
def jMulhu (a b : W64) : W64 := BitVec.ofNat 64 (a.toNat * b.toNat / 2 ^ 64)

/-- JIG_ADD. -/
def effJigAdd (slot : SlotId) (s : State) : State := jigRow 0x01 useR (jigAlu (· + ·) 1) slot s
/-- Meaning of JIG_ADD. -/
def execJigAdd (slot : SlotId) (s : State) : Out := .next (effJigAdd slot s)
/-- JIG_SUB. -/
def effJigSub (slot : SlotId) (s : State) : State := jigRow 0x02 useR (jigAlu (· - ·) 1) slot s
/-- Meaning of JIG_SUB. -/
def execJigSub (slot : SlotId) (s : State) : Out := .next (effJigSub slot s)
/-- JIG_AND. -/
def effJigAnd (slot : SlotId) (s : State) : State := jigRow 0x03 useR (jigAlu (· &&& ·) 1) slot s
/-- Meaning of JIG_AND. -/
def execJigAnd (slot : SlotId) (s : State) : Out := .next (effJigAnd slot s)
/-- JIG_OR. -/
def effJigOr (slot : SlotId) (s : State) : State := jigRow 0x04 useR (jigAlu (· ||| ·) 1) slot s
/-- Meaning of JIG_OR. -/
def execJigOr (slot : SlotId) (s : State) : Out := .next (effJigOr slot s)
/-- JIG_XOR. -/
def effJigXor (slot : SlotId) (s : State) : State := jigRow 0x05 useR (jigAlu (· ^^^ ·) 1) slot s
/-- Meaning of JIG_XOR. -/
def execJigXor (slot : SlotId) (s : State) : Out := .next (effJigXor slot s)
/-- JIG_SLL. -/
def effJigSll (slot : SlotId) (s : State) : State := jigRow 0x06 useR (jigAlu jSll 1) slot s
/-- Meaning of JIG_SLL. -/
def execJigSll (slot : SlotId) (s : State) : Out := .next (effJigSll slot s)
/-- JIG_SRL. -/
def effJigSrl (slot : SlotId) (s : State) : State := jigRow 0x07 useR (jigAlu jSrl 1) slot s
/-- Meaning of JIG_SRL. -/
def execJigSrl (slot : SlotId) (s : State) : Out := .next (effJigSrl slot s)
/-- JIG_SRA. -/
def effJigSra (slot : SlotId) (s : State) : State := jigRow 0x08 useR (jigAlu jSra 1) slot s
/-- Meaning of JIG_SRA. -/
def execJigSra (slot : SlotId) (s : State) : Out := .next (effJigSra slot s)
/-- JIG_MUL. -/
def effJigMul (slot : SlotId) (s : State) : State := jigRow 0x09 useR (jigAlu (· * ·) 4) slot s
/-- Meaning of JIG_MUL. -/
def execJigMul (slot : SlotId) (s : State) : Out := .next (effJigMul slot s)
/-- JIG_MULHU. -/
def effJigMulhu (slot : SlotId) (s : State) : State := jigRow 0x0A useR (jigAlu jMulhu 4) slot s
/-- Meaning of JIG_MULHU. -/
def execJigMulhu (slot : SlotId) (s : State) : Out := .next (effJigMulhu slot s)
/-- JIG_SLT. -/
def effJigSlt (slot : SlotId) (s : State) : State := jigRow 0x0B useR (jigAlu (fun a b => bitWord (a.slt b)) 1) slot s
/-- Meaning of JIG_SLT. -/
def execJigSlt (slot : SlotId) (s : State) : Out := .next (effJigSlt slot s)
/-- JIG_SLTU. -/
def effJigSltu (slot : SlotId) (s : State) : State := jigRow 0x0C useR (jigAlu (fun a b => bitWord (a.ult b)) 1) slot s
/-- Meaning of JIG_SLTU. -/
def execJigSltu (slot : SlotId) (s : State) : Out := .next (effJigSltu slot s)
/-- JIG_MIN, signed. -/
def effJigMin (slot : SlotId) (s : State) : State := jigRow 0x0D useR (jigAlu (fun a b => if b.slt a then b else a) 1) slot s
/-- Meaning of JIG_MIN. -/
def execJigMin (slot : SlotId) (s : State) : Out := .next (effJigMin slot s)
/-- JIG_MAX, signed. -/
def effJigMax (slot : SlotId) (s : State) : State := jigRow 0x0E useR (jigAlu (fun a b => if a.slt b then b else a) 1) slot s
/-- Meaning of JIG_MAX. -/
def execJigMax (slot : SlotId) (s : State) : Out := .next (effJigMax slot s)

/-- ADDI. -/
def effJigAddi (slot : SlotId) (s : State) : State := jigRow 0x10 useI (jigAluImm (· + ·) jSImm) slot s
/-- Meaning of ADDI. -/
def execJigAddi (slot : SlotId) (s : State) : Out := .next (effJigAddi slot s)
/-- ANDI. -/
def effJigAndi (slot : SlotId) (s : State) : State := jigRow 0x11 useI (jigAluImm (· &&& ·) jImm) slot s
/-- Meaning of ANDI. -/
def execJigAndi (slot : SlotId) (s : State) : Out := .next (effJigAndi slot s)
/-- ORI. -/
def effJigOri (slot : SlotId) (s : State) : State := jigRow 0x12 useI (jigAluImm (· ||| ·) jImm) slot s
/-- Meaning of ORI. -/
def execJigOri (slot : SlotId) (s : State) : Out := .next (effJigOri slot s)
/-- XORI. -/
def effJigXori (slot : SlotId) (s : State) : State := jigRow 0x13 useI (jigAluImm (· ^^^ ·) jImm) slot s
/-- Meaning of XORI. -/
def execJigXori (slot : SlotId) (s : State) : Out := .next (effJigXori slot s)
/-- SLLI. -/
def effJigSlli (slot : SlotId) (s : State) : State := jigRow 0x14 useI (jigShiftImm jSll) slot s
/-- Meaning of SLLI. -/
def execJigSlli (slot : SlotId) (s : State) : Out := .next (effJigSlli slot s)
/-- SRLI. -/
def effJigSrli (slot : SlotId) (s : State) : State := jigRow 0x15 useI (jigShiftImm jSrl) slot s
/-- Meaning of SRLI. -/
def execJigSrli (slot : SlotId) (s : State) : Out := .next (effJigSrli slot s)
/-- SRAI. -/
def effJigSrai (slot : SlotId) (s : State) : State := jigRow 0x16 useI (jigShiftImm jSra) slot s
/-- Meaning of SRAI. -/
def execJigSrai (slot : SlotId) (s : State) : Out := .next (effJigSrai slot s)
/-- LUI. -/
def effJigLui (slot : SlotId) (s : State) : State := jigRow 0x17 useRdImm (jigAluImm (fun _ v => v <<< 32) jImm) slot s
/-- Meaning of LUI. -/
def execJigLui (slot : SlotId) (s : State) : Out := .next (effJigLui slot s)
/-- SLTI. -/
def effJigSlti (slot : SlotId) (s : State) : State := jigRow 0x18 useI (jigAluImm (fun a b => bitWord (a.slt b)) jSImm) slot s
/-- Meaning of SLTI. -/
def execJigSlti (slot : SlotId) (s : State) : Out := .next (effJigSlti slot s)

/-! ### Address registers and loop counters (R163) -/

/-- ASET: An and Sn from two general registers. -/
def aset (sl : Slot) (w : W64) : JigEnd :=
  let j := sl.bench.jig
  .done (setS (setA j (jAN w) (jG j (jRA w))) (jAN w) (jG j (jRB w))) (j.pc + 1) 1

/-- AADD. -/
def aadd (sl : Slot) (w : W64) : JigEnd :=
  let j := sl.bench.jig
  .done (setA j (jAN w) (jA j (jAN w) + jSImm w)) (j.pc + 1) 1

/-- LSET: AN must be 0 to 3. -/
def lsetCounter (sl : Slot) (w : W64) : JigEnd :=
  let j := sl.bench.jig
  if 3 < jAN w then .fault sfReservedField
  else .done (setL j (jAN w) ((jG j (jRA w) + jSImm w).setWidth 32)) (j.pc + 1) 1

/-- LRD: AN must be 0 to 3. -/
def lrd (sl : Slot) (w : W64) : JigEnd :=
  let j := sl.bench.jig
  if 3 < jAN w then .fault sfReservedField else jigWrite j (jRD w) ((jL j (jAN w)).setWidth 64) 1

/-- ASET. -/
def effJigAset (slot : SlotId) (s : State) : State := jigRow 0x20 0x0000000007FFE0FF#64 aset slot s
/-- Meaning of ASET. -/
def execJigAset (slot : SlotId) (s : State) : Out := .next (effJigAset slot s)
/-- AADD. -/
def effJigAadd (slot : SlotId) (s : State) : State := jigRow 0x21 0xFFFFFFFF078000FF#64 aadd slot s
/-- Meaning of AADD. -/
def execJigAadd (slot : SlotId) (s : State) : Out := .next (effJigAadd slot s)
/-- ARD. -/
def effJigArd (slot : SlotId) (s : State) : State :=
  jigRow 0x22 0x0000000007801FFF#64 (fun sl w => jigWrite sl.bench.jig (jRD w) (jA sl.bench.jig (jAN w)) 1) slot s
/-- Meaning of ARD. -/
def execJigArd (slot : SlotId) (s : State) : Out := .next (effJigArd slot s)
/-- SRD. -/
def effJigSrd (slot : SlotId) (s : State) : State :=
  jigRow 0x23 0x0000000007801FFF#64 (fun sl w => jigWrite sl.bench.jig (jRD w) (jS sl.bench.jig (jAN w)) 1) slot s
/-- Meaning of SRD. -/
def execJigSrd (slot : SlotId) (s : State) : Out := .next (effJigSrd slot s)
/-- LSET. -/
def effJigLset (slot : SlotId) (s : State) : State := jigRow 0x24 0xFFFFFFFF0783E0FF#64 lsetCounter slot s
/-- Meaning of LSET. -/
def execJigLset (slot : SlotId) (s : State) : Out := .next (effJigLset slot s)
/-- LRD. -/
def effJigLrd (slot : SlotId) (s : State) : State := jigRow 0x25 0x0000000007801FFF#64 lrd slot s
/-- Meaning of LRD. -/
def execJigLrd (slot : SlotId) (s : State) : Out := .next (effJigLrd slot s)

/-! ### Branches (R164, R165) -/

/-- The end of a taken branch: two cycles, and PC_RANGE where the target begins no instruction. -/
def branchTo (sl : Slot) (j : Jig) (w : W64) : JigEnd :=
  let t : Int := (sl.bench.jig.pc : Int) + jOff w
  if t < 0 || (fetchWord sl t.toNat 1).isNone then .fault sfPcRange else .done j t.toNat 2

/-- A conditional branch. -/
def branchIf (c : W64 → W64 → Bool) (sl : Slot) (w : W64) : JigEnd :=
  let j := sl.bench.jig
  if c (jG j (jBA w)) (jG j (jBB w)) then branchTo sl j w else .done j (j.pc + 1) 1

/-- LOOP (R165). -/
def loopBranch (sl : Slot) (w : W64) : JigEnd :=
  let j := sl.bench.jig
  let v := jL j (jLC w)
  if v = 0 then .fault sfLoopZero
  else
    let j := setL j (jLC w) (v - 1)
    if v - 1 != 0 then branchTo sl j w else .done j (j.pc + 1) 1

/-- BEQ. -/
def effJigBeq (slot : SlotId) (s : State) : State := jigRow 0x28 useB (branchIf (· == ·)) slot s
/-- Meaning of BEQ. -/
def execJigBeq (slot : SlotId) (s : State) : Out := .next (effJigBeq slot s)
/-- BNE. -/
def effJigBne (slot : SlotId) (s : State) : State := jigRow 0x29 useB (branchIf (· != ·)) slot s
/-- Meaning of BNE. -/
def execJigBne (slot : SlotId) (s : State) : Out := .next (effJigBne slot s)
/-- BLT. -/
def effJigBlt (slot : SlotId) (s : State) : State := jigRow 0x2A useB (branchIf (fun a b => a.slt b)) slot s
/-- Meaning of BLT. -/
def execJigBlt (slot : SlotId) (s : State) : Out := .next (effJigBlt slot s)
/-- BGE. -/
def effJigBge (slot : SlotId) (s : State) : State := jigRow 0x2B useB (branchIf (fun a b => b.sle a)) slot s
/-- Meaning of BGE. -/
def execJigBge (slot : SlotId) (s : State) : Out := .next (effJigBge slot s)
/-- BLTU. -/
def effJigBltu (slot : SlotId) (s : State) : State := jigRow 0x2C useB (branchIf (fun a b => a.ult b)) slot s
/-- Meaning of BLTU. -/
def execJigBltu (slot : SlotId) (s : State) : Out := .next (effJigBltu slot s)
/-- BGEU. -/
def effJigBgeu (slot : SlotId) (s : State) : State := jigRow 0x2D useB (branchIf (fun a b => b.ule a)) slot s
/-- Meaning of BGEU. -/
def execJigBgeu (slot : SlotId) (s : State) : Out := .next (effJigBgeu slot s)
/-- JMP. -/
def effJigJmp (slot : SlotId) (s : State) : State :=
  jigRow 0x2E 0xFFFFFFFF000000FF#64 (fun sl w => branchTo sl sl.bench.jig w) slot s
/-- Meaning of JMP. -/
def execJigJmp (slot : SlotId) (s : State) : Out := .next (effJigJmp slot s)
/-- LOOP. -/
def effJigLoop (slot : SlotId) (s : State) : State := jigRow 0x2F 0xFFFFFFFF000C00FF#64 loopBranch slot s
/-- Meaning of LOOP. -/
def execJigLoop (slot : SlotId) (s : State) : Out := .next (effJigLoop slot s)

/-! ### Constants, special values, cadence results, pacing (R159, R166, R167) -/

/-- LDC: an index at or above CONST_WORDS raises CONST_RANGE (R166). -/
def ldc (sl : Slot) (w : W64) : JigEnd :=
  let j := sl.bench.jig
  let k := (jG j (jRA w) + jSImm w).toNat
  match ((progVer sl).map (fun v => v.consts)).getD [] with
  | cs => if k < cs.length then jigWrite j (jRD w) (cs.getD k 0) 2 else .fault sfConstRange

/-- RDCAD (R166). -/
def rdcad (sl : Slot) (w : W64) : JigEnd :=
  let j := sl.bench.jig
  let k := (jG j (jRA w) + jSImm w).toNat
  if 255 < k then .fault sfReservedField
  else match tget? j.results k with
    | some v => jigWrite j (jRD w) v 2
    | none => .fault sfCadenceNotDone

/-- The offset of the jig's clock from the segment base (R144, R161). -/
def jigOffset (b : Bench) : Int := (b.clock : Int) - b.base

/-- The special values (R159); none for a reserved number. -/
def special (s : State) (sl : Slot) (n : Nat) : Option W64 :=
  match n with
  | 0x00 => some (BitVec.ofNat 64 (progStep sl))
  | 0x01 => some (BitVec.ofNat 64 sl.step.attempt)
  | 0x03 => some (BitVec.ofNat 64 sl.ob.w)
  | 0x04 => some (bitWord sl.ob.masterFp64)
  | 0x05 => some (BitVec.ofNat 64 (areaRowMax s sl .primary))
  | 0x06 => some (BitVec.ofNat 64 (areaRowMax s sl .mirror))
  | 0x07 => some (BitVec.ofNat 64 sl.shard.scratchRows)
  | 0x08 => some (BitVec.ofNat 64 sl.ob.seed)
  | 0x09 => some (BitVec.ofNat 64 (((progVer sl).map (fun v => v.num)).getD 0))
  | 0x0A => some (BitVec.ofInt 64 (jigOffset sl.bench))
  | 0x0B => some (BitVec.ofNat 64 sl.bench.segment)
  | _ => none

/-- RDSPR: SLOT is the slot's own number. -/
def rdspr (s : State) (i : Nat) (sl : Slot) (w : W64) : JigEnd :=
  let n := (jImm w).toNat
  if n = 2 then jigWrite sl.bench.jig (jRD w) (BitVec.ofNat 64 i) 1
  else match special s sl n with
    | some v => jigWrite sl.bench.jig (jRD w) v 1
    | none => .fault sfReservedField

/-- PACE: one cycle, or up to the offset of its operand (R167). -/
def pace (sl : Slot) (w : W64) : JigEnd :=
  let j := sl.bench.jig
  .done j (j.pc + 1) (max 1 ((jG j (jRA w) + jSImm w).toInt - jigOffset sl.bench)).toNat

/-- REP: an interval of zero raises REP_MISUSE (R172). -/
def repInstr (sl : Slot) (w : W64) : JigEnd :=
  let j := sl.bench.jig
  if bitsOf w.toNat 20 8 = 0 then .fault sfRepMisuse
  else .done { j with rep := some (bitsOf w.toNat 8 12 + 1, bitsOf w.toNat 20 8) } (j.pc + 1) 1

/-- LDC. -/
def effJigLdc (slot : SlotId) (s : State) : State := jigRow 0x30 useI ldc slot s
/-- Meaning of LDC. -/
def execJigLdc (slot : SlotId) (s : State) : Out := .next (effJigLdc slot s)
/-- RDSPR. -/
def effJigRdspr (slot : SlotId) (s : State) : State := jigRow 0x31 useRdImm (rdspr s slot.val) slot s
/-- Meaning of RDSPR. -/
def execJigRdspr (slot : SlotId) (s : State) : Out := .next (effJigRdspr slot s)
/-- RDCAD. -/
def effJigRdcad (slot : SlotId) (s : State) : State := jigRow 0x32 useI rdcad slot s
/-- Meaning of RDCAD. -/
def execJigRdcad (slot : SlotId) (s : State) : Out := .next (effJigRdcad slot s)
/-- PACE. -/
def effJigPace (slot : SlotId) (s : State) : State := jigRow 0x33 useRaImm pace slot s
/-- Meaning of PACE. -/
def execJigPace (slot : SlotId) (s : State) : Out := .next (effJigPace slot s)
/-- REP. -/
def effJigRep (slot : SlotId) (s : State) : State := jigRow 0x40 0x000000000FFFFFFF#64 repInstr slot s
/-- Meaning of REP. -/
def execJigRep (slot : SlotId) (s : State) : Out := .next (effJigRep slot s)
/-- NOP. -/
def effJigNop (slot : SlotId) (s : State) : State :=
  jigRow 0x55 0x00000000000000FF#64 (fun sl _ => .done sl.bench.jig (sl.bench.jig.pc + 1) 1) slot s
/-- Meaning of NOP. -/
def execJigNop (slot : SlotId) (s : State) : Out := .next (effJigNop slot s)

/-- Whether R163 marks an opcode ILLEGAL_OPCODE. -/
def opcodeIllegal (op : Nat) : Bool :=
  op == 0 || op == 0x0F || (0x19 ≤ op && op ≤ 0x1F) || op == 0x26 || op == 0x27 || (0x34 ≤ op && op ≤ 0x3F)
    || (0x47 ≤ op && op ≤ 0x4F) || 0x56 ≤ op

/-- ILLEGAL_OPCODE (R163, R176). -/
def effJigIllegalOpcode (slot : SlotId) (s : State) : State :=
  let i := slot.val
  match nextBench s i, jigWord (getSlot s i) with
  | some (_, .instr), some w => if opcodeIllegal (jOp w) then settled (jigFault s i sfIllegalOpcode 0) i else s
  | some (_, .instr), none => s
  | some (_, .flight _), _ => s
  | some (_, .issue _), _ => s
  | some (_, .rest), _ => s
  | some (_, .overrun), _ => s
  | none, _ => s
/-- Meaning of ILLEGAL_OPCODE. -/
def execJigIllegalOpcode (slot : SlotId) (s : State) : Out := .next (effJigIllegalOpcode slot s)

/-! ### ARM (R174) -/

/-- The descriptor in four general registers from rd on. -/
def descOf (j : Jig) (rd : Nat) : BitVec 256 :=
  BitVec.ofNat 256 (packFields ((List.range 4).map (fun k => (64, (jG j (rd + k)).toNat))))

/-- ARM, in 8 cycles: no ARMED token is posted; a refusal raises ARM_REFUSED with the status (R174); none in a mirror pass (R266). -/
def effJigArm (slot : SlotId) (s : State) : State :=
  let i := slot.val
  match jigNext s i 0x53 with
  | none => s
  | some w =>
    let s := atCycle s i (getSlot s i).bench.clock
    let sl := getSlot s i
    let j := sl.bench.jig
    let rd := jRD w
    match jigRefuses j w 0x0000000000001FFF#64 with
    | some c => settled (jigFault s i c 0) i
    | none =>
      if sl.bench.pass || rd % 4 != 0 || rd = 0 then settled (jigFault s i sfReservedField 0) i
      else
        match armStatus s i (descOf j rd) with
        | some st => settled (jigFault s i sfArmRefused st) i
        | none => settled (jigDone (armBucket s i (descOf j rd)) i (getSlot s i).bench.jig (j.pc + 1) 8) i
/-- Meaning of ARM. -/
def execJigArm (slot : SlotId) (s : State) : Out := .next (effJigArm slot s)

/-! ### The end of a segment (R144 to R146, R173, R175, R541) -/

/-- An instruction that ends the segment: YIELD_IN_FLIGHT where a queue entry still has an issue at or after its cycle (R541). -/
def endSegment (s : State) (i : Nat) (how : SegEnd) (t : Option Token) : State :=
  let b := (getSlot s i).bench
  if b.queue.any (fun x => b.clock ≤ x.cycle) || b.past.any (fun x => x.cycle == b.clock) then settled (jigFault s i sfYieldInFlight 0) i
  else settled (modBench s i (fun b => { b with
    jig := { b.jig with pc := b.jig.pc + 1 }, run := .completing, segEnd := how, waitFor := t })) i

/-- KIND of format W. -/
def jKind (w : W64) : Nat := bitsOf w.toNat 8 2
/-- RA of format W. -/
def jWA (w : W64) : Nat := bitsOf w.toNat 10 5

/-- The token that an AWAIT names (R173); none for a reserved kind. -/
def tokenOf (j : Jig) (w : W64) : Option Token :=
  let n := ((jG j (jWA w)).toNat + bitsOf w.toNat 16 16) % 2 ^ 16
  match jKind w with
  | 0 => some (.bucket n)
  | 1 => some (.cadence n)
  | 2 => some (.armed n)
  | _ => none

/-- AWAIT_UNKNOWN (R145, R173, R266): a bucket that is not armed, a tag with no operation launched, and in a mirror pass every
BUCKET and ARMED token. -/
def tokenUnknown (sl : Slot) (t : Token) : Bool :=
  match t with
  | .bucket n => sl.bench.pass || (armedBucket sl n).isNone
  | .cadence k => 255 < k || ((tget? sl.bench.jig.results k).isNone && !sl.bench.jig.busy.contains k)
  | .armed _ => sl.bench.pass

/-- AWAIT and AWAIT.Y. -/
def awaitRow (op : Nat) (how : SegEnd) (slot : SlotId) (s : State) : State :=
  let i := slot.val
  match jigNext s i op with
  | none => s
  | some w =>
    let s := atCycle s i (getSlot s i).bench.clock
    let sl := getSlot s i
    match jigRefuses sl.bench.jig w 0x00000000FFFF7FFF#64, tokenOf sl.bench.jig w with
    | some c, _ => settled (jigFault s i c 0) i
    | none, none => settled (jigFault s i sfReservedField 0) i
    | none, some t => if tokenUnknown sl t then settled (jigFault s i sfAwaitUnknown 0) i else endSegment s i how (some t)

/-- YIELD and END, whose other fields are zero (R173). -/
def endRow (op : Nat) (how : SegEnd) (slot : SlotId) (s : State) : State :=
  let i := slot.val
  match jigNext s i op with
  | none => s
  | some w =>
    let s := atCycle s i (getSlot s i).bench.clock
    match jigRefuses (getSlot s i).bench.jig w 0x00000000000000FF#64 with
    | some c => settled (jigFault s i c 0) i
    | none => endSegment s i how none

/-- AWAIT (R145). -/
def effJigAwait (slot : SlotId) (s : State) : State := awaitRow 0x50 .await slot s
/-- Meaning of AWAIT. -/
def execJigAwait (slot : SlotId) (s : State) : Out := .next (effJigAwait slot s)
/-- AWAIT_Y (R146). -/
def effJigAwaitY (slot : SlotId) (s : State) : State := awaitRow 0x51 .yield slot s
/-- Meaning of AWAIT_Y. -/
def execJigAwaitY (slot : SlotId) (s : State) : Out := .next (effJigAwaitY slot s)
/-- YIELD (R146). -/
def effJigYield (slot : SlotId) (s : State) : State := endRow 0x52 .yield slot s
/-- Meaning of YIELD. -/
def execJigYield (slot : SlotId) (s : State) : Out := .next (effJigYield slot s)
/-- END (R175). -/
def effJigEnd (slot : SlotId) (s : State) : State := endRow 0x54 .program slot s
/-- Meaning of END. -/
def execJigEnd (slot : SlotId) (s : State) : Out := .next (effJigEnd slot s)

/-! ### Segments begin, turns end (R144, R148, R149, R154, R157, R161) -/

/-- A segment begins at the slot's clock: its base 32 cycles later, its first instruction now (R144, R161). -/
def beginSegment (s : State) (i : Nat) : State :=
  let t := s.time
  settled (modBench s i (fun b => { b with
    base := b.clock + 32, startCycle := b.clock, startTime := t, segment := b.segment + 1, run := .running, waitFor := none })) i

/-- The bench of a slot when a program begins: every register UNWRITTEN and the context at its reset values, at an entry point. -/
def programBench (b : Bench) (entry : Nat) (results : Tbl W64) (pass : Bool) : Bench :=
  { benchInit with
    clock := b.clock, account := b.account, turnStart := b.clock, pass := pass
    jig := { jigInit with pc := entry, results := results } }

/-- The first segment of a program is segment 0 (R159). -/
def firstSegment (s : State) (i : Nat) : State :=
  let t := s.time
  settled (modBench s i (fun b => { b with
    base := b.clock + 32, startCycle := b.clock, startTime := t, segment := 0, run := .running })) i

/-- A waiting mirror pass begins from the mirror entry of the version that its step ran, with the cadence results as the step left
them (R154, R265). -/
def beginPass (s : State) (i : Nat) : State :=
  let sl := getSlot s i
  let entry := ((sl.tan.passVer.bind (fun n => sl.progs.find? (fun v => v.num == n))).bind (fun v => v.mirror)).getD 0
  let s := modSlot s i (fun sl => { sl with
    bench := programBench sl.bench entry sl.bench.jig.results true
    resident := sl.tan.passVer
    tan := { sl.tan with passWaiting := false } })
  firstSegment s i

/-- The program of the armed step begins at word 0 (R154, R157). -/
def beginProgram (s : State) (i : Nat) : State :=
  let s := modSlot s i (fun sl => { sl with
    bench := programBench sl.bench 0 [] false
    resident := sl.running
    step := { sl.step with started := true } })
  firstSegment s i

/-- What a slot that holds the bench does next at a segment's beginning: a waiting pass first, then the step's program, then the
next segment of the context. -/
def beginNext (s : State) (i : Nat) : State :=
  let sl := getSlot s i
  if sl.tan.passWaiting then beginPass s i
  else if canStart s sl then beginProgram s i
  else if (sl.bench.run == .yielded || sl.bench.run == .holding) && waitOver sl then beginSegment s i
  else s

/-- The ready slots in ascending order after a slot, wrapping (R148). -/
def readyAfter (s : State) (h : Nat) : Option Nat :=
  ((List.range 64).map (fun k => (h + 1 + k) % 64)).find? (benchReady s)

/-- The bench granted to a slot (R148, R536): its account refilled, the handover of 32 cycles taken, a turn begun. -/
def grantBench (s : State) (i : Nat) : State :=
  let s := { s with holder := some i, time := timeMask (s.time + 32 * 2 / 5) }
  modSlot s i (fun sl => { sl with bench := { sl.bench with
    account := min (sl.bench.account + ((sl.ob.benchWeight * 4096 : Nat) : Int)) ((sl.ob.benchWeight * 65536 : Nat) : Int)
    turnStart := sl.bench.clock } })

/-- SEGMENT_BEGIN (R144, R148): a slot that holds the bench and whose token is present begins its next segment; an idle bench is
granted to the first ready slot after the last holder. -/
def effSegmentBegin (slot : SlotId) (s : State) : State :=
  let i := slot.val
  if s.holder == some i then
    let sl := getSlot s i
    if sl.bench.run == .holding then (if waitOver sl then beginSegment s i else s)
    else if benchReady s i && sl.bench.run != .running && sl.bench.run != .completing && sl.bench.run != .refused then beginNext s i
    else s
  else if s.holder.isNone && readyAfter s s.benchLast == some i then beginNext (grantBench s i) i
  else s
/-- Meaning of SEGMENT_BEGIN. -/
def execSegmentBegin (slot : SlotId) (s : State) : Out := .next (effSegmentBegin slot s)

/-- TURN_OVERRUN (R149, R178). -/
def effTurnOverrun (slot : SlotId) (s : State) : State :=
  let i := slot.val
  match nextBench s i with
  | some (c, .overrun) =>
    let b := (getSlot s i).bench
    settled (scheduleFault s i ⟨sfTurnOverrun, 6, none, none, c, 0, 0, b.jig.pc, 0⟩) i
  | some (_, .flight _) => s
  | some (_, .issue _) => s
  | some (_, .instr) => s
  | some (_, .rest) => s
  | none => s
/-- Meaning of TURN_OVERRUN. -/
def execTurnOverrun (slot : SlotId) (s : State) : Out := .next (effTurnOverrun slot s)

end Sys2Proof.Machine
end

