-- ==== Sys2Proof/Machine/LinkConfig.lean ====
section
/-! DEFINITION. LINK_CONFIG (R458): its write forms, each a function of its block that refuses with a status or changes the state (R306,
R325, R337, R338, R390, R393, R404), and its read forms with the records of R334, R349, R377, R395, R408 and R409. -/

namespace Sys2Proof.Machine

/-- What a write form comes to: a status, or the state it leaves. -/
abbrev CfgRes := Except Nat State

/-! ### DEVICE (R15, R337, R404) -/

/-- The pool counts that a DEVICE block names. -/
def devicePools (b : Bytes) : List Nat := (List.range 4).map (fun k => leAt b (4 + 2 * k) 2)

/-- Whether a carving keeps the limits of R337: area a of 16 MiB units and four counts. -/
def carveOk (a : Nat) (ns : List Nat) : Bool :=
  4 ≤ a && a ≤ 12 && ns.all (fun n => 16 ≤ n)
    && ((ns.zip (List.range 4)).map (fun e => e.1 * poolSize e.2)).foldl (· + ·) 0 ≤ (256 - 16 * a) * 8192

/-- Whether any slot is OPEN or any port up (R337). -/
def fabricBusy (s : State) : Bool := s.slots.any (fun e => e.2.st == .open_) || s.ports.any (fun e => e.2.up)

/-- Whether the receive reserves leave 64 unreserved pool-0 buffers on every slice that has some (R338). -/
def reservesFit (s : State) : Bool :=
  (List.range 128).all (fun t => reservedOn s t == 0 || reservedOn s t + 64 ≤ poolCount s 0)

/-- The fabric carved anew; what it had drawn at the least is forgotten with the old carving. -/
def carveFabric (f : Fabric) (a : Nat) (ns : List Nat) : Fabric :=
  { f with accArea := a, pools := ns, stats := tmap f.stats (fun _ q => { q with low := none }) }

/-- The time record as a DEVICE block sets it: the root, or a parent link (R404). -/
def timeConfig (t : TimeRec) (root : Bool) (parent : Nat) : TimeRec :=
  if root then { t with st := 3, parent := 0, depth := 0, hold := 0, slew := 0, t1 := none, goodRun := 0 }
  else if t.st = 3 then { t with st := 0, parent := parent, t1 := none, goodRun := 0 }
  else if t.parent = parent then t
  else { t with parent := parent, t1 := none, goodRun := 0 }

/-- LINK_CONFIG form DEVICE (R337, R404, R458). -/
def configDevice (b : Bytes) (s : State) : CfgRes :=
  let a := leAt b 2 1
  let ns := devicePools b
  let flags := leAt b 12 1
  let root := bitOf flags 0
  let setTime := bitOf flags 1
  let changes := a != s.fab.accArea || ns != s.fab.pools
  let carved := { s with fab := carveFabric s.fab a ns }
  if leAt b 3 1 != 0 || 3 < flags || 7 < leAt b 13 1 || leAt b 14 2 != 0 then .error rsBadArgument
  else if setTime && (!root || openCount s != 0 || leAt b 16 8 < s.time) then .error rsBadArgument
  else if !carveOk a ns then .error rsPoolBadCarve
  else if changes && fabricBusy s then .error rsPoolBusy
  else if changes && !reservesFit carved then .error rsPoolNoSpace
  else
    let s := if changes then carved else s
    let t := timeConfig s.timeRec root (leAt b 13 1)
    let s := { s with
      host := { s.host with deviceId := BitVec.ofNat 16 (leAt b 0 2), deviceIdValid := true }
      timeRec := t }
    .ok (if setTime then { s with time := leAt b 16 8, timeRec := { t with frac := 0 } } else s)

/-! ### PORT (R306, R319, R325, R338, R390) -/

/-- The port settings that a PORT block names. -/
def portCfgOf (b : Bytes) : PortCfg where
  enable := bitOf (leAt b 0 1) 0
  trunk := bitOf (leAt b 0 1) 1
  cr := bitOf (leAt b 0 1) 2
  width := bitsOf (leAt b 0 1) 3 2
  storeForward := bitsOf (leAt b 1 1) 0 5
  idleEn := bitOf (leAt b 1 1) 5
  weights := (List.range 5).map (fun c => leAt b (2 + c) 1)
  rxCredits := (List.range 5).map (fun c => leAt b (8 + 2 * c) 2)
  idleEntry := leAt b 20 4

/-- Whether the congestion settings of a class are in range (R325). -/
def classWordOk (w : Nat) : Bool :=
  let lo := bitsOf w 16 16
  let hi := bitsOf w 32 16
  let pa := bitsOf w 48 16
  bitsOf w 1 15 == 0 && 1 ≤ lo && lo ≤ hi && 1 ≤ pa && pa ≤ 1000

/-- The eight bytes of a class. -/
def classWord (b : Bytes) (c : Nat) : Nat := leAt b (24 + 8 * c) 8

/-- Whether a PORT block keeps its reserved parts zero and its fields in range, for a port number. -/
def portBlockOk (p : Nat) (b : Bytes) : Bool :=
  let q := portCfgOf b
  leAt b 0 1 < 32 && leAt b 1 1 < 64 && leAt b 7 1 == 0 && leAt b 18 2 == 0 && q.width < 3 && p % 2 ^ q.width == 0
    && q.weights.all (fun w => 1 ≤ w) && natAt q.rxCredits 3 == 0
    && ((1000 ≤ q.idleEntry && q.idleEntry ≤ 10000000) || (!q.idleEn && q.idleEntry == 0))
    && (List.range 5).all (fun c => classWordOk (classWord b c))

/-- Whether a port would share a lane with another enabled port (R21). -/
def lanesClash (s : State) (p width : Nat) : Bool :=
  s.ports.any (fun e => e.1 != p && e.2.cfg.enable && e.1 < p + 2 ^ width && p < e.1 + 2 ^ e.2.cfg.width)

/-- Whether the settings that a port's link was brought up with change. -/
def relinks (old new : PortCfg) : Bool :=
  old.trunk != new.trunk || old.width != new.width || old.cr != new.cr || old.rxCredits != new.rxCredits

/-- A class's congestion settings set; K starts at K_MAX where they change (R325). -/
def classSet (k : KSet) (w : Nat) : KSet :=
  let n := { k with hold := bitOf w 0, kMin := bitsOf w 16 16, kMax := bitsOf w 32 16, pa := bitsOf w 48 16 }
  if n == k then k else { n with k := n.kMax }

/-- A port's new settings, with its lanes let go where its link changes: they train again, and a port that had failed may try again
once it is enabled (R388). -/
def setPort (s : State) (p : Nat) (b : Bytes) : State :=
  let old := (getPort s p).cfg
  let new := portCfgOf b
  let s := if old.enable != new.enable || relinks old new then lanesDown (portDown s p) p else s
  let s := if new.enable then (portLanes { portInit with cfg := new } p).foldl (fun s n => modLane s n (fun l => { l with failRun := 0 })) s else s
  modPort s p (fun q => { q with
    cfg := new
    failed := q.failed && !new.enable
    ks := (q.ks.zip (List.range 5)).map (fun e => classSet e.1 (classWord b e.2)) })

/-- Whether the slice that serves a port's tile keeps 64 unreserved pool-0 buffers (R338). -/
def portFits (s : State) (p : Nat) : Bool :=
  match sliceOf s (tileOfPort p) with
  | none => false
  | some t => reservedOn s t + 64 ≤ poolCount s 0

/-- LINK_CONFIG form PORT (R458). -/
def configPort (p : Nat) (b : Bytes) (s : State) : CfgRes :=
  let q := getPort s p
  let new := portCfgOf b
  if 511 < p || !portBlockOk p b || (new.enable && lanesClash s p new.width) then .error rsBadArgument
  else if q.up && relinks q.cfg new then .error rsPortBusy
  else if new.enable && !portFits (modPort s p (fun q => { q with cfg := new })) p then .error rsPoolNoSpace
  else .ok (setPort s p b)

/-! ### LANE (R381, R393, R394) -/

/-- The port of a lane that a loopback takes down. -/
def loopPort (s : State) (n : Nat) : State :=
  match portOfLane s n with
  | none => s
  | some p => lanesDown (portDown s p) p

/-- Whether the port of a lane is up. -/
def lanePortUp (s : State) (n : Nat) : Bool := ((portOfLane s n).map (fun p => (getPort s p).up)).getD false

/-- LINK_CONFIG form LANE (R381, R393, R458). -/
def configLane (n : Nat) (b : Bytes) (s : State) : CfgRes :=
  let l := getLane s n
  let loop := leAt b 1 1
  let change := loop != l.loopback
  if 511 < n || 3 < leAt b 0 1 || 3 < loop || 3 < leAt b 2 1 then .error rsBadArgument
  else if change && lanePortUp s n then .error rsPortBusy
  else
    let s := if change then loopPort s n else s
    .ok (modLane s n (fun l => { l with
      txInvert := bitOf (leAt b 0 1) 0
      rxInvert := bitOf (leAt b 0 1) 1
      loopback := loop
      pattern := leAt b 2 1
      st := if !change then l.st else if loop = 0 then .down else .loopback }))

/-! ### The records read -/

/-- The time record (R408). -/
def timeRecord (t : TimeRec) : Bytes :=
  leBytes 16 (packFields [(2, t.st), (3, t.parent), (5, t.depth), (6, 0), (16, t.exchanges), (32, ofSigned 32 t.offset),
    (32, ofSigned 32 t.delay), (32, t.faults)])

/-- The record of a slice and pool (R349); a mapped-out slice has no buffers (R327). -/
def poolRecord (s : State) (t k : Nat) : Bytes :=
  let out := s.fab.sliceOut.contains t
  let free := if out then 0 else poolFree s t k
  let q := tget poolStatInit s.fab.stats (t * 4 + k)
  leBytes 16 (packFields [(16, if out then 0 else poolCount s k), (16, if k = 0 then reservedOn s t else 0), (16, free),
    (16, if out then 0 else q.low.getD free), (32, q.doubleFree), (32, q.foreignFree)])

/-- The record of a port and class (R334). -/
def classRecord (q : Port) (c : Nat) : Bytes :=
  let n := q.cls.getD c clsCntInit
  leBytes 32 (packFields [(32, n.framesRx), (32, n.framesTx), (32, n.marksRx), (32, n.marksTx), (32, n.creditWait),
    (16, (q.ks.getD c kSetInit).k), (16, min n.peak 65535), (32, n.violations), (32, 0)])

/-- The protocol record of a port (R377). -/
def protocolRecord (q : Port) : Bytes :=
  let n := q.cnt
  leBytes 64 (packFields [(32, n.recoveries), (32, n.recoveryDiscards), (32, n.dupSeq), (32, n.linkReplays), (32, n.fcsErrors),
    (32, n.protocolErrors), (32, n.unknownJob), (32, n.nacksSent), (32, n.nacksReceived), (16, min n.unackedPeak 65535),
    (1, b2n q.up), (1, b2n q.cfg.trunk), (6, 0), (8, n.lastCode), (32, q.peer.toNat), (160, 0)])

/-- The codes of R395. -/
def laneCode : LaneState → Nat
  | .down => 0
  | .training => 1
  | .locking => 2
  | .up => 3
  | .idle => 4
  | .loopback => 5

/-- The record of a lane (R395). -/
def laneRecord (l : Lane) : Bytes :=
  leBytes 32 (packFields ([(3, laneCode l.st), (1, b2n l.precode), (2, l.rxLane), (2, 0)]
    ++ (List.range 5).map (fun k => (6, ofSigned 6 (l.taps.getD k 0)))
    ++ [(10, 0), (16, l.skew), (32, l.cwCorrected), (32, l.cwUncorrectable), (32, l.prbsErrors), (32, l.eiExits),
        (28, min l.trainings (2 ^ 28 - 1)), (4, l.failRun), (32, 0)]))

/-- The record of a spoke link (R409). -/
def spokeRecord (s : State) (k : Nat) : Bytes :=
  let l := getSpoke s k
  leBytes 64 (packFields [(2, l.st), (1, b2n (s.timeRec.st != 3 && s.timeRec.parent == k)), (13, 0), (16, l.peer.toNat),
    (32, l.codeErrors), (32, l.disparityErrors), (32, l.crcErrors), (32, l.copiesDiscarded), (32, l.dropped), (32, l.incidentRetx),
    (32, l.linkDowns), (32, l.seqSent), (32, l.seqTaken), (192, 0)])

/-- A lane's counts brought up to date: codewords while it carries them, pattern errors while its checker runs (R394, R395). -/
def countLane (s : State) (n : Nat) : State :=
  let l := getLane s n
  let s := if laneCarries l then
      let a := countLine l.cwCorrected s
      let b := countLine l.cwUncorrectable a.2
      modLane b.2 n (fun l => { l with cwCorrected := a.1, cwUncorrectable := b.1 })
    else s
  if l.pattern != 0 || l.loopback != 0 then
    let a := countLine l.prbsErrors s
    modLane a.2 n (fun l => { l with prbsErrors := a.1 })
  else s

/-- A spoke link's counts of line errors brought up to date, unless it is DOWN. -/
def countSpoke (s : State) (k : Nat) : State :=
  let l := getSpoke s k
  if l.st = 0 then s
  else
    let a := countLine l.codeErrors s
    let b := countLine l.disparityErrors a.2
    modSpoke b.2 k (fun l => { l with codeErrors := a.1, disparityErrors := b.1 })

/-- What a read form writes: the state with its counts brought up to date, and the bytes; none where INDEX names nothing. -/
def readForm (form index : Nat) (s : State) : Option (State × Bytes) :=
  if form = 1 && index = 0 then
    some (s, timeRecord s.timeRec ++ (List.range 128).flatMap (fun t => (List.range 4).flatMap (poolRecord s t)))
  else if form = 2 && index < 512 then
    let q := getPort s index
    some (s, (List.range 5).flatMap (classRecord q) ++ protocolRecord q)
  else if form = 3 && index < 512 then
    let s := countLane s index
    some (s, laneRecord (getLane s index))
  else if form = 4 && index < 8 then
    let s := countSpoke s index
    some (s, spokeRecord s index)
  else none

/-- The bytes that a read form writes. -/
def readLength (form : Nat) : Nat := if form = 1 then 8208 else if form = 2 then 224 else if form = 3 then 32 else 64

/-- A port's counts cleared (R334, R377). -/
def clearPortCounts (q : Port) : Port :=
  { q with
    cls := q.cls.map (fun _ => clsCntInit)
    cnt := { protoCntInit with
      staleStep := q.cnt.staleStep, unarmed := q.cnt.unarmed, badChunk := q.cnt.badChunk, nonMember := q.cnt.nonMember,
      rehearsalDrops := q.cnt.rehearsalDrops } }

/-- The pool counts cleared (R349): a pool that has buffers out starts its LOW_WATER from what is free now. -/
def clearedStats (s : State) : Tbl PoolStat :=
  s.fab.bufs.foldl (fun t e =>
    let sp := bufSlicePool e.1
    tset t (sp.1 * 4 + sp.2) { poolStatInit with low := some (poolFree s sp.1 sp.2) }) []

/-- The counts of the records read cleared (R334, R349, R377, R395, R408, R409). -/
def clearForm (form index : Nat) (s : State) : State :=
  if form = 1 then
    { s with timeRec := { s.timeRec with exchanges := 0, faults := 0 }, fab := { s.fab with stats := clearedStats s } }
  else if form = 2 then modPort s index clearPortCounts
  else if form = 3 then modLane s index (fun l => { l with
    cwCorrected := 0, cwUncorrectable := 0, prbsErrors := 0, eiExits := 0, trainings := 0 })
  else modSpoke s index (fun l => { l with
    codeErrors := 0, disparityErrors := 0, crcErrors := 0, copiesDiscarded := 0, dropped := 0, incidentRetx := 0, linkDowns := 0,
    seqSent := 0, seqTaken := 0 })

/-! ### The commands -/

/-- FORM of a LINK_CONFIG. -/
def cfgForm (c : Bytes) : Nat := leAt c 8 1
/-- Its flags: READ and CLEAR. -/
def cfgFlags (c : Bytes) : Nat := leAt c 9 1
/-- Its INDEX. -/
def cfgIndex (c : Bytes) : Nat := leAt c 10 2

/-- The arguments that LINK_CONFIG uses. -/
def cfgUsed : List (Nat × Nat) := [(8, 4), (16, 12)]

/-- A write form answered. -/
def answerCfg (m : Nat) (s : State) (r : CfgRes) : State :=
  match r with
  | .error st => refuseMbx s m st
  | .ok s => answerMbx s m rsOk 0 []

/-- A write form on its block of n bytes. -/
def writeForm (m : Nat) (c : Bytes) (n : Nat) (buf : HostBuf) (f : Bytes → State → CfgRes) (s : State) : State :=
  withRead m c 16 n buf (fun b s => answerCfg m s (f b s)) s

/-- LINK_CONFIG_DEVICE (R337, R404, R458): form DEVICE; form SPOKE has no write block and changes nothing; no other form exists. -/
def effLinkConfigDevice (buf : HostBuf) (s : State) : State :=
  runCommand (fun c => opOf c == 0x12 && bitsOf (cfgFlags c) 0 2 == 0 && cfgForm c != 2 && cfgForm c != 3) cfgUsed
    (fun m c s =>
      if cfgFlags c != 0 then refuseMbx s m rsBadArgument
      else if cfgForm c = 1 && cfgIndex c = 0 then writeForm m c 24 buf configDevice s
      else if cfgForm c = 4 && cfgIndex c < 8 && leAt c 16 12 = 0 then answerMbx s m rsOk 0 []
      else refuseMbx s m rsBadArgument) s

/-- Meaning of LINK_CONFIG_DEVICE. -/
def execLinkConfigDevice (buf : HostBuf) (s : State) : Out := .next (effLinkConfigDevice buf s)

/-- LINK_CONFIG_PORT (R458). -/
def effLinkConfigPort (buf : HostBuf) (s : State) : State :=
  runCommand (fun c => opOf c == 0x12 && bitsOf (cfgFlags c) 0 2 == 0 && cfgForm c == 2) cfgUsed
    (fun m c s =>
      if cfgFlags c != 0 || 511 < cfgIndex c then refuseMbx s m rsBadArgument
      else writeForm m c 64 buf (configPort (cfgIndex c)) s) s

/-- Meaning of LINK_CONFIG_PORT. -/
def execLinkConfigPort (buf : HostBuf) (s : State) : Out := .next (effLinkConfigPort buf s)

/-- LINK_CONFIG_LANE (R393, R458). -/
def effLinkConfigLane (buf : HostBuf) (s : State) : State :=
  runCommand (fun c => opOf c == 0x12 && bitsOf (cfgFlags c) 0 2 == 0 && cfgForm c == 3) cfgUsed
    (fun m c s =>
      if cfgFlags c != 0 || 511 < cfgIndex c then refuseMbx s m rsBadArgument
      else writeForm m c 3 buf (configLane (cfgIndex c)) s) s

/-- Meaning of LINK_CONFIG_LANE. -/
def execLinkConfigLane (buf : HostBuf) (s : State) : Out := .next (effLinkConfigLane buf s)

/-- A read form on its INDEX and buffer; what it changes besides its answer is given. -/
def runReadForm (m : Nat) (c : Bytes) (buf : HostBuf) (after : State → State) (s : State) : State :=
  if !bufSound c 16 (readLength (cfgForm c)) buf then refuseMbx s m rsHostBuffer
  else
    match readForm (cfgForm c) (cfgIndex c) s with
    | none => refuseMbx s m rsBadArgument
    | some (s, bs) => answerMbx (bufStore (after s) c 16 bs) m rsOk 0 []

/-- Whether FORM and INDEX name records that can be read. -/
def readable (c : Bytes) : Bool :=
  (cfgForm c == 1 && cfgIndex c == 0) || ((cfgForm c == 2 || cfgForm c == 3) && cfgIndex c < 512) || (cfgForm c == 4 && cfgIndex c < 8)

/-- LINK_CONFIG_READ (R458). -/
def effLinkConfigRead (buf : HostBuf) (s : State) : State :=
  runCommand (fun c => opOf c == 0x12 && bitsOf (cfgFlags c) 0 2 == 1) cfgUsed
    (fun m c s =>
      if cfgFlags c != 1 || !readable c then refuseMbx s m rsBadArgument else runReadForm m c buf id s) s

/-- Meaning of LINK_CONFIG_READ. -/
def execLinkConfigRead (buf : HostBuf) (s : State) : Out := .next (effLinkConfigRead buf s)

/-- LINK_CONFIG_CLEAR (R458): the records are read and their counts cleared; CLEAR without READ is refused. -/
def effLinkConfigClear (buf : HostBuf) (s : State) : State :=
  runCommand (fun c => opOf c == 0x12 && bitOf (cfgFlags c) 1) cfgUsed
    (fun m c s =>
      if cfgFlags c != 3 || !readable c then refuseMbx s m rsBadArgument
      else runReadForm m c buf (clearForm (cfgForm c) (cfgIndex c)) s) s

/-- Meaning of LINK_CONFIG_CLEAR. -/
def execLinkConfigClear (buf : HostBuf) (s : State) : Out := .next (effLinkConfigClear buf s)

end Sys2Proof.Machine
end

