-- ==== Sys2Proof/Machine/Push.lean ====
section
/-! DEFINITION. The jig's pushes (R134, R136, R168 to R172, R183, R202, R233, R266): what a push creates, and the checks that it passes
or fails. -/

namespace Sys2Proof.Machine

/-! ### Fields (R168, R169) -/

/-- TR. -/
def pTR (w : W64) : Nat := bitsOf w.toNat 8 5
/-- CYC. -/
def pCYC (w : W64) : W64 := BitVec.ofNat 64 (bitsOf w.toNat 13 24)
/-- AX. -/
def pAX (w : W64) : Nat := bitsOf w.toNat 37 4
/-- AY. -/
def pAY (w : W64) : Nat := bitsOf w.toNat 41 4
/-- INC. -/
def pINC (w : W64) : Bool := bitOf w.toNat 45
/-- DIR of PUSH.MOVE and KIND of PUSH.EMIT. -/
def pDir (w : W64) : Bool := bitOf w.toNat 46
/-- AREA of PUSH.MOVE and PUSH.EMIT. -/
def pArea (w : W64) : Nat := bitsOf w.toNat 47 3
/-- PLANE. -/
def pPlane (w : W64) : Nat := bitsOf w.toNat 50 3
/-- SROW of PUSH.MOVE and PUSH.EMIT. -/
def pSrow (w : W64) : Nat := bitsOf w.toNat 53 6
/-- AYE of PUSH.MOVE and PUSH.EMIT. -/
def pAye (w : W64) : Bool := bitOf w.toNat 59
/-- SROW of PUSH.DRAIN. -/
def pDrainSrow (w : W64) : Nat := bitsOf w.toNat 46 6
/-- AYE of PUSH.DRAIN. -/
def pDrainAye (w : W64) : Bool := bitOf w.toNat 52
/-- GS of PUSH.BENCH, PUSH.BLK and PUSH.CADENCE. -/
def pGS (w : W64) : Nat := bitsOf w.toNat 46 5
/-- SCE of PUSH.BENCH and PUSH.BLK. -/
def pSCE (w : W64) : Bool := bitOf w.toNat 51
/-- AYE of PUSH.BENCH. -/
def pBenchAye (w : W64) : Bool := bitOf w.toNat 52
/-- TAG of PUSH.CADENCE. -/
def pTag (w : W64) : Nat := bitsOf w.toNat 51 8

/-! ### What a push creates (R171) -/

/-- One issue that a push asks for: its cycle as an offset from the base, its place in the block and its repeat index. -/
structure Ask where
  off : Nat
  block : Nat
  rep : Nat
  op : IssueOp
  deriving DecidableEq, Repr

/-- What a push comes to before the checks of R172: the issues it asks for, or an exception with the block command it names. -/
inductive PushEnd where
  | asks (as : List Ask)
  | fault (cause block : Nat)
  deriving DecidableEq, Repr

/-- Repeat count and interval (R171). -/
def repOf (j : Jig) : Nat × Nat := j.rep.getD (1, 0)

/-- t0 (R168). -/
def pushTarget (j : Jig) (w : W64) : Nat := (jG j (pTR w) + pCYC w).toNat

/-- The HBM row of repeat k (R171). -/
def pushRow (j : Jig) (w : W64) (k : Nat) : Nat := (jA j (pAX w) + BitVec.ofNat 64 k * jS j (pAX w)).toNat

/-- A staging number plus A[AY] and k strides, modulo m (R171). -/
def pushStage (j : Jig) (w : W64) (aye : Bool) (field m k : Nat) : Nat :=
  if aye then (field + ((jA j (pAY w)).toNat + (BitVec.ofNat 64 k * jS j (pAY w)).toNat)) % m else field

/-- An issue for each repeat. -/
def asksOf (j : Jig) (w : W64) (f : Nat → IssueOp) : List Ask :=
  (List.range (repOf j).1).map (fun k => ⟨pushTarget j w + k * (repOf j).2, 0, k, f k⟩)

/-- Whether a group is one that a collective may name (R183, R233). -/
def pushGroupOk (sl : Slot) (g : Nat) : Bool := ((stepGroup sl g).map (fun v => !geRelay v)).getD false

/-- PUSH.MOVE (R169, R266). -/
def moveAsks (sl : Slot) (w : W64) (_ : W64) : PushEnd :=
  let j := sl.bench.jig
  if bitsOf w.toNat 60 4 != 0 || 4 ≤ pArea w || (!pAye w && pAY w != 0) || (sl.bench.pass && pArea w = 0) then
    .fault sfReservedField 0
  else .asks (asksOf j w (fun k =>
    let srow := pushStage j w (pAye w) (pSrow w) 64 k
    if pDir w then .moveOut (pArea w) (pPlane w) (pushRow j w k) srow else .moveIn (pArea w) (pPlane w) (pushRow j w k) srow))

/-- PUSH.DRAIN (R169, R266). -/
def drainAsks (sl : Slot) (w : W64) (_ : W64) : PushEnd :=
  let j := sl.bench.jig
  if bitsOf w.toNat 53 11 != 0 || (!pDrainAye w && pAY w != 0) || sl.bench.pass then .fault sfReservedField 0
  else .asks (asksOf j w (fun k => .drain (pushRow j w k) (pushStage j w (pDrainAye w) (pDrainSrow w) 64 k)))

/-- PUSH.EMIT (R169, R266). -/
def emitAsks (sl : Slot) (w : W64) (_ : W64) : PushEnd :=
  let j := sl.bench.jig
  let serve := pDir w
  let bad := if serve then pArea w != 0 || pPlane w != 0 || pSrow w != 0 || pAye w else pArea w != 1
  if bitsOf w.toNat 60 4 != 0 || bad || (!pAye w && pAY w != 0) || sl.bench.pass then .fault sfReservedField 0
  else .asks (asksOf j w (fun k =>
    if serve then .emitServe (pushRow j w k)
    else .emitState (pPlane w) (pushRow j w k) (pushStage j w (pAye w) (pSrow w) 64 k)))

/-- The fields that PUSH.BENCH and PUSH.BLK share (R169). -/
def benchFieldsBad (w : W64) : Bool := bitsOf w.toNat 53 11 != 0 || pAX w != 0 || (!pSCE w && pGS w != 0)

/-- A command with its staging word offset for repeat k (R171, R181). -/
def offsetCmd (j : Jig) (w : W64) (aye : Bool) (cmd : W64) (k : Nat) : W64 :=
  if aye then cWithSW cmd (pushStage j w true (cSW cmd) 256 k) else cmd

/-- The scalar of a push (R171). -/
def pushScalar (j : Jig) (w : W64) (use : Bool) : Option W64 := if use then some (jG j (pGS w)) else none

/-- PUSH.BENCH (R169, R183, R266). -/
def benchAsks (sl : Slot) (w w1 : W64) : PushEnd :=
  let j := sl.bench.jig
  let aye := pBenchAye w
  if benchFieldsBad w || (!aye && pAY w != 0) then .fault sfReservedField 0
  else if sepMalformed w1 (pSCE w) aye (pushGroupOk sl) then .fault sfMalformedCommand 0
  else if sl.bench.pass && isFused (cOp w1) then .fault sfReservedField 0
  else .asks (asksOf j w (fun k => .bench (offsetCmd j w aye w1 k) (pushScalar j w (pSCE w))))

/-- An entry of a command block (R170). -/
structure BlkEntry where
  delta : Nat
  useAy : Bool
  useScalar : Bool
  rsvd : Bool
  cmd : W64
  deriving DecidableEq, Repr

/-- Entry j of the block at an address, if both words are block words of the version (R170, R456). -/
def blkEntry (sl : Slot) (addr j : Nat) : Option BlkEntry :=
  match fetchWord sl (addr + 2 * j) 2, fetchWord sl (addr + 2 * j + 1) 2 with
  | some e, some c => some ⟨bitsOf e.toNat 0 16, bitOf e.toNat 16, bitOf e.toNat 17, bitsOf e.toNat 18 46 != 0, c⟩
  | some _, none => none
  | none, _ => none

/-- The entries of a block, or the index of the first that breaks R170. -/
def blkEntries (sl : Slot) (addr : Nat) (sce : Bool) : Nat → Nat → Nat → Except Nat (List BlkEntry)
  | 0, _, _ => .ok []
  | n + 1, j, prev =>
    match blkEntry sl addr j with
    | none => .error j
    | some e =>
      if e.rsvd || e.delta < prev || (e.useScalar && !sce) || (e.useAy && !hasStaging e.cmd) then .error j
      else
        match blkEntries sl addr sce n (j + 1) e.delta with
        | .error k => .error k
        | .ok es => .ok (e :: es)

/-- PUSH.BLK (R169, R170, R266). -/
def blkAsks (sl : Slot) (w w1 : W64) : PushEnd :=
  let j := sl.bench.jig
  let len := bitsOf w1.toNat 32 9
  let addr := bitsOf w1.toNat 0 32
  if benchFieldsBad w || bitsOf w1.toNat 41 23 != 0 || len = 0 || 256 < len then .fault sfReservedField 0
  else
    match blkEntries sl addr (pSCE w) len 0 0 with
    | .error k => .fault sfBlockMalformed k
    | .ok es =>
      let ix := es.zip (List.range es.length)
      match ix.find? (fun e => sepMalformed e.1.cmd e.1.useScalar e.1.useAy (pushGroupOk sl)) with
      | some e => .fault sfMalformedCommand e.2
      | none =>
        match ix.find? (fun e => sl.bench.pass && isFused (cOp e.1.cmd)) with
        | some e => .fault sfReservedField e.2
        | none => .asks ((List.range (repOf j).1).flatMap (fun k => ix.map (fun e =>
            ⟨pushTarget j w + k * (repOf j).2 + e.1.delta, e.2, k,
              .bench (offsetCmd j w e.1.useAy e.1.cmd k) (pushScalar j w e.1.useScalar)⟩)))

/-- PUSH.CADENCE (R169, R232, R233, R266). -/
def cadenceAsks (sl : Slot) (w w1 : W64) : PushEnd :=
  let j := sl.bench.jig
  let opc := bitsOf w1.toNat 0 8
  if bitsOf w.toNat 59 5 != 0 || pAX w != 0 || pAY w != 0 || pINC w || sl.bench.pass then .fault sfReservedField 0
  else if opc = 0 || 8 < opc || bitsOf w1.toNat 8 8 != 0 || bitsOf w1.toNat 30 2 != 0 || !pushGroupOk sl (bitsOf w1.toNat 16 14) then
    .fault sfMalformedCommand 0
  else .asks [⟨pushTarget j w, 0, 0, .cadence w1 (jG j (pGS w)) (pTag w)⟩]

/-! ### The checks (R134, R136, R168, R172, R202) -/

/-- The tag that an issue launches, if it launches an operation. -/
def issueTag : IssueOp → Option Nat
  | .bench cmd _ => if isFused (cOp cmd) then some (cSW cmd) else none
  | .cadence _ _ tag => some tag
  | .moveIn _ _ _ _ => none
  | .moveOut _ _ _ _ => none
  | .drain _ _ => none
  | .emitState _ _ _ => none
  | .emitServe _ => none
  | .fault _ => none

/-- Occupancy and result cycle of a BENCH issue: the result cycle of one that writes a vector register (R135, R136). -/
def benchSlot (cycle : Nat) : IssueOp → Nat × Option Nat
  | .bench cmd _ =>
    match sepOf cmd with
    | none => (1, none)
    | some x =>
      let t := classTimes x.cls
      (t.1, if x.d == .v || x.d == .d then some (cycle + t.2) else none)
  | .cadence _ _ _ => (1, none)
  | .moveIn _ _ _ _ => (1, none)
  | .moveOut _ _ _ _ => (1, none)
  | .drain _ _ => (1, none)
  | .emitState _ _ _ => (1, none)
  | .emitServe _ => (1, none)
  | .fault _ => (1, none)

/-- Whether an issue conflicts with those already listed (R172): spacing, occupancy, a third result in one cycle. -/
def conflicts (q : QId) (listed : List Issue) (x : Issue) : Bool :=
  match q with
  | .bench =>
    let n := benchSlot x.cycle x.op
    listed.any (fun y => decide (y.cycle < x.cycle + n.1) && decide (x.cycle < y.cycle + (benchSlot y.cycle y.op).1))
      || (n.2.isSome && 2 ≤ (listed.filter (fun y => (benchSlot y.cycle y.op).2 == n.2)).length)
  | .cadence => listed.any (fun y => y.cycle == x.cycle)
  | .move => listed.any (fun y => decide (y.cycle < x.cycle + 16) && decide (x.cycle < y.cycle + 16))
  | .drain => listed.any (fun y => decide (y.cycle < x.cycle + 16) && decide (x.cycle < y.cycle + 16))
  | .emit => listed.any (fun y => decide (y.cycle < x.cycle + 16) && decide (x.cycle < y.cycle + 16))

/-- The first issue of a push that conflicts with what is queued, what has just issued, or an earlier issue of the push. -/
def firstConflict (q : QId) : List Issue → List Issue → Option Issue
  | _, [] => none
  | listed, x :: rest => if conflicts q listed x then some x else firstConflict q (x :: listed) rest

/-- The depth of a queue (R133). -/
def queueDepth : QId → Nat
  | .bench => 64
  | .move => 32
  | .drain => 32
  | .emit => 32
  | .cadence => 16

/-- The number of a queue as a key of `lastPush`. -/
def queueKey (q : QId) : Nat := queueRank q

/-- What refuses a push: the cause and the issue that it names (R134, R172). -/
def pushRefused (b : Bench) (q : QId) (xs : List Issue) : Option (Nat × Issue) :=
  match xs with
  | [] => none
  | x :: rest =>
    let first := rest.foldl (fun m y => if y.cycle < m.cycle then y else m) x
    let mine := b.queue.filter (fun y => y.q == q)
    if first.cycle < b.clock + 2 then some (sfLatePush, first)
    else if ((tget? b.lastPush (queueKey q)).map (fun c => decide (first.cycle < c))).getD false then some (sfOrder, first)
    else match firstConflict q (mine ++ b.past.filter (fun y => y.q == q)) xs with
      | some y => some (sfIssueConflict, y)
      | none =>
        let held := (mine.filter (fun y => b.clock < y.cycle)).map (fun y => y.entry)
        if queueDepth q ≤ held.eraseDups.length then some (sfQueueFull, first) else none

/-- The earliest issue cycle of a push. -/
def firstCycle (xs : List Issue) : Nat := xs.foldl (fun m y => min m y.cycle) ((xs.head?.map (fun x => x.cycle)).getD 0)

/-- A tag that a push names while its operation has not completed, or names twice (R172, R202). -/
def tagBusy (busy : List Nat) : List Nat → Bool
  | [] => false
  | t :: rest => busy.contains t || tagBusy (t :: busy) rest

/-- The address registers after a push with INC (R171). -/
def advanceRegs (j : Jig) (w : W64) (aye : Bool) (n : Nat) : Jig :=
  if !pINC w then j
  else
    let k := BitVec.ofNat 64 n
    let j' := setA j (pAX w) (jA j (pAX w) + k * jS j (pAX w))
    if aye && pAY w != pAX w then setA j' (pAY w) (jA j (pAY w) + k * jS j (pAY w)) else j'

/-- A push accepted: one entry with its issues, its tags busy and their results invalid, the registers advanced (R166, R171, R202). -/
def acceptPush (b : Bench) (q : QId) (xs : List Issue) (w : W64) (aye : Bool) (n words cycles : Nat) : Bench :=
  let tags := xs.filterMap (fun x => issueTag x.op)
  let j := advanceRegs b.jig w aye n
  { b with
    queue := b.queue ++ xs
    entries := b.entries + 1
    lastPush := tset b.lastPush (queueKey q) (firstCycle xs)
    lastTarget := xs.foldl (fun m y => max m y.cycle) b.lastTarget
    clock := b.clock + cycles
    jig := { j with
      pc := b.jig.pc + words, rep := none
      results := tags.foldl terase j.results
      busy := j.busy ++ tags } }

/-- A push refused (R142): it faults at the cycle of its first issue, on its own queue, and the jig runs no further. -/
def refusePush (b : Bench) (q : QId) (xs : List Issue) (cause : Nat) (x : Issue) : Bench :=
  { b with run := .refused, jig := { b.jig with rep := none }
           queue := b.queue ++ [{ x with q := q, cycle := firstCycle xs, op := .fault cause }] }

/-- A jig exception at a push, with the block command it names (R170, R177, R178). -/
def pushFault (s : State) (i cause block : Nat) : State :=
  let b := (getSlot s i).bench
  scheduleFault s i ⟨cause, 5, none, none, b.clock, block, 0, b.jig.pc, 0⟩

/-- A push of an opcode: its second word, its fields, its issues, its checks. -/
def pushRow1 (op : Nat) (q : QId) (words cycles : Nat) (ayeOf : W64 → Bool) (f : Slot → W64 → W64 → PushEnd)
    (slot : SlotId) (s : State) : State :=
  let i := slot.val
  match jigNext s i op with
  | none => s
  | some w =>
    let s := atCycle s i (getSlot s i).bench.clock
    let sl := getSlot s i
    let b := sl.bench
    match (if words = 2 then fetchWord sl (b.jig.pc + 1) 0 else some 0) with
    | none => settled (pushFault s i sfPcRange 0) i
    | some w1 =>
      match f sl w w1 with
      | .fault c k => settled (pushFault s i c k) i
      | .asks as =>
        if 2 ^ 24 ≤ pushTarget b.jig w || as.any (fun a => decide (2 ^ 24 ≤ a.off)) then settled (pushFault s i sfCycleRange 0) i
        else if tagBusy b.jig.busy (as.filterMap (fun a => issueTag a.op)) then settled (pushFault s i sfTagBusy 0) i
        else
          let xs := as.map (fun a => (⟨q, b.base + a.off, b.entries, b.jig.pc, a.block, a.rep, a.op⟩ : Issue))
          match pushRefused b q xs with
          | some (c, x) => settled (modBench s i (fun b => refusePush b q xs c x)) i
          | none => settled (modBench s i (fun b => acceptPush b q xs w (ayeOf w) (repOf b.jig).1 words cycles)) i

/-- PUSH_BENCH. -/
def effJigPushBench (slot : SlotId) (s : State) : State :=
  pushRow1 0x41 .bench 2 1 (fun w => pBenchAye w) benchAsks slot s
/-- Meaning of PUSH_BENCH. -/
def execJigPushBench (slot : SlotId) (s : State) : Out := .next (effJigPushBench slot s)
/-- PUSH_BLK: AYE of its word 0 governs only what INC advances; USE_AY of an entry its staging word. -/
def effJigPushBlk (slot : SlotId) (s : State) : State :=
  pushRow1 0x42 .bench 2 2 (fun w => pBenchAye w) blkAsks slot s
/-- Meaning of PUSH_BLK. -/
def execJigPushBlk (slot : SlotId) (s : State) : Out := .next (effJigPushBlk slot s)
/-- PUSH_MOVE. -/
def effJigPushMove (slot : SlotId) (s : State) : State :=
  pushRow1 0x43 .move 1 1 (fun w => pAye w) moveAsks slot s
/-- Meaning of PUSH_MOVE. -/
def execJigPushMove (slot : SlotId) (s : State) : Out := .next (effJigPushMove slot s)
/-- PUSH_DRAIN. -/
def effJigPushDrain (slot : SlotId) (s : State) : State :=
  pushRow1 0x44 .drain 1 1 (fun w => pDrainAye w) drainAsks slot s
/-- Meaning of PUSH_DRAIN. -/
def execJigPushDrain (slot : SlotId) (s : State) : Out := .next (effJigPushDrain slot s)
/-- PUSH_EMIT. -/
def effJigPushEmit (slot : SlotId) (s : State) : State :=
  pushRow1 0x45 .emit 1 1 (fun w => pAye w) emitAsks slot s
/-- Meaning of PUSH_EMIT. -/
def execJigPushEmit (slot : SlotId) (s : State) : Out := .next (effJigPushEmit slot s)
/-- PUSH_CADENCE, which takes no REP (R172). -/
def effJigPushCadence (slot : SlotId) (s : State) : State :=
  match jigNext s slot.val 0x46 with
  | none => s
  | some _ =>
    if (getSlot s slot.val).bench.jig.rep.isSome then
      settled (jigFault (atCycle s slot.val (getSlot s slot.val).bench.clock) slot.val sfRepMisuse 0) slot.val
    else pushRow1 0x46 .cadence 2 1 (fun _ => false) cadenceAsks slot s
/-- Meaning of PUSH_CADENCE. -/
def execJigPushCadence (slot : SlotId) (s : State) : Out := .next (effJigPushCadence slot s)

end Sys2Proof.Machine
end

