-- ==== Sys2Proof/Machine/StepCmds.lean ====
section
/-! DEFINITION. Arming a step, reading its status, and the host's rollback (R246 to R249, R278, R457, R460). -/

namespace Sys2Proof.Machine

/-! ### STEP_ARM: its arguments and the step sequence (R246, R247, R460) -/

/-- The descriptors that a STEP_ARM carries inline. -/
def inlineDescs (c : Bytes) : List (BitVec 256) :=
  if leAt c 18 2 = 0 then [] else [BitVec.ofNat 256 (leAt c 24 32)]

/-- The descriptors of a buffer. -/
def bufferDescs (n : Nat) (b : Bytes) : List (BitVec 256) := (wordsOf 32 n b).map (BitVec.ofNat 256)

/-- Whether a STEP_ARM finds its step already current: its STEP_DEADLINE must then be zero (R460). -/
def stepIsCurrent (r : StepRec) (n : Nat) : Bool :=
  r.num == n && (r.st == .dryFit || r.st == .sealed || r.st == .glued)

/-- Whether the arguments of STEP_ARM are in range (R453, R460). -/
def armArgsOk (r : StepRec) (c : Bytes) : Bool :=
  let indirect := bitOf (leAt c 16 1) 1
  let count := leAt c 18 2
  leAt c 16 1 < 4 && leAt c 17 1 == 0 && leAt c 56 8 == 0 && count ≤ 4096
    && (if indirect then leAt c 36 20 == 0 else count ≤ 1 && (count == 1 || leAt c 24 32 == 0))
    && (leAt c 20 4 == 0 || !stepIsCurrent r (leAt c 8 8))

/-- What the step sequence answers to a step number, if it refuses (R246, R247). -/
def sequenceStatus (r : StepRec) (n : Nat) : Option Nat :=
  match r.st with
  | .sealed => some rsStepSealed
  | .rollingBack => some rsBusyRollback
  | .none => none
  | .dryFit => if n != r.num then some rsStepSequence else if r.last then some rsStepClosed else none
  | .glued => if n != (r.num + 1) % 2 ^ 64 then some rsStepSequence else none
  | .rolledBack => if n != r.num then some rsStepSequence else none

/-- Whether a STEP_ARM that the sequence admits is the first of its step or replay (R248). -/
def firstArming (r : StepRec) : Bool := r.st == .none || r.st == .glued || r.st == .rolledBack

/-! ### STEP_ARM: the slot (R460 check 3) -/

/-- The groups as an arming binds them (R230, R235): a staged version is current, a staged removal is gone. -/
def boundGroups (gs : Tbl GroupSet) : Tbl GroupSet :=
  gs.filterMap (fun e =>
    let cur := match e.2.staged with
      | some v => v
      | none => e.2.cur
    cur.map (fun v => (e.1, (⟨some v, none, some v, 0⟩ : GroupSet))))

/-- The version that a step runs (R152, R153): a replay's own, else the SELECTED one, else the one in use. -/
def armVersion (sl : Slot) (first : Bool) : Option ProgVer :=
  let running := sl.running.bind (fun n => sl.progs.find? (fun v => v.num == n))
  if !first || sl.step.st == .rolledBack then running
  else (sl.progs.find? (fun v => v.st == .selected)).orElse (fun _ => running)

/-- Whether a tandem device of the slot is out of reach: no port in its trunk (R308), or a C4 window under one largest frame
(R323). -/
def partnerOut (s : State) (sl : Slot) : Bool :=
  let ds := sl.tan.partner.toList ++ sl.tan.mirrorOf.toList
  ds.any (fun d => (trunkTo s d).isEmpty) || (!ds.isEmpty && windowOf sl 4 < 17)

/-- Whether an expelled member port is still in a group, or at the root an expelled device in the shard map (R296). -/
def expelledIn (s : State) (sl : Slot) : Bool :=
  sl.health.subjects.any (fun u => u.st == 2 &&
    (if u.kind = 0 then (slotGroups sl).any (fun v => bitOf (geLocalPorts v) (u.suspect % 65536)) && u.suspect / 65536 == selfId s
     else isControlRoot sl && sl.shard.map.any (fun e => bitOf e.toNat 16 && bitsOf e.toNat 0 16 == u.suspect / 65536)))

/-- What the slot's own checks answer, in the order of R460; the groups are those that the step would use. -/
def slotStatus (s : State) (sl : Slot) (v : Option ProgVer) : Option Nat :=
  if sl.tan.lost then some rsSlotLost
  else if sl.shard.short then some rsShardNoSpace
  else if (controlGroup sl).isNone then some rsGroupUndefined
  else
    match v with
    | none => some rsNoProgram
    | some v =>
      if v.bad then some rsProgramBad
      else if sl.tan.mirrorOf.isSome && v.mirror.isNone then some rsNoMirrorEntry
      else if partnerOut s sl then some rsPartnerUnreachable
      else if expelledIn s sl then some rsMemberExpelled
      else none

/-! ### STEP_ARM: the step made current (R248) -/

/-- A pool record at arming (R348). -/
def poolArm (r : PoolRec) : PoolRec :=
  { r with peak := r.rxHeld + r.txHeld, fallbacks := 0, emptyFails := 0, quotaFails := 0, waitMax := 0 }

/-- The transaction at the first arming of a step or replay: attempt 0 for a new step, the attempt-scoped fields reset, the step
window started (R246, R249, R281). -/
def armedStep (sl : Slot) (n deadline now : Nat) : StepRec :=
  let r := attemptReset sl.step
  let attempt := if sl.step.st == .rolledBack then r.attempt else 0
  { r with
    num := n
    attempt := attempt
    st := .dryFit
    armTime := now
    deadline := usNs (if deadline = 0 then sl.ob.stepDeadline else deadline)
    sealTime := 0
    readyKids := r.readyKids.filter (fun w => ageOf n attempt w.step w.attempt != .older) }

/-- The slot at the first arming (R105, R125, R204, R220, R230, R244, R248, R281, R348): groups and version bound, the maps and records
of the step cleared. -/
def currentSlot (sl : Slot) (v : ProgVer) (n deadline now : Nat) : Slot :=
  let r := armedStep sl n deadline now
  { sl with
    step := r
    groups := boundGroups sl.groups
    progs := sl.progs.map (fun x => if x.num = v.num && x.st == .selected then { x with st := .inUse } else x)
    running := some v.num
    ctxs := []
    cadRec := cadRecInit
    buckets := []
    servable := []
    sums := []
    tokens := []
    deliv := delivRecInit
    watch := { watchInit with attempt := r.attempt }
    pools := sl.pools.map poolArm
    health := { sl.health with stalled := [] }
    tan := { sl.tan with pending := [], pendingEmem := [], shipped := [] }
    shard := { sl.shard with gluedCopy := if sl.step.lastGlued.isNone then (n + 1) % 2 else sl.shard.gluedCopy } }

/-- The resync that host writes to the primary shard ask for (R441). -/
def resyncHostWrites (s : State) (i : Nat) : State :=
  let t := (getSlot s i).tan
  if !t.hostWritten then s
  else
    let s := modTan s i (fun t => { t with hostWritten := false })
    match t.partner with
    | none => s
    | some d => startResync s i d false

/-- The first arming in one operation (R248): requests of the step before are answered and its entries abandoned (R121, R122), what
waited for the step is judged (R239, R264), and sleeping bench domains wake (R155). -/
def makeCurrent (s : State) (i : Nat) (v : ProgVer) (n deadline : Nat) : State :=
  let sl := getSlot s i
  let replay := sl.step.st == .rolledBack
  let s := modSlot s i (fun sl => currentSlot sl v n deadline s.time)
  let s := if replay then s else abandonFetch (staleRequests s i sl.step.num (fun r => r.slot == i)) i
  wakeBench (armHeld (releaseCadHeld (resyncHostWrites s i) i) i)

/-! ### STEP_ARM: the descriptors -/

/-- One more descriptor armed, unless one before it was refused: how many are armed, the refusal, and the state (R460). -/
def armNext (i : Nat) (x : Nat × Option Nat × State) (d : BitVec 256) : Nat × Option Nat × State :=
  match x.2.1 with
  | some _ => x
  | none =>
    match armStatus x.2.2 i d with
    | some st => (x.1, some st, x.2.2)
    | none => (x.1 + 1, none, postToken (armBucket x.2.2 i d) i (.armed (bdBucket d)))

/-- Descriptors armed in turn up to the first that is refused: how many were armed, the refusal, the state. -/
def armEach (i : Nat) (k : Nat) (l : List (BitVec 256)) (s : State) : Nat × Option Nat × State :=
  l.foldl (armNext i) (k, none, s)

/-- The results of STEP_ARM (R453). -/
def armResults (armed index : Nat) : Bytes := leBytes 2 armed ++ leBytes 2 index

/-- STEP_ARM refused before its first descriptor. -/
def refuseArm (s : State) (m status : Nat) : State := answerMbx s m status 0 (armResults 0 0xFFFF)

/-- The descriptors armed and the command answered; LAST is taken when none was refused (R247, R460). -/
def finishArm (m : Nat) (c : Bytes) (ds : List (BitVec 256)) (s : State) : State :=
  let i := slotOfMbx m
  match armEach i 0 ds s with
  | (k, some st, s) => answerMbx s m st 0 (armResults k k)
  | (k, none, s) =>
    let s := if bitOf (leAt c 16 1) 0 then modStep s i (fun r => { r with last := true }) else s
    answerMbx s m rsOk 0 (armResults k 0xFFFF)

/-- STEP_ARM after its arguments (R460 checks 2 to 4). -/
def runStepArm (m : Nat) (c : Bytes) (ds : List (BitVec 256)) (s : State) : State :=
  let i := slotOfMbx m
  let sl := getSlot s i
  let n := leAt c 8 8
  match sequenceStatus sl.step n with
  | some st => refuseArm s m st
  | none =>
    let first := firstArming sl.step
    let v := armVersion sl first
    let seen := if first then { sl with groups := boundGroups sl.groups } else sl
    match slotStatus s seen v, v with
    | some st, _ => refuseArm s m st
    | none, none => refuseArm s m rsNoProgram
    | none, some v => finishArm m c ds (if first then makeCurrent s i v n (leAt c 20 4) else s)

/-- STEP_ARM on its command: its arguments, then its buffer where it is INDIRECT. -/
def startStepArm (m : Nat) (c : Bytes) (buf : HostBuf) (s : State) : State :=
  let count := leAt c 18 2
  if !armArgsOk (getSlot s (slotOfMbx m)).step c then refuseArm s m rsBadArgument
  else if !bitOf (leAt c 16 1) 1 then runStepArm m c (inlineDescs c) s
  else if !bufSound c 24 (32 * count) buf then refuseArm s m rsHostBuffer
  else runStepArm m c (bufferDescs count (fitBytes (32 * count) buf.bytes)) (bufFetch s c 24 (32 * count))

/-- STEP_ARM (R246 to R249, R460). -/
def effStepArm (buf : HostBuf) (s : State) : State :=
  runCommand (fun c => opOf c == 0x0B) [(8, 56)] (fun m c s => startStepArm m c buf s) s

/-- Meaning of STEP_ARM. -/
def execStepArm (buf : HostBuf) (s : State) : Out := .next (effStepArm buf s)

/-! ### STEP_STATUS (R457) -/

/-- The codes of R250. -/
def stepCode : StepSt → Nat
  | .none => 0
  | .dryFit => 1
  | .sealed => 2
  | .glued => 3
  | .rollingBack => 4
  | .rolledBack => 5

/-- The transaction record (R281). -/
def transactionRecord (s : State) (i : Nat) : Bytes :=
  let sl := getSlot s i
  let r := sl.step
  leBytes 64 (packFields [(64, r.num), (8, r.attempt), (3, stepCode r.st), (3, mirrorCode sl.tan.mirrorSt), (1, b2n sl.tan.restoring),
    (1, b2n r.decisionLost), (9, readyCond s i), (7, 0), (8, r.abortCause), (16, r.abortOrigin), (8, 0), (64, sl.tan.mirrorStep),
    (32, sl.tan.dirty.length), (32, r.rollbacks), (32, r.staleDecisions), (32, r.armToSeal), (64, r.stateDigest.toNat),
    (64, r.agreement.toNat), (32, r.reportsDropped), (32, 0)])

/-- The summary (R457). -/
def summaryRecord (sl : Slot) (buckets entries : Nat) : Bytes :=
  leBytes 64 (packFields [(32, sl.flags.toNat), (32, sl.logOverflow), (32, sl.memLate), (32, buckets), (32, entries),
    (32, sl.log.length - entries)])

/-- The cadence record (R244). -/
def cadenceRecord (r : CadRec) : Bytes :=
  leBytes 32 (packFields [(32, r.launched), (32, r.completed), (32, r.rounds), (32, r.staleDropped), (8, r.failCause), (8, r.failOpc),
    (14, r.failGroup), (1, b2n r.failKind), (1, 0), (16, r.failId), (16, r.lateFails), (32, r.maxLatency), (32, r.deadlineFaults)])

/-- The delivery record (R125). -/
def deliveryRecord (sl : Slot) : Bytes :=
  let d := sl.deliv
  leBytes 64 (packFields [(32, d.accepted), (32, d.cacheHits), (32, d.merged), (32, d.fetches), (32, d.cast), (32, d.copies),
    (32, d.replacements), (32, d.nackVersion), (32, d.nackOther), (32, d.oldAttempt), (32, d.crcFailures), (32, d.entriesPeak),
    (64, sl.shard.mapCrc.toNat)])

/-- STEP_GRAD_DIGEST (R220): over the buckets in DONE or RELEASED. -/
def stepGradDigest (s : State) (sl : Slot) : W64 := sl.buckets.foldl (fun x e => x ^^^ bucketDigest s sl e.2) 0

/-- The watch record (R220). -/
def watchStatus (s : State) (sl : Slot) : Bytes :=
  let w := sl.watch
  leBytes 64 (packFields [(32, w.shchk), (64, w.lanes), (32, w.disCmds), (64, w.disLanes), (32, w.posted), (32, w.suppressed),
    (64, (stepGradDigest s sl).toNat), (1, b2n (sl.step.st != .none && sl.buckets.all (fun e => bucketDone e.2))), (7, 0),
    (8, w.attempt)])

/-- A pool record (R348). -/
def poolStatus (r : PoolRec) : Bytes :=
  leBytes 32 (packFields [(24, r.rxHeld), (8, 0), (24, r.txHeld), (8, 0), (24, r.peak), (8, 0), (32, r.fallbacks), (32, r.emptyFails),
    (32, r.quotaFails), (32, r.waitMax)])

/-- STATE of a bucket (R78). -/
def bucketCode (b : Bucket) : Nat :=
  if b.abandoned then 4
  else if b.chunks.all (fun e => e.2.st == .released) then 3
  else if bucketDone b then 2
  else b2n b.emax.isSome

/-- A bucket's status record (R78). -/
def bucketStatus (s : State) (sl : Slot) (n : Nat) (b : Bucket) : Bytes :=
  let e := b.emax.getD 0
  leBytes 64 (packFields [(16, n), (3, bucketCode b), (13, 0), (16, ofSigned 16 e), (1, b2n b.emax.isSome), (2, bdMode b.desc),
    (1, b2n (bdThin b.desc)), (12, 0), (32, (b.chunks.filter (fun c => chunkDone c.2)).length),
    (32, (b.chunks.filter (fun c => chunkSpilled s b c.1)).length), (32, b.floorHits), (32, b.clamps), (32, b.ovfRisk),
    (32, b.nonfinite), (32, b.duplicates), (32, b.wrongWindow), (32, b.holdRefused), (32, 0), (64, (bucketDigest s sl b).toNat),
    (64, (b.arrival.getD 0xFFFFFFFFFFFFFFFF#64).toNat)])

/-- The 4,608 bytes before the bucket records (R457). -/
def statusHead (s : State) (i buckets entries : Nat) : Bytes :=
  let sl := getSlot s i
  transactionRecord s i ++ summaryRecord sl buckets entries ++ leBytes 32 sl.fault.toNat ++ cadenceRecord sl.cadRec
    ++ deliveryRecord sl ++ watchStatus s sl ++ (List.range 5).flatMap (fun c => poolStatus (sl.pools.getD c poolRecInit))
    ++ List.replicate 32 0 ++ (List.range 256).flatMap (fun k => leBytes 16 (tget 0 sl.sums k).toNat)

/-- STEP_STATUS: every record as the command finds it; the log entries written are read, and CLEAR_FLAGS clears the flag word after the
capture (R43, R77, R457). -/
def runStepStatus (m : Nat) (c : Bytes) (buf : HostBuf) (clear : Bool) (s : State) : State :=
  let i := slotOfMbx m
  let sl := getSlot s i
  if !bufSound c 8 4608 buf then refuseMbx s m rsHostBuffer
  else
    let room := bufLen c 8 - 4608
    let nb := min sl.buckets.length (room / 64)
    let ne := min sl.log.length ((room - 64 * nb) / 16)
    let bs := statusHead s i nb ne ++ (sl.buckets.take nb).flatMap (fun e => bucketStatus s sl e.1 e.2)
      ++ (sl.log.take ne).flatMap (fun e => leBytes 16 e.toNat)
    let s := modSlot s i (fun sl => { sl with log := sl.log.drop ne, flags := if clear then 0 else sl.flags })
    answerMbx (bufStore s c 8 bs) m rsOk 0 (leBytes 4 (4608 + 64 * nb + 16 * ne) ++ leBytes 4 sl.buckets.length)

/-- STEP_STATUS (R457): CLEAR_FLAGS is the one flag of byte 20. -/
def effStepStatus (buf : HostBuf) (s : State) : State :=
  runCommand (fun c => opOf c == 0x0C && !bitOf (leAt c 20 1) 0) [(8, 13)]
    (fun m c s => if leAt c 20 1 != 0 then refuseMbx s m rsBadArgument else runStepStatus m c buf false s) s

/-- Meaning of STEP_STATUS. -/
def execStepStatus (buf : HostBuf) (s : State) : Out := .next (effStepStatus buf s)

/-- STEP_STATUS_CLEAR_FLAGS (R43, R457). -/
def effStepStatusClearFlags (buf : HostBuf) (s : State) : State :=
  runCommand (fun c => opOf c == 0x0C && bitOf (leAt c 20 1) 0) [(8, 13)]
    (fun m c s => if leAt c 20 1 != 1 then refuseMbx s m rsBadArgument else runStepStatus m c buf true s) s

/-- Meaning of STEP_STATUS_CLEAR_FLAGS. -/
def execStepStatusClearFlags (buf : HostBuf) (s : State) : Out := .next (effStepStatusClearFlags buf s)

/-! ### ROLLBACK (R252, R278, R460) -/

/-- Whether a ROLLBACK names the slot's current step and attempt (R460). -/
def rollbackMatches (r : StepRec) (c : Bytes) : Bool :=
  r.st != .none && r.num == leAt c 8 8 && r.attempt == leAt c 16 1

/-- ROLLBACK without a resolution, or with a RESOLVE out of range (R460). -/
def effRollback (s : State) : State :=
  runCommand (fun c => opOf c == 0x0D && leAt c 17 1 != 1 && leAt c 17 1 != 2) [(8, 10)]
    (fun m c s =>
      let i := slotOfMbx m
      let r := (getSlot s i).step
      if leAt c 17 1 != 0 then refuseMbx s m rsBadArgument
      else if !rollbackMatches r c then refuseMbx s m rsStepSequence
      else
        match r.st with
        | .dryFit => answerMbx (raiseAbort s i caHostRollback [accJob syHost]) m rsOk 0 []
        | .sealed => refuseMbx s m rsStepSealed
        | .glued => refuseMbx s m rsStepCommitted
        | .none => refuseMbx s m rsStepSequence
        | .rollingBack => refuseMbx s m rsStepSequence
        | .rolledBack => refuseMbx s m rsStepSequence) s

/-- Meaning of ROLLBACK. -/
def execRollback (s : State) : Out := .next (effRollback s)

/-- ROLLBACK with a resolution (R278, R460): a SEALED step takes the job's decision. -/
def runResolve (resolve : State → Nat → State) (m : Nat) (c : Bytes) (s : State) : State :=
  let i := slotOfMbx m
  let r := (getSlot s i).step
  if !rollbackMatches r c then refuseMbx s m rsStepSequence
  else
    match r.st with
    | .sealed => answerMbx (resolve s i) m rsOk 0 []
    | .glued => refuseMbx s m rsStepCommitted
    | .dryFit => refuseMbx s m rsNotSealed
    | .none => refuseMbx s m rsNotSealed
    | .rollingBack => refuseMbx s m rsNotSealed
    | .rolledBack => refuseMbx s m rsNotSealed

/-- ROLLBACK_RESOLVE_GLUED (R278): the step is glued up. -/
def effRollbackResolveGlued (s : State) : State :=
  runCommand (fun c => opOf c == 0x0D && leAt c 17 1 == 1) [(8, 10)] (runResolve glueUp) s

/-- Meaning of ROLLBACK_RESOLVE_GLUED. -/
def execRollbackResolveGlued (s : State) : Out := .next (effRollbackResolveGlued s)

/-- ROLLBACK_RESOLVE_ABORTED (R278): the step rolls back here with cause HOST_ROLLBACK. -/
def effRollbackResolveAborted (s : State) : State :=
  runCommand (fun c => opOf c == 0x0D && leAt c 17 1 == 2) [(8, 10)]
    (runResolve (fun s i => enterRollback s i caHostRollback (selfId s))) s

/-- Meaning of ROLLBACK_RESOLVE_ABORTED. -/
def execRollbackResolveAborted (s : State) : Out := .next (effRollbackResolveAborted s)

/-! ### HEALTH_READ (R298) -/

/-- HEALTH_READ (R298): the health record of each scored subject. -/
def effHealthRead (buf : HostBuf) (s : State) : State :=
  runCommand (fun c => opOf c == 0x0E) [(8, 12)]
    (fun m c s =>
      let sl := getSlot s (slotOfMbx m)
      let us := scoredSubjects s sl
      answerWith m c 8 buf (us.flatMap (healthRecord sl)) (leBytes 4 us.length) s) s

/-- Meaning of HEALTH_READ. -/
def execHealthRead (buf : HostBuf) (s : State) : Out := .next (effHealthRead buf s)

/-! ### BRAKE_SET and REHEARSAL_SET (R300) -/

/-- The fields of BRAKE_SET: offset and width in bytes, by their bit in MASK (R453). -/
def brakeFields : List (Nat × Nat) :=
  [(12, 4), (16, 4), (20, 1), (21, 1), (22, 1), (23, 1), (24, 2), (26, 2), (28, 2), (32, 4), (36, 2), (38, 2), (40, 2), (42, 2), (44, 2),
   (46, 2)]

/-- The value of field k where MASK applies it, else the setting as it stands. -/
def brakeArg (c : Bytes) (k now : Nat) : Nat :=
  let f := brakeFields.getD k (0, 0)
  if bitOf (leAt c 8 2) k then leAt c f.1 f.2 else now

/-- The settings that BRAKE_SET asks for. -/
def brakeWanted (h : Health) (c : Bytes) : Health :=
  { h with
    w := brakeArg c 0 h.w
    a := brakeArg c 1 h.a
    accuseLimit := brakeArg c 2 h.accuseLimit
    heldEscalate := brakeArg c 3 h.heldEscalate
    linkEscalate := brakeArg c 4 h.linkEscalate
    decayShift := brakeArg c 5 h.decayShift
    threshold := brakeArg c 6 h.threshold
    recover := brakeArg c 7 h.recover
    p := brakeArg c 8 h.p
    brakeWindow := brakeArg c 9 h.brakeWindow
    members := { h.members with
      rate := brakeArg c 10 h.members.rate
      spares := brakeArg c 11 h.members.spares
      reserve := brakeArg c 12 h.members.reserve }
    devices := { h.devices with
      rate := brakeArg c 13 h.devices.rate
      spares := brakeArg c 14 h.devices.spares
      reserve := brakeArg c 15 h.devices.reserve } }

/-- Whether settings lie in the ranges of R300. -/
def brakeInRange (h : Health) : Bool :=
  let within (lo hi x : Nat) : Bool := lo ≤ x && x ≤ hi
  within 1 1000 h.w && within 10 60000 h.a && within 2 255 h.accuseLimit && within 1 255 h.heldEscalate && within 1 255 h.linkEscalate
    && within 1 10 h.decayShift && within 1 1023 h.threshold && h.threshold + h.recover ≤ 1023 && within 1 65535 h.p
    && within 1 86400 h.brakeWindow

/-- Whether a field that MASK leaves out is zero (R446). -/
def brakeUnusedZero (c : Bytes) : Bool :=
  (List.range 16).all (fun k =>
    let f := brakeFields.getD k (0, 0)
    bitOf (leAt c 8 2) k || leAt c f.1 f.2 == 0)

/-- BRAKE_SET (R300): a raised SPARES has the HELD subjects considered again (R296). -/
def effBrakeSet (s : State) : State :=
  runCommand (fun c => opOf c == 0x0F) [(8, 2), (12, 18), (32, 16)]
    (fun m c s =>
      let i := slotOfMbx m
      let h := (getSlot s i).health
      let new := brakeWanted h c
      if !brakeUnusedZero c || !brakeInRange new then refuseMbx s m rsBadArgument
      else
        let s := modHealth s i (fun _ => new)
        let s := if h.members.spares < new.members.spares then considerHeld s i 0 else s
        let s := if h.devices.spares < new.devices.spares then considerHeld s i 1 else s
        answerMbx s m rsOk 0 []) s

/-- Meaning of BRAKE_SET. -/
def execBrakeSet (s : State) : Out := .next (effBrakeSet s)

/-- REHEARSAL_SET (R299, R300). -/
def effRehearsalSet (s : State) : State :=
  runCommand (fun c => opOf c == 0x10) [(8, 5), (16, 8)]
    (fun m c s =>
      if 86400 < leAt c 8 4 || 15 < leAt c 12 1 then refuseMbx s m rsBadArgument
      else
        let s := modHealth s (slotOfMbx m) (fun h => { h with reI := leAt c 8 4, reKinds := leAt c 12 1, reSeed := leAt c 16 8 })
        answerMbx s m rsOk 0 []) s

/-- Meaning of REHEARSAL_SET. -/
def execRehearsalSet (s : State) : Out := .next (effRehearsalSet s)

end Sys2Proof.Machine
end

