-- ==== Sys2Proof/Machine/Secure.lean ====
section
/-! DEFINITION. Start-up, boot, fuses, the leaf counter and attestation (R468, R482, R485, R489 to R499), held commands (R444), the
management bus and JTAG (R504, R529). -/

namespace Sys2Proof.Machine

/-! ### Boot (R490 to R494) -/

/-- BODY_LENGTH of an image. -/
def bodyLength (b : Bytes) : Nat := leAt b 4 4

/-- The body of an image. -/
def bodyOf (b : Bytes) : Bytes := (b.drop 4096).take (bodyLength b)

/-- The configuration block of an image (R482). -/
def configBlock (b : Bytes) : Bytes := ((bodyOf b).drop (leAt b 20 4)).take (leAt b 24 4)

/-- SIGNED_DIGEST (R490). -/
def signedDigest (b : Bytes) : Digest := shaDigest (fitBytes 232 (b.take 232))

/-- The bytes of an image from an offset on. -/
def bytesAt (b : Bytes) (o n : Nat) : Bytes := fitBytes n ((b.drop o).take n)

/-- Whether the bytes of a range are zero. -/
def zeroAt (b : Bytes) (o n : Nat) : Bool := ((b.drop o).take n).all (· == 0)

/-- The checks of R491 by code: the code is the first whose check fails, 0 for none. -/
def bootChecks (x : Security) (b : Bytes) : List (Nat × Bool) :=
  let k := leAt b 16 1
  [ (1, leAt b 0 2 == 1 && zeroAt b 2 2 && zeroAt b 17 3 && zeroAt b 173 3 && zeroAt b 2260 1836),
    (2, 4096 + bodyLength b ≤ 2 ^ 24 && leAt b 20 4 + leAt b 24 4 ≤ bodyLength b),
    (3, k < 4 && !bitOf x.revoked.toNat k),
    (4, shaDigest (bytesAt b 76 156) == Config.keyHash k),
    (5, sha384 (bodyOf b) == bytesAt b 28 48),
    (6, Config.ecdsaVerify (bytesAt b 76 97) (signedDigest b) (bytesAt b 232 96)),
    (7, Config.lmsVerify (bytesAt b 176 56) (signedDigest b) (bytesAt b 328 1932)),
    (8, x.minSvn ≤ leAt b 12 4),
    (9, b.length == 4096 + bodyLength b) ]

/-- The code with which an image ends the boot (R491, R512): over UCIe, LENGTH is judged first. -/
def bootCodeOf (s : State) (b : Bytes) : Nat :=
  let n := s.host.bootLen.toNat
  if s.pwr.bootSel && (n < 4096 || 2 ^ 24 < n || n != 4096 + bodyLength b) then 2
  else (((bootChecks s.sec b).find? (fun c => !c.2)).map Prod.fst).getD 0

/-- The fuse record that SEC_MEAS3 measures (R489, R494); MIN_SVN stands as its thermometer of fuses. -/
def fuseRecord (x : Security) (key : Nat) : Bytes :=
  leBytes 8 (2 ^ x.minSvn - 1) ++ leBytes 1 x.revoked.toNat ++ leBytes 1 (b2n x.debugLock) ++ leBytes 1 key ++ List.replicate 5 0
    ++ leBytes 16 Config.serial.toNat ++ List.replicate 32 0

/-- What the boot leaves of a verified image (R492 to R496): its measurements, the leaf counter of the flash, the fuse request. -/
def bootedSecurity (x : Security) (b : Bytes) : Security :=
  { x with
    svn := leAt b 12 4
    meas := [x.meas.getD 0 0, signedDigest b, shaDigest (configBlock b), shaDigest (fuseRecord x (leAt b 16 1))]
    nextLeaf := x.flashCounter
    counter := x.flashCounter
    fuseRequest := Config.configFuse (configBlock b)
    image := b }

/-- BOOT_VERIFY (R491): in SECURE_BOOT the image read from the source that BOOT_SEL names is verified. -/
def effBootVerify (image : Bytes) (s : State) : State :=
  if s.pwr.phase != 3 || (s.pwr.bootSel && !s.host.bootReading) then s
  else
    let code := bootCodeOf s image
    let s := { s with
      host := { s.host with bootReading := false }
      sec := { s.sec with
        bootCode := BitVec.ofNat 4 code
        bootSource := s.pwr.bootSel
        keyIndex := BitVec.ofNat 8 (leAt image 16 1)
        version := BitVec.ofNat 32 (leAt image 8 4) } }
    if code != 0 then modPwr s (fun p => { p with phase := 0xB })
    else
      { modPwr s (fun p => { p with phase := 4 }) with
        host := { s.host with gorirgenVersion := BitVec.ofNat 32 (leAt image 8 4) }
        sec := bootedSecurity s.sec image }

/-- Meaning of BOOT_VERIFY. -/
def execBootVerify (image : Bytes) (s : State) : Out := .next (effBootVerify image s)

/-! ### Start-up phases (R482) -/

/-- Domains from one number to another woken. -/
def wakeDomains (p : Power) (lo n : Nat) : Power := { p with awake := p.awake ||| ((2 ^ n - 1) * 2 ^ lo) }

/-- One LINK_CONFIG form of a configuration block applied; one that would be refused changes nothing. -/
def applyForm (s : State) (f : Nat × Nat × Bytes) : State :=
  let r : CfgRes :=
    if f.1 = 1 then configDevice (fitBytes 24 f.2.2) s
    else if f.1 = 2 then configPort f.2.1 (fitBytes 64 f.2.2) s
    else .ok s
  match r with
  | .ok s => s
  | .error _ => s

/-- The port groups of the enabled ports. -/
def wakePortGroups (s : State) : State :=
  s.ports.foldl (fun s e => if e.2.cfg.enable then modPwr s (fun p => wakeDomains p (2 + e.1 / 32) 1) else s) s

/-- LINKS entered (R472, R482): the configuration block's forms, the port groups of enabled ports. -/
def enterLinks (s : State) : State :=
  let s := modPwr s (fun p => { wakeDomains p 18 24 with phase := 6 })
  wakePortGroups ((Config.configForms (configBlock s.sec.image)).foldl applyForm s)

/-- The last-gasp record of the flash shown in TRC_LGASP, reported and erased (R468). -/
def showGaspRecord (s : State) : State :=
  match s.pwr.flashRecord with
  | none => s
  | some r =>
    let s := modPwr s (fun p => { p with flashRecord := none })
    let s := { s with trc := { s.trc with lgasp := r, lgaspValid := true } }
    powerEvent s 0x04 noDomain (bitsOf r.toNat 0 64 / 1000000)

/-- STARTUP_PHASE_DONE (R482): a phase's work is done and the next begins. SECURE_BOOT ends with BOOT_VERIFY, LINKS and TIME_SYNC lead
to READY by READY_ENTRY. Gorirgen runs from HBM_TRAIN on, so a last-gasp record is shown when its first phase ends (R468). -/
def effStartupPhaseDone (s : State) : State :=
  match s.pwr.phase.toNat with
  | 1 => { modPwr s (fun p => { wakeDomains p 1 1 with phase := 2 }) with
           sec := { s.sec with meas := Config.romDigest :: s.sec.meas.drop 1 } }
  | 2 => modPwr s (fun p => { p with phase := 3 })
  | 4 => showGaspRecord (modPwr s (fun p => { wakeDomains p 42 8 with phase := 5 }))
  | 5 => enterLinks s
  | 6 => modPwr s (fun p => { p with phase := 7 })
  | _ => s

/-- Meaning of STARTUP_PHASE_DONE. -/
def execStartupPhaseDone (s : State) : Out := .next (effStartupPhaseDone s)

/-- Whether READY can be entered (R485): at the time root from LINKS on, else in TIME_SYNC once LOCKED. -/
def canReady (s : State) : Bool :=
  ((s.pwr.phase == 6 || s.pwr.phase == 7) && s.timeRec.st == 3) || (s.pwr.phase == 7 && s.timeRec.st == 1)

/-- READY_ENTRY (R485). -/
def effReadyEntry (s : State) : State :=
  if canReady s then modPwr s (fun p => { p with phase := 8 }) else s

/-- Meaning of READY_ENTRY. -/
def execReadyEntry (s : State) : Out := .next (effReadyEntry s)

/-- FUSE_REQUEST (R493): after READY, within its limits; else ignored and counted. -/
def effFuseRequest (s : State) : State :=
  if s.pwr.phase != 8 then s
  else
    match s.sec.fuseRequest with
    | none => s
    | some (m, r) =>
      let x := { s.sec with fuseRequest := none }
      { s with sec :=
          if m ≤ x.svn && r < 2 ^ x.keyIndex.toNat then
            { x with minSvn := max x.minSvn m, revoked := x.revoked ||| BitVec.ofNat 4 r }
          else { x with fuseIgnored := x.fuseIgnored + 1 } }

/-- Meaning of FUSE_REQUEST. -/
def execFuseRequest (s : State) : Out := .next (effFuseRequest s)

/-! ### ATTEST (R498, R499) -/

/-- The OPEN slots, ascending. -/
def openSlots (s : State) : List Nat := slotsWhere s (fun sl => sl.st == SlotSt.open_)

/-- LENGTH of a report (R498). -/
def reportLength (s : State) : Nat := 4332 + 64 * (openSlots s).length

/-- The program that a report names for a slot: the SELECTED version, else the one in use, else 0. -/
def reportVersion (sl : Slot) : Nat :=
  let used := sl.progs.filter (fun v => v.st == .inUse)
  match sl.progs.find? (fun v => v.st == .selected) with
  | some v => v.num
  | none => (((used.find? (fun v => some v.num == sl.running)).orElse (fun _ => used.head?)).map (fun v => v.num)).getD 0

/-- A slot's entry in a report (R498). -/
def slotEntry (s : State) (i : Nat) : Bytes :=
  let sl := getSlot s i
  leBytes 1 i ++ leBytes 1 0 ++ leBytes 2 sl.ob.jobId ++ leBytes 2 sl.gen ++ leBytes 2 0 ++ leBytes 4 (reportVersion sl) ++ leBytes 4 0
    ++ leBytes 48 sl.meas.toNat

/-- The signed part of a report (R498). -/
def reportBody (s : State) (nonce : Bytes) : Bytes :=
  let os := openSlots s
  leBytes 2 1 ++ leBytes 2 0 ++ leBytes 4 (reportLength s) ++ fitBytes 32 nonce ++ leBytes 2 (selfId s)
    ++ leBytes 2 Config.generation.toNat ++ leBytes 4 s.host.gorirgenVersion.toNat ++ leBytes 4 s.sec.svn
    ++ leBytes 1 (packFields [(1, b2n s.sec.debugLock), (1, b2n s.host.standbyActive), (1, b2n s.host.degraded), (1, b2n s.host.fatal)])
    ++ leBytes 1 os.length ++ leBytes 2 0 ++ leBytes 8 s.time ++ leBytes 16 Config.serial.toNat
    ++ (List.range 4).flatMap (fun k => leBytes 48 (s.sec.meas.getD k 0).toNat)
    ++ fitBytes 97 Config.ecdsaPublic ++ leBytes 3 0 ++ fitBytes 56 Config.lmsPublic ++ leBytes 4 s.sec.nextLeaf.toNat
    ++ fitBytes 2028 Config.endorsement ++ leBytes 4 0 ++ os.flatMap (slotEntry s)

/-- A report: its body and the two signatures of its digest, the LMS one with the next leaf. -/
def reportOf (s : State) (nonce : Bytes) : Bytes :=
  let body := reportBody s nonce
  let d := shaDigest body
  body ++ fitBytes 96 (Config.ecdsaSign d) ++ fitBytes 1772 (Config.lmsSign d s.sec.nextLeaf.toNat)

/-- ATTEST on its nonce and buffer (R499); after a last-gasp trigger no signature begins (R467), and the command waits. -/
def runAttest (m : Nat) (c : Bytes) (buf : HostBuf) (s : State) : State :=
  let q := s.sec.nextLeaf.toNat
  if !bufSound c 40 (reportLength s) buf then refuseMbx s m rsHostBuffer
  else if s.pwr.gaspActive then holdMbx s m
  else if 2 ^ 20 ≤ q then answerMbx s m rsKeyExhausted 0 []
  else if s.sec.commitFailed then answerMbx s m rsKeyExhausted 2 []
  else if s.sec.counter.toNat ≤ q then holdMbx s m
  else
    let bs := reportOf s ((c.drop 8).take 32)
    let s := { s with sec := { s.sec with nextLeaf := s.sec.nextLeaf + 1 } }
    answerMbx (bufStore s c 40 bs) m rsOk 0 (leBytes 4 bs.length)

/-- ATTEST (R453, R498, R499). -/
def effAttest (buf : HostBuf) (s : State) : State :=
  runCommand (fun c => opOf c == 0x14) [(8, 44)] (fun m c s => runAttest m c buf s) s

/-- Meaning of ATTEST. -/
def execAttest (buf : HostBuf) (s : State) : Out := .next (effAttest buf s)

/-! ### Held commands (R37, R252, R444, R499) -/

/-- A held command whose condition is met, finished; one whose condition is not met stays held. -/
def resumeHeld (m : Nat) (c : Bytes) (buf : HostBuf) (s : State) : State :=
  let op := opOf c
  if op = 0x02 then
    if (getSlot s (leAt c 8 1)).st == .draining then s
    else if s.host.fatal then refuseMbx s m rsDeviceFailed
    else startJobOpen m c buf s
  else if op = 0x03 then
    if (getSlot s (slotOfMbx m)).step.st == .sealed then s
    else if s.host.fatal then refuseMbx s m rsDeviceFailed
    else runJobClose m s
  else if op = 0x14 then runAttest m c buf s
  else s

/-- HELD_COMMAND_RESUME (R444): while a keeper core serves (R28). -/
def effHeldCommandResume (mbx : MbxId) (buf : HostBuf) (s : State) : State :=
  let b := getMbx s mbx.val
  if b.st == .held && !s.host.keeperDown then resumeHeld mbx.val (slotBytes b.cmd) buf s else s

/-- Meaning of HELD_COMMAND_RESUME. -/
def execHeldCommandResume (mbx : MbxId) (buf : HostBuf) (s : State) : Out := .next (effHeldCommandResume mbx buf s)

/-! ### The leaf counter (R496, R497, R499) -/

/-- A held ATTEST refused with KEY_EXHAUSTED and a DETAIL (R499). -/
def refuseHeldAttest (s : State) (detail : Nat) : State :=
  let b := getMbx s 0
  if b.st == .held && opOf (slotBytes b.cmd) == 0x14 && !s.host.keeperDown then answerMbx s 0 rsKeyExhausted detail [] else s

/-- LEAF_COMMIT (R497): with at most 16 reserved leaves left, the flash is asked for 64 more. -/
def effLeafCommit (s : State) : State :=
  let x := s.sec
  if !gorirgenRuns s || s.pwr.gaspActive || x.commitOpen || 16 < x.counter.toNat - x.nextLeaf.toNat || 2 ^ 20 ≤ x.counter.toNat then s
  else
    let target := min (x.counter.toNat + 64) (2 ^ 20)
    emit { s with sec := { x with commitOpen := true, commitAt := s.time, commitTo := BitVec.ofNat 32 target } } (.flash 1 (leBytes 4 target))

/-- Meaning of LEAF_COMMIT. -/
def execLeafCommit (s : State) : Out := .next (effLeafCommit s)

/-- LEAF_COMMIT_DONE (R497): a response that authenticates and confirms the new value counts; another leaves q and C as they are, and
no signature is posted until a later commit succeeds. -/
def effLeafCommitDone (good : Bool) (value : W32) (s : State) : State :=
  if !s.sec.commitOpen then s
  else if good && value == s.sec.commitTo then
    { s with sec := { s.sec with commitOpen := false, commitFailed := false, counter := value, flashCounter := value } }
  else refuseHeldAttest { s with sec := { s.sec with commitOpen := false, commitFailed := true } } 2

/-- Meaning of LEAF_COMMIT_DONE. -/
def execLeafCommitDone (good : Bool) (value : W32) (s : State) : Out := .next (effLeafCommitDone good value s)

/-- FLASH_RESPONSE_TIMEOUT (R499): 20 ms without a response. -/
def effFlashResponseTimeout (s : State) : State :=
  if !s.sec.commitOpen then s
  else
    let s := timeTo s (s.sec.commitAt + msNs 20)
    refuseHeldAttest { s with sec := { s.sec with commitOpen := false } } 1

/-- Meaning of FLASH_RESPONSE_TIMEOUT. -/
def execFlashResponseTimeout (s : State) : Out := .next (effFlashResponseTimeout s)

/-! ### Management bus and JTAG (R504, R529) -/

/-- What an SMBus Block Read of a command code returns (R529); none for a code that is not acknowledged. -/
def mgmtBlock (s : State) (code : Nat) : Option Bytes :=
  if code ≤ 6 then some (leBytes 8 (pwrReg s code))
  else if code = 0x10 then some (leBytes 8 (if s.pwr.phase = 1 then 0 else glbStatus s))
  else if code = 0x20 then some (fitBytes 32 Config.carrierLabel)
  else none

/-- MGMT_READ (R529): answered from ALWAYS_ON on; an empty answer is NACK. -/
def effMgmtRead (command : Byte) (s : State) : State :=
  if s.pwr.phase = 0 then s else emit s (.smbus ((mgmtBlock s command.toNat).getD []))

/-- Meaning of MGMT_READ. -/
def execMgmtRead (command : Byte) (s : State) : Out := .next (effMgmtRead command s)

/-- JTAG_ACCESS (R504): IDCODE, boundary scan up to ALWAYS_ON, and BYPASS, which every other instruction selects. -/
def effJtagAccess (instr : Byte) (s : State) : State :=
  if instr = 1 then emit s (.jtag 1 Config.idcode.toNat)
  else if instr = 2 then
    if 1 < s.pwr.phase.toNat then s
    else
      let d := drawFree s
      emit d.2 (.jtag 2 (Config.boundaryScan d.1))
  else emit s (.jtag 0xFF 0)

/-- Meaning of JTAG_ACCESS. -/
def execJtagAccess (instr : Byte) (s : State) : Out := .next (effJtagAccess instr s)

end Sys2Proof.Machine
end

