-- ==== Sys2Proof/Machine/Dispatch.lean ====
section
/-! DEFINITION. One arm for each command: a direct call of its meaning. -/

namespace Sys2Proof.Machine

/-- The effect of a command on everything but the queue. -/
def exec (i : Instr) (s : State) : Host.Outcome State Fault Refusal :=
  match i with
  | .hostRead req => Sys2Proof.Machine.execHostRead req s
  | .registerWrite req => Sys2Proof.Machine.execRegisterWrite req s
  | .apertureRead req => Sys2Proof.Machine.execApertureRead req s
  | .apertureWrite req => Sys2Proof.Machine.execApertureWrite req s
  | .apertureAdd req => Sys2Proof.Machine.execApertureAdd req s
  | .deviceReset req => Sys2Proof.Machine.execDeviceReset req s
  | .bootGo req => Sys2Proof.Machine.execBootGo req s
  | .eventRingEnable req => Sys2Proof.Machine.execEventRingEnable req s
  | .eventRingTailWrite req => Sys2Proof.Machine.execEventRingTailWrite req s
  | .htlErrRead req => Sys2Proof.Machine.execHtlErrRead req s
  | .inputPeakRead req => Sys2Proof.Machine.execInputPeakRead req s
  | .mbxDiscardedRead req => Sys2Proof.Machine.execMbxDiscardedRead req s
  | .eventLostRead req => Sys2Proof.Machine.execEventLostRead req s
  | .traceLostRead req => Sys2Proof.Machine.execTraceLostRead req s
  | .lgaspClear req => Sys2Proof.Machine.execLgaspClear req s
  | .traceWindowRead req => Sys2Proof.Machine.execTraceWindowRead req s
  | .htlCompletion req => Sys2Proof.Machine.execHtlCompletion req s
  | .eventHoldoffExpiry => Sys2Proof.Machine.execEventHoldoffExpiry s
  | .ucieModuleDown mdl => Sys2Proof.Machine.execUcieModuleDown mdl s
  | .sidebandAccess req => Sys2Proof.Machine.execSidebandAccess req s
  | .deviceInfoIdentity => Sys2Proof.Machine.execDeviceInfoIdentity s
  | .deviceInfoChannels buf => Sys2Proof.Machine.execDeviceInfoChannels buf s
  | .jobOpen buf => Sys2Proof.Machine.execJobOpen buf s
  | .jobClose => Sys2Proof.Machine.execJobClose s
  | .shardPlace buf => Sys2Proof.Machine.execShardPlace buf s
  | .tandemBind => Sys2Proof.Machine.execTandemBind s
  | .tandemUnbind => Sys2Proof.Machine.execTandemUnbind s
  | .spareAdmit => Sys2Proof.Machine.execSpareAdmit s
  | .groupDefine buf => Sys2Proof.Machine.execGroupDefine buf s
  | .groupRegen buf => Sys2Proof.Machine.execGroupRegen buf s
  | .programLoad buf => Sys2Proof.Machine.execProgramLoad buf s
  | .programSelect => Sys2Proof.Machine.execProgramSelect s
  | .stepArm buf => Sys2Proof.Machine.execStepArm buf s
  | .stepStatus buf => Sys2Proof.Machine.execStepStatus buf s
  | .stepStatusClearFlags buf => Sys2Proof.Machine.execStepStatusClearFlags buf s
  | .rollback => Sys2Proof.Machine.execRollback s
  | .rollbackResolveGlued => Sys2Proof.Machine.execRollbackResolveGlued s
  | .rollbackResolveAborted => Sys2Proof.Machine.execRollbackResolveAborted s
  | .healthRead buf => Sys2Proof.Machine.execHealthRead buf s
  | .brakeSet => Sys2Proof.Machine.execBrakeSet s
  | .rehearsalSet => Sys2Proof.Machine.execRehearsalSet s
  | .traceSet buf => Sys2Proof.Machine.execTraceSet buf s
  | .linkConfigDevice buf => Sys2Proof.Machine.execLinkConfigDevice buf s
  | .linkConfigPort buf => Sys2Proof.Machine.execLinkConfigPort buf s
  | .linkConfigLane buf => Sys2Proof.Machine.execLinkConfigLane buf s
  | .linkConfigRead buf => Sys2Proof.Machine.execLinkConfigRead buf s
  | .linkConfigClear buf => Sys2Proof.Machine.execLinkConfigClear buf s
  | .powerPolicyRead => Sys2Proof.Machine.execPowerPolicyRead s
  | .powerPolicySet => Sys2Proof.Machine.execPowerPolicySet s
  | .attest buf => Sys2Proof.Machine.execAttest buf s
  | .badCommand => Sys2Proof.Machine.execBadCommand s
  | .heldCommandResume mbx buf => Sys2Proof.Machine.execHeldCommandResume mbx buf s
  | .keeperWatchdog => Sys2Proof.Machine.execKeeperWatchdog s
  | .takeover => Sys2Proof.Machine.execTakeover s
  | .jigAdd slot => Sys2Proof.Machine.execJigAdd slot s
  | .jigSub slot => Sys2Proof.Machine.execJigSub slot s
  | .jigAnd slot => Sys2Proof.Machine.execJigAnd slot s
  | .jigOr slot => Sys2Proof.Machine.execJigOr slot s
  | .jigXor slot => Sys2Proof.Machine.execJigXor slot s
  | .jigSll slot => Sys2Proof.Machine.execJigSll slot s
  | .jigSrl slot => Sys2Proof.Machine.execJigSrl slot s
  | .jigSra slot => Sys2Proof.Machine.execJigSra slot s
  | .jigMul slot => Sys2Proof.Machine.execJigMul slot s
  | .jigMulhu slot => Sys2Proof.Machine.execJigMulhu slot s
  | .jigSlt slot => Sys2Proof.Machine.execJigSlt slot s
  | .jigSltu slot => Sys2Proof.Machine.execJigSltu slot s
  | .jigMin slot => Sys2Proof.Machine.execJigMin slot s
  | .jigMax slot => Sys2Proof.Machine.execJigMax slot s
  | .jigAddi slot => Sys2Proof.Machine.execJigAddi slot s
  | .jigAndi slot => Sys2Proof.Machine.execJigAndi slot s
  | .jigOri slot => Sys2Proof.Machine.execJigOri slot s
  | .jigXori slot => Sys2Proof.Machine.execJigXori slot s
  | .jigSlli slot => Sys2Proof.Machine.execJigSlli slot s
  | .jigSrli slot => Sys2Proof.Machine.execJigSrli slot s
  | .jigSrai slot => Sys2Proof.Machine.execJigSrai slot s
  | .jigLui slot => Sys2Proof.Machine.execJigLui slot s
  | .jigSlti slot => Sys2Proof.Machine.execJigSlti slot s
  | .jigAset slot => Sys2Proof.Machine.execJigAset slot s
  | .jigAadd slot => Sys2Proof.Machine.execJigAadd slot s
  | .jigArd slot => Sys2Proof.Machine.execJigArd slot s
  | .jigSrd slot => Sys2Proof.Machine.execJigSrd slot s
  | .jigLset slot => Sys2Proof.Machine.execJigLset slot s
  | .jigLrd slot => Sys2Proof.Machine.execJigLrd slot s
  | .jigBeq slot => Sys2Proof.Machine.execJigBeq slot s
  | .jigBne slot => Sys2Proof.Machine.execJigBne slot s
  | .jigBlt slot => Sys2Proof.Machine.execJigBlt slot s
  | .jigBge slot => Sys2Proof.Machine.execJigBge slot s
  | .jigBltu slot => Sys2Proof.Machine.execJigBltu slot s
  | .jigBgeu slot => Sys2Proof.Machine.execJigBgeu slot s
  | .jigJmp slot => Sys2Proof.Machine.execJigJmp slot s
  | .jigLoop slot => Sys2Proof.Machine.execJigLoop slot s
  | .jigLdc slot => Sys2Proof.Machine.execJigLdc slot s
  | .jigRdspr slot => Sys2Proof.Machine.execJigRdspr slot s
  | .jigRdcad slot => Sys2Proof.Machine.execJigRdcad slot s
  | .jigPace slot => Sys2Proof.Machine.execJigPace slot s
  | .jigRep slot => Sys2Proof.Machine.execJigRep slot s
  | .jigPushBench slot => Sys2Proof.Machine.execJigPushBench slot s
  | .jigPushBlk slot => Sys2Proof.Machine.execJigPushBlk slot s
  | .jigPushMove slot => Sys2Proof.Machine.execJigPushMove slot s
  | .jigPushDrain slot => Sys2Proof.Machine.execJigPushDrain slot s
  | .jigPushEmit slot => Sys2Proof.Machine.execJigPushEmit slot s
  | .jigPushCadence slot => Sys2Proof.Machine.execJigPushCadence slot s
  | .jigAwait slot => Sys2Proof.Machine.execJigAwait slot s
  | .jigAwaitY slot => Sys2Proof.Machine.execJigAwaitY slot s
  | .jigYield slot => Sys2Proof.Machine.execJigYield slot s
  | .jigArm slot => Sys2Proof.Machine.execJigArm slot s
  | .jigEnd slot => Sys2Proof.Machine.execJigEnd slot s
  | .jigNop slot => Sys2Proof.Machine.execJigNop slot s
  | .jigIllegalOpcode slot => Sys2Proof.Machine.execJigIllegalOpcode slot s
  | .sepFadd slot => Sys2Proof.Machine.execSepFadd slot s
  | .sepFsub slot => Sys2Proof.Machine.execSepFsub slot s
  | .sepFmul slot => Sys2Proof.Machine.execSepFmul slot s
  | .sepFfma slot => Sys2Proof.Machine.execSepFfma slot s
  | .sepFfnma slot => Sys2Proof.Machine.execSepFfnma slot s
  | .sepFmin slot => Sys2Proof.Machine.execSepFmin slot s
  | .sepFmax slot => Sys2Proof.Machine.execSepFmax slot s
  | .sepFabs slot => Sys2Proof.Machine.execSepFabs slot s
  | .sepFneg slot => Sys2Proof.Machine.execSepFneg slot s
  | .sepFsign slot => Sys2Proof.Machine.execSepFsign slot s
  | .sepFcmp slot => Sys2Proof.Machine.execSepFcmp slot s
  | .sepSel slot => Sys2Proof.Machine.execSepSel slot s
  | .sepMov slot => Sys2Proof.Machine.execSepMov slot s
  | .sepPlog slot => Sys2Proof.Machine.execSepPlog slot s
  | .sepIadd slot => Sys2Proof.Machine.execSepIadd slot s
  | .sepIsub slot => Sys2Proof.Machine.execSepIsub slot s
  | .sepAnd slot => Sys2Proof.Machine.execSepAnd slot s
  | .sepOr slot => Sys2Proof.Machine.execSepOr slot s
  | .sepXor slot => Sys2Proof.Machine.execSepXor slot s
  | .sepShl slot => Sys2Proof.Machine.execSepShl slot s
  | .sepShr slot => Sys2Proof.Machine.execSepShr slot s
  | .sepSar slot => Sys2Proof.Machine.execSepSar slot s
  | .sepBcastI slot => Sys2Proof.Machine.execSepBcastI slot s
  | .sepCvtTo slot => Sys2Proof.Machine.execSepCvtTo slot s
  | .sepCvtFrom slot => Sys2Proof.Machine.execSepCvtFrom slot s
  | .sepCvtF2i slot => Sys2Proof.Machine.execSepCvtF2i slot s
  | .sepCvtI2f slot => Sys2Proof.Machine.execSepCvtI2f slot s
  | .sepDadd slot => Sys2Proof.Machine.execSepDadd slot s
  | .sepDsub slot => Sys2Proof.Machine.execSepDsub slot s
  | .sepDmul slot => Sys2Proof.Machine.execSepDmul slot s
  | .sepDfma slot => Sys2Proof.Machine.execSepDfma slot s
  | .sepDmin slot => Sys2Proof.Machine.execSepDmin slot s
  | .sepDmax slot => Sys2Proof.Machine.execSepDmax slot s
  | .sepDcmp slot => Sys2Proof.Machine.execSepDcmp slot s
  | .sepCvtS2d slot => Sys2Proof.Machine.execSepCvtS2d slot s
  | .sepCvtD2s slot => Sys2Proof.Machine.execSepCvtD2s slot s
  | .sepShchk slot => Sys2Proof.Machine.execSepShchk slot s
  | .sepFdiv slot => Sys2Proof.Machine.execSepFdiv slot s
  | .sepFsqrt slot => Sys2Proof.Machine.execSepFsqrt slot s
  | .sepDdiv slot => Sys2Proof.Machine.execSepDdiv slot s
  | .sepDsqrt slot => Sys2Proof.Machine.execSepDsqrt slot s
  | .sepRcpS slot => Sys2Proof.Machine.execSepRcpS slot s
  | .sepRcpN slot => Sys2Proof.Machine.execSepRcpN slot s
  | .sepRsqS slot => Sys2Proof.Machine.execSepRsqS slot s
  | .sepRsqN slot => Sys2Proof.Machine.execSepRsqN slot s
  | .sepLoad slot => Sys2Proof.Machine.execSepLoad slot s
  | .sepLoadD slot => Sys2Proof.Machine.execSepLoadD slot s
  | .sepStore slot => Sys2Proof.Machine.execSepStore slot s
  | .sepStoreD slot => Sys2Proof.Machine.execSepStoreD slot s
  | .sepShsel slot => Sys2Proof.Machine.execSepShsel slot s
  | .sepEclr slot => Sys2Proof.Machine.execSepEclr slot s
  | .sepWset slot => Sys2Proof.Machine.execSepWset slot s
  | .sepMaxexp slot => Sys2Proof.Machine.execSepMaxexp slot s
  | .sepMaxexpAll slot => Sys2Proof.Machine.execSepMaxexpAll slot s
  | .sepSum slot => Sys2Proof.Machine.execSepSum slot s
  | .sepSumAll slot => Sys2Proof.Machine.execSepSumAll slot s
  | .sepNorm slot => Sys2Proof.Machine.execSepNorm slot s
  | .sepNormAll slot => Sys2Proof.Machine.execSepNormAll slot s
  | .sepDot slot => Sys2Proof.Machine.execSepDot slot s
  | .sepDotAll slot => Sys2Proof.Machine.execSepDotAll slot s
  | .sepBarrierStep slot => Sys2Proof.Machine.execSepBarrierStep slot s
  | .fusedCollectiveLaunch slot => Sys2Proof.Machine.execFusedCollectiveLaunch slot s
  | .moveIn slot => Sys2Proof.Machine.execMoveIn slot s
  | .moveOut slot => Sys2Proof.Machine.execMoveOut slot s
  | .drain slot => Sys2Proof.Machine.execDrain slot s
  | .emitState slot => Sys2Proof.Machine.execEmitState slot s
  | .emitServe slot => Sys2Proof.Machine.execEmitServe slot s
  | .moveInDone slot tile late => Sys2Proof.Machine.execMoveInDone slot tile late s
  | .moveOutDone slot tile late => Sys2Proof.Machine.execMoveOutDone slot tile late s
  | .chunkServable slot => Sys2Proof.Machine.execChunkServable slot s
  | .cadBarrier slot => Sys2Proof.Machine.execCadBarrier slot s
  | .maxI64 slot => Sys2Proof.Machine.execMaxI64 slot s
  | .minI64 slot => Sys2Proof.Machine.execMinI64 slot s
  | .sumI64 slot => Sys2Proof.Machine.execSumI64 slot s
  | .andU64 slot => Sys2Proof.Machine.execAndU64 slot s
  | .orU64 slot => Sys2Proof.Machine.execOrU64 slot s
  | .cadMaxexp slot => Sys2Proof.Machine.execCadMaxexp slot s
  | .sumF32 slot => Sys2Proof.Machine.execSumF32 slot s
  | .cadenceUp rx => Sys2Proof.Machine.execCadenceUp rx s
  | .cadenceDown rx => Sys2Proof.Machine.execCadenceDown rx s
  | .cadenceFail rx => Sys2Proof.Machine.execCadenceFail rx s
  | .cadenceDeadline slot => Sys2Proof.Machine.execCadenceDeadline slot s
  | .cadenceHeldExpiry slot => Sys2Proof.Machine.execCadenceHeldExpiry slot s
  | .segmentBegin slot => Sys2Proof.Machine.execSegmentBegin slot s
  | .turnOverrun slot => Sys2Proof.Machine.execTurnOverrun slot s
  | .contribute rx => Sys2Proof.Machine.execContribute rx s
  | .accumulate rx => Sys2Proof.Machine.execAccumulate rx s
  | .windowProposal rx => Sys2Proof.Machine.execWindowProposal rx s
  | .placementComplete slot bucket chunk => Sys2Proof.Machine.execPlacementComplete slot bucket chunk s
  | .partialSend slot bucket chunk => Sys2Proof.Machine.execPartialSend slot bucket chunk s
  | .partialResend slot bucket chunk => Sys2Proof.Machine.execPartialResend slot bucket chunk s
  | .chunkRound slot bucket chunk => Sys2Proof.Machine.execChunkRound slot bucket chunk s
  | .bucketDeadline slot bucket => Sys2Proof.Machine.execBucketDeadline slot bucket s
  | .gather rx => Sys2Proof.Machine.execGather rx s
  | .deviceGather rx => Sys2Proof.Machine.execDeviceGather rx s
  | .gatherResend slot => Sys2Proof.Machine.execGatherResend slot s
  | .deliver rx => Sys2Proof.Machine.execDeliver rx s
  | .castComplete slot => Sys2Proof.Machine.execCastComplete slot s
  | .gatherDeadline slot => Sys2Proof.Machine.execGatherDeadline slot s
  | .stepDone rx => Sys2Proof.Machine.execStepDone rx s
  | .statePending rx => Sys2Proof.Machine.execStatePending rx s
  | .stateEmem rx => Sys2Proof.Machine.execStateEmem rx s
  | .stateShip rx => Sys2Proof.Machine.execStateShip rx s
  | .stateRestore rx => Sys2Proof.Machine.execStateRestore rx s
  | .stateResync rx => Sys2Proof.Machine.execStateResync rx s
  | .stateResyncEmem rx => Sys2Proof.Machine.execStateResyncEmem rx s
  | .partnerReport rx => Sys2Proof.Machine.execPartnerReport rx s
  | .segmentReport rx => Sys2Proof.Machine.execSegmentReport rx s
  | .partnerReportSend slot => Sys2Proof.Machine.execPartnerReportSend slot s
  | .restoreReq rx => Sys2Proof.Machine.execRestoreReq rx s
  | .restoreRowSend slot => Sys2Proof.Machine.execRestoreRowSend slot s
  | .resyncReq rx => Sys2Proof.Machine.execResyncReq rx s
  | .resyncRowSend slot => Sys2Proof.Machine.execResyncRowSend slot s
  | .restoreRefuse rx => Sys2Proof.Machine.execRestoreRefuse rx s
  | .stepSeal slot => Sys2Proof.Machine.execStepSeal slot s
  | .readySeq rx => Sys2Proof.Machine.execReadySeq rx s
  | .glueSeq rx => Sys2Proof.Machine.execGlueSeq rx s
  | .abortSeq rx => Sys2Proof.Machine.execAbortSeq rx s
  | .rollbackCleared slot => Sys2Proof.Machine.execRollbackCleared slot s
  | .leaveSeq rx => Sys2Proof.Machine.execLeaveSeq rx s
  | .stepDeadline slot => Sys2Proof.Machine.execStepDeadline slot s
  | .rootDeadline slot => Sys2Proof.Machine.execRootDeadline slot s
  | .slotDrainDone slot => Sys2Proof.Machine.execSlotDrainDone slot s
  | .slotDrainTimeout slot => Sys2Proof.Machine.execSlotDrainTimeout slot s
  | .incidentClose => Sys2Proof.Machine.execIncidentClose s
  | .incidentSeq rx => Sys2Proof.Machine.execIncidentSeq rx s
  | .incidentRetransmit link => Sys2Proof.Machine.execIncidentRetransmit link s
  | .linkctlAck rx => Sys2Proof.Machine.execLinkctlAck rx s
  | .scoreDecay slot => Sys2Proof.Machine.execScoreDecay slot s
  | .brakeWindow slot => Sys2Proof.Machine.execBrakeWindow slot s
  | .accuseWindow slot => Sys2Proof.Machine.execAccuseWindow slot s
  | .rehearsalInject slot => Sys2Proof.Machine.execRehearsalInject slot s
  | .rehearsalSkip slot => Sys2Proof.Machine.execRehearsalSkip slot s
  | .linkDropEnd port slot => Sys2Proof.Machine.execLinkDropEnd port slot s
  | .frameSend port => Sys2Proof.Machine.execFrameSend port s
  | .creditSend port => Sys2Proof.Machine.execCreditSend port s
  | .credit rx => Sys2Proof.Machine.execCredit rx s
  | .nack rx => Sys2Proof.Machine.execNack rx s
  | .hello rx => Sys2Proof.Machine.execHello rx s
  | .creditInit rx => Sys2Proof.Machine.execCreditInit rx s
  | .jobAnnounce rx => Sys2Proof.Machine.execJobAnnounce rx s
  | .jobWithdraw rx => Sys2Proof.Machine.execJobWithdraw rx s
  | .corruptFrame rx => Sys2Proof.Machine.execCorruptFrame rx s
  | .replayTimeout port => Sys2Proof.Machine.execReplayTimeout port s
  | .linkFrameReplay port => Sys2Proof.Machine.execLinkFrameReplay port s
  | .bareCredit port => Sys2Proof.Machine.execBareCredit port s
  | .portDown port => Sys2Proof.Machine.execPortDown port s
  | .kAdapt port => Sys2Proof.Machine.execKAdapt port s
  | .poolWaitRetry => Sys2Proof.Machine.execPoolWaitRetry s
  | .bufferRelease buf holder => Sys2Proof.Machine.execBufferRelease buf holder s
  | .bufferUnlink buf holder => Sys2Proof.Machine.execBufferUnlink buf holder s
  | .sliceMapout tile => Sys2Proof.Machine.execSliceMapout tile s
  | .dieLinkFail dlink => Sys2Proof.Machine.execDieLinkFail dlink s
  | .trainingFrame lane request status => Sys2Proof.Machine.execTrainingFrame lane request status s
  | .trainingComplete lane => Sys2Proof.Machine.execTrainingComplete lane s
  | .trainingTimeout lane => Sys2Proof.Machine.execTrainingTimeout lane s
  | .codewordLock lane rxLane skew => Sys2Proof.Machine.execCodewordLock lane rxLane skew s
  | .portDeskewed port => Sys2Proof.Machine.execPortDeskewed port s
  | .laneFault lane => Sys2Proof.Machine.execLaneFault lane s
  | .idleEntry port => Sys2Proof.Machine.execIdleEntry port s
  | .idleExit port => Sys2Proof.Machine.execIdleExit port s
  | .spokeAlign link => Sys2Proof.Machine.execSpokeAlign link s
  | .spokeHello rx => Sys2Proof.Machine.execSpokeHello rx s
  | .spokeLinkDown link => Sys2Proof.Machine.execSpokeLinkDown link s
  | .timeExchange => Sys2Proof.Machine.execTimeExchange s
  | .timeReq rx => Sys2Proof.Machine.execTimeReq rx s
  | .timeResp rx t4 => Sys2Proof.Machine.execTimeResp rx t4 s
  | .hbmUncorrectable chan addr => Sys2Proof.Machine.execHbmUncorrectable chan addr s
  | .channelMapout chan reason => Sys2Proof.Machine.execChannelMapout chan reason s
  | .patrolScrub chan addr corrected => Sys2Proof.Machine.execPatrolScrub chan addr corrected s
  | .inputDropout => Sys2Proof.Machine.execInputDropout s
  | .inputRecover => Sys2Proof.Machine.execInputRecover s
  | .surgeOpen => Sys2Proof.Machine.execSurgeOpen s
  | .surgeClose => Sys2Proof.Machine.execSurgeClose s
  | .lastGasp cause => Sys2Proof.Machine.execLastGasp cause s
  | .lastGaspComplete => Sys2Proof.Machine.execLastGaspComplete s
  | .governorInterval power voltage => Sys2Proof.Machine.execGovernorInterval power voltage s
  | .leverLift => Sys2Proof.Machine.execLeverLift s
  | .domainSleep domain => Sys2Proof.Machine.execDomainSleep domain s
  | .domainWake domain => Sys2Proof.Machine.execDomainWake domain s
  | .domainAwake domain => Sys2Proof.Machine.execDomainAwake domain s
  | .domainFault domain => Sys2Proof.Machine.execDomainFault domain s
  | .droopTrip domain => Sys2Proof.Machine.execDroopTrip domain s
  | .droopRecover domain => Sys2Proof.Machine.execDroopRecover domain s
  | .voltageStep domain => Sys2Proof.Machine.execVoltageStep domain s
  | .ref25Loss => Sys2Proof.Machine.execRef25Loss s
  | .ref156Loss => Sys2Proof.Machine.execRef156Loss s
  | .ref156Return => Sys2Proof.Machine.execRef156Return s
  | .thermalSample junction stack hotTile hotStack => Sys2Proof.Machine.execThermalSample junction stack hotTile hotStack s
  | .pinReset => Sys2Proof.Machine.execPinReset s
  | .powerOn => Sys2Proof.Machine.execPowerOn s
  | .startupPhaseDone => Sys2Proof.Machine.execStartupPhaseDone s
  | .bootVerify image => Sys2Proof.Machine.execBootVerify image s
  | .readyEntry => Sys2Proof.Machine.execReadyEntry s
  | .fuseRequest => Sys2Proof.Machine.execFuseRequest s
  | .leafCommit => Sys2Proof.Machine.execLeafCommit s
  | .leafCommitDone good value => Sys2Proof.Machine.execLeafCommitDone good value s
  | .mgmtRead command => Sys2Proof.Machine.execMgmtRead command s
  | .jtagAccess instr => Sys2Proof.Machine.execJtagAccess instr s
  | .flashResponseTimeout => Sys2Proof.Machine.execFlashResponseTimeout s
  | .memMapout chan => Sys2Proof.Machine.execMemMapout chan s
  | .signalDetected lane => Sys2Proof.Machine.execSignalDetected lane s
  | .ucieModuleUp mdl => Sys2Proof.Machine.execUcieModuleUp mdl s
  | .eiCodewordsReceived lane => Sys2Proof.Machine.execEiCodewordsReceived lane s
  | .exitBurstReceived lane deskewed => Sys2Proof.Machine.execExitBurstReceived lane deskewed s
  | .drainRead slot => Sys2Proof.Machine.execDrainRead slot s

end Sys2Proof.Machine
end

