-- ==== Sys2Proof/Machine/Step.lean ====
section
/-! DEFINITION. One step: the command at the front of the queue is taken and run; an empty queue lets device time run on by
one nanosecond. -/

namespace Sys2Proof.Machine

/-- What the device does when no command waits: a nanosecond passes (R13, R404, R406; log entry 5). -/
def idleTick (s : State) : State := tickTime s

/-- One step of the device. -/
def step (s : State) : Host.Outcome State Fault Refusal :=
  match s.pending with
  | [] => .next (idleTick s)
  | c :: rest => exec c { s with pending := rest }

/-- The command that a table word spells put at the front of the queue; the table spells none by bits, so s is unchanged. -/
def State.withFetchWord (s : State) (nbits w : Nat) : State :=
  match Sys2Proof.decodeTableWord nbits w with
  | none => s
  | some c => { s with pending := c :: s.pending }

end Sys2Proof.Machine
end

