-- ==== Sys2Proof/Safety.lean ====
section
/-! DEFINITION. The terms that statements use: what a safe run is, the pieces of the state, and which of them each command may
change. -/

namespace Sys2Proof

open Sys2Proof.Machine

/-- A state from which the next step goes on. -/
def StepsOn (s : State) : Prop := ∃ t, step s = .next t

/-- The pieces of the device's state: every field of State but the queue and the slots, and every field of a slot. -/
inductive Piece where
  | time | out | freeCount | host | mbx | ownOrder | evt | trc | fab | ports | lanes | spokes | timeRec | hbm | pwr |
  sec | incidents | droppedReports | holder | benchLast | slotSt | slotGen | slotStaleGen | slotOb | slotMeas |
  slotDrainStart | slotDrainTimeoutPosted | slotShard | slotGroups | slotCtxs | slotCadHeld | slotCadRec | slotStep |
  slotTan | slotBuckets | slotServable | slotFetch | slotDeliv | slotFlags | slotLog | slotLogNext | slotLogRing |
  slotLogOverflow | slotMemLate | slotSums | slotWatch | slotFault | slotPools | slotWinTx | slotWinRx | slotHealth |
  slotProgs | slotRunning | slotResident | slotTokens | slotBench
  deriving DecidableEq, Repr

/-- A piece is the same in two states; of a slot's piece, in every slot. -/
def Piece.same (p : Piece) (s t : State) : Prop :=
  match p with
  | .time => t.time = s.time
  | .out => t.out = s.out
  | .freeCount => t.freeCount = s.freeCount
  | .host => t.host = s.host
  | .mbx => t.mbx = s.mbx
  | .ownOrder => t.ownOrder = s.ownOrder
  | .evt => t.evt = s.evt
  | .trc => t.trc = s.trc
  | .fab => t.fab = s.fab
  | .ports => t.ports = s.ports
  | .lanes => t.lanes = s.lanes
  | .spokes => t.spokes = s.spokes
  | .timeRec => t.timeRec = s.timeRec
  | .hbm => t.hbm = s.hbm
  | .pwr => t.pwr = s.pwr
  | .sec => t.sec = s.sec
  | .incidents => t.incidents = s.incidents
  | .droppedReports => t.droppedReports = s.droppedReports
  | .holder => t.holder = s.holder
  | .benchLast => t.benchLast = s.benchLast
  | .slotSt => ∀ i, (getSlot t i).st = (getSlot s i).st
  | .slotGen => ∀ i, (getSlot t i).gen = (getSlot s i).gen
  | .slotStaleGen => ∀ i, (getSlot t i).staleGen = (getSlot s i).staleGen
  | .slotOb => ∀ i, (getSlot t i).ob = (getSlot s i).ob
  | .slotMeas => ∀ i, (getSlot t i).meas = (getSlot s i).meas
  | .slotDrainStart => ∀ i, (getSlot t i).drainStart = (getSlot s i).drainStart
  | .slotDrainTimeoutPosted => ∀ i, (getSlot t i).drainTimeoutPosted = (getSlot s i).drainTimeoutPosted
  | .slotShard => ∀ i, (getSlot t i).shard = (getSlot s i).shard
  | .slotGroups => ∀ i, (getSlot t i).groups = (getSlot s i).groups
  | .slotCtxs => ∀ i, (getSlot t i).ctxs = (getSlot s i).ctxs
  | .slotCadHeld => ∀ i, (getSlot t i).cadHeld = (getSlot s i).cadHeld
  | .slotCadRec => ∀ i, (getSlot t i).cadRec = (getSlot s i).cadRec
  | .slotStep => ∀ i, (getSlot t i).step = (getSlot s i).step
  | .slotTan => ∀ i, (getSlot t i).tan = (getSlot s i).tan
  | .slotBuckets => ∀ i, (getSlot t i).buckets = (getSlot s i).buckets
  | .slotServable => ∀ i, (getSlot t i).servable = (getSlot s i).servable
  | .slotFetch => ∀ i, (getSlot t i).fetch = (getSlot s i).fetch
  | .slotDeliv => ∀ i, (getSlot t i).deliv = (getSlot s i).deliv
  | .slotFlags => ∀ i, (getSlot t i).flags = (getSlot s i).flags
  | .slotLog => ∀ i, (getSlot t i).log = (getSlot s i).log
  | .slotLogNext => ∀ i, (getSlot t i).logNext = (getSlot s i).logNext
  | .slotLogRing => ∀ i, (getSlot t i).logRing = (getSlot s i).logRing
  | .slotLogOverflow => ∀ i, (getSlot t i).logOverflow = (getSlot s i).logOverflow
  | .slotMemLate => ∀ i, (getSlot t i).memLate = (getSlot s i).memLate
  | .slotSums => ∀ i, (getSlot t i).sums = (getSlot s i).sums
  | .slotWatch => ∀ i, (getSlot t i).watch = (getSlot s i).watch
  | .slotFault => ∀ i, (getSlot t i).fault = (getSlot s i).fault
  | .slotPools => ∀ i, (getSlot t i).pools = (getSlot s i).pools
  | .slotWinTx => ∀ i, (getSlot t i).winTx = (getSlot s i).winTx
  | .slotWinRx => ∀ i, (getSlot t i).winRx = (getSlot s i).winRx
  | .slotHealth => ∀ i, (getSlot t i).health = (getSlot s i).health
  | .slotProgs => ∀ i, (getSlot t i).progs = (getSlot s i).progs
  | .slotRunning => ∀ i, (getSlot t i).running = (getSlot s i).running
  | .slotResident => ∀ i, (getSlot t i).resident = (getSlot s i).resident
  | .slotTokens => ∀ i, (getSlot t i).tokens = (getSlot s i).tokens
  | .slotBench => ∀ i, (getSlot t i).bench = (getSlot s i).bench

/-- A piece is the same in two slots; every piece that is no slot's is. -/
def Piece.sameSlot (p : Piece) (a b : Slot) : Prop :=
  match p with
  | .time => True
  | .out => True
  | .freeCount => True
  | .host => True
  | .mbx => True
  | .ownOrder => True
  | .evt => True
  | .trc => True
  | .fab => True
  | .ports => True
  | .lanes => True
  | .spokes => True
  | .timeRec => True
  | .hbm => True
  | .pwr => True
  | .sec => True
  | .incidents => True
  | .droppedReports => True
  | .holder => True
  | .benchLast => True
  | .slotSt => b.st = a.st
  | .slotGen => b.gen = a.gen
  | .slotStaleGen => b.staleGen = a.staleGen
  | .slotOb => b.ob = a.ob
  | .slotMeas => b.meas = a.meas
  | .slotDrainStart => b.drainStart = a.drainStart
  | .slotDrainTimeoutPosted => b.drainTimeoutPosted = a.drainTimeoutPosted
  | .slotShard => b.shard = a.shard
  | .slotGroups => b.groups = a.groups
  | .slotCtxs => b.ctxs = a.ctxs
  | .slotCadHeld => b.cadHeld = a.cadHeld
  | .slotCadRec => b.cadRec = a.cadRec
  | .slotStep => b.step = a.step
  | .slotTan => b.tan = a.tan
  | .slotBuckets => b.buckets = a.buckets
  | .slotServable => b.servable = a.servable
  | .slotFetch => b.fetch = a.fetch
  | .slotDeliv => b.deliv = a.deliv
  | .slotFlags => b.flags = a.flags
  | .slotLog => b.log = a.log
  | .slotLogNext => b.logNext = a.logNext
  | .slotLogRing => b.logRing = a.logRing
  | .slotLogOverflow => b.logOverflow = a.logOverflow
  | .slotMemLate => b.memLate = a.memLate
  | .slotSums => b.sums = a.sums
  | .slotWatch => b.watch = a.watch
  | .slotFault => b.fault = a.fault
  | .slotPools => b.pools = a.pools
  | .slotWinTx => b.winTx = a.winTx
  | .slotWinRx => b.winRx = a.winRx
  | .slotHealth => b.health = a.health
  | .slotProgs => b.progs = a.progs
  | .slotRunning => b.running = a.running
  | .slotResident => b.resident = a.resident
  | .slotTokens => b.tokens = a.tokens
  | .slotBench => b.bench = a.bench

/-! ### What each command may change -/

/-- What a reset may change: every piece but the free values drawn (R480, R508). -/
def resetPieces : List Piece :=
  [.time, .out, .host, .mbx, .ownOrder, .evt, .trc, .fab, .ports, .lanes, .spokes, .timeRec, .hbm, .pwr, .sec,
   .incidents, .droppedReports, .holder, .benchLast, .slotSt, .slotGen, .slotStaleGen, .slotOb, .slotMeas,
   .slotDrainStart, .slotDrainTimeoutPosted, .slotShard, .slotGroups, .slotCtxs, .slotCadHeld, .slotCadRec, .slotStep,
   .slotTan, .slotBuckets, .slotServable, .slotFetch, .slotDeliv, .slotFlags, .slotLog, .slotLogNext, .slotLogRing,
   .slotLogOverflow, .slotMemLate, .slotSums, .slotWatch, .slotFault, .slotPools, .slotWinTx, .slotWinRx, .slotHealth,
   .slotProgs, .slotRunning, .slotResident, .slotTokens, .slotBench]

/-- The pieces of a slot that JOB_OPEN and the end of a drain set anew (R34, R35). -/
def slotPieces : List Piece :=
  [.slotSt, .slotStaleGen, .slotOb, .slotMeas, .slotDrainStart, .slotDrainTimeoutPosted, .slotShard, .slotGroups,
   .slotCtxs, .slotCadHeld, .slotCadRec, .slotStep, .slotTan, .slotBuckets, .slotServable, .slotFetch, .slotDeliv,
   .slotFlags, .slotLog, .slotLogNext, .slotLogRing, .slotLogOverflow, .slotMemLate, .slotSums, .slotWatch,
   .slotFault, .slotWinTx, .slotWinRx, .slotHealth, .slotProgs, .slotRunning, .slotResident, .slotTokens, .slotBench]

/-- What an abort, an incident or a broken mirror may change (R250, R270 to R272, R287). -/
def abortPieces : List Piece :=
  [.out, .evt, .fab, .ports, .spokes, .incidents, .droppedReports, .holder, .benchLast, .slotCtxs, .slotCadRec,
   .slotStep, .slotTan, .slotBuckets, .slotServable, .slotFetch, .slotWatch, .slotPools, .slotHealth, .slotTokens,
   .slotBench]

/-- What answering a mailbox command changes (R443). -/
def answerPieces : List Piece :=
  [.out, .mbx, .ownOrder]

/-- Two lists of pieces as one. -/
def pieces (a b : List Piece) : List Piece := a ++ b

/-- What hostRead and 5 commands like it may change. -/
def touchOfHostRead : List Piece :=
  [.out, .host, .mbx, .evt, .trc, .pwr]

/-- What deviceReset and 2 commands like it may change. -/
def touchOfDeviceReset : List Piece :=
  resetPieces

/-- What eventRingEnable and 3 commands like it may change. -/
def touchOfEventRingEnable : List Piece :=
  [.out, .host, .evt]

/-- What deviceInfoIdentity and 3 commands like it may change. -/
def touchOfDeviceInfoIdentity : List Piece :=
  answerPieces

/-- What jigAdd and 67 commands like it may change. -/
def touchOfJigAdd : List Piece :=
  pieces [.time, .trc, .hbm, .slotStaleGen, .slotShard, .slotDeliv, .slotFault] abortPieces

/-- What sepFadd and 53 commands like it may change. -/
def touchOfSepFadd : List Piece :=
  pieces [.time, .trc, .hbm, .slotStaleGen, .slotShard, .slotDeliv, .slotFlags, .slotFault] abortPieces

/-- What fusedCollectiveLaunch and 8 commands like it may change. -/
def touchOfFusedCollectiveLaunch : List Piece :=
  pieces [.time, .trc, .hbm, .slotStaleGen, .slotShard, .slotGroups, .slotDeliv, .slotFlags, .slotSums, .slotFault]
   abortPieces

/-- What cadenceUp and 2 commands like it may change. -/
def touchOfCadenceUp : List Piece :=
  pieces [.slotCadHeld, .slotFlags, .slotSums] abortPieces

/-- What cadenceDeadline and 5 commands like it may change. -/
def touchOfCadenceDeadline : List Piece :=
  pieces [.time] abortPieces

/-- What gather and 4 commands like it may change. -/
def touchOfGather : List Piece :=
  pieces [.trc, .slotStaleGen, .slotDeliv, .slotWinRx] abortPieces

/-- What statePending and 7 commands like it may change. -/
def touchOfStatePending : List Piece :=
  pieces [.trc, .hbm, .slotStaleGen, .slotShard, .slotDeliv, .slotWinRx] abortPieces

/-- What restoreReq and 4 commands like it may change. -/
def touchOfRestoreReq : List Piece :=
  pieces [.trc, .slotStaleGen, .slotDeliv] abortPieces

/-- What stepSeal and 2 commands like it may change. -/
def touchOfStepSeal : List Piece :=
  pieces [.hbm, .slotShard, .slotProgs] abortPieces

/-- What scoreDecay and 2 commands like it may change. -/
def touchOfScoreDecay : List Piece :=
  [.time, .slotHealth]

/-- What inputDropout and 6 commands like it may change. -/
def touchOfInputDropout : List Piece :=
  [.pwr]

/-- The pieces of the state that each command may change; it changes no other. -/
def mayChange : Instr → List Piece
  | .hostRead _ | .htlErrRead _ | .inputPeakRead _ | .mbxDiscardedRead _ | .eventLostRead _ | .traceLostRead _ =>
    touchOfHostRead
  | .registerWrite _ => pieces [.host, .evt, .trc] answerPieces
  | .apertureRead _ => [.out, .freeCount, .host]
  | .apertureWrite _ => [.out, .host, .hbm, .slotShard, .slotTan]
  | .apertureAdd _ => [.out, .host, .slotShard]
  | .deviceReset _ | .sidebandAccess _ | .pinReset => touchOfDeviceReset
  | .bootGo _ | .traceWindowRead _ => [.out, .host]
  | .eventRingEnable _ | .eventRingTailWrite _ | .ucieModuleDown _ | .ucieModuleUp _ => touchOfEventRingEnable
  | .lgaspClear _ => [.out, .host, .trc]
  | .htlCompletion _ => [.out, .evt]
  | .eventHoldoffExpiry => [.time, .out, .evt]
  | .deviceInfoIdentity | .healthRead _ | .powerPolicyRead | .badCommand => touchOfDeviceInfoIdentity
  | .deviceInfoChannels _ => pieces [.freeCount, .hbm] answerPieces
  | .jobOpen _ => pieces [.ports, .slotGen] (pieces slotPieces answerPieces)
  | .jobClose => pieces [.mbx, .ownOrder, .slotSt, .slotDrainStart, .slotDrainTimeoutPosted, .slotCadHeld] abortPieces
  | .shardPlace _ => pieces [.hbm, .slotShard, .slotTan] answerPieces
  | .tandemBind | .tandemUnbind =>
    pieces [.evt, .ports, .hbm, .holder, .benchLast, .slotShard, .slotTan, .slotPools, .slotBench] answerPieces
  | .spareAdmit => pieces [.evt, .ports, .slotTan] answerPieces
  | .groupDefine _ | .groupRegen _ => pieces [.slotGroups] answerPieces
  | .programLoad _ => pieces [.slotMeas, .slotProgs, .slotResident] answerPieces
  | .programSelect => pieces [.slotProgs] answerPieces
  | .stepArm _ =>
    pieces [.mbx, .ownOrder, .trc, .hbm, .pwr, .slotStaleGen, .slotShard, .slotGroups, .slotCadHeld, .slotDeliv,
     .slotFlags, .slotSums, .slotProgs, .slotRunning] abortPieces
  | .stepStatus _ | .stepStatusClearFlags _ => pieces [.slotFlags, .slotLog] answerPieces
  | .rollback => pieces [.mbx, .ownOrder] abortPieces
  | .rollbackResolveGlued => pieces [.evt, .ports, .hbm, .slotShard, .slotStep, .slotTan, .slotProgs] answerPieces
  | .rollbackResolveAborted =>
    pieces [.evt, .fab, .ports, .incidents, .droppedReports, .holder, .benchLast, .slotCtxs, .slotCadRec, .slotStep,
     .slotTan, .slotBuckets, .slotServable, .slotFetch, .slotWatch, .slotPools, .slotHealth, .slotTokens,
     .slotBench] answerPieces
  | .brakeSet => pieces [.evt, .slotHealth] answerPieces
  | .rehearsalSet => pieces [.slotHealth] answerPieces
  | .traceSet _ => pieces [.trc] answerPieces
  | .linkConfigDevice _ => pieces [.time, .host, .fab, .timeRec] answerPieces
  | .linkConfigPort _ | .linkConfigLane _ => pieces [.mbx, .ownOrder, .lanes, .slotWinTx, .slotWinRx] abortPieces
  | .linkConfigRead _ => pieces [.freeCount, .lanes, .spokes] answerPieces
  | .linkConfigClear _ => pieces [.freeCount, .fab, .ports, .lanes, .spokes, .timeRec] answerPieces
  | .powerPolicySet => pieces [.pwr] answerPieces
  | .attest _ | .leafCommitDone _ _ => pieces [.sec] answerPieces
  | .heldCommandResume _ _ => pieces [.mbx, .ownOrder, .sec, .slotGen] (pieces slotPieces abortPieces)
  | .keeperWatchdog | .dieLinkFail _ => pieces [.host, .pwr] abortPieces
  | .takeover => pieces [.host, .evt, .spokes, .pwr, .incidents, .droppedReports, .slotHealth] answerPieces
  | .jigAdd _ | .jigSub _ | .jigAnd _ | .jigOr _ | .jigXor _ | .jigSll _ | .jigSrl _ | .jigSra _ | .jigMul _
  | .jigMulhu _ | .jigSlt _ | .jigSltu _ | .jigMin _ | .jigMax _ | .jigAddi _ | .jigAndi _ | .jigOri _ | .jigXori _
  | .jigSlli _ | .jigSrli _ | .jigSrai _ | .jigLui _ | .jigSlti _ | .jigAset _ | .jigAadd _ | .jigArd _ | .jigSrd _
  | .jigLset _ | .jigLrd _ | .jigBeq _ | .jigBne _ | .jigBlt _ | .jigBge _ | .jigBltu _ | .jigBgeu _ | .jigJmp _
  | .jigLoop _ | .jigLdc _ | .jigRdspr _ | .jigRdcad _ | .jigPace _ | .jigRep _ | .jigPushBench _ | .jigPushBlk _
  | .jigPushMove _ | .jigPushDrain _ | .jigPushEmit _ | .jigPushCadence _ | .jigAwait _ | .jigAwaitY _ | .jigYield _
  | .jigEnd _ | .jigNop _ | .jigIllegalOpcode _ | .sepStore _ | .sepStoreD _ | .sepShsel _ | .sepEclr _ | .sepWset _
  | .sepBarrierStep _ | .moveIn _ | .moveOut _ | .drain _ | .emitState _ | .emitServe _ | .chunkServable _
  | .turnOverrun _ | .drainRead _ => touchOfJigAdd
  | .jigArm _ =>
    pieces [.time, .trc, .hbm, .slotStaleGen, .slotShard, .slotDeliv, .slotFlags, .slotSums, .slotFault] abortPieces
  | .sepFadd _ | .sepFsub _ | .sepFmul _ | .sepFfma _ | .sepFfnma _ | .sepFmin _ | .sepFmax _ | .sepFabs _
  | .sepFneg _ | .sepFsign _ | .sepFcmp _ | .sepSel _ | .sepMov _ | .sepPlog _ | .sepIadd _ | .sepIsub _ | .sepAnd _
  | .sepOr _ | .sepXor _ | .sepShl _ | .sepShr _ | .sepSar _ | .sepBcastI _ | .sepCvtTo _ | .sepCvtFrom _
  | .sepCvtF2i _ | .sepCvtI2f _ | .sepDadd _ | .sepDsub _ | .sepDmul _ | .sepDfma _ | .sepDmin _ | .sepDmax _
  | .sepDcmp _ | .sepCvtS2d _ | .sepCvtD2s _ | .sepFdiv _ | .sepFsqrt _ | .sepDdiv _ | .sepDsqrt _ | .sepRcpS _
  | .sepRcpN _ | .sepRsqS _ | .sepRsqN _ | .sepLoad _ | .sepLoadD _ | .sepMaxexp _ | .sepMaxexpAll _ | .sepSum _
  | .sepSumAll _ | .sepNorm _ | .sepNormAll _ | .sepDot _ | .sepDotAll _ => touchOfSepFadd
  | .sepShchk _ => pieces [.time, .freeCount, .trc, .hbm, .slotStaleGen, .slotShard, .slotDeliv, .slotFault] abortPieces
  | .fusedCollectiveLaunch _ | .cadBarrier _ | .maxI64 _ | .minI64 _ | .sumI64 _ | .andU64 _ | .orU64 _
  | .cadMaxexp _ | .sumF32 _ => touchOfFusedCollectiveLaunch
  | .moveInDone _ _ _ | .moveOutDone _ _ _ =>
    pieces [.time, .freeCount, .trc, .hbm, .slotStaleGen, .slotShard, .slotDeliv, .slotMemLate, .slotFault]
     abortPieces
  | .cadenceUp _ | .cadenceDown _ | .cadenceFail _ => touchOfCadenceUp
  | .cadenceDeadline _ | .bucketDeadline _ _ | .gatherDeadline _ | .stepDeadline _ | .rootDeadline _
  | .rehearsalInject _ => touchOfCadenceDeadline
  | .cadenceHeldExpiry _ => [.time, .slotCadHeld, .slotCadRec]
  | .segmentBegin _ =>
    pieces [.time, .trc, .hbm, .slotStaleGen, .slotShard, .slotDeliv, .slotFault, .slotResident] abortPieces
  | .contribute _ | .windowProposal _ =>
    pieces [.trc, .slotStaleGen, .slotDeliv, .slotFlags, .slotSums, .slotWinRx] abortPieces
  | .accumulate _ => pieces [.trc, .slotStaleGen, .slotDeliv, .slotFlags, .slotWinRx] abortPieces
  | .placementComplete _ _ _ => [.slotBuckets]
  | .partialSend _ _ _ =>
    [.out, .evt, .fab, .ports, .incidents, .droppedReports, .slotShard, .slotStep, .slotBuckets, .slotPools,
     .slotHealth, .slotTokens]
  | .partialResend _ _ _ =>
    [.time, .out, .evt, .fab, .ports, .incidents, .droppedReports, .slotBuckets, .slotPools, .slotHealth]
  | .chunkRound _ _ _ =>
    [.out, .evt, .fab, .ports, .incidents, .droppedReports, .slotStep, .slotBuckets, .slotFlags, .slotLog,
     .slotLogNext, .slotLogRing, .slotLogOverflow, .slotWatch, .slotPools, .slotHealth, .slotTokens]
  | .gather _ | .deviceGather _ | .deliver _ | .stepDone _ | .corruptFrame _ => touchOfGather
  | .gatherResend _ =>
    [.time, .out, .evt, .fab, .ports, .incidents, .droppedReports, .slotFetch, .slotDeliv, .slotPools, .slotHealth]
  | .castComplete _ =>
    [.out, .evt, .fab, .ports, .incidents, .droppedReports, .slotFetch, .slotDeliv, .slotFlags, .slotWatch,
     .slotPools, .slotHealth]
  | .statePending _ | .stateEmem _ | .stateShip _ | .stateRestore _ | .stateResync _ | .stateResyncEmem _
  | .partnerReport _ | .segmentReport _ => touchOfStatePending
  | .partnerReportSend _ => [.out, .evt, .fab, .ports, .incidents, .droppedReports, .slotStep, .slotPools, .slotHealth]
  | .restoreReq _ | .resyncReq _ | .restoreRefuse _ | .creditInit _ | .jobAnnounce _ => touchOfRestoreReq
  | .restoreRowSend _ | .resyncRowSend _ =>
    [.out, .evt, .fab, .ports, .incidents, .droppedReports, .slotTan, .slotPools, .slotHealth]
  | .stepSeal _ | .readySeq _ | .leaveSeq _ => touchOfStepSeal
  | .glueSeq _ =>
    [.out, .evt, .ports, .spokes, .hbm, .incidents, .droppedReports, .slotShard, .slotStep, .slotTan, .slotHealth,
     .slotProgs]
  | .abortSeq _ => abortPieces
  | .rollbackCleared _ => [.slotStep]
  | .slotDrainDone _ => pieces [.out, .evt, .hbm, .incidents] slotPieces
  | .slotDrainTimeout _ => [.time, .out, .evt, .slotDrainTimeoutPosted]
  | .incidentClose => [.time, .out, .evt, .spokes, .incidents, .slotHealth]
  | .incidentSeq _ => [.out, .evt, .spokes, .incidents, .droppedReports, .slotHealth]
  | .incidentRetransmit _ => [.time, .out, .spokes]
  | .linkctlAck _ => [.spokes]
  | .scoreDecay _ | .accuseWindow _ | .rehearsalSkip _ => touchOfScoreDecay
  | .brakeWindow _ => [.time, .out, .evt, .slotHealth]
  | .linkDropEnd _ _ | .kAdapt _ => [.time, .ports]
  | .frameSend _ => [.out, .trc, .ports, .slotWinTx]
  | .creditSend _ => [.ports, .slotWinRx]
  | .credit _ | .jobWithdraw _ => pieces [.trc, .slotStaleGen, .slotDeliv, .slotWinTx] abortPieces
  | .nack _ | .hello _ => pieces [.trc, .slotStaleGen, .slotDeliv, .slotWinTx, .slotWinRx] abortPieces
  | .replayTimeout _ => pieces [.time, .slotWinTx, .slotWinRx] abortPieces
  | .linkFrameReplay _ => [.time, .out, .trc, .ports]
  | .bareCredit _ => [.out, .trc, .ports]
  | .portDown _ => pieces [.slotWinTx, .slotWinRx] abortPieces
  | .poolWaitRetry =>
    [.out, .evt, .fab, .ports, .incidents, .droppedReports, .slotShard, .slotStep, .slotTan, .slotBuckets,
     .slotFetch, .slotDeliv, .slotPools, .slotHealth, .slotTokens]
  | .bufferRelease _ _ | .bufferUnlink _ _ => [.out, .evt, .fab, .incidents, .droppedReports, .slotPools, .slotHealth]
  | .sliceMapout _ => pieces [.host, .slotWinTx, .slotWinRx] abortPieces
  | .trainingFrame _ _ _ => [.out, .freeCount, .lanes]
  | .trainingComplete _ | .codewordLock _ _ _ => [.lanes]
  | .trainingTimeout _ => [.time, .out, .evt, .ports, .lanes]
  | .portDeskewed _ | .eiCodewordsReceived _ => [.ports, .lanes]
  | .laneFault _ | .exitBurstReceived _ _ => pieces [.lanes, .slotWinTx, .slotWinRx] abortPieces
  | .idleEntry _ => [.time, .out, .ports]
  | .idleExit _ => [.out, .ports]
  | .spokeAlign _ | .timeReq _ => [.out, .spokes]
  | .spokeHello _ | .spokeLinkDown _ => pieces [.timeRec] abortPieces
  | .timeExchange => [.time, .out, .spokes, .timeRec]
  | .timeResp _ _ => [.time, .out, .evt, .spokes, .timeRec]
  | .hbmUncorrectable _ _ => pieces [.freeCount, .trc, .hbm, .slotLog, .slotLogOverflow, .slotProgs] abortPieces
  | .channelMapout _ _ => pieces [.host, .hbm, .pwr, .slotShard] abortPieces
  | .patrolScrub _ _ _ => [.hbm]
  | .inputDropout | .surgeOpen | .domainSleep _ | .domainWake _ | .domainAwake _ | .ref156Return | .readyEntry =>
    touchOfInputDropout
  | .inputRecover | .surgeClose => [.out, .evt, .pwr]
  | .lastGasp _ => pieces [.time, .freeCount, .pwr] abortPieces
  | .lastGaspComplete | .powerOn =>
    pieces [.time, .host, .mbx, .ownOrder, .evt, .trc, .fab, .ports, .lanes, .spokes, .timeRec, .hbm, .pwr, .sec,
     .incidents, .droppedReports, .holder, .benchLast, .slotGen, .slotPools] slotPieces
  | .governorInterval _ _ | .leverLift => [.time, .out, .evt, .pwr, .slotBench]
  | .domainFault _ => [.time, .out, .host, .evt, .spokes, .pwr, .incidents, .droppedReports, .slotHealth]
  | .droopTrip _ | .droopRecover _ => [.pwr, .slotBench]
  | .voltageStep _ => [.time, .freeCount, .pwr]
  | .ref25Loss => [.out, .host, .evt, .spokes, .pwr, .incidents, .droppedReports, .slotHealth]
  | .ref156Loss => pieces [.lanes, .pwr, .slotWinTx, .slotWinRx] abortPieces
  | .thermalSample _ _ _ _ => pieces [.time, .host, .lanes, .pwr, .slotWinTx, .slotWinRx] abortPieces
  | .startupPhaseDone => pieces [.time, .host, .trc, .lanes, .timeRec, .pwr, .sec, .slotWinTx, .slotWinRx] abortPieces
  | .bootVerify _ => [.host, .pwr, .sec]
  | .fuseRequest => [.sec]
  | .leafCommit => [.out, .sec]
  | .mgmtRead _ => [.out]
  | .jtagAccess _ => [.out, .freeCount]
  | .flashResponseTimeout => pieces [.time, .sec] answerPieces
  | .memMapout _ => [.out, .host, .evt, .ports, .hbm, .slotTan]
  | .signalDetected _ => [.out, .lanes]

/-! ### End of what each command may change -/

/-! ### The jig core (05, 06) -/

/-- The jig context of slot i. -/
def jigOf (s : State) (i : Nat) : Jig := (getSlot s i).bench.jig

/-- The bench of slot i. -/
def benchOf (s : State) (i : Nat) : Bench := (getSlot s i).bench

/-- Slot i's jig stands before the instruction word w: the slot holds the bench and runs, nothing of it is queued or in flight, and
its turn has not run out. -/
def JigAt (s : State) (i : Nat) (w : W64) : Prop :=
  s.holder = some i ∧ (benchOf s i).run = .running ∧ (benchOf s i).flight = [] ∧ (benchOf s i).queue = []
    ∧ (benchOf s i).clock ≤ (benchOf s i).turnStart + 2 ^ 24 ∧ jigWord (getSlot s i) = some w

/-- An instruction word of the slot's program begins at a PC (R164, R456). -/
def InstrAt (s : State) (i pc : Nat) : Prop := (fetchWord (getSlot s i) pc 1).isSome = true

/-- From s to t slot i's jig executes one instruction, goes to a PC and takes n cycles. Of everything else only device time moves,
up to the cycle at which the instruction executes. -/
def JigGoesOn (s t : State) (i pc n : Nat) : Prop :=
  { t with time := s.time, slots := s.slots } = s
    ∧ (∀ k, k ≠ i → getSlot t k = getSlot s k)
    ∧ getSlot t i = { getSlot s i with bench := { benchOf s i with jig := jigOf t i, clock := (benchOf s i).clock + n } }
    ∧ (jigOf t i).pc = pc
    ∧ t.time = timeMask (max s.time (cycleTime s (benchOf s i) (benchOf s i).clock))

/-- From s to t slot i's jig executes an instruction that writes v to G[rd] and nothing else: G0 discards the write (R157). -/
def JigWritesG (s t : State) (i rd : Nat) (v : W64) (n : Nat) : Prop :=
  JigGoesOn s t i ((jigOf s i).pc + 1) n
    ∧ (∀ r, r < 32 → jG (jigOf t i) r = if r = rd ∧ r ≠ 0 then v else jG (jigOf s i) r)
    ∧ jigOf t i = { jigOf s i with g := (jigOf t i).g, pc := (jigOf s i).pc + 1 }

/-- A register instruction of format R: its opcode, its command, its result, its cycles (R163). -/
structure RegRow where
  op : Nat
  cmd : SlotId → Instr
  f : W64 → W64 → W64
  cycles : Nat

/-- The register instructions of format R (R163). -/
def regRows : List RegRow :=
  [⟨0x01, .jigAdd, fun a b => a + b, 1⟩, ⟨0x02, .jigSub, fun a b => a - b, 1⟩, ⟨0x03, .jigAnd, fun a b => a &&& b, 1⟩,
   ⟨0x04, .jigOr, fun a b => a ||| b, 1⟩, ⟨0x05, .jigXor, fun a b => a ^^^ b, 1⟩,
   ⟨0x06, .jigSll, fun a b => a <<< (b.toNat % 64), 1⟩, ⟨0x07, .jigSrl, fun a b => a >>> (b.toNat % 64), 1⟩,
   ⟨0x08, .jigSra, fun a b => BitVec.ofInt 64 (a.toInt / 2 ^ (b.toNat % 64)), 1⟩,
   ⟨0x09, .jigMul, fun a b => BitVec.ofNat 64 (a.toNat * b.toNat), 4⟩,
   ⟨0x0A, .jigMulhu, fun a b => BitVec.ofNat 64 (a.toNat * b.toNat / 2 ^ 64), 4⟩,
   ⟨0x0B, .jigSlt, fun a b => if a.toInt < b.toInt then 1 else 0, 1⟩,
   ⟨0x0C, .jigSltu, fun a b => if a.toNat < b.toNat then 1 else 0, 1⟩,
   ⟨0x0D, .jigMin, fun a b => BitVec.ofInt 64 (min a.toInt b.toInt), 1⟩,
   ⟨0x0E, .jigMax, fun a b => BitVec.ofInt 64 (max a.toInt b.toInt), 1⟩]

/-- An instruction with an immediate: its opcode, its command, the bits it uses, the immediates it takes, and its result from G[ra]
and IMM (R163). -/
structure ImmRow where
  op : Nat
  cmd : SlotId → Instr
  used : W64
  takes : BitVec 32 → Bool
  f : W64 → BitVec 32 → W64

/-- The instructions with an immediate (R163): ADDI and SLTI extend its sign, ANDI, ORI and XORI extend it with zeros. -/
def immRows : List ImmRow :=
  [⟨0x10, .jigAddi, useI, fun _ => true, fun a m => a + m.signExtend 64⟩,
   ⟨0x11, .jigAndi, useI, fun _ => true, fun a m => a &&& m.setWidth 64⟩,
   ⟨0x12, .jigOri, useI, fun _ => true, fun a m => a ||| m.setWidth 64⟩,
   ⟨0x13, .jigXori, useI, fun _ => true, fun a m => a ^^^ m.setWidth 64⟩,
   ⟨0x14, .jigSlli, useI, fun m => m.toNat < 64, fun a m => a <<< m.toNat⟩,
   ⟨0x15, .jigSrli, useI, fun m => m.toNat < 64, fun a m => a >>> m.toNat⟩,
   ⟨0x16, .jigSrai, useI, fun m => m.toNat < 64, fun a m => BitVec.ofInt 64 (a.toInt / 2 ^ m.toNat)⟩,
   ⟨0x17, .jigLui, useRdImm, fun _ => true, fun _ m => BitVec.ofNat 64 (m.toNat * 2 ^ 32)⟩,
   ⟨0x18, .jigSlti, useI, fun _ => true, fun a m => if a.toInt < m.toInt then 1 else 0⟩]

/-- IMM of an instruction word (R162). -/
def immOf (w : W64) : BitVec 32 := w.extractLsb' 32 32

/-- A conditional branch: its opcode, its command, its condition on G[ra] and G[rb] (R163). -/
structure BranchRow where
  op : Nat
  cmd : SlotId → Instr
  cond : W64 → W64 → Bool

/-- The conditional branches (R163). -/
def branchRows : List BranchRow :=
  [⟨0x28, .jigBeq, fun a b => a.toNat = b.toNat⟩, ⟨0x29, .jigBne, fun a b => a.toNat ≠ b.toNat⟩,
   ⟨0x2A, .jigBlt, fun a b => a.toInt < b.toInt⟩, ⟨0x2B, .jigBge, fun a b => b.toInt ≤ a.toInt⟩,
   ⟨0x2C, .jigBltu, fun a b => a.toNat < b.toNat⟩, ⟨0x2D, .jigBgeu, fun a b => b.toNat ≤ a.toNat⟩]

/-- An instruction that reads a value into G[rd]: its opcode, its command, the bits it uses, the value, if it has one, and its
cycles (R163, R166). -/
structure ReadRow where
  op : Nat
  cmd : SlotId → Instr
  used : W64
  val : State → Nat → W64 → Option W64
  cycles : Nat

/-- The constants of the slot's program (R166). -/
def constsOf (s : State) (i : Nat) : List W64 := ((progVer (getSlot s i)).map (fun v => v.consts)).getD []

/-- The index that LDC and RDCAD form: G[ra] + IMM (R166). -/
def poolIndex (s : State) (i : Nat) (w : W64) : Nat := (jG (jigOf s i) (jRA w) + (immOf w).signExtend 64).toNat

/-- A special value by its number (R159). -/
def specialOf (s : State) (i : Nat) (w : W64) : Option W64 :=
  if (immOf w).toNat = 2 then some (BitVec.ofNat 64 i) else special s (getSlot s i) (immOf w).toNat

/-- The instructions that read into G[rd] (R159, R163, R166). -/
def readRows : List ReadRow :=
  [⟨0x22, .jigArd, 0x0000000007801FFF#64, fun s i w => some (jA (jigOf s i) (jAN w)), 1⟩,
   ⟨0x23, .jigSrd, 0x0000000007801FFF#64, fun s i w => some (jS (jigOf s i) (jAN w)), 1⟩,
   ⟨0x25, .jigLrd, 0x0000000007801FFF#64,
     fun s i w => if jAN w < 4 then some ((jL (jigOf s i) (jAN w)).setWidth 64) else none, 1⟩,
   ⟨0x30, .jigLdc, useI, fun s i w => (constsOf s i)[poolIndex s i w]?, 2⟩,
   ⟨0x31, .jigRdspr, useRdImm, specialOf, 1⟩,
   ⟨0x32, .jigRdcad, useI, fun s i w => if poolIndex s i w < 256 then tget? (jigOf s i).results (poolIndex s i w) else none, 2⟩]

/-- From s to t slot i's segment ends at an instruction (R145, R146, R175): of the jig's context only the PC goes on, one word; no
other slot changes; but for the slot, device time and the bench's holder nothing does. -/
def SegmentEnds (s t : State) (i : Nat) : Prop :=
  { t with time := s.time, slots := s.slots, holder := s.holder, benchLast := s.benchLast } = s
    ∧ (∀ k, k ≠ i → getSlot t k = getSlot s k)
    ∧ jigOf t i = { jigOf s i with pc := (jigOf s i).pc + 1 }
    ∧ (benchOf t i).clock = max (benchOf s i).clock (benchOf s i).flightEnd

/-- At a yield point (R146, R148): registers, predicates and rows are UNWRITTEN, the turn's cycles are debited, and the slot keeps
the bench or lets it go. -/
def YieldPoint (s t : State) (i : Nat) : Prop :=
  (benchOf t i).v = [] ∧ (benchOf t i).p = [] ∧ (benchOf t i).srows = []
    ∧ (benchOf t i).account = (benchOf s i).account - (((benchOf t i).clock - (benchOf s i).turnStart : Nat) : Int)
    ∧ (t.holder = some i ∨ (t.holder = none ∧ t.benchLast = i))

/-- A push instruction: its opcode, its command, its queue, its words, its cycles, whether AYE is set, and what it asks for (R169,
R171, R177). -/
structure PushRow where
  op : Nat
  cmd : SlotId → Instr
  q : QId
  words : Nat
  cycles : Nat
  aye : W64 → Bool
  asks : Slot → W64 → W64 → PushEnd

/-- The push instructions (R163, R169). -/
def pushRows : List PushRow :=
  [⟨0x41, .jigPushBench, .bench, 2, 1, pBenchAye, benchAsks⟩, ⟨0x42, .jigPushBlk, .bench, 2, 2, pBenchAye, blkAsks⟩,
   ⟨0x43, .jigPushMove, .move, 1, 1, pAye, moveAsks⟩, ⟨0x44, .jigPushDrain, .drain, 1, 1, pDrainAye, drainAsks⟩,
   ⟨0x45, .jigPushEmit, .emit, 1, 1, pAye, emitAsks⟩, ⟨0x46, .jigPushCadence, .cadence, 2, 1, fun _ => false, cadenceAsks⟩]

/-- The issues that a push makes of what it asks for (R171): its target cycles count from the segment base. -/
def issuesOf (s : State) (i : Nat) (q : QId) (as : List Ask) : List Issue :=
  as.map (fun a => ⟨q, (benchOf s i).base + a.off, (benchOf s i).entries, (jigOf s i).pc, a.block, a.rep, a.op⟩)

/-- From s to t slot i's jig makes a push of issues xs (R166, R168, R171, R202): they are queued, their tags are busy without a
result, REP is used up, and with INC the address registers advance. Nothing else of the slot's registers changes. -/
def PushMade (s t : State) (i : Nat) (w : W64) (xs : List Issue) (aye : Bool) (words cycles : Nat) : Prop :=
  let n := BitVec.ofNat 64 (repOf (jigOf s i)).1
  { t with time := s.time, slots := s.slots } = s
    ∧ (∀ k, k ≠ i → getSlot t k = getSlot s k)
    ∧ getSlot t i = { getSlot s i with bench := benchOf t i }
    ∧ (benchOf t i).queue = xs ∧ (benchOf t i).flight = [] ∧ (benchOf t i).clock = (benchOf s i).clock + cycles
    ∧ (benchOf t i).v = (benchOf s i).v ∧ (benchOf t i).p = (benchOf s i).p ∧ (benchOf t i).srows = (benchOf s i).srows
    ∧ (benchOf t i).e = (benchOf s i).e ∧ (benchOf t i).w = (benchOf s i).w
    ∧ (jigOf t i).pc = (jigOf s i).pc + words ∧ (jigOf t i).rep = none
    ∧ (jigOf t i).g = (jigOf s i).g ∧ (jigOf t i).s = (jigOf s i).s ∧ (jigOf t i).l = (jigOf s i).l
    ∧ (∀ k, k < 16 → jA (jigOf t i) k
        = if pINC w = true ∧ (k = pAX w ∨ (aye = true ∧ k = pAY w)) then jA (jigOf s i) k + n * jS (jigOf s i) k else jA (jigOf s i) k)
    ∧ (∀ x ∈ xs, ∀ tag, issueTag x.op = some tag → tag ∈ (jigOf t i).busy ∧ tget? (jigOf t i).results tag = none)

/-! ### Headers and frames (12, 14) -/

/-- Every field of a header fits its bits (R353). -/
def HdrFits (h : Hdr) : Prop :=
  h.typ < 2 ^ 4 ∧ h.cls < 2 ^ 3 ∧ h.ver < 2 ^ 4 ∧ h.rsvd0 < 2 ^ 4 ∧ h.len < 2 ^ 16 ∧ h.seq < 2 ^ 32 ∧ h.src < 2 ^ 32
    ∧ h.dst < 2 ^ 32 ∧ h.job < 2 ^ 16 ∧ h.gen < 2 ^ 16 ∧ h.group < 2 ^ 14 ∧ h.rsvd1 < 2 ^ 2 ∧ h.bucket < 2 ^ 16
    ∧ h.chunk < 2 ^ 16 ∧ h.format < 2 ^ 4 ∧ h.mode < 2 ^ 3 ∧ h.rsvd2 < 2 ∧ h.window < 2 ^ 16 ∧ h.attempt < 2 ^ 8
    ∧ h.tag < 2 ^ 16 ∧ h.step < 2 ^ 64 ∧ h.ts < 2 ^ 128 ∧ h.lack < 2 ^ 32

/-- Frame f of a tile lies wholly in the tile's live channels: each holds 2^22 pieces of 512 bytes (R411, R415). -/
def FrameInReach (s : State) (tile f : Nat) : Prop := 8 * f + 8 ≤ (liveChannels s tile).length * 2 ^ 22

/-- What the device keeps whatever it is told: the canonical form of HBM's list. -/
def Inv (s : State) : Prop := Memory.wf s.hbm.mem = true

/-- What fuses have blown stays blown: MIN_SVN never falls and no key comes back (R489, R493). -/
def FusesKept (s t : State) : Prop := s.sec.minSvn ≤ t.sec.minSvn ∧ ∀ k : Nat, s.sec.revoked.getLsbD k = true → t.sec.revoked.getLsbD k = true

/-! ### Aborts and faults (05, 10) -/

/-- From s to t slot i's DRY_FIT step aborts with a cause from an origin (R156, R270, R272): the transaction record, the bench, the
buckets and what the step had pending. -/
def StepAborted (s t : State) (i cause origin : Nat) : Prop :=
  let sl := getSlot s i
  let b := sl.bench
  (getSlot t i).step = { attemptReset sl.step with
      st := .rollingBack, attempt := (sl.step.attempt + 1) % 256, abortCause := cause, abortOrigin := origin
      rollbacks := inc32 sl.step.rollbacks }
    ∧ (getSlot t i).tokens = [] ∧ (getSlot t i).servable = [] ∧ (getSlot t i).ctxs = [] ∧ (getSlot t i).tan.pending = []
    ∧ (∀ e ∈ (getSlot t i).buckets, e.2.abandoned = true)
    ∧ (b.pass = false → (getSlot t i).bench = { benchInit with
        clock := b.clock, account := b.account - ((b.clock - b.turnStart : Nat) : Int) }
      ∧ t.holder ≠ some i)

/-- From s to t slot i has a SCHEDULE_FAULT of a cause at a schedule cycle (R142, R178): its record, and the abort of its step. -/
def FaultTaken (s t : State) (i : Nat) (x : FaultInfo) : Prop :=
  (getSlot t i).fault = faultRecord (getSlot s i) x
    ∧ ((getSlot s i).step.st = .dryFit → (getSlot s i).bench.pass = false → StepAborted s t i 1 (selfId s))

/-- The fault of an instruction of the jig at its clock (R177). -/
def jigFaultInfo (s : State) (i cause detail : Nat) : FaultInfo :=
  ⟨cause, 5, none, none, (benchOf s i).clock, 0, 0, (jigOf s i).pc, detail⟩

/-! ### Septone commands as they issue (05, 07) -/

/-- Slot i's next event is issue x of the Septone command w, row p of R184, with a scalar or none; and the audit passes it. -/
def SepAt (s : State) (i : Nat) (x : Issue) (w : W64) (scalar : Option W64) (p : Sep) : Prop :=
  nextIssue s i = some x ∧ x.op = .bench w scalar ∧ sepOf w = some p
    ∧ audit (benchOf s i) x.cycle (sepReads p w scalar.isSome) (sepWrites p w) = none

/-- From s to u slot i's issue x has left its queue for a class's latency (R135, R136): device time has come to its cycle, and of
the device nothing else changes but what the command changes in its slot's registers, accumulators, effects in flight, flags and
watch counts, and the numeric-watch events that it posts. -/
def SepRan (s u : State) (i : Nat) (x : Issue) (lat : Nat) : Prop :=
  { u with time := s.time, slots := s.slots, evt := s.evt, out := s.out, freeCount := s.freeCount } = s
    ∧ u.time = timeMask (max s.time (cycleTime s (benchOf s i) x.cycle))
    ∧ (∀ k, k ≠ i → getSlot u k = getSlot s k)
    ∧ getSlot u i = { getSlot s i with bench := benchOf u i, flags := (getSlot u i).flags, watch := (getSlot u i).watch }
    ∧ benchOf u i = { takeIssue (benchOf s i) x with
        v := (benchOf u i).v, p := (benchOf u i).p, srows := (benchOf u i).srows, e := (benchOf u i).e, w := (benchOf u i).w
        flight := (benchOf u i).flight, flightEnd := (benchOf u i).flightEnd }
    ∧ (benchOf u i).flightEnd = max (benchOf s i).flightEnd (x.cycle + lat)

/-- What lane k reads where a register field names register n: a word, a pair of words, a predicate's bit (R181, R182). -/
def regLane (b : Bench) (u : Use) (n k : Nat) : Nat :=
  match u with
  | .v => (lget (vData b n) k).toNat
  | .d => (lget (vData b n) k).toNat + (lget (vData b (n + 1)) k).toNat * 2 ^ 32
  | .p => if lget (pData b n) k then 1 else 0
  | .none => 0
  | .e => 0
  | .w => 0

/-- A result as a destination holds it. -/
def fitUse (u : Use) (v : Nat) : Nat :=
  match u with
  | .v => v % 2 ^ 32
  | .d => v % 2 ^ 64
  | .p => if v = 1 then 1 else 0
  | .none => 0
  | .e => 0
  | .w => 0

/-- The operands of lane k: registers, or the scalar in place of B; and whether the guard lets the lane take part (R181, R182). -/
def laneArg (s : State) (i : Nat) (w : W64) (scalar : Option W64) (p : Sep) (k : Nat) : LaneIn where
  a := regLane (benchOf s i) p.a (cA w) k
  b := match scalar with
    | none => regLane (benchOf s i) p.b (cB w) k
    | some v => if p.b == .d then v.toNat else v.toNat % 2 ^ 32
  c := regLane (benchOf s i) p.c (cC w) k
  d := regLane (benchOf s i) p.d (cD w) k
  on := !cGE w || lget (pData (benchOf s i) (cPG w)) k

/-- What the lanes of a command share. -/
def sharedOf (s : State) (i : Nat) (w : W64) : LaneCtx :=
  ⟨(getSlot s i).ob.flush, rmode (cRM w), cRM w, cFmt w, (cImm w).toNat⟩

/-- The registers that a destination field names. -/
def destV (p : Sep) (w : W64) : List Nat :=
  match p.d with
  | .v => [cD w]
  | .d => [cD w, cD w + 1]
  | .p => []
  | .none => []
  | .e => []
  | .w => []

/-- The predicates that a destination field names. -/
def destP (p : Sep) (w : W64) : List Nat := if p.d = .p then [cD w] else []

/-- From s to u a destination is written with r of each lane, where the lane takes part, ready at a cycle; no other register is. -/
def DestWritten (s u : State) (i : Nat) (w : W64) (p : Sep) (ready : Nat) (on : Nat → Bool) (r : Nat → Nat) : Prop :=
  (∀ k, k < 32768 → regLane (benchOf u i) p.d (cD w) k = if on k then fitUse p.d (r k) else regLane (benchOf s i) p.d (cD w) k)
    ∧ (∀ n ∈ destV p w, (tget? (benchOf u i).v n).map (fun x => x.ready) = some ready)
    ∧ (∀ n ∈ destP p w, (tget? (benchOf u i).p n).map (fun x => x.ready) = some ready)
    ∧ (∀ n, n ∉ destV p w → tget? (benchOf u i).v n = tget? (benchOf s i).v n)
    ∧ (∀ n, n ∉ destP p w → tget? (benchOf u i).p n = tget? (benchOf s i).p n)
    ∧ (benchOf u i).srows = (benchOf s i).srows ∧ (benchOf u i).e = (benchOf s i).e ∧ (benchOf u i).w = (benchOf s i).w
    ∧ (benchOf u i).flight = (benchOf s i).flight

/-- A lane vector lists rising places of the 32,768 bench lanes. -/
def LanesOk {α : Type} (l : Lanes α) : Prop := (l.exc.map Prod.fst).Pairwise (· < ·) ∧ ∀ k ∈ l.exc.map Prod.fst, k < 32768

/-- Every register of a bench lists its lanes so. -/
def RegsOk (b : Bench) : Prop := (∀ n, LanesOk (vData b n)) ∧ (∀ n, LanesOk (pData b n))

/-- From s to u the numeric flags of slot i become the old ones and those that the lanes that take part set (R43, R136). -/
def FlagsOfLanes (s u : State) (i : Nat) (on : Nat → Bool) (fl : Nat → NFlags) : Prop :=
  ∀ b, b < 7 → ((getSlot u i).flags.getLsbD b = true ↔
    (getSlot s i).flags.getLsbD b = true ∨ ∃ k, k < 32768 ∧ on k = true ∧ (fl k).getLsbD b = true)

/-- A command whose lanes depend on their own operands alone: its opcode, its command, what a lane computes (R184, R185). -/
structure SepRow where
  op : Nat
  cmd : SlotId → Instr
  f : LaneCtx → LaneIn → Flagged Nat

/-- The integer, predicate and move commands (R184): none sets a flag. -/
def plainRows : List SepRow :=
  [⟨0x0C, .sepSel, fun _ x => (if x.c = 1 then x.a else x.b, 0)⟩, ⟨0x0D, .sepMov, fun _ x => (x.b, 0)⟩,
   ⟨0x0E, .sepPlog, fun c x => (c.tt / 2 ^ (2 * x.a + x.b) % 2, 0)⟩,
   ⟨0x0F, .sepIadd, fun _ x => (x.a + x.b, 0)⟩, ⟨0x10, .sepIsub, fun _ x => (x.a + (2 ^ 32 - x.b), 0)⟩,
   ⟨0x11, .sepAnd, fun _ x => (x.a &&& x.b, 0)⟩, ⟨0x12, .sepOr, fun _ x => (x.a ||| x.b, 0)⟩,
   ⟨0x13, .sepXor, fun _ x => (x.a ^^^ x.b, 0)⟩, ⟨0x14, .sepShl, fun _ x => (x.a * 2 ^ (x.b % 32), 0)⟩,
   ⟨0x15, .sepShr, fun _ x => (x.a / 2 ^ (x.b % 32), 0)⟩,
   ⟨0x16, .sepSar, fun _ x => (ofSigned 32 (toSigned 32 x.a / 2 ^ (x.b % 32)), 0)⟩]

/-- The FP32 commands (R185, R186). -/
def fp32Rows : List SepRow :=
  [⟨0x01, .sepFadd, fun c x => arith2 fmtFp32 c.rm c.flush (addVal c.rm) x.a x.b⟩,
   ⟨0x02, .sepFsub, fun c x => arith2 fmtFp32 c.rm c.flush (subVal c.rm) x.a x.b⟩,
   ⟨0x03, .sepFmul, fun c x => arith2 fmtFp32 c.rm c.flush mulVal x.a x.b⟩,
   ⟨0x04, .sepFfma, fun c x => arithFma fmtFp32 c.rm c.flush false x.a x.b x.c⟩,
   ⟨0x05, .sepFfnma, fun c x => arithFma fmtFp32 c.rm c.flush true x.a x.b x.c⟩,
   ⟨0x06, .sepFmin, fun c x => arith2 fmtFp32 c.rm c.flush minVal x.a x.b⟩,
   ⟨0x07, .sepFmax, fun c x => arith2 fmtFp32 c.rm c.flush maxVal x.a x.b⟩,
   ⟨0x08, .sepFabs, fun c x => signOp c.flush (fun _ => false) x.a⟩, ⟨0x09, .sepFneg, fun c x => signOp c.flush (fun n => !n) x.a⟩,
   ⟨0x0A, .sepFsign, fun c x => fsign c.flush x.a⟩,
   ⟨0x0B, .sepFcmp, fun c x => let r := compare fmtFp32 c.flush c.rmCode x.a x.b; (b2n r.1, r.2)⟩,
   ⟨0x21, .sepCvtFrom, fun c x => cvtFrom c.tt c.flush x.a⟩, ⟨0x22, .sepCvtF2i, fun c x => cvtF2I c.rm c.flush x.a⟩,
   ⟨0x23, .sepCvtI2f, fun c x => cvtI2F c.rm c.flush x.a⟩, ⟨0x40, .sepFdiv, fun c x => arith2 fmtFp32 c.rm c.flush divVal x.a x.b⟩,
   ⟨0x41, .sepFsqrt, fun c x => arith1 fmtFp32 c.rm c.flush sqrtVal x.a⟩]

/-- The FP64 commands, and those between FP32 and FP64 (R185, R186). -/
def fp64Rows : List SepRow :=
  [⟨0x30, .sepDadd, fun c x => arith2 fmtFp64 c.rm c.flush (addVal c.rm) x.a x.b⟩,
   ⟨0x31, .sepDsub, fun c x => arith2 fmtFp64 c.rm c.flush (subVal c.rm) x.a x.b⟩,
   ⟨0x32, .sepDmul, fun c x => arith2 fmtFp64 c.rm c.flush mulVal x.a x.b⟩,
   ⟨0x33, .sepDfma, fun c x => arithFma fmtFp64 c.rm c.flush false x.a x.b x.c⟩,
   ⟨0x34, .sepDmin, fun c x => arith2 fmtFp64 c.rm c.flush minVal x.a x.b⟩,
   ⟨0x35, .sepDmax, fun c x => arith2 fmtFp64 c.rm c.flush maxVal x.a x.b⟩,
   ⟨0x36, .sepDcmp, fun c x => let r := compare fmtFp64 c.flush c.rmCode x.a x.b; (b2n r.1, r.2)⟩,
   ⟨0x37, .sepCvtS2d, fun c x => cvtS2D c.flush x.a⟩, ⟨0x38, .sepCvtD2s, fun c x => cvtD2S c.rm c.flush x.a⟩,
   ⟨0x48, .sepDdiv, fun c x => arith2 fmtFp64 c.rm c.flush divVal x.a x.b⟩,
   ⟨0x49, .sepDsqrt, fun c x => arith1 fmtFp64 c.rm c.flush sqrtVal x.a⟩]

/-- The seeds and refinements (R191 to R194); a refinement starts from its destination. -/
def seedRows : List SepRow :=
  [⟨0x50, .sepRcpS, fun c x => rcpSeed c.flush x.a⟩, ⟨0x51, .sepRcpN, fun c x => refine c.flush false x.d x.a⟩,
   ⟨0x52, .sepRsqS, fun c x => rsqSeed c.flush x.a⟩, ⟨0x53, .sepRsqN, fun c x => refine c.flush true x.d x.a⟩]

/-- Element e of the array of two staging rows at a row, in a lane's section (R190). -/
def arrayElement (b : Bench) (row part lane : Nat) : Nat :=
  let e := 256 * part + lane % 256
  let word := fun k => (lget (rowPart b (if k < 1024 then row else (row + 1) % 64) (k % 1024 / 256)) (lane / 256 * 256 + k % 256)).toNat
  word (2 * e) + word (2 * e + 1) * 2 ^ 32

/-- Lane k's term of an exact sum (R198, R199). -/
def termOf (s : State) (i : Nat) (w : W64) (scalar : Option W64) (p : Sep) (kind k : Nat) : Val :=
  (sumTerm (cDbl w) (getSlot s i).ob.flush kind (laneArg s i w scalar p k).a (laneArg s i w scalar p k).b).1

/-- The flags of reading lane k's operands for an exact sum. -/
def termFlags (s : State) (i : Nat) (w : W64) (scalar : Option W64) (p : Sep) (kind k : Nat) : NFlags :=
  (sumTerm (cDbl w) (getSlot s i).ob.flush kind (laneArg s i w scalar p k).a (laneArg s i w scalar p k).b).2

/-- The lanes of the bench that take part in a command. -/
def lanesOf (on : Nat → Bool) : List Nat := (List.range 32768).filter on

/-! ### Engines and cadence operations (05, 09) -/

/-- Slot i's next event is issue x of an engine, and s' is the state at its cycle. -/
def IssueAt (s : State) (i : Nat) (x : Issue) (s' : State) : Prop := nextIssue s i = some x ∧ s' = atCycle s i x.cycle

/-- From s to u slot i's issue x has left its queue and put one effect in flight; of the slot nothing else changes but staging, and
of the device only time. -/
def EngineRan (s u : State) (i : Nat) (x : Issue) (lat : Nat) (op : FlightOp) : Prop :=
  { u with time := s.time, slots := s.slots } = s
    ∧ u.time = timeMask (max s.time (cycleTime s (benchOf s i) x.cycle))
    ∧ (∀ k, k ≠ i → getSlot u k = getSlot s k)
    ∧ benchOf u i = { takeIssue (benchOf s i) x with
        srows := (benchOf u i).srows, flight := (benchOf s i).flight ++ [⟨x.cycle + lat, x.cycle, op⟩]
        flightEnd := max (benchOf s i).flightEnd (x.cycle + lat) }

/-- The word that a staging row holds in part q for lane k. -/
def stagedWord (s : State) (i row q k : Nat) : W32 := lget (rowPart (benchOf s i) row q) k

/-- From s to u staging row srow is filled from the rows of the live tiles, other lanes with zero, ready at a cycle; no other row
changes (R128, R131, R139). -/
def RowFilled (s u : State) (i srow ready : Nat) (tiles : List Nat) (bytes : Nat → Bytes) : Prop :=
  (∀ q k, q < 4 → k < 32768 → stagedWord u i srow q k
      = if k / 256 ∈ tiles then BitVec.ofNat 32 (leAt (bytes (k / 256)) (4 * (256 * q + k % 256)) 4) else 0)
    ∧ (tget? (benchOf u i).srows srow).map (fun r => r.ready) = some ready
    ∧ (∀ n, n ≠ srow → tget? (benchOf u i).srows n = tget? (benchOf s i).srows n)

/-- The chunks that a primary row has on its live tiles (R129, R131). -/
def chunksOfRow (s : State) (i row : Nat) : List Nat :=
  (liveTiles s (getSlot s i) .primary row).filterMap (fun t => areaChunk s (getSlot s i) .primary t row)

/-- The program operations of R234 with their commands. -/
def cadenceRows : List (Nat × (SlotId → Instr)) :=
  [(0x01, .cadBarrier), (0x02, .maxI64), (0x03, .minI64), (0x04, .sumI64), (0x05, .andU64), (0x06, .orU64), (0x07, .cadMaxexp),
   (0x08, .sumF32)]

/-- A sequence is taken on its link (R398, R399): good, of a new SSEQ, and the link is up. -/
def SeqTaken (s : State) (rx : SpokeRx) : Prop :=
  rx.good = true ∧ (getSpoke s rx.link.val).lastSseq ≠ some rx.sseq.toNat ∧ (getSpoke s rx.link.val).st = 2

/-- A cadence message m of a type reaches slot i, whose current step and attempt it names, for version v of its group (R237, R239). -/
def CadCurrent (s : State) (rx : SpokeRx) (i typ : Nat) (m : CadMsg) (v : GroupVer) : Prop :=
  SeqTaken s rx ∧ 16 ≤ rx.body.length ∧ m = cadMsgOf rx.body ∧ m.typ = typ ∧ rx.ksym.toNat = cadSymbol m.opc
    ∧ openSlotOf s m.job = some i ∧ cadGroup (getSlot s i) m.group = some v ∧ geRelay v = false ∧ geGen v = m.gen
    ∧ geGroupId v = m.group ∧ m.step = (getSlot s i).step.num % 2 ^ 32 ∧ m.attempt = (getSlot s i).step.attempt
    ∧ (getSlot s i).step.st = .dryFit

/-- An open context of slot i: the one that a message m is about. -/
def OpenCtx (s : State) (i : Nat) (m : CadMsg) (x : CadCtx) : Prop :=
  findCtx (getSlot s i) m.group m.window m.id = some x ∧ x.group = m.group ∧ x.window = m.window ∧ x.id = m.id
    ∧ x.done = false ∧ x.failed = false ∧ x.relay = false ∧ x.opc = m.opc ∧ x.phase = m.phase

/-- One sequence put on a link that is up, with the link's next SSEQ (R398). -/
def sentOn (s : State) (link k : Nat) (body : Bytes) : Emit := .spoke link k (getSpoke s link).nextSseq body (spokeCopies k)

/-- A context among those of a slot, under its identity. -/
def CtxIn (s : State) (i : Nat) (x : CadCtx) : Prop := findCtx (getSlot s i) x.group x.window x.id = some x

/-! ### Frames and reductions (03, 14) -/

/-- A class frame of a type passes checks 1 to 11 of R373 in s: its header, its slot, and the state s1 that the checks leave. -/
def Admitted (typ : Nat) (s : State) (rx : RxFrame) (h : Hdr) (i : Nat) (s1 : State) : Prop :=
  admitFrame typ s rx = (some (h, i), s1)

/-- Element k of a line of W128 words; an untouched line is zero (R71). -/
def lineWord (c : Chunk) (k : Nat) : W128 := c.line.getD k 0

/-- A line is untouched or has its 1,024 words. -/
def LineOk (c : Chunk) : Prop := c.line = [] ∨ c.line.length = 1024

/-- Chunk j of bucket b of slot i. -/
def chunkOf (s : State) (i b j : Nat) : Option Chunk := (getChunk (getSlot s i) b j).map Prod.snd

/-- From s to t no chunk of bucket b of slot i changes but chunk j. -/
def OtherChunksSame (s t : State) (i b j : Nat) : Prop := ∀ k, k ≠ j → chunkOf t i b k = chunkOf s i b k

/-! ### Ports and links (12, 13, 14) -/

/-- The header of a received frame is unsound (R365). -/
def HeaderUnsound (rx : RxFrame) : Prop := rx.hdrBad = true ∨ hcrcOk rx.hdr = false

/-- From s to t port p begins recovery (R365): one more recovery and discard, and on a port that has sent HELLO one NACK REPLAY
that names the expected SEQ. -/
def RecoveryBegins (s t : State) (p : Nat) : Prop :=
  let q := getPort s p
  (getPort t p).rx.inRecovery = true ∧ (getPort t p).rx.expSeq = q.rx.expSeq
    ∧ (getPort t p).cnt.recoveries = inc32 q.cnt.recoveries ∧ (getPort t p).cnt.recoveryDiscards = inc32 q.cnt.recoveryDiscards
    ∧ (q.helloSent = true → ∃ f, (getPort t p).tx.linkWait = q.tx.linkWait ++ [f] ∧ f.h.typ = tNack ∧ f.h.cls = 7
      ∧ leAt f.payload 0 1 = 0x01 ∧ (q.rx.expSeq < 2 ^ 32 → leAt f.payload 4 4 = q.rx.expSeq))

/-- A port that is ready to come up but for what a frame brings (R358). -/
def ReadyToComeUp (q : Port) : Prop := q.up = false ∧ q.cfg.enable = true ∧ q.helloSent = true

/-! ### Delivery and the tandem mirror (04, 10) -/

/-- A port takes slot i's class frames: it is up, has its five lists, and no rehearsal cuts the slot off (R299, R304, R335). -/
def TakesFrames (s : State) (p i : Nat) : Prop :=
  (getPort s p).up = true ∧ (getPort s p).tx.queues.length = 5 ∧ ∀ e ∈ (getPort s p).dropSlots, e.1 ≠ i

/-- From s to t one more frame of class c waits at a port. -/
def Queued (s t : State) (p c : Nat) (f : TxFrame) : Prop :=
  (getPort t p).tx.queues.getD c [] = (getPort s p).tx.queues.getD c [] ++ [f]

/-- From s to t a port that has sent HELLO answers with a NACK of a code (R310, R355, R374). -/
def Nacked (s t : State) (p code : Nat) : Prop :=
  (getPort s p).helloSent = true → ∃ f, (getPort t p).tx.linkWait = (getPort s p).tx.linkWait ++ [f] ∧ f.h.typ = tNack ∧ leAt f.payload 0 1 = code

/-- In t a row and plane of a slot's area holds bytes, where the slot in s has a granule for it in the tile's live channels (R414,
R415). -/
def RowStored (s t : State) (i : Nat) (a : Area) (g pl : Nat) (bs : Bytes) : Prop :=
  ∀ r f, rowOfChunk (getSlot s i) g = some r → rowFrame (getSlot s i) a (tileOfChunk g) r pl = some f → FrameInReach s (tileOfChunk g) f →
    chunkRead t i a g pl = bs

/-- The command that takes a STATE frame of a kind (R356); one of a reserved kind is taken with the PENDING frames. -/
def stateCmd (k : Nat) : RxFrame → Instr :=
  if k = kEmem then .stateEmem else if k = kShip then .stateShip else if k = kRestore then .stateRestore
  else if k = kResync then .stateResync else if k = kResyncEmem then .stateResyncEmem else if k = kPartnerReport then .partnerReport
  else if k = kSegmentReport then .segmentReport else .statePending

/-- A sound LINK_CTRL frame of a kind from a device, about an OPEN slot (R362, R372): the slot, the device and the state that the checks
leave. -/
def Requested (kind : Nat) (s : State) (rx : RxFrame) (h : Hdr) (i dev : Nat) (s1 : State) : Prop :=
  tandemRequest kind rx s = (some (h, i, dev), s1)

/-! ### Steps and incidents (10, 11) -/

/-- From s to t slot i's SEALED step is glued (R260). -/
def StepGlued (s t : State) (i : Nat) : Prop :=
  let r := (getSlot s i).step
  (getSlot t i).step = { r with st := .glued, lastGlued := some r.num, decisionLost := false, decision := (getSlot t i).step.decision }
    ∧ (getSlot t i).shard.gluedCopy = r.num % 2 ∧ (getSlot t i).tan.late = []

/-- A spoke sequence of a symbol is sound, no copy of the last, and on a link that is up (R398, R399, R403); s1 is the state that these
checks leave. -/
def SymTaken (s : State) (rx : SpokeRx) (sym : Nat) (s1 : State) : Prop := rx.ksym.toNat = sym ∧ spokeTake s rx = (true, s1)

/-- A READY, GLUE or ABORT of a job held OPEN on a link of its control tree (R243, R398): its slot, step bits and attempt. -/
def Controls (s : State) (rx : SpokeRx) (sym len i step attempt : Nat) (s1 : State) : Prop :=
  takeControl rx sym len s = (some (i, step, attempt), s1)

/-- A step and attempt are the slot's current ones; a step is known by its low 32 bits (R251, R398). -/
def CurrentStep (sl : Slot) (step attempt : Nat) : Prop :=
  step = sl.step.num % 2 ^ 32 ∧ attempt = sl.step.attempt ∧ sl.step.st ≠ .none

/-- What sealing writes (R252, R256, R281). -/
def sealedAt (sl : Slot) (now : Nat) : StepRec :=
  { sl.step with
    st := .sealed, sealTime := now, armToSeal := min ((now - sl.step.armTime) / 1000) (2 ^ 32 - 1)
    agreement := agreementWord sl }

/-- The end of a step's window (R249). -/
def stepWindowEnd (sl : Slot) : Nat := sl.step.armTime + sl.step.deadline

/-- From s to t a link that is up sends a sequence with its next SSEQ, before whatever else goes out (R398). -/
def SpokeSent (s t : State) (link sym : Nat) (body : Bytes) (copies : Nat) : Prop :=
  (getSpoke s link).st = 2 → ∃ l, t.out = s.out ++ .spoke link sym (getSpoke s link).nextSseq body copies :: l

/-! ### Lanes and spoke links (13, 14) -/

/-- From s to t a lane starts training (R387, R388): its first frame asks for nothing, and answers nothing. -/
def LaneTrains (s t : State) (n failRun : Nat) : Prop :=
  let l := getLane s n
  getLane t n = { l with
      st := .training, trainings := satAdd 28 l.trainings 1, trainStart := t.time, failRun := failRun, request := 0, resp := 0
      readyRx := 0, readyTx := 0, locked := false }
    ∧ t.out = s.out ++ [.training n 0 (if l.precoding then 4 else 0)]

/-- A port is down and what it has agreed with its far end is forgotten (R335, R358). -/
def PortIsDown (q : Port) : Prop := q.up = false ∧ q.helloSent = false ∧ q.idleTx = false ∧ q.idleRx = false

/-- A port waits for something to send, or owes its far end nothing less than a CREDIT (R390, R391). -/
def HasToSend (q : Port) : Prop := txQueued q = true ∨ owesCredit q = true

/-! ### The host window (16, 19) -/

/-- The host sends a sound request of a type on a module that is up (R434 to R436). -/
def HostAsks (s : State) (q : HtlReq) (typ : Nat) : Prop := moduleUp s q.mdl.val = true ∧ htlType q = typ ∧ htlSound q = true

/-- From s to t the device puts one thing on its pins: the COMPLETION of a request, with its TAG, a status and a payload (R434). -/
def Answered (s t : State) (q : HtlReq) (status : Nat) (payload : Bytes) : Prop :=
  ∃ hdr : BitVec 128, t.out = s.out ++ [.completion q.mdl.val hdr payload] ∧ bitsOf hdr.toNat 0 4 = 4
    ∧ bitsOf hdr.toNat 6 2 = status ∧ bitsOf hdr.toNat 8 10 = htlTag q ∧ bitsOf hdr.toNat 18 7 = htlBytes q / 4 - 1

/-- A request is answered UNSUPPORTED, counted, and has no other effect (R435, R510). -/
def Unsupported (s t : State) (q : HtlReq) : Prop :=
  Answered s t q 1 [] ∧ t.host.unsupported.toNat = inc32 s.host.unsupported.toNat
    ∧ { t with out := s.out, host := { t.host with unsupported := s.host.unsupported } } = s

/-- A request is answered REFUSED, counted, and has no other effect (R435, R510). -/
def Refused (s t : State) (q : HtlReq) : Prop :=
  Answered s t q 2 [] ∧ t.host.refused.toNat = inc32 s.host.refused.toNat
    ∧ { t with out := s.out, host := { t.host with refused := s.host.refused } } = s

/-- A request is answered with a payload and has no other effect. -/
def OnlyAnswered (s t : State) (q : HtlReq) (payload : Bytes) : Prop := Answered s t q 0 payload ∧ { t with out := s.out } = s

/-- The number that a write carries. -/
def writtenNumber (q : HtlReq) : Nat := leNat (fitBytes (htlBytes q) q.payload)

/-- From s to t one event of a slot is posted (R450, R452): a record for the ring while it is enabled, has room and owes no
RING_OVERFLOW; a loss while it is disabled. While no keeper core serves, it waits (R28). -/
def EventPosted (s t : State) (code slot : Nat) (payload : Bytes) : Prop :=
  (s.host.keeperDown = true → t.evt = { s.evt with deferred := s.evt.deferred ++ [(code, slot, payload)] })
    ∧ (s.host.keeperDown = false → s.evt.en = false → t.evt = { s.evt with lost := s.evt.lost + 1 })
    ∧ (s.host.keeperDown = false → s.evt.en = true → s.evt.overflowOwed = false → evtRoom s.evt = true →
        ∃ w, t.evt = { s.evt with issued := s.evt.issued + 1, flight := s.evt.flight ++ [w] } ∧ w.done = false
          ∧ w.addr = s.evt.base.toNat / 4096 * 4096 + 128 * (s.evt.issued.toNat % 2 ^ s.evt.sizeLog2.toNat)
          ∧ w.data = evtRecord code slot s.evt.issued.toNat t.time payload)
    ∧ (s.host.keeperDown = false → s.evt.en = true → evtRoom s.evt = false →
        t.evt = { s.evt with lost := s.evt.lost + 1, overflowOwed := true })

/-- The device has been reset from s to t (R480, R508): the state of a reset, but for what R508, the fuses and the carrier flash keep.
What waits and what has been sent are not the device's. -/
def IsReset (s t : State) : Prop :=
  t = { State.reset with
    pending := s.pending, out := t.out, freeCount := s.freeCount, pwr := keptPower false s.pwr, sec := keptSecurity s.sec
    trc := { traceInit with lgaspValid := s.trc.lgaspValid, lgasp := s.trc.lgasp } }

/-! ### Power, resets and clocks (17) -/

/-- The LEAVE sequences that a leave notice puts on the up spoke links: three copies each, an entry for every OPEN slot (R398, R401). -/
def leavesSent (s : State) (reason : Nat) : List Emit :=
  let es := (slotsWhere s (fun sl => sl.st == SlotSt.open_)).map (fun i => leaveEntry (getSlot s i))
  ((List.range 8).filter (fun k => (getSpoke s k).st == 2)).map (fun k =>
    .spoke k 0x9C (getSpoke s k).nextSseq (leBytes 2 (selfId s) ++ leBytes 1 reason ++ leBytes 1 es.length ++ es.flatten) 3)

/-- From s to t only the always-on block changes, to p. -/
def OnlyPower (s t : State) (p : Power) : Prop := t = { s with pwr := p }

/-- From s to t the always-on block becomes p and one POWER event is posted (R487). -/
def PowerEvent (s t : State) (p : Power) (kind domain value : Nat) : Prop :=
  t.pwr = p ∧ t.time = s.time ∧ t.slots = s.slots ∧ t.host = s.host
    ∧ EventPosted s t 0x0017 0xFF (fitBytes 16 (leBytes 1 kind ++ leBytes 1 domain ++ leBytes 2 p.voltage.toNat ++ leBytes 4 value))

/-- The device is FATAL (R283, R482). -/
def IsFatal (t : State) : Prop := t.host.fatal = true ∧ t.pwr.phase = 0xA

/-- From s to t every step in DRY_FIT has aborted with a cause, and no other step has changed its state. -/
def AllDryFitsAborted (s t : State) (cause : Nat) : Prop :=
  ∀ i, i < 64 → ((getSlot s i).step.st = .dryFit → (getSlot t i).step.st = .rollingBack ∧ (getSlot t i).step.abortCause = cause
        ∧ (getSlot t i).step.attempt = ((getSlot s i).step.attempt + 1) % 256)
    ∧ ((getSlot s i).step.st ≠ .dryFit → (getSlot t i).step = (getSlot s i).step)

/-- A domain's bit among the domains that are awake. -/
def isAwake (s : State) (d : Nat) : Bool := s.pwr.awake.testBit d

/-! ### Mailbox commands and security (18, 19) -/

/-- The keeper core takes a command of an opcode next, and no check that every command passes refuses it (R283, R444, R453). -/
def Commanded (s : State) (m : Nat) (c : Bytes) (op : Nat) : Prop :=
  nextMbx s = some m ∧ c = slotBytes (getMbx s m).cmd ∧ opOf c = op ∧ gateStatus s m op = none

/-- From s to t the command of mailbox m is answered (R443, R446): OWN is clear, the mailbox IDLE and out of the order, and the response
slot holds the opcode, the status, the token and the results. -/
def MbxAnswered (s t : State) (m status : Nat) (results : Bytes) : Prop :=
  let c := slotBytes (getMbx s m).cmd
  let r := slotBytes (getMbx t m).rsp
  (getMbx t m).own = false ∧ (getMbx t m).st = .idle ∧ t.ownOrder = s.ownOrder.filter (· != m)
    ∧ leAt r 0 1 = leAt c 0 1 ∧ leAt r 2 1 = status ∧ leAt r 4 4 = leAt c 4 4 ∧ (r.drop 8).take results.length = results

/-- From s to t a command is refused (R446): it is answered with a status, and nothing but its mailbox changes. An interrupt goes out
where the mailbox asks for one. -/
def MbxRefused (s t : State) (m status : Nat) : Prop :=
  MbxAnswered s t m status [] ∧ (∀ k, k ≠ m → getMbx t k = getMbx s k)
    ∧ t.out = s.out ++ (if (getMbx s m).irqEn then [.interrupt (deviceModule s) (1 + m)] else [])
    ∧ { t with out := s.out, mbx := s.mbx, ownOrder := s.ownOrder } = s

/-- A mailbox row: its command, the command slots that are its own, and the argument bytes that it uses. -/
structure MbxRow where
  cmd : HostBuf → Instr
  accept : Bytes → Bool
  used : List (Nat × Nat)

/-- The mailbox rows (R453). -/
def mbxRows : List MbxRow :=
  [⟨fun _ => .deviceInfoIdentity, fun c => opOf c == 0x01 && leAt c 8 1 != 1, [(8, 1)]⟩,
   ⟨.deviceInfoChannels, fun c => opOf c == 0x01 && leAt c 8 1 == 1, [(8, 1), (16, 12)]⟩,
   ⟨.jobOpen, fun c => opOf c == 0x02, [(8, 2), (16, 12)]⟩, ⟨fun _ => .jobClose, fun c => opOf c == 0x03, []⟩,
   ⟨.shardPlace, fun c => opOf c == 0x04, [(8, 8), (16, 12), (32, 4), (40, 20)]⟩,
   ⟨fun _ => .tandemBind, fun c => opOf c == 0x05 && !bitOf (leAt c 12 1) 0, [(8, 4), (16, 4)]⟩,
   ⟨fun _ => .tandemUnbind, fun c => opOf c == 0x05 && bitOf (leAt c 12 1) 0, [(12, 1)]⟩,
   ⟨fun _ => .spareAdmit, fun c => opOf c == 0x06, [(8, 4)]⟩,
   ⟨.groupDefine, fun c => opOf c == 0x07, [(8, 2), (12, 4), (16, 12)]⟩,
   ⟨.groupRegen, fun c => opOf c == 0x08, [(8, 2), (12, 4), (16, 12)]⟩,
   ⟨.programLoad, fun c => opOf c == 0x09, [(8, 4), (16, 12)]⟩, ⟨fun _ => .programSelect, fun c => opOf c == 0x0A, [(8, 4)]⟩,
   ⟨.stepArm, fun c => opOf c == 0x0B, [(8, 56)]⟩,
   ⟨.stepStatus, fun c => opOf c == 0x0C && !bitOf (leAt c 20 1) 0, [(8, 13)]⟩,
   ⟨.stepStatusClearFlags, fun c => opOf c == 0x0C && bitOf (leAt c 20 1) 0, [(8, 13)]⟩,
   ⟨fun _ => .rollback, fun c => opOf c == 0x0D && leAt c 17 1 != 1 && leAt c 17 1 != 2, [(8, 10)]⟩,
   ⟨fun _ => .rollbackResolveGlued, fun c => opOf c == 0x0D && leAt c 17 1 == 1, [(8, 10)]⟩,
   ⟨fun _ => .rollbackResolveAborted, fun c => opOf c == 0x0D && leAt c 17 1 == 2, [(8, 10)]⟩,
   ⟨.healthRead, fun c => opOf c == 0x0E, [(8, 12)]⟩,
   ⟨fun _ => .brakeSet, fun c => opOf c == 0x0F, [(8, 2), (12, 18), (32, 16)]⟩,
   ⟨fun _ => .rehearsalSet, fun c => opOf c == 0x10, [(8, 5), (16, 8)]⟩,
   ⟨.traceSet, fun c => opOf c == 0x11, [(8, 3), (16, 12)]⟩,
   ⟨.linkConfigDevice, fun c => opOf c == 0x12 && leAt c 9 1 % 4 == 0 && leAt c 8 1 != 2 && leAt c 8 1 != 3, [(8, 4), (16, 12)]⟩,
   ⟨.linkConfigPort, fun c => opOf c == 0x12 && leAt c 9 1 % 4 == 0 && leAt c 8 1 == 2, [(8, 4), (16, 12)]⟩,
   ⟨.linkConfigLane, fun c => opOf c == 0x12 && leAt c 9 1 % 4 == 0 && leAt c 8 1 == 3, [(8, 4), (16, 12)]⟩,
   ⟨.linkConfigRead, fun c => opOf c == 0x12 && leAt c 9 1 % 4 == 1, [(8, 4), (16, 12)]⟩,
   ⟨.linkConfigClear, fun c => opOf c == 0x12 && bitOf (leAt c 9 1) 1, [(8, 4), (16, 12)]⟩,
   ⟨fun _ => .powerPolicyRead, fun c => opOf c == 0x13 && !bitOf (leAt c 8 1) 0, []⟩,
   ⟨fun _ => .powerPolicySet, fun c => opOf c == 0x13 && bitOf (leAt c 8 1) 0, [(8, 1), (10, 14)]⟩,
   ⟨.attest, fun c => opOf c == 0x14, [(8, 44)]⟩,
   ⟨fun _ => .badCommand, fun c => !isCommandOp (opOf c), []⟩]

/-- From s to t nothing but the mailboxes, their order and the pins changes. -/
def OnlyMailbox (s t : State) (m : Nat) : Prop :=
  { t with out := s.out, mbx := s.mbx, ownOrder := s.ownOrder } = s ∧ ∀ k, k ≠ m → getMbx t k = getMbx s k

/-- From s to t a command writes bytes to the buffer whose argument stands at offset o, before anything else that it sends (R447). -/
def BufferWritten (s t : State) (c : Bytes) (o : Nat) (bs : Bytes) : Prop :=
  ∃ l, t.out = s.out ++ .hostBuffer (bufAddr c o) bs :: l

/-- A command of an opcode is next, passes the common checks, and leaves the argument bytes that it does not use zero. -/
def Ordered (s : State) (m : Nat) (c : Bytes) (op : Nat) (used : List (Nat × Nat)) : Prop :=
  Commanded s m c op ∧ unusedArgsZero c used = true

/-- From s to t a command is answered with a status and changes nothing else; what it had read of its buffer it has read. -/
def Declined (s t : State) (m status : Nat) : Prop := MbxAnswered s t m status [] ∧ OnlyMailbox s t m

end Sys2Proof
end

