-- ==== Sys2Proof/Certificates/Slice0/Obligations.lean ====
section
/-! DEFINITION. The statements for the provers. -/

open Sys2Proof Sys2Proof.Machine


/-! ### The block as a whole -/

/-- A step takes the command at the front of the queue and does exactly what that command does, with the rest of the queue waiting. -/
def Obligations.AStepRunsTheFrontCommand : Prop :=
  ∀ (c : Instr) (rest : List Instr) (s : State), step { s with pending := c :: rest } = exec c { s with pending := rest }

/-- R13, R404: when no command waits a nanosecond passes (log entry 5, the model's choice), and nothing else happens: device time
is one higher, modulo 2^64, unless the time record corrects it. -/
def Obligations.AnEmptyQueueLetsTimePass : Prop :=
  ∀ (s : State), s.pending = [] →
    ∃ t, step s = .next t ∧ { t with time := s.time, timeRec := s.timeRec } = s
      ∧ (s.timeRec.hold = 0 → s.timeRec.slew = 0 → s.timeRec.frac < 25600000 → t.time = (s.time + 1) % 2 ^ 64 ∧ t.timeRec = s.timeRec)

/-- R442, R449, R508, R510 to R514, R516: the values that the Reset columns give to the registers that the host reads, and a device
with no slot, no port, no spoke link and no lane up, nothing held in a buffer and nothing listed in HBM. -/
def Obligations.ResetIsAsTheRegisterMapSays : Prop :=
  let r := State.reset
  (∃ v, reg64 r 0x0 = some v ∧ v % 65536 = 0x2E02) ∧ reg64 r 0x8 = some 0 ∧ reg64 r 0x10 = some 0 ∧ reg64 r 0x20 = some 0x24
    ∧ reg64 r 0x28 = some 0 ∧ reg64 r 0x40 = some 0 ∧ reg64 r 0x100 = some 0 ∧ reg64 r 0x200 = some 0 ∧ reg64 r 0x300 = some 0
    ∧ reg64 r 0x308 = some 0 ∧ (reg64 r 0x10000).map (clearBit · 7) = some 0x1041 ∧ reg64 r 0x10008 = some 0 ∧ reg64 r 0x10010 = some 0
    ∧ reg64 r 0x10018 = some (3600 + 5000 * 2 ^ 16 + 200 * 2 ^ 32) ∧ reg64 r 0x10020 = some 1
    ∧ reg64 r 0x10028 = some 0x000003FFFFFFFFFC ∧ reg64 r 0x10030 = some 0
    ∧ reg64 r 0x10800 = some 0 ∧ reg64 r 0x10808 = some 0 ∧ reg64 r 0x10840 = some 0 ∧ reg64 r 0x10900 = some 0
    ∧ reg64 r 0x200000 = some 0 ∧ reg64 r 0x200008 = some 0 ∧ reg64 r 0x200010 = some 0 ∧ reg64 r 0x200018 = some 0
    ∧ reg64 r 0x200020 = some 0 ∧ reg64 r 0x200040 = some 0
    ∧ (∀ m, m < 65 → mbxReg r m 0x80 = some 0) ∧ mbxReg r 0 0xC0 = some 0 ∧ mbxReg r 0 0xC8 = some 6 ∧ mbxReg r 0 0xD0 = some 0
    ∧ mbxReg r 0 0xD8 = some 0 ∧ mbxReg r 0 0xE0 = some 0
    ∧ r.pending = [] ∧ (∀ i, (getSlot r i).st = .free) ∧ (∀ p, (getPort r p).up = false) ∧ (∀ n, (getLane r n).st = .down)
    ∧ (∀ k, (getSpoke r k).st = 0) ∧ (∀ a n, memRead r.hbm.mem a n = List.replicate n 0) ∧ r.holder = none ∧ r.incidents = []

/-- The list that stands for HBM is in canonical form right after reset. -/
def Obligations.ResetMeetsTheInvariant : Prop := Inv State.reset

/-- Every step answers a next state: no command faults and none is refused. A
step keeps the canonical form of HBM's list, takes at most the front command from the queue, and blows no fuse back (R489, R493). -/
def Obligations.EveryStepAnswersAndKeepsTheInvariant : Prop :=
  (∀ s : State, ∃ t, step s = .next t)
    ∧ ∀ s t : State, step s = .next t → (Inv s → Inv t) ∧ FusesKept s t ∧ t.pending = s.pending.drop 1

/-- What each command leaves unchanged: every piece of the device's state that is not listed for it (the lists are the model's
reading of the rules that give each command its effect). -/
def Obligations.CommandsChangeOnlyTheirPieces : Prop :=
  ∀ (c : Instr) (s t : State), exec c s = .next t → t.pending = s.pending ∧ ∀ p : Piece, p ∉ mayChange c → p.same s t

/-- R352, R353: a header whose fields fit their bits reads back as it was formed, every field at every value, and its check agrees. -/
def Obligations.HeadersReadBackAsTheyWereFormed : Prop :=
  ∀ h : Hdr, HdrFits h → hdrDecode (hdrEncode h) = h ∧ hcrcOk (hdrEncode h) = true

/-- R411, R415: a frame is eight pieces of 512 bytes, each in the live channel and at the channel address that R415 gives it; a frame
written to a tile's live channels reads back, and no other frame of this tile or of another changes. -/
def Obligations.FramesReadBackAsTheyWereWritten : Prop :=
  ∀ (s : State) (tile f : Nat) (bs : Bytes), bs.length = 4096 → FrameInReach s tile f → 0 < (liveChannels s tile).length →
    let u := frameWrite s tile f bs
    let m := (liveChannels s tile).length
    (frameRead s tile f).length = 4096
      ∧ (∀ i, i < 8 → ∃ c, (liveChannels s tile)[(8 * f + i) % m]? = some c
          ∧ ((frameRead s tile f).drop (512 * i)).take 512 = memRead s.hbm.mem (memKey c ((8 * f + i) / m * 512)) 512)
      ∧ frameRead u tile f = bs
      ∧ (∀ g, g ≠ f → FrameInReach s tile g → frameRead u tile g = frameRead s tile g)
      ∧ (∀ tile' g, tile' ≠ tile → FrameInReach s tile' g → frameRead u tile' g = frameRead s tile' g)
      ∧ { u with hbm := { u.hbm with mem := s.hbm.mem, bad := s.hbm.bad } } = s

/-- R163, R157: a register instruction of format R writes its result of G[ra] and G[rb] to G[rd] and nothing else.
R163: an instruction with an immediate writes its result of G[ra] and IMM to G[rd] and nothing else. -/
def Obligations.RegisterAndImmediateInstructions : Prop :=
  (∀ row ∈ regRows, ∀ (s : State) (slot : SlotId) (w : W64),
      JigAt s slot.val w → (jigOf s slot.val).rep = none → jOp w = row.op → w &&& ~~~useR = 0 →
      InstrAt s slot.val ((jigOf s slot.val).pc + 1) →
      ∃ t, exec (row.cmd slot) s = .next t
        ∧ JigWritesG s t slot.val (jRD w) (row.f (jG (jigOf s slot.val) (jRA w)) (jG (jigOf s slot.val) (jRB w))) row.cycles)
  ∧ (∀ row ∈ immRows, ∀ (s : State) (slot : SlotId) (w : W64),
      JigAt s slot.val w → (jigOf s slot.val).rep = none → jOp w = row.op → w &&& ~~~row.used = 0 → row.takes (immOf w) = true →
      InstrAt s slot.val ((jigOf s slot.val).pc + 1) →
      ∃ t, exec (row.cmd slot) s = .next t
        ∧ JigWritesG s t slot.val (jRD w) (row.f (jG (jigOf s slot.val) (jRA w)) (immOf w)) 1)

/-- R163: the branches. A conditional branch goes to pc + OFF in two cycles where its condition holds, else on in one; JMP always
goes. -/
def Obligations.BranchesGoWhereTheirConditionSays : Prop :=
  ∀ (s : State) (slot : SlotId) (w : W64), JigAt s slot.val w → (jigOf s slot.val).rep = none →
    (∀ row ∈ branchRows, jOp w = row.op → w &&& ~~~useB = 0 →
      ∀ dest n : Nat, (if row.cond (jG (jigOf s slot.val) (jBA w)) (jG (jigOf s slot.val) (jBB w))
          then (dest : Int) = (jigOf s slot.val).pc + jOff w ∧ n = 2 else dest = (jigOf s slot.val).pc + 1 ∧ n = 1) →
        InstrAt s slot.val dest →
        ∃ t, exec (row.cmd slot) s = .next t ∧ JigGoesOn s t slot.val dest n
          ∧ jigOf t slot.val = { jigOf s slot.val with pc := dest })
    ∧ (jOp w = 0x2E → w &&& ~~~0xFFFFFFFF000000FF#64 = 0 →
      ∀ dest : Nat, (dest : Int) = (jigOf s slot.val).pc + jOff w → InstrAt s slot.val dest →
        ∃ t, exec (.jigJmp slot) s = .next t ∧ JigGoesOn s t slot.val dest 2
          ∧ jigOf t slot.val = { jigOf s slot.val with pc := dest })

/-- R165: LOOP on a counter that is zero raises LOOP_ZERO; otherwise the counter goes down by one, and the program goes to pc + OFF
while it is not zero and on when it is. Nothing else of the context changes. -/
def Obligations.LoopCountsDown : Prop :=
  ∀ (s : State) (slot : SlotId) (w : W64), JigAt s slot.val w → (jigOf s slot.val).rep = none → jOp w = 0x2F →
    w &&& ~~~0xFFFFFFFF000C00FF#64 = 0 →
    (jL (jigOf s slot.val) (jLC w) = 0 →
      ∃ u, exec (.jigLoop slot) s = .next (settled u slot.val) ∧ FaultTaken s u slot.val (jigFaultInfo s slot.val 0x48 0))
    ∧ (jL (jigOf s slot.val) (jLC w) ≠ 0 →
      ∀ dest n : Nat, (if jL (jigOf s slot.val) (jLC w) = 1 then dest = (jigOf s slot.val).pc + 1 ∧ n = 1
          else (dest : Int) = (jigOf s slot.val).pc + jOff w ∧ n = 2) →
        InstrAt s slot.val dest →
        ∃ t, exec (.jigLoop slot) s = .next t ∧ JigGoesOn s t slot.val dest n
          ∧ jigOf t slot.val = { jigOf s slot.val with pc := dest, l := (jigOf t slot.val).l }
          ∧ ∀ k, k < 4 → jL (jigOf t slot.val) k
              = if k = jLC w then jL (jigOf s slot.val) (jLC w) - 1 else jL (jigOf s slot.val) k)

/-- R159, R163, R166: the instructions that read an address register, a stride register, a loop counter, a constant, a special value
or a cadence result write it to G[rd] and nothing else.
R163, R167, R172: ASET, AADD, LSET, PACE, REP and NOP. -/
def Obligations.ReadAddressLoopAndPaceInstructions : Prop :=
  (∀ row ∈ readRows, ∀ (s : State) (slot : SlotId) (w v : W64),
      JigAt s slot.val w → (jigOf s slot.val).rep = none → jOp w = row.op → w &&& ~~~row.used = 0 →
      row.val s slot.val w = some v → InstrAt s slot.val ((jigOf s slot.val).pc + 1) →
      ∃ t, exec (row.cmd slot) s = .next t ∧ JigWritesG s t slot.val (jRD w) v row.cycles)
  ∧ (∀ (s : State) (slot : SlotId) (w : W64), JigAt s slot.val w → (jigOf s slot.val).rep = none →
      InstrAt s slot.val ((jigOf s slot.val).pc + 1) →
      let j := jigOf s slot.val
      let goes (t : State) (n : Nat) := JigGoesOn s t slot.val (j.pc + 1) n
      (jOp w = 0x20 → w &&& ~~~0x0000000007FFE0FF#64 = 0 →
        ∃ t, exec (.jigAset slot) s = .next t ∧ goes t 1
          ∧ jigOf t slot.val = { j with pc := j.pc + 1, a := (jigOf t slot.val).a, s := (jigOf t slot.val).s }
          ∧ ∀ k, k < 16 → jA (jigOf t slot.val) k = (if k = jAN w then jG j (jRA w) else jA j k)
              ∧ jS (jigOf t slot.val) k = (if k = jAN w then jG j (jRB w) else jS j k))
      ∧ (jOp w = 0x21 → w &&& ~~~0xFFFFFFFF078000FF#64 = 0 →
        ∃ t, exec (.jigAadd slot) s = .next t ∧ goes t 1
          ∧ jigOf t slot.val = { j with pc := j.pc + 1, a := (jigOf t slot.val).a }
          ∧ ∀ k, k < 16 → jA (jigOf t slot.val) k = if k = jAN w then jA j k + (immOf w).signExtend 64 else jA j k)
      ∧ (jOp w = 0x24 → w &&& ~~~0xFFFFFFFF0783E0FF#64 = 0 → jAN w < 4 →
        ∃ t, exec (.jigLset slot) s = .next t ∧ goes t 1
          ∧ jigOf t slot.val = { j with pc := j.pc + 1, l := (jigOf t slot.val).l }
          ∧ ∀ k, k < 4 → jL (jigOf t slot.val) k
              = if k = jAN w then (jG j (jRA w) + (immOf w).signExtend 64).setWidth 32 else jL j k)
      ∧ (jOp w = 0x33 → w &&& ~~~useRaImm = 0 →
        ∃ t, exec (.jigPace slot) s = .next t ∧ jigOf t slot.val = { j with pc := j.pc + 1 }
          ∧ goes t (max 1 ((jG j (jRA w) + (immOf w).signExtend 64).toInt
              - ((benchOf s slot.val).clock - (benchOf s slot.val).base))).toNat)
      ∧ (jOp w = 0x40 → w &&& ~~~0x000000000FFFFFFF#64 = 0 → bitsOf w.toNat 20 8 ≠ 0 →
        ∃ t, exec (.jigRep slot) s = .next t ∧ goes t 1
          ∧ jigOf t slot.val = { j with pc := j.pc + 1, rep := some (bitsOf w.toNat 8 12 + 1, bitsOf w.toNat 20 8) })
      ∧ (jOp w = 0x55 → w &&& ~~~0x00000000000000FF#64 = 0 →
        ∃ t, exec (.jigNop slot) s = .next t ∧ goes t 1 ∧ jigOf t slot.val = { j with pc := j.pc + 1 }))

/-- R168 to R172: a push that passes its checks queues its issues, takes its words and cycles, and with INC advances the address
registers that it names. -/
def Obligations.PushesQueueTheirIssues : Prop :=
  ∀ row ∈ pushRows, ∀ (s : State) (slot : SlotId) (w w1 : W64) (as : List Ask),
    JigAt s slot.val w → jOp w = row.op →
    (row.op = 0x46 → (jigOf s slot.val).rep = none) →
    (row.words = 2 → fetchWord (getSlot s slot.val) ((jigOf s slot.val).pc + 1) 0 = some w1) → (row.words = 1 → w1 = 0) →
    row.asks (getSlot s slot.val) w w1 = .asks as →
    pushTarget (jigOf s slot.val) w < 2 ^ 24 → (∀ a ∈ as, a.off < 2 ^ 24) →
    tagBusy (jigOf s slot.val).busy (as.filterMap (fun a => issueTag a.op)) = false →
    pushRefused (benchOf s slot.val) row.q (issuesOf s slot.val row.q as) = none →
    InstrAt s slot.val ((jigOf s slot.val).pc + row.words) →
    ∃ t, exec (row.cmd slot) s = .next t
      ∧ PushMade s t slot.val w (issuesOf s slot.val row.q as) (row.aye w) row.words row.cycles

/-- R174: ARM takes 8 cycles and arms the bucket that four general registers describe; a fixed window opens its chunks at once. A
refusal raises ARM_REFUSED with its status as the detail. -/
def Obligations.ArmInstructionArmsABucket : Prop :=
  ∀ (s : State) (slot : SlotId) (w : W64), JigAt s slot.val w → (jigOf s slot.val).rep = none → jOp w = 0x53 →
    w &&& ~~~0x0000000000001FFF#64 = 0 → (benchOf s slot.val).pass = false → jRD w % 4 = 0 → jRD w ≠ 0 →
    let at_ := atCycle s slot.val (benchOf s slot.val).clock
    let d : BitVec 256 := BitVec.ofNat 256 ((jG (jigOf s slot.val) (jRD w)).toNat + (jG (jigOf s slot.val) (jRD w + 1)).toNat * 2 ^ 64
      + (jG (jigOf s slot.val) (jRD w + 2)).toNat * 2 ^ 128 + (jG (jigOf s slot.val) (jRD w + 3)).toNat * 2 ^ 192)
    (armStatus at_ slot.val d = none → bdMode d = 2 →
      ∃ u b, exec (.jigArm slot) s = .next (settled u slot.val)
        ∧ tget? (getSlot u slot.val).buckets (bdBucket d) = some b
        ∧ b.desc = d ∧ b.emax = some (bdEmaxFixed d) ∧ b.abandoned = false ∧ b.armTime = at_.time
        ∧ (∀ k, k < bdChunks d → (tget? b.chunks k).map (fun c => c.st) = some .open_)
        ∧ (∀ n, n ≠ bdBucket d → tget? (getSlot u slot.val).buckets n = tget? (getSlot s slot.val).buckets n)
        ∧ jigOf u slot.val = { jigOf s slot.val with pc := (jigOf s slot.val).pc + 1 }
        ∧ (benchOf u slot.val).clock = (benchOf s slot.val).clock + 8)
    ∧ (∀ st, armStatus at_ slot.val d = some st →
      ∃ u, exec (.jigArm slot) s = .next (settled u slot.val) ∧ FaultTaken s u slot.val (jigFaultInfo s slot.val 0x0B st))

/-- R162 to R166, R172, R176: what raises an exception of the jig: an illegal opcode, a nonzero field that an instruction does not use,
REP before an instruction that is no push, LOOP on a zero counter, and an index beyond the constants or the cadence results.
R149, R178: a turn that reaches 2^24 schedule cycles raises TURN_OVERRUN, its QUEUE that of the arbiter. -/
def Obligations.JigExceptionsAndTurnOverrun : Prop :=
  (∀ (s : State) (slot : SlotId) (w : W64), JigAt s slot.val w →
      let raises (c : Instr) (cause : Nat) := ∃ u, exec c s = .next (settled u slot.val)
        ∧ FaultTaken s u slot.val (jigFaultInfo s slot.val cause 0)
      let forms : List (Nat × Instr × W64) :=
        regRows.map (fun r => (r.op, r.cmd slot, useR)) ++ immRows.map (fun r => (r.op, r.cmd slot, r.used))
          ++ branchRows.map (fun r => (r.op, r.cmd slot, useB)) ++ readRows.map (fun r => (r.op, r.cmd slot, r.used))
          ++ [(0x20, .jigAset slot, 0x0000000007FFE0FF#64), (0x21, .jigAadd slot, 0xFFFFFFFF078000FF#64),
              (0x24, .jigLset slot, 0xFFFFFFFF0783E0FF#64), (0x2E, .jigJmp slot, 0xFFFFFFFF000000FF#64),
              (0x2F, .jigLoop slot, 0xFFFFFFFF000C00FF#64), (0x33, .jigPace slot, useRaImm), (0x40, .jigRep slot, 0x000000000FFFFFFF#64),
              (0x50, .jigAwait slot, 0x00000000FFFF7FFF#64), (0x51, .jigAwaitY slot, 0x00000000FFFF7FFF#64), (0x52, .jigYield slot, 0xFF#64),
              (0x53, .jigArm slot, 0x1FFF#64), (0x54, .jigEnd slot, 0xFF#64), (0x55, .jigNop slot, 0xFF#64)]
      (∀ f ∈ forms, jOp w = f.1 → (jigOf s slot.val).rep.isSome = true → raises f.2.1 0x47)
      ∧ ((jigOf s slot.val).rep = none →
        (∀ f ∈ forms, jOp w = f.1 → w &&& ~~~f.2.2 ≠ 0 → raises f.2.1 0x41)
        ∧ (jOp w = 0x2F → w &&& ~~~0xFFFFFFFF000C00FF#64 = 0 → jL (jigOf s slot.val) (jLC w) = 0 → raises (.jigLoop slot) 0x48)
        ∧ (jOp w = 0x30 → w &&& ~~~useI = 0 → (constsOf s slot.val).length ≤ poolIndex s slot.val w → raises (.jigLdc slot) 0x4A)
        ∧ (jOp w = 0x32 → w &&& ~~~useI = 0 → poolIndex s slot.val w < 256 →
          tget? (jigOf s slot.val).results (poolIndex s slot.val w) = none → raises (.jigRdcad slot) 0x46)
        ∧ (∀ f ∈ branchRows, jOp w = f.op → w &&& ~~~useB = 0 →
          f.cond (jG (jigOf s slot.val) (jBA w)) (jG (jigOf s slot.val) (jBB w)) = true →
          (∀ n : Nat, (n : Int) = (jigOf s slot.val).pc + jOff w → ¬ InstrAt s slot.val n) → raises (f.cmd slot) 0x44))
      ∧ (jOp w ∈ [0x00, 0x0F, 0x19, 0x1F, 0x26, 0x27, 0x34, 0x3F, 0x47, 0x4F, 0x56, 0xFF] → raises (.jigIllegalOpcode slot) 0x40))
  ∧ (∀ (s : State) (slot : SlotId) (c : Nat), nextBench s slot.val = some (c, .overrun) →
      c = (benchOf s slot.val).turnStart + 2 ^ 24
      ∧ ∃ u, exec (.turnOverrun slot) s = .next (settled u slot.val)
        ∧ FaultTaken s u slot.val ⟨0x0E, 6, none, none, c, 0, 0, (jigOf s slot.val).pc, 0⟩)

/-- R144, R148, R154, R157: a segment begins with its base 32 cycles after its clock: of a slot that holds the bench for a token that is
there; and of the next ready slot when the bench is idle, which it takes with its account refilled, beginning its program at word 0
with every register at its reset value.
R145, R146, R173, R175: AWAIT holds the bench for its token, AWAIT.Y and YIELD stand at a yield point, END ends the program. -/
def Obligations.SegmentsBeginAndEnd : Prop :=
  (∀ (s : State) (slot : SlotId),
      (s.holder = some slot.val → (benchOf s slot.val).run = .holding → waitOver (getSlot s slot.val) = true →
        ∃ u, exec (.segmentBegin slot) s = .next (settled u slot.val) ∧ { u with slots := s.slots } = s
          ∧ (∀ k, k ≠ slot.val → getSlot u k = getSlot s k)
          ∧ getSlot u slot.val = { getSlot s slot.val with bench := { benchOf s slot.val with
              base := (benchOf s slot.val).clock + 32, startCycle := (benchOf s slot.val).clock, startTime := s.time
              segment := (benchOf s slot.val).segment + 1, run := .running, waitFor := none } })
      ∧ (s.holder = none → readyAfter s s.benchLast = some slot.val → (getSlot s slot.val).tan.passWaiting = false →
        canStart s (getSlot s slot.val) = true →
        ∃ u, exec (.segmentBegin slot) s = .next (settled u slot.val)
          ∧ { u with slots := s.slots, holder := s.holder, time := s.time } = s ∧ u.holder = some slot.val
          ∧ u.time = timeMask (s.time + 12)
          ∧ (∀ k, k ≠ slot.val → getSlot u k = getSlot s k)
          ∧ getSlot u slot.val = { getSlot s slot.val with
              bench := benchOf u slot.val, resident := (getSlot s slot.val).running
              step := { (getSlot s slot.val).step with started := true } }
          ∧ jigOf u slot.val = jigInit ∧ (jigOf u slot.val).pc = 0
          ∧ (benchOf u slot.val).v = [] ∧ (benchOf u slot.val).p = [] ∧ (benchOf u slot.val).srows = []
          ∧ (benchOf u slot.val).queue = [] ∧ (benchOf u slot.val).flight = []
          ∧ (benchOf u slot.val).run = .running ∧ (benchOf u slot.val).pass = false ∧ (benchOf u slot.val).segment = 0
          ∧ (benchOf u slot.val).clock = (benchOf s slot.val).clock ∧ (benchOf u slot.val).base = (benchOf s slot.val).clock + 32
          ∧ (benchOf u slot.val).account
              = min ((benchOf s slot.val).account + (((getSlot s slot.val).ob.benchWeight * 4096 : Nat) : Int))
                  (((getSlot s slot.val).ob.benchWeight * 65536 : Nat) : Int)))
  ∧ (∀ (s : State) (slot : SlotId) (w : W64), JigAt s slot.val w → (jigOf s slot.val).rep = none →
      (∀ x ∈ (benchOf s slot.val).past, x.cycle ≠ (benchOf s slot.val).clock) →
      (∀ tok, w &&& ~~~0x00000000FFFF7FFF#64 = 0 → tokenOf (jigOf s slot.val) w = some tok →
        tokenUnknown (getSlot s slot.val) tok = false →
        (jOp w = 0x50 → ∃ t, exec (.jigAwait slot) s = .next t ∧ SegmentEnds s t slot.val
          ∧ benchOf t slot.val = { benchOf s slot.val with
              jig := jigOf t slot.val, clock := (benchOf t slot.val).clock, run := .holding, segEnd := .await, waitFor := some tok }
          ∧ t.holder = some slot.val)
        ∧ (jOp w = 0x51 → ∃ t, exec (.jigAwaitY slot) s = .next t ∧ SegmentEnds s t slot.val ∧ YieldPoint s t slot.val
          ∧ (benchOf t slot.val).run = .yielded ∧ (benchOf t slot.val).waitFor = some tok))
      ∧ (w = 0x52 → ∃ t, exec (.jigYield slot) s = .next t ∧ SegmentEnds s t slot.val ∧ YieldPoint s t slot.val
          ∧ (benchOf t slot.val).run = .yielded ∧ (benchOf t slot.val).waitFor = none)
      ∧ (w = 0x54 → (benchOf s slot.val).pass = false →
          ∃ t, exec (.jigEnd slot) s = .next t ∧ SegmentEnds s t slot.val ∧ YieldPoint s t slot.val
            ∧ (benchOf t slot.val).run = .ended ∧ (getSlot t slot.val).step.programEnd = true))

/-- R182, R184: the integer, predicate and move commands write each lane that takes part and nothing else, and set no flag; BCAST.I
writes IMM in every lane.
R43, R136, R185 to R187, R191 to R194: the floating-point commands write each lane that takes part and nothing else, ready after
the latency of their class, and the slot's flags become the old ones and those of the lanes. CVT.TO in mode SR draws each lane's own
dither word. -/
def Obligations.LaneCommandsWriteEachLane : Prop :=
  ((∀ row ∈ plainRows, ∀ (s : State) (slot : SlotId) (x : Issue) (w : W64) (scalar : Option W64) (p : Sep),
      SepAt s slot.val x w scalar p → cOp w = row.op →
      let arg := laneArg s slot.val w scalar p
      ∃ u, exec (row.cmd slot) s = .next (settled u slot.val) ∧ SepRan s u slot.val x 4
        ∧ DestWritten s u slot.val w p (x.cycle + 4) (fun k => (arg k).on) (fun k => (row.f (sharedOf s slot.val w) (arg k)).1)
        ∧ (getSlot u slot.val).flags = (getSlot s slot.val).flags)
    ∧ ∀ (s : State) (slot : SlotId) (x : Issue) (w : W64) (p : Sep), SepAt s slot.val x w none p → cOp w = 0x17 →
      ∃ u, exec (.sepBcastI slot) s = .next (settled u slot.val) ∧ SepRan s u slot.val x 4
        ∧ DestWritten s u slot.val w p (x.cycle + 4) (fun _ => true) (fun _ => w.toNat / 2 ^ 32)
        ∧ (getSlot u slot.val).flags = (getSlot s slot.val).flags)
  ∧ (∀ (s : State) (slot : SlotId) (x : Issue) (w : W64) (scalar : Option W64) (p : Sep), SepAt s slot.val x w scalar p →
      let arg := laneArg s slot.val w scalar p
      let lat := (classTimes p.cls).2
      let runs (c : Instr) (r : Nat → Flagged Nat) := ∃ u, exec c s = .next (settled u slot.val) ∧ SepRan s u slot.val x lat
        ∧ DestWritten s u slot.val w p (x.cycle + lat) (fun k => (arg k).on) (fun k => (r k).1)
        ∧ (RegsOk (benchOf s slot.val) → FlagsOfLanes s u slot.val (fun k => (arg k).on) (fun k => (r k).2))
      (∀ row ∈ fp32Rows ++ fp64Rows ++ seedRows, cOp w = row.op →
        runs (row.cmd slot) (fun k => row.f (sharedOf s slot.val w) (arg k)))
      ∧ (cOp w = 0x20 → runs (.sepCvtTo slot) (fun k => cvtTo (cFmt w) (rmode (cRM w))
          (if cRM w = 4 then dither (getSlot s slot.val).ob.seed (progStep (getSlot s slot.val))
            (laneIndex s (getSlot s slot.val) w k) (cStream w) else 0)
          (getSlot s slot.val).ob.flush (arg k).a)))

/-- R189, R190, R205: LOAD and LOAD.D read staging into each lane that takes part, STORE and STORE.D write it, and SHSEL sets a
predicate to the sample bit of each tile's chunk. -/
def Obligations.StagingCommandsMoveEachLane : Prop :=
  ∀ (s : State) (slot : SlotId) (x : Issue) (w : W64) (p : Sep), SepAt s slot.val x w none p →
    let arg := laneArg s slot.val w none p
    let b := benchOf s slot.val
    let same (u : State) := (benchOf u slot.val).v = b.v ∧ (benchOf u slot.val).p = b.p ∧ (benchOf u slot.val).e = b.e
      ∧ (benchOf u slot.val).w = b.w ∧ (benchOf u slot.val).flight = b.flight
    (cOp w = 0x60 → ∃ u, exec (.sepLoad slot) s = .next (settled u slot.val) ∧ SepRan s u slot.val x 3
      ∧ DestWritten s u slot.val w p (x.cycle + 3) (fun k => (arg k).on) (fun k => (lget (rowPart b (swRow w) (swPart w)) k).toNat))
    ∧ (cOp w = 0x61 → ∃ u, exec (.sepLoadD slot) s = .next (settled u slot.val) ∧ SepRan s u slot.val x 3
      ∧ DestWritten s u slot.val w p (x.cycle + 3) (fun k => (arg k).on) (fun k => arrayElement b (swRow w) (swPart w) k))
    ∧ (cOp w = 0x62 → (sRow b (swRow w)).parts.length = 4 →
      ∃ u, exec (.sepStore slot) s = .next (settled u slot.val) ∧ SepRan s u slot.val x 3 ∧ same u
        ∧ (∀ r q k, q < 4 → k < 32768 → lget (rowPart (benchOf u slot.val) r q) k
            = if r = swRow w ∧ q = swPart w ∧ (arg k).on = true then BitVec.ofNat 32 (arg k).a else lget (rowPart b r q) k)
        ∧ (tget? (benchOf u slot.val).srows (swRow w)).map (fun r => r.ready) = some (x.cycle + 3))
    ∧ (cOp w = 0x63 → (sRow b (swRow w)).parts.length = 4 → (sRow b ((swRow w + 1) % 64)).parts.length = 4 →
      ∃ u, exec (.sepStoreD slot) s = .next (settled u slot.val) ∧ SepRan s u slot.val x 3 ∧ same u
        ∧ (∀ q k, q < 4 → k < 32768 → arrayElement (benchOf u slot.val) (swRow w) q k
            = if q = swPart w ∧ (arg k).on = true then (arg k).a else arrayElement b (swRow w) q k)
        ∧ (∀ r q k, r ≠ swRow w → r ≠ (swRow w + 1) % 64 → lget (rowPart (benchOf u slot.val) r q) k = lget (rowPart b r q) k)
        ∧ (tget? (benchOf u slot.val).srows (swRow w)).map (fun r => r.ready) = some (x.cycle + 3)
        ∧ (tget? (benchOf u slot.val).srows ((swRow w + 1) % 64)).map (fun r => r.ready) = some (x.cycle + 3))
    ∧ (cOp w = 0x64 → ∃ u, exec (.sepShsel slot) s = .next (settled u slot.val) ∧ SepRan s u slot.val x 4
      ∧ DestWritten s u slot.val w p (x.cycle + 4) (fun _ => true) (fun k =>
          match srcChunk (atCycle s slot.val x.cycle) (getSlot s slot.val) (sRow b (swRow w)).src (k / 256) with
          | none => 0
          | some g => if shadowSample (getSlot s slot.val).ob.jobId (progStep (getSlot s slot.val)) g
              (getSlot s slot.val).ob.shadowRate then 1 else 0))

/-- R197 to R200, R203: ECLR and WSET set an accumulator; MAXEXP and the exact sums take in every lane that takes part; the .ALL
forms and BARRIER.STEP put a launch in flight for T + 80, and an .ALL form's accumulator counts as not written.
R206, R219, R220: SHCHK counts the command, its lanes and the lanes that disagree, and posts one SHADOW record of the lowest of
them at T + 64; its place in the row is a free value (log entry 2). -/
def Obligations.AccumulatorAndShadowCommands : Prop :=
  (∀ (s : State) (slot : SlotId) (x : Issue) (w : W64) (scalar : Option W64) (p : Sep), SepAt s slot.val x w scalar p → cD w < 4 →
      let arg := laneArg s slot.val w scalar p
      let on (k : Nat) := (arg k).on
      let b := benchOf s slot.val
      let e (u : State) (n : Nat) := (benchOf u slot.val).e.getD n eAccInit
      let a (u : State) (n : Nat) := (benchOf u slot.val).w.getD n wAccInit
      let launch (opc : Nat) (own : CadPart) : Flight :=
        ⟨x.cycle + 80, x.cycle, .launch true opc (cGroup w) (cSW w) own none 0 x.pc b.segment⟩
      let runs (c : Instr) (lat : Nat) (q : State → Prop) := ∃ u, exec c s = .next (settled u slot.val) ∧ SepRan s u slot.val x lat
        ∧ (benchOf u slot.val).v = b.v ∧ (benchOf u slot.val).p = b.p ∧ (benchOf u slot.val).srows = b.srows
        ∧ (∀ n, n ≠ cD w → e u n = e s n ∧ a u n = a s n) ∧ q u
      (cOp w = 0x70 → runs (.sepEclr slot) 4 (fun u => (benchOf u slot.val).w = b.w ∧ (benchOf u slot.val).flight = b.flight
        ∧ e u (cD w) = { e s (cD w) with exp := expZero, nonFinite := false, written := true, ready := x.cycle + 4 }))
      ∧ (cOp w = 0x71 → ∀ v, scalar = some v →
        runs (.sepWset slot) 4 (fun u => (benchOf u slot.val).e = b.e ∧ (benchOf u slot.val).flight = b.flight
          ∧ a u (cD w) = ⟨0, toSigned 16 v.toNat, 0, 0, 0, false, false, true, x.cycle + 4, (a s (cD w)).busy⟩))
      ∧ (RegsOk b →
        (∀ c all, (c, all) ∈ [(Instr.sepMaxexp slot, false), (Instr.sepMaxexpAll slot, true)] → cOp w = (if all then 0x73 else 0x72) →
          let t := termOf s slot.val w scalar p (cRM w)
          runs c 80 (fun u => (benchOf u slot.val).w = b.w ∧ FlagsOfLanes s u slot.val on (termFlags s slot.val w scalar p (cRM w))
            ∧ (e u (cD w)).exp = ((lanesOf on).filterMap (fun k => expOf (t k))).foldl max (e s (cD w)).exp
            ∧ (e u (cD w)).nonFinite = ((e s (cD w)).nonFinite || (lanesOf on).any (fun k => (expOf (t k)).isNone))
            ∧ (e u (cD w)).busy = x.cycle + 80 ∧ (e u (cD w)).written = ((e s (cD w)).written && !all)
            ∧ (benchOf u slot.val).flight
                = b.flight ++ if all then [launch ocMaxExp (partExp (e u (cD w)).exp (e u (cD w)).nonFinite)] else []))
        ∧ (∀ c op kind, (c, op, kind) ∈ [(Instr.sepSum slot, 0x74, 0), (Instr.sepSumAll slot, 0x75, 0), (Instr.sepNorm slot, 0x76, 1),
              (Instr.sepNormAll slot, 0x77, 1), (Instr.sepDot slot, 0x78, 2), (Instr.sepDotAll slot, 0x79, 2)] → cOp w = op →
          let placed (k : Nat) := placeVal (windowBase (a s (cD w)).emax) (termOf s slot.val w scalar p kind k)
          let all : Bool := op % 2 == 1
          runs c 80 (fun u => (benchOf u slot.val).e = b.e ∧ FlagsOfLanes s u slot.val on (termFlags s slot.val w scalar p kind)
            ∧ a u (cD w) = { a s (cD w) with
                w := (a s (cD w)).w + BitVec.ofInt 128 ((lanesOf on).map (fun k => (placed k).grid)).sum
                count := satAdd 64 (a s (cD w)).count (lanesOf on).length
                floorHits := satAdd 32 (a s (cD w)).floorHits ((lanesOf on).filter (fun k => (placed k).floorHit)).length
                clamps := satAdd 32 (a s (cD w)).clamps ((lanesOf on).filter (fun k => (placed k).clamped)).length
                nonFinite := (a s (cD w)).nonFinite || (lanesOf on).any (fun k => (placed k).nonFinite)
                overWin := (a s (cD w)).overWin || (lanesOf on).any (fun k => match expOf (termOf s slot.val w scalar p kind k) with
                  | none => false
                  | some v => decide ((a s (cD w)).emax < v))
                busy := x.cycle + 80, written := (a s (cD w)).written && !all }
            ∧ (benchOf u slot.val).flight = b.flight ++ if all then [launch ocSumW128 (wOperand (a u (cD w)))] else [])))
      ∧ (cOp w = 0x7A → runs (.sepBarrierStep slot) 80 (fun u => (benchOf u slot.val).e = b.e ∧ (benchOf u slot.val).w = b.w
        ∧ (benchOf u slot.val).flight = b.flight ++ [launch ocBarrier partZero])))
  ∧ (∀ (s : State) (slot : SlotId) (x : Issue) (w : W64) (scalar : Option W64) (p : Sep),
      SepAt s slot.val x w scalar p → cOp w = 0x39 → RegsOk (benchOf s slot.val) →
      let arg := laneArg s slot.val w scalar p
      let sl := getSlot s slot.val
      let bad (k : Nat) : Bool := (arg k).on && !shadowAgree (arg k).a (arg k).b (cTol w) (toSigned 8 (cSW w))
      let n := (lanesOf bad).length
      ∃ u, exec (.sepShchk slot) s = .next (settled u slot.val) ∧ SepRan s u slot.val x (if n = 0 then 10 else 64)
        ∧ (benchOf u slot.val).v = sl.bench.v ∧ (benchOf u slot.val).p = sl.bench.p ∧ (benchOf u slot.val).srows = sl.bench.srows
        ∧ (benchOf u slot.val).e = sl.bench.e ∧ (benchOf u slot.val).w = sl.bench.w ∧ (getSlot u slot.val).flags = sl.flags
        ∧ (getSlot u slot.val).watch = { sl.watch with
            shchk := inc32 sl.watch.shchk, lanes := satAdd 64 sl.watch.lanes (lanesOf (fun k => (arg k).on)).length
            disCmds := if n = 0 then sl.watch.disCmds else inc32 sl.watch.disCmds, disLanes := satAdd 64 sl.watch.disLanes n }
        ∧ match (lanesOf bad).head? with
          | none => (benchOf u slot.val).flight = sl.bench.flight
          | some k => ∃ row : Nat, (benchOf u slot.val).flight = sl.bench.flight ++ [⟨x.cycle + 64, x.cycle, .shadow
              (watchRecord { sl with step := { sl.step with num := progStep sl } } { watchKind 1 with
                count := n, index := 256 * row + k % 256, pc := x.pc, block := x.blockIdx
                cycle := ofSigned 24 ((x.cycle : Int) - sl.bench.base), segment := sl.bench.segment
                aValue := (arg k).a, bValue := (arg k).b })⟩])

/-- R139, R141, R142, R178, R535: a Septone command whose operand is not ready, or whose destination is still being written or read,
does not run: SCHEDULE_FAULT with the first cause, in the record its queue, operand, cycle and instruction, and the step aborts.
R131, R139, R140, R535: what stops an issue of an engine: a row or plane out of range, an operand that is not ready, a write that
is pending on the row, and on a tile a chunk already servable or a line not rounded. -/
def Obligations.AuditAndEngineChecksRaiseScheduleFault : Prop :=
  (∀ row ∈ plainRows ++ fp32Rows ++ fp64Rows ++ seedRows,
      ∀ (s : State) (slot : SlotId) (x : Issue) (w : W64) (scalar : Option W64) (p : Sep) (cause : Nat) (o : Option Nat),
      nextIssue s slot.val = some x → x.op = .bench w scalar → x.q = .bench → sepOf w = some p → cOp w = row.op →
      audit (benchOf s slot.val) x.cycle (sepReads p w scalar.isSome) (sepWrites p w) = some (cause, o) →
      ∃ u, exec (row.cmd slot) s = .next (settled u slot.val)
        ∧ FaultTaken s u slot.val ⟨cause, 0, none, o, x.cycle, x.blockIdx, x.repIdx, x.pc, 0⟩)
  ∧ (∀ (s s' : State) (slot : SlotId) (x : Issue), IssueAt s slot.val x s' →
      let sl := getSlot s slot.val
      let raises (c : Instr) (cause : Nat) (tile operand : Option Nat) := ∃ u, exec c s = .next (settled u slot.val)
        ∧ FaultTaken s u slot.val ⟨cause, queueRank x.q, tile, operand, x.cycle, x.blockIdx, x.repIdx, x.pc, 0⟩
      (∀ a p r srow, x.op = .moveIn a p r srow →
        (rowRange s' sl (areaOf a) p r = true → raises (.moveIn slot) 0x0C none none)
        ∧ (rowRange s' sl (areaOf a) p r = false → ∀ c o, audit sl.bench x.cycle [] [.s srow] = some (c, o) →
          raises (.moveIn slot) c none o)
        ∧ (rowRange s' sl (areaOf a) p r = false → audit sl.bench x.cycle [] [.s srow] = none →
          pendingWrite sl.bench (fun b q k => b == areaOf a && q == p && k == r) = true →
          ∀ t, (liveTiles s' sl (areaOf a) r).head? = some t → raises (.moveIn slot) 0x08 (some t) none))
      ∧ (∀ a p r srow, x.op = .moveOut a p r srow → rowRange s' sl (areaOf a) p r = true → raises (.moveOut slot) 0x0C none none)
      ∧ (∀ r srow, x.op = .drain r srow → rowRange s' sl .primary 0 r = false → audit sl.bench x.cycle [] [.s srow] = none →
        ∀ t, (liveTiles s' sl .primary r).find? (fun t => (tileResults s' sl r t).isNone) = some t →
          raises (.drain slot) 0x09 (some t) none)
      ∧ (∀ r, x.op = .emitServe r → rowRange s' sl .primary 0 r = true → raises (.emitServe slot) 0x0C none none))

/-- R128, R131, R133, R139, R140: MOVE.IN fills a staging row from HBM at T + 1,000, DRAIN from the rounded results at T + 64; MOVE.OUT
takes a staging row to be written at T + 1,000 and makes a primary row dirty; EMIT.STATE ships one and EMIT.SERVE makes a row's
chunks servable at T + 64. -/
def Obligations.EngineCommandsIssue : Prop :=
  ∀ (s s' : State) (slot : SlotId) (x : Issue), IssueAt s slot.val x s' →
    let sl := getSlot s slot.val
    (∀ a p r srow, x.op = .moveIn a p r srow → rowRange s' sl (areaOf a) p r = false →
      audit sl.bench x.cycle [] [.s srow] = none →
      pendingWrite sl.bench (fun b q k => b == areaOf a && q == p && k == r) = false →
      ∃ u, exec (.moveIn slot) s = .next (settled u slot.val) ∧ EngineRan s u slot.val x 1000 .moveIn
        ∧ getSlot u slot.val = { sl with bench := benchOf u slot.val }
        ∧ RowFilled s u slot.val srow (x.cycle + 1000) (liveTiles s' sl (areaOf a) r)
            (fun t => rowRead s' slot.val (areaOf a) t r p))
    ∧ (∀ r srow, x.op = .drain r srow → rowRange s' sl .primary 0 r = false → audit sl.bench x.cycle [] [.s srow] = none →
      (∀ t ∈ liveTiles s' sl .primary r, (tileResults s' sl r t).isSome = true) →
      ∃ u, exec (.drain slot) s = .next (settled u slot.val) ∧ EngineRan s u slot.val x 64 (.drain r)
        ∧ getSlot u slot.val = { sl with bench := benchOf u slot.val }
        ∧ RowFilled s u slot.val srow (x.cycle + 64) (liveTiles s' sl .primary r) (fun t => (tileResults s' sl r t).getD []))
    ∧ (∀ a p r srow, x.op = .moveOut a p r srow → rowRange s' sl (areaOf a) p r = false →
      audit sl.bench x.cycle [.s srow] [] = none →
      (areaOf a = .primary → isMaster sl p = true → sl.bench.pass = false → ∀ g ∈ chunksOfRow s' slot.val r, g ∉ sl.servable) →
      ∃ u, exec (.moveOut slot) s = .next (settled u slot.val)
        ∧ EngineRan s u slot.val x 1000 (.moveOut a p r (sRow sl.bench srow).parts)
        ∧ getSlot u slot.val = { sl with
            bench := benchOf u slot.val, step := (getSlot u slot.val).step, tan := (getSlot u slot.val).tan }
        ∧ (tget? (benchOf u slot.val).srows srow).map (fun y => y.busy) = some (x.cycle + 16)
        ∧ (areaOf a = .primary → ∀ g ∈ chunksOfRow s' slot.val r, (g, p) ∈ (getSlot u slot.val).tan.dirty))
    ∧ (∀ p r srow, x.op = .emitState p r srow → rowRange s' sl .primary p r = false → audit sl.bench x.cycle [.s srow] [] = none →
      ∃ u, exec (.emitState slot) s = .next (settled u slot.val)
        ∧ EngineRan s u slot.val x 64 (.ship p r (sRow sl.bench srow).parts)
        ∧ getSlot u slot.val = { sl with bench := benchOf u slot.val }
        ∧ (tget? (benchOf u slot.val).srows srow).map (fun y => y.busy) = some (x.cycle + 16))
    ∧ (∀ r, x.op = .emitServe r → rowRange s' sl .primary 0 r = false →
      pendingWrite sl.bench (fun b q k => b == .primary && isMaster sl q && k == r) = false →
      ∃ u, exec (.emitServe slot) s = .next (settled u slot.val) ∧ EngineRan s u slot.val x 64 (.serve r)
        ∧ getSlot u slot.val = { sl with bench := benchOf u slot.val } ∧ (benchOf u slot.val).srows = sl.bench.srows)

/-- R72, R105, R114, R133, R138, R140: what completes later: a MOVE.IN's data and a MOVE.OUT's write at T + 1,000, or MEM_LATE aborts
the step; the chunks of an EMIT.SERVE become servable and the reads of a DRAIN count at T + 64. -/
def Obligations.EngineEffectsFallDue : Prop :=
  ∀ (s : State) (slot : SlotId) (tile : TileId) (f : Flight), nextFlight s slot.val = some f →
    let due := dueFlight s slot.val f
    (getSlot due slot.val = { getSlot s slot.val with bench := { benchOf s slot.val with flight := (benchOf s slot.val).flight.erase f } }
      ∧ { due with slots := s.slots, time := s.time } = s)
    ∧ (f.op = .moveIn → exec (.moveInDone slot tile false) s = .next (settled due slot.val))
    ∧ (∀ a p r parts, f.op = .moveOut a p r parts →
      ∃ u, exec (.moveOutDone slot tile false) s = .next (settled u slot.val) ∧ { u with hbm := due.hbm } = due
        ∧ { u.hbm with mem := due.hbm.mem, bad := due.hbm.bad } = due.hbm
        ∧ (∀ t, liveTiles due (getSlot due slot.val) (areaOf a) r = [t] →
          u = rowWrite due slot.val (areaOf a) t r p (rowOfParts parts t)))
    ∧ (∀ late : Instr, (f.op = .moveIn ∧ late = .moveInDone slot tile true)
        ∨ (∃ a p r parts, f.op = .moveOut a p r parts ∧ late = .moveOutDone slot tile true) →
      (getSlot s slot.val).step.st = .dryFit → (getSlot s slot.val).bench.pass = false →
      ∃ u, exec late s = .next (settled u slot.val) ∧ StepAborted s u slot.val 2 (selfId s)
        ∧ (getSlot u slot.val).memLate = inc32 (getSlot s slot.val).memLate)
    ∧ (∀ r, f.op = .serve r → ∃ u, exec (.chunkServable slot) s = .next (settled u slot.val)
      ∧ (∀ g ∈ chunksOfRow due slot.val r, g ∈ (getSlot u slot.val).servable)
      ∧ (∀ g ∈ (getSlot s slot.val).servable, g ∈ (getSlot u slot.val).servable))
    ∧ (∀ r, f.op = .drain r → ∃ u, exec (.drainRead slot) s = .next (settled u slot.val)
      ∧ ∀ g b j, chunksOfRow due slot.val r = [g] → chunkAt (getSlot s slot.val) g = some (b, j) →
        u = settleRounded (modChunk due slot.val b j (fun c => { c with drainRead := true })) slot.val b j)

/-- R133, R201, R232, R235, R237: a launch that falls due takes its group's next sequence number. On a device that is the whole tree
the operation completes at once, with its result entry written; on a leaf the operand goes up to the parent. -/
def Obligations.CadenceOperationsLaunch : Prop :=
  ∀ (s : State) (slot : SlotId) (f : Flight) (fused : Bool) (opc gid tag : Nat) (own : CadPart) (own1 : Option Nat)
    (d pc seg : Nat) (g : GroupSet) (v : GroupVer) (c : Instr),
    nextFlight s slot.val = some f → f.op = .launch fused opc gid tag own own1 d pc seg →
    (if fused then c = .fusedCollectiveLaunch slot else ∃ r ∈ cadenceRows, r.1 = opc ∧ c = r.2 slot) →
    tget? (getSlot s slot.val).groups gid = some g → cadGroup (getSlot s slot.val) gid = some v → geGroupId v = gid → geRelay v = false →
    findCtx (getSlot s slot.val) gid false g.opSeq = none → cadKids v = [] →
    let sl := getSlot s slot.val
    let due := dueFlight s slot.val f
    let window := usNs (if d = 0 then geCadDeadline v else d)
    let x : CadCtx := { newCtx v false g.opSeq opc due.time with
      launched := true, tag := some tag, own := some own, own1 := own1, deadline := window, upSent := true }
    (geCadRoot v = true → opc ≠ 0x08 → 0 < window →
      ∃ u, exec c s = .next (settled u slot.val)
        ∧ tget? (jigOf u slot.val).results tag = some (BitVec.ofNat 64 (resultEntry sl.ob.flush opc own).1)
        ∧ tag ∉ (jigOf u slot.val).busy
        ∧ (∀ k, k ≠ tag → tget? (jigOf u slot.val).results k = tget? (jigOf s slot.val).results k)
        ∧ (getSlot u slot.val).cadRec = { sl.cadRec with launched := inc32 sl.cadRec.launched, completed := inc32 sl.cadRec.completed }
        ∧ (tget? (getSlot u slot.val).groups gid).map (fun g => g.opSeq) = some ((g.opSeq + 1) % 65536)
        ∧ CtxIn u slot.val { x with done := true })
    ∧ (geCadRoot v = false → (getSpoke s (geCadParent v)).st = 2 →
      ∃ u, exec c s = .next (settled u slot.val)
        ∧ u.out = s.out ++ [sentOn s (geCadParent v) (cadSymbol opc)
            (cadBody (ctxMsg sl v x 1 0 (partBytes opc 0 own) sl.step.num sl.step.attempt))]
        ∧ (jigOf u slot.val).results = (jigOf s slot.val).results
        ∧ (tget? (getSlot u slot.val).groups gid).map (fun g => g.opSeq) = some ((g.opSeq + 1) % 65536)
        ∧ CtxIn u slot.val x)

/-- R234, R237, R239, R240, R244: an UP of a child is combined, and with the last one the total goes up; a DOWN of the parent writes the
result and posts its token; a FAIL fails the operation and aborts the step with CADENCE_FAILURE.
R239, R241, R244: the operation whose window ends first fails with CAD_DEADLINE, recorded, and the step aborts; a message held for
a newer step is dropped and counted when its time ends. -/
def Obligations.CadenceMessagesAndTimers : Prop :=
  (∀ (s : State) (rx : SpokeRx) (i typ : Nat) (m : CadMsg) (v : GroupVer) (x : CadCtx),
      CadCurrent s rx i typ m v → OpenCtx s i m x →
      let sl := getSlot s i
      let link := rx.link.val
      let part := partOfBytes m.opc m.phase m.payload
      (typ = 1 → link ∈ cadKids v → (∀ e ∈ x.ups, e.1 ≠ link) →
        (partKind m.opc m.phase = .sum → ∀ q ∈ x.own.toList ++ x.ups.map Prod.snd, q.emax = part.emax) →
        let y := { x with ups := x.ups ++ [(link, part)] }
        ((∃ k ∈ cadKids v, ∀ e ∈ y.ups, e.1 ≠ k) → ∃ t, exec (.cadenceUp rx) s = .next t ∧ CtxIn t i y ∧ t.out = s.out)
        ∧ ((∀ k ∈ cadKids v, ∃ e ∈ y.ups, e.1 = k) → x.launched = true → x.upSent = false → geCadRoot v = false →
          (getSpoke s (geCadParent v)).st = 2 → ∀ o, x.own = some o →
          let total := y.ups.foldl (fun a e => combinePart x.opc x.phase a e.2) o
          ∃ t, exec (.cadenceUp rx) s = .next t ∧ CtxIn t i { y with upSent := true }
            ∧ t.out = s.out ++ [sentOn s (geCadParent v) (cadSymbol x.opc)
                (cadBody (ctxMsg sl v x 1 x.phase (partBytes x.opc x.phase total) sl.step.num sl.step.attempt))]))
      ∧ (typ = 2 → geCadRoot v = false → geCadParent v = link → cadKids v = [] → m.window = false → s.time < x.start + x.deadline →
        (m.opc = 0x08 → m.phase = 1) → x.upSent = true →
        ∃ t, exec (.cadenceDown rx) s = .next t
          ∧ tget? (jigOf t i).results (x.tag.getD 0) = some (BitVec.ofNat 64 (resultEntry sl.ob.flush x.opc part).1)
          ∧ x.tag.getD 0 ∉ (jigOf t i).busy ∧ CtxIn t i { x with done := true }
          ∧ (getSlot t i).cadRec.completed = inc32 sl.cadRec.completed)
      ∧ (typ = 3 → link ∈ cadLinks v →
        ∃ t, exec (.cadenceFail rx) s = .next t ∧ StepAborted s t i 5 (selfId s)))
  ∧ (∀ (s : State) (slot : SlotId),
      let sl := getSlot s slot.val
      (∀ x v, firstDue sl = some x → cadGroup sl x.group = some v → geRelay v = false → sl.step.st = .dryFit →
        ∃ t, exec (.cadenceDeadline slot) s = .next t ∧ StepAborted s t slot.val 5 (selfId s)
          ∧ t.time = timeMask (max s.time (x.start + x.deadline)))
      ∧ (∀ x rest, sl.cadHeld = x :: rest → (∀ y ∈ rest, x.until_ ≤ y.until_) →
        ∃ t, exec (.cadenceHeldExpiry slot) s = .next t ∧ { t with slots := s.slots, time := s.time } = s
          ∧ t.time = timeMask (max s.time x.until_)
          ∧ (∀ k, k ≠ slot.val → getSlot t k = getSlot s k)
          ∧ getSlot t slot.val = { sl with
              cadHeld := rest, cadRec := { sl.cadRec with staleDropped := inc32 sl.cadRec.staleDropped } }))

/-- R70, R71, R75, R93: an accepted contribution sets its member's bit and adds the placed value of every element to the line, with the
counts of its placement; a HELD one is parked while the window is not known; a refused one changes no chunk.
R75, R81, R82, R93: an accepted partial is added into its line element by element, with the counts it carries; its PART is marked,
and the segment digest of its port takes its CRC. -/
def Obligations.ContributionsAndPartialsAreAdded : Prop :=
  (∀ (s s1 : State) (rx : RxFrame) (h : Hdr) (i : Nat) (b : Bucket) (c : Chunk), Admitted tContribute s rx h i s1 →
      let sl := getSlot s1 i
      let p := rx.port.val
      let units := unitsOf rx.payload.length
      stalledBy sl p h.bucket = false → armedBucket sl h.bucket = some b → tget? b.chunks h.chunk = some c → LineOk c →
      (contribHead sl h p = none → bdMode b.desc ≠ 1 → contribTail sl h p units = .place → ∀ e, b.emax = some e →
        let img := placeImage sl.ob.flush e h.format rx.payload
        ∃ t c', exec (.contribute rx) s = .next t ∧ chunkOf t i h.bucket h.chunk = some c'
          ∧ c' = { c with bitmap := c.bitmap ||| 2 ^ p, line := c'.line, floorHits := satAdd 32 c.floorHits img.floorHits
                          clamps := satAdd 32 c.clamps img.clamps, contributors := satAdd 32 c.contributors 1
                          overWin := c.overWin || img.overWin, nonFinite := c.nonFinite || img.nonFinite }
          ∧ (∀ k, k < 1024 → lineWord c' k = lineWord c k + BitVec.ofInt 128 (img.grids.getD k 0))
          ∧ OtherChunksSame s1 t i h.bucket h.chunk ∧ (getSlot t i).flags = sl.flags ||| img.flags)
      ∧ (contribHead sl h p = none → bdMode b.desc = 1 → contribTail (getSlot (recordHeld s1 i p h) i) h p units = .park →
        (∃ q ∈ bucketPorts sl b, q ≠ p ∧ tget? b.proposals q = none) →
        ∃ t c', exec (.contribute rx) s = .next t ∧ chunkOf t i h.bucket h.chunk = some c'
          ∧ c' = { c with bitmap := c.bitmap ||| 2 ^ p, parked := c.parked ++ [⟨p, h.format, rx.payload, units⟩] }
          ∧ OtherChunksSame s1 t i h.bucket h.chunk)
      ∧ (∀ r, contribHead sl h p = some r → (getPort s1 p).cfg.trunk = false →
        ∃ t, exec (.contribute rx) s = .next t ∧ ∀ j, chunkOf t i h.bucket j = chunkOf s1 i h.bucket j))
  ∧ (∀ (s s1 : State) (rx : RxFrame) (h : Hdr) (i : Nat) (b : Bucket) (c : Chunk), Admitted tAccumulate s rx h i s1 →
      let sl := getSlot s1 i
      let p := rx.port.val
      partialCheck sl h p = none → getChunk sl h.bucket h.chunk = some (b, c) → LineOk c →
      let g := partialGrids sl.ob.flush (b.emax.getD expZero) h rx.payload
      let at_ := if hAccPart h = 2 then 512 else 0
      (if hAccPart h = 0 then g.grids.length = 1024 else g.grids.length = 512) →
      ∃ t c', exec (.accumulate rx) s = .next t ∧ chunkOf t i h.bucket h.chunk = some c'
        ∧ c' = { c with line := c'.line, ua := c.ua || hAccPart h != 2, ub := c.ub || hAccPart h != 1
                        floorHits := satAdd 32 c.floorHits (hAccFloor h + g.floorHits)
                        clamps := satAdd 32 c.clamps (hAccClamps h + g.clamps)
                        contributors := satAdd 32 c.contributors (hAccContrib h)
                        overWin := c.overWin || hAccOver h || g.overWin, nonFinite := c.nonFinite || hAccNonFinite h || g.nonFinite }
        ∧ (∀ k, k < 1024 → lineWord c' k = lineWord c k
            + if at_ ≤ k ∧ k < at_ + g.grids.length then BitVec.ofInt 128 (g.grids.getD (k - at_) 0) else 0)
        ∧ OtherChunksSame s1 t i h.bucket h.chunk
        ∧ (tget segInit (getSlot t i).step.ringPorts p).got = (tget segInit sl.step.ringPorts p).got + 1
        ∧ (tget segInit (getSlot t i).step.ringPorts p).gotDigest = (tget segInit sl.step.ringPorts p).gotDigest ^^^ crc64 rx.payload)

/-- R65, R68, R72, R78: a member's proposal is recorded and waits for the others; a chunk whose expected set is full goes from OPEN to
COMPLETE, and nothing else changes; any other chunk stays.
R72, R95, R270: at the end of a bucket's window a chunk that is not past OPEN aborts the step with REDUCTION_DEADLINE; with none
only time passes. -/
def Obligations.ProposalsCompletionAndDeadlines : Prop :=
  ((∀ (s s1 : State) (rx : RxFrame) (h : Hdr) (i : Nat) (b : Bucket), Admitted tWindow s rx h i s1 →
      let p := rx.port.val
      proposalCheck (getSlot s1 i) h p = none → armedBucket (getSlot s1 i) h.bucket = some b →
      (∃ q ∈ bucketPorts (getSlot s1 i) b, q ≠ p ∧ tget? b.proposals q = none) →
      ∃ t, exec (.windowProposal rx) s = .next t
        ∧ tget? (getSlot t i).buckets h.bucket = some { b with proposals := tset b.proposals p (toSigned 16 h.window) }
        ∧ (∀ n, n ≠ h.bucket → tget? (getSlot t i).buckets n = tget? (getSlot s1 i).buckets n))
    ∧ ∀ (s : State) (slot : SlotId) (bucket chunk : W16) (b : Bucket) (c : Chunk),
        getChunk (getSlot s slot.val) bucket.toNat chunk.toNat = some (b, c) → c.st = .open_ →
        chunkFull (getSlot s slot.val) b c = true →
        ∃ t, exec (.placementComplete slot bucket chunk) s = .next t ∧ { t with slots := s.slots } = s
          ∧ (∀ k, k ≠ slot.val → getSlot t k = getSlot s k)
          ∧ getSlot t slot.val = { getSlot s slot.val with buckets := (getSlot t slot.val).buckets }
          ∧ chunkOf t slot.val bucket.toNat chunk.toNat = some { c with st := .complete }
          ∧ OtherChunksSame s t slot.val bucket.toNat chunk.toNat)
  ∧ (∀ (s : State) (slot : SlotId) (bucket : W16) (b : Bucket), armedBucket (getSlot s slot.val) bucket.toNat = some b →
      let due := b.armTime + usNs (bdDeadline b.desc)
      ((∃ e ∈ b.chunks, e.2.st = .armed ∨ e.2.st = .open_) → (getSlot s slot.val).step.st = .dryFit →
        (∀ p ∈ bucketPorts (getSlot s slot.val) b, stalledBy (getSlot s slot.val) p bucket.toNat = false) →
        ∃ t, exec (.bucketDeadline slot bucket) s = .next t ∧ StepAborted s t slot.val 3 (selfId s)
          ∧ t.time = timeMask (max s.time due))
      ∧ ((∀ e ∈ b.chunks, e.2.st ≠ .armed ∧ e.2.st ≠ .open_) →
        exec (.bucketDeadline slot bucket) s = .next { s with time := timeMask (max s.time due) }))

/-- R72, R80, R85, R86, R90: a COMPLETE chunk that another device owns is SENDING once its buffers are granted, its payloads queued on
the trunk in C2 with their parts; without a buffer it stays COMPLETE and waits. A part that was turned away is queued again.
R72, R76, R77, R89, R93: a COMPLETE chunk that this device owns is rounded once: every element of its line becomes an FP32 word by
round to nearest even, or the canonical NaN of a chunk that is not finite; and the CRC of the results is formed. -/
def Obligations.PartialsAreSentAndChunksRounded : Prop :=
  (∀ (s s1 : State) (slot : SlotId) (bucket chunk : W16) (x : Bucket) (c : Chunk) (p : Nat),
      let i := slot.val
      let sl := getSlot s i
      let g := bdChunkIndex x.desc chunk.toNat
      let pt := partialOf sl x chunk.toNat c
      getChunk sl bucket.toNat chunk.toNat = some (x, c) → partialPort sl x g = some p → isOwner s sl x = false →
      (∀ granted, c.st = .complete → requestAll s (tileOfChunk g) i 2 (ownerEncoder (tileOfChunk g)) pt.2.1 = (some granted, s1) →
        pt.2.2.2 = [] → (getPort s p).up = true → (getPort s p).dropSlots = [] →
        ∃ t fs, exec (.partialSend slot bucket chunk) s = .next t
          ∧ chunkOf t i bucket.toNat chunk.toNat = some { c with st := .sending, parts := pt.2.1.map Prod.fst, acked := [] }
          ∧ (getPort t p).tx.queues.getD 2 [] = (getPort s p).tx.queues.getD 2 [] ++ fs
          ∧ ((getPort s p).tx.queues.length = 5 → fs.map (fun f => f.payload) = granted.map (fun e => e.2.1)
              ∧ ∀ f ∈ fs, f.h.typ = tAccumulate ∧ f.h.cls = 2 ∧ f.h.bucket = bdBucket x.desc ∧ f.h.chunk = chunk.toNat)
          ∧ (tget segInit (getSlot t i).step.ringPorts p).sent = (tget segInit sl.step.ringPorts p).sent + pt.2.1.length)
      ∧ (c.st = .complete → requestAll s (tileOfChunk g) i 2 (ownerEncoder (tileOfChunk g)) pt.2.1 = (none, s1) →
        ∃ t, exec (.partialSend slot bucket chunk) s = .next t ∧ chunkOf t i bucket.toNat chunk.toNat = some c
          ∧ Waiter.encoder i bucket.toNat chunk.toNat 0 ∈ t.fab.waiters.map Prod.fst)
      ∧ (∀ part at_ e buf, c.st = .sending → sl.step.st = .dryFit → c.resend = [(part, at_)] →
        pt.2.1.find? (fun e => e.1 == part) = some e →
        poolRequest (timeTo s at_) (tileOfChunk g) i 2 e.2.length (ownerEncoder (tileOfChunk g)) = (.ok buf, s1) →
        ∃ t, exec (.partialResend slot bucket chunk) s = .next t
          ∧ chunkOf t i bucket.toNat chunk.toNat = some { c with resend := [] }
          ∧ t.time = timeMask (max s.time at_)))
  ∧ (∀ (s : State) (slot : SlotId) (bucket chunk : W16) (x : Bucket) (c : Chunk),
      let i := slot.val
      let sl := getSlot s i
      getChunk sl bucket.toNat chunk.toNat = some (x, c) → c.st = .complete → isOwner s sl x = true → LineOk c →
      ∃ t c', exec (.chunkRound slot bucket chunk) s = .next t ∧ chunkOf t i bucket.toNat chunk.toNat = some c'
        ∧ c'.st = .rounded ∧ c'.line = c.line ∧ c'.bitmap = c.bitmap ∧ c'.results.length = 1024
        ∧ (∀ k, k < 1024 → c'.results.getD k 0 =
            if c.nonFinite then 0x7FC00000
            else if lineWord c k = 0 then 0
            else BitVec.ofNat 32 (roundW128 (lineWord c k) (windowBase (x.emax.getD expZero)) fmtFp32 .rne 0 sl.ob.flush).1)
        ∧ c'.crc = crc64 (bytesOfWords 4 (c'.results.map BitVec.toNat))
        ∧ (getSlot t i).step.roundedChunks = inc32 sl.step.roundedChunks
        ∧ OtherChunksSame s t i bucket.toNat chunk.toNat
        ∧ (sl.tan.partner = none → c.stateSent = false → c'.stateAcked = true)
        ∧ (x.abandoned = false → x.tokenPosted = false → (∀ e ∈ x.chunks, e.1 = chunk.toNat ∨ chunkDone e.2 = true) →
            (x.chunks.map Prod.fst).Nodup → Token.bucket bucket.toNat ∈ (getSlot t i).tokens))

/-- R364, R373: a class frame that is admitted has passed the checks in their order: a sound header, the expected SEQ, its fields, its
addresses, an OPEN slot of its job and generation, and its FCS. SEQ advances and an acknowledgment is owed; nothing else changes but
the port, the trace, and the slot's pools and windows.
R364, R365, R373: a frame with an unsound header or a SEQ above the expected one begins recovery with one NACK REPLAY, and further
ones in recovery are only discarded; a SEQ below is a duplicate. The expected SEQ does not move. -/
def Obligations.FramesAreAdmittedOrDiscarded : Prop :=
  (∀ (typ : Nat) (s s1 : State) (rx : RxFrame) (h : Hdr) (i : Nat), Admitted typ s rx h i s1 →
      let p := rx.port.val
      let q := getPort s p
      h = hdrDecode rx.hdr ∧ h.typ = typ ∧ q.up = true ∧ ¬ HeaderUnsound rx ∧ seqCheck q.rx.expSeq h.seq = .expected
        ∧ protocolDetail h rx.payload.length = none ∧ addrCheck s p h = .good ∧ slotOfJob s h.job = some i
        ∧ (getSlot s i).st = .open_ ∧ h.gen = (getSlot s i).gen ∧ portExpelled s i p = false ∧ rx.payBad = false
        ∧ rx.fcs = fcsOf rx.payload
        ∧ (getPort s1 p).rx.expSeq = (q.rx.expSeq + 1) % 2 ^ 32 ∧ (getPort s1 p).rx.ackOwed = true
        ∧ (getPort s1 p).rx.inRecovery = false
        ∧ { s1 with ports := s.ports, slots := s.slots, trc := s.trc } = s
        ∧ (∀ k, getSlot s1 k = { getSlot s k with pools := (getSlot s1 k).pools, winRx := (getSlot s1 k).winRx })
        ∧ (∀ k, k ≠ p → getPort s1 k = getPort s k))
  ∧ (∀ (s : State) (rx : RxFrame),
      let p := rx.port.val
      let q := getPort s p
      let h := hdrDecode rx.hdr
      q.up = true → (HeaderUnsound rx ∨ h.cls ≠ 7) →
      ((HeaderUnsound rx ∨ seqCheck q.rx.expSeq h.seq = .above) →
        (q.rx.inRecovery = false → (q.rx.recWindow ≠ s.time / 1000000 ∨ q.rx.recInWindow ≠ 16) →
          ∃ t, exec (.corruptFrame rx) s = .next t ∧ RecoveryBegins s t p)
        ∧ (q.rx.inRecovery = true → ∃ t, exec (.corruptFrame rx) s = .next t
          ∧ getPort t p = { q with cnt := { q.cnt with recoveryDiscards := inc32 q.cnt.recoveryDiscards } }))
      ∧ (¬ HeaderUnsound rx → seqCheck q.rx.expSeq h.seq = .below →
        ∃ t, exec (.corruptFrame rx) s = .next t ∧ (getPort t p).cnt.dupSeq = inc32 q.cnt.dupSeq ∧ (getPort t p).rx = q.rx))

/-- R306, R310, R363, R364, R367: at a frame boundary a port sends a waiting link frame first, with its LSEQ and LACK; else, of the class
that is next in turn and covered by its deficit and its credits, the head frame with the next SEQ, kept until it is acknowledged. -/
def Obligations.PortsSendFrames : Prop :=
  ∀ (s : State) (port : PortId),
    let p := port.val
    let q := getPort s p
    q.helloSent = true → q.idleTx = false →
    (∀ f rest, q.tx.linkWait = f :: rest →
      let h := { f.h with seq := q.tx.nextLseq, lack := q.rx.expLseq }
      ∃ t, exec (.frameSend port) s = .next t ∧ t.out = s.out ++ [.frame p (hdrEncode h) f.payload f.fcs]
        ∧ (getPort t p).tx.linkWait = rest ∧ (getPort t p).tx.nextLseq = (q.tx.nextLseq + 1) % 2 ^ 32
        ∧ (getPort t p).tx.linkUnacked = q.tx.linkUnacked ++ [{ f with h := h, sentAt := s.time }]
        ∧ (getPort t p).rx.linkAckOwed = false ∧ t.slots = s.slots)
    ∧ (∀ f, q.tx.linkWait = [] → q.up = true → q.tx.replayAt = none → q.tx.queues.length = 5 → q.tx.deficit.length = 5 →
      let c := (q.tx.cur + 1) % 5
      headFrame q c = some f → creditsCover s p c f = true → unitsOf f.payload.length ≤ natAt q.tx.deficit c → f.h.cls = c →
      let waiting := queueUnits q c
      let h := { f.h with seq := q.tx.nextSeq, mark := decide ((q.ks.getD c kSetInit).k < waiting), lack := 0 }
      f ∈ q.tx.queues.getD c [] →
      ∃ t, exec (.frameSend port) s = .next t ∧ t.out = s.out ++ [.frame p (hdrEncode h) f.payload f.fcs]
        ∧ (getPort t p).tx.nextSeq = (q.tx.nextSeq + 1) % 2 ^ 32
        ∧ (getPort t p).tx.unacked = q.tx.unacked ++ [{ f with h := h, sentAt := s.time }]
        ∧ (getPort t p).tx.queues.getD c [] = (q.tx.queues.getD c []).erase f
        ∧ (c ≠ 3 → c < q.tx.hop.length → natAt (getPort t p).tx.hop c = natAt q.tx.hop c - unitsOf f.payload.length))

/-- R319, R360, R364, R367: what a receiver owes leaves as a CREDIT with ACK_SEQ; without increments it leaves outside the link
sequence; unacknowledged link frames are sent again 2 µs after the oldest was sent. -/
def Obligations.CreditsAndLinkReplays : Prop :=
  ∀ (s : State) (port : PortId),
    let p := port.val
    let q := getPort s p
    (q.up = true → q.helloSent = true → s.pwr.gaspActive = false → q.rx.ackOwed = true → q.rx.owedWin = [] →
      q.rx.inUse.length = 5 → q.rx.owedHop.length = 5 →
      ∃ t f, exec (.creditSend port) s = .next t ∧ (getPort t p).tx.linkWait = q.tx.linkWait ++ [f]
        ∧ f.h.typ = tCredit ∧ (q.rx.expSeq < 2 ^ 32 → leAt f.payload 0 4 = q.rx.expSeq)
        ∧ (∀ c, c < 5 → natAt q.rx.owedHop c < 65536 → leAt f.payload (4 + 2 * c) 2 = natAt q.rx.owedHop c
            ∧ natAt (getPort t p).rx.owedHop c = 0 ∧ natAt (getPort t p).rx.inUse c = natAt q.rx.inUse c - natAt q.rx.owedHop c)
        ∧ (getPort t p).rx.ackOwed = false ∧ t.out = s.out)
    ∧ (q.helloSent = true → q.rx.linkAckOwed = true →
      ∃ t h bs, exec (.bareCredit port) s = .next t ∧ t.out = s.out ++ [.frame p (hdrEncode h) bs (fcsOf bs)]
        ∧ h.typ = tCredit ∧ h.seq = 0xFFFFFFFF ∧ h.lack = q.rx.expLseq ∧ bs.length = 16
        ∧ (getPort t p).rx.linkAckOwed = false ∧ (getPort t p).tx = q.tx)
    ∧ (∀ f rest, q.tx.linkUnacked = f :: rest →
      ∃ t, exec (.linkFrameReplay port) s = .next t ∧ t.time = timeMask (max s.time (f.sentAt + 2000))
        ∧ t.out = s.out ++ q.tx.linkUnacked.map (fun g => .frame p (hdrEncode { g.h with lack := q.rx.expLseq }) g.payload g.fcs)
        ∧ (getPort t p).tx.linkUnacked = q.tx.linkUnacked.map (fun g => { g with sentAt := t.time })
        ∧ (getPort t p).tx.nextLseq = q.tx.nextLseq)

/-- R360, R364, R366: a CREDIT adds its hop credits, and every frame below ACK_SEQ is acknowledged.
R361, R364, R365, R376: a NACK is counted. REPLAY starts a replay at its SEQ; CREDIT puts AVAIL in place of the hop credits and the
frame in front of its class again; LATE and DUPLICATE change nothing more; another code marks the frame. -/
def Obligations.CreditsAndNacksAreTaken : Prop :=
  (∀ (s s1 : State) (rx : RxFrame) (h : Hdr), admitLink tCredit s rx = (some h, s1) →
      let p := rx.port.val
      let q := getPort s1 p
      (q.cfg.trunk = true → leAt rx.payload 10 2 = 0) → rx.payload.length = 16 + 8 * leAt rx.payload 14 2 →
      ∃ t, exec (.credit rx) s = .next t
        ∧ (getPort t p).tx.unacked = q.tx.unacked.filter (fun f => seqCheck (leAt rx.payload 0 4) f.h.seq != .below)
        ∧ (∀ c, c < 5 → c ≠ 3 → natAt (getPort t p).tx.hop c = natAt q.tx.hop c + leAt rx.payload (4 + 2 * c) 2))
  ∧ (∀ (s s1 : State) (rx : RxFrame) (h : Hdr) (f : TxFrame), admitLink tNack s rx = (some h, s1) →
      let p := rx.port.val
      let q := getPort s1 p
      let code := leAt rx.payload 0 1
      let nseq := leAt rx.payload 4 4
      let counted := { q with cnt := { q.cnt with nacksReceived := inc32 q.cnt.nacksReceived } }
      (code = 0x01 → q.tx.unacked.find? (fun g => g.h.seq == nseq) = some f → q.tx.replayAt = none → f.replays < 8 →
        ∃ t, exec (.nack rx) s = .next t ∧ (getPort t p).tx.replayAt = some nseq ∧ (getPort t p).tx.unacked = q.tx.unacked
          ∧ (getPort t p).cnt.nacksReceived = inc32 q.cnt.nacksReceived)
      ∧ (q.tx.unacked.find? (fun g => g.h.seq == nseq && !g.nacked) = some f →
        (code = 0x07 → leAt rx.payload 1 1 ≠ 1 → f.h.cls < q.tx.queues.length → f.h.cls < q.tx.hop.length →
          ∃ t, exec (.nack rx) s = .next t ∧ natAt (getPort t p).tx.hop f.h.cls = leAt rx.payload 8 4
            ∧ (getPort t p).tx.queues.getD f.h.cls [] = { f with replays := 0, nacked := false } :: q.tx.queues.getD f.h.cls [])
        ∧ (code = 0x0C ∨ code = 0x10 → ∃ t, exec (.nack rx) s = .next t ∧ getPort t p = counted)
        ∧ (code = 0x03 ∨ code = 0x0B → ∃ t, exec (.nack rx) s = .next t ∧ getPort t p = { counted with tx := { q.tx with
            unacked := q.tx.unacked.map (fun g => if g.h.seq == nseq then { g with nacked := true } else g) } })))

/-- R358, R359, R362: HELLO names the far endpoint and its role, CREDIT_INIT the initial hop credits, and with both a port whose roles
agree is up and says so; JOB_ANNOUNCE and JOB_WITHDRAW keep the generations of the far device. -/
def Obligations.LinkControlFramesAreTaken : Prop :=
  ∀ (s s1 : State) (rx : RxFrame) (h : Hdr),
    let p := rx.port.val
    let q := getPort s1 p
    let n := leNat rx.payload
    (hLinkKind (hdrDecode rx.hdr) = 1 → helloRestart rx s = s → takeLinkCtrl 1 rx s = (some h, s1) →
      ∃ t, exec (.hello rx) s = .next t ∧ (getPort t p).helloRx = true ∧ (getPort t p).peer = BitVec.ofNat 32 n
        ∧ (getPort t p).peerRole = n / 2 ^ 32 % 2
        ∧ (ReadyToComeUp q → ((getPort t p).up = true ↔ q.creditInitRx = true ∧ n / 2 ^ 32 % 2 = (if q.cfg.trunk then 1 else 0))))
    ∧ (takeLinkCtrl 2 rx s = (some h, s1) →
      ∃ t, exec (.creditInit rx) s = .next t ∧ (getPort t p).creditInitRx = true
        ∧ (∀ c, c < 5 → natAt (getPort t p).tx.hop c = if c = 3 ∧ q.cfg.trunk = true then 0 else leAt rx.payload (2 * c) 2)
        ∧ (ReadyToComeUp q → ((getPort t p).up = true ↔ q.helloRx = true ∧ q.peerRole = (if q.cfg.trunk then 1 else 0))))
    ∧ (takeLinkCtrl 3 rx s = (some h, s1) →
      ∃ t, exec (.jobAnnounce rx) s = .next t ∧ tget? (getPort t p).rx.gens h.job = some h.gen
        ∧ (∀ j, j ≠ h.job → tget? (getPort t p).rx.gens j = tget? q.rx.gens j) ∧ t.slots = s1.slots)
    ∧ (takeLinkCtrl 4 rx s = (some h, s1) →
      ∃ t, exec (.jobWithdraw rx) s = .next t ∧ tget? (getPort t p).rx.gens h.job = none
        ∧ (∀ j, j ≠ h.job → tget? (getPort t p).rx.gens j = tget? q.rx.gens j)
        ∧ ∀ i, slotOfJob s1 h.job = some i → ∀ e ∈ (getSlot t i).winTx, e.1 / 8 / 65536 ≠ portPeerDev s1 p)

/-- R270, R335, R358, R365: the oldest frame that has waited 3 µs is replayed; a port that goes down holds nothing, starts anew and
aborts the step of a slot that used it with LINK_DOWN.
R299, R325: at the end of its period a LEARN class moves K a quarter of the way up, or a sixty-fourth down, toward a quarter above
the peak, within its bounds, and the peak starts anew; at the end of LINK_DROP the port sends the slot's frames again. -/
def Obligations.ReplaysPortsGoingDownAndCongestion : Prop :=
  (∀ (s : State) (port : PortId),
      let p := port.val
      let q := getPort s p
      (∀ f rest, q.tx.unacked = f :: rest → q.up = true → f.nacked = false → q.tx.replayAt = none → f.replays < 8 →
        ∃ t, exec (.replayTimeout port) s = .next t ∧ (getPort t p).tx.replayAt = some f.h.seq
          ∧ (getPort t p).tx.unacked = q.tx.unacked ∧ t.time = timeMask (max s.time (f.sentAt + 3000)))
      ∧ (q.up = true →
        ∃ t, exec (.portDown port) s = .next t
          ∧ (getPort t p).up = false ∧ (getPort t p).helloSent = false ∧ (getPort t p).helloRx = false
          ∧ (getPort t p).creditInitRx = false ∧ (getPort t p).tx = portTxInit ∧ (getPort t p).rx = portRxInit
          ∧ ∀ i, slotsOfPort s p = [i] → (getSlot s i).step.st = .dryFit →
            (getSlot t i).step.st = .rollingBack ∧ (getSlot t i).step.abortCause = 0x14)
      ∧ (q.up = false → exec (.portDown port) s = .next s))
  ∧ (∀ (s : State) (port : PortId) (slot : SlotId),
      let p := port.val
      let q := getPort s p
      (q.ks.length = 5 → s.time < 2 ^ 63 →
        ∃ t, exec (.kAdapt port) s = .next t ∧ s.time ≤ t.time ∧ t.slots = s.slots ∧ t.out = s.out
          ∧ ∀ c, c < 5 →
            let k := q.ks.getD c kSetInit
            let k' := (getPort t p).ks.getD c kSetInit
            let goal := k.winPeak + k.winPeak / 4
            if t.time % msNs (max 1 k.pa) = 0 then
              k'.winPeak = queueUnits q c
                ∧ k'.k = (if k.hold then k.k else if k.k < goal then min k.kMax (k.k + (goal - k.k + 3) / 4)
                    else max k.kMin (k.k - (k.k - goal) / 64))
            else k' = k)
      ∧ (∀ e, q.dropSlots.find? (fun e => e.1 == slot.val) = some e →
        ∃ t, exec (.linkDropEnd port slot) s = .next t ∧ t.time = timeMask (max s.time e.2)
          ∧ getPort t p = { q with dropSlots := q.dropSlots.filter (fun x => x.1 != slot.val) } ∧ t.slots = s.slots ∧ t.out = s.out))

/-! ### The host window (16, 19) -/

/-- R434 to R438, R506, R507, R515, R517: a read of a register, of a mailbox slot or of the trace window answers with its bytes and
has no other effect; one that names no register is UNSUPPORTED and counted. Over the sideband the global and always-on pages answer
alike.
R12, R442, R449, R510, R513, R516: a read of a read-to-clear field answers with its value and clears it. -/
def Obligations.HostReadsAreAnsweredAndClear : Prop :=
  (∀ (s : State) (q : HtlReq), htlType q = 1 → htlSound q = true →
      let off := htlOff q
      let n := htlBytes q
      (moduleUp s q.mdl.val = true → inTraceWindow off = false → inAperture off = false → rcOf off n = none →
        (∀ v, mbxPage off = none → regAligned off n = true → reg64 s (off / 8 * 8) = some v →
          ∃ t, exec (.hostRead q) s = .next t ∧ OnlyAnswered s t q (leBytes n (v / 256 ^ (off % 8))))
        ∧ (∀ m o, mbxPage off = some (m, o) →
          (slotAccess 0 o n = true →
            ∃ t, exec (.hostRead q) s = .next t ∧ OnlyAnswered s t q (leBytes n ((getMbx s m).cmd.toNat / 256 ^ o)))
          ∧ (slotAccess 0x40 o n = true →
            ∃ t, exec (.hostRead q) s = .next t ∧ OnlyAnswered s t q (leBytes n ((getMbx s m).rsp.toNat / 256 ^ (o - 0x40))))
          ∧ ∀ v, 0x80 ≤ o → regAligned o n = true → mbxReg s m (o / 8 * 8) = some v →
            ∃ t, exec (.hostRead q) s = .next t ∧ OnlyAnswered s t q (leBytes n (v / 256 ^ (o % 8))))
        ∧ (windowRead s off n = none → ∃ t, exec (.hostRead q) s = .next t ∧ Unsupported s t q))
      ∧ (moduleUp s q.mdl.val = true → inTraceWindow off = true → off % 128 + n ≤ 128 → off % 4 = 0 →
        let seq := (s.trc.winSeq.toNat + (off - 0x280000) / 128) % 2 ^ 32
        let k := (seq + 2 ^ 32 - s.trc.oldestSeq.toNat) % 2 ^ 32
        ∃ t, exec (.traceWindowRead q) s = .next t
          ∧ OnlyAnswered s t q (leBytes n ((if k < (s.trc.nextSeq - s.trc.oldestSeq).toNat then s.trc.ring.getD k (BitVec.allOnes 1024)
              else BitVec.allOnes 1024).toNat / 256 ^ (off % 128))))
      ∧ (s.pwr.awake.testBit 1 = true → off < 0x20000 → regAligned off n = true → rcOf off n = none →
        (∀ v, reg64 s (off / 8 * 8) = some v →
          ∃ t, exec (.sidebandAccess q) s = .next t ∧ t = { s with out := s.out ++ [.sideband q.mdl.val 0 (leBytes n (v / 256 ^ (off % 8)))] })
        ∧ (reg64 s (off / 8 * 8) = none → ∃ t, exec (.sidebandAccess q) s = .next t ∧ t.out = s.out ++ [.sideband q.mdl.val 1 []])))
  ∧ (∀ (s : State) (q : HtlReq), HostAsks s q 1 →
      let off := htlOff q
      let n := htlBytes q
      let gives (c : Instr) (bs : Bytes) (u : State) : Prop :=
        ∃ t, exec c s = .next t ∧ Answered s t q 0 bs ∧ { t with out := s.out } = u
      (off = 0x40 → n = 8 → gives (.htlErrRead q) (leBytes 4 s.host.unsupported.toNat ++ leBytes 4 s.host.refused.toNat)
          { s with host := { s.host with unsupported := 0, refused := 0 } })
      ∧ (off = 0x40 → n = 4 → gives (.htlErrRead q) (leBytes 4 s.host.unsupported.toNat) { s with host := { s.host with unsupported := 0 } })
      ∧ (off = 0x44 → n = 4 → gives (.htlErrRead q) (leBytes 4 s.host.refused.toNat) { s with host := { s.host with refused := 0 } })
      ∧ (off = 0x10008 → n = 8 → gives (.inputPeakRead q)
          (leBytes 2 s.pwr.voltage.toNat ++ leBytes 2 s.pwr.power.toNat ++ leBytes 2 s.pwr.peak.toNat ++ leBytes 2 0)
          { s with pwr := { s.pwr with peak := 0 } })
      ∧ (off = 0x1000C → n = 4 → gives (.inputPeakRead q) (leBytes 2 s.pwr.peak.toNat ++ leBytes 2 0) { s with pwr := { s.pwr with peak := 0 } })
      ∧ (∀ m, m < 65 → off = 0x100080 + 0x1000 * m → n = 8 → gives (.mbxDiscardedRead q) (leBytes 8 (mbxCtl (getMbx s m)))
          (modMbx s m (fun b => { b with discarded := 0 })))
      ∧ (∀ m, m < 65 → off = 0x100084 + 0x1000 * m → n = 4 → gives (.mbxDiscardedRead q) (leBytes 4 (getMbx s m).discarded.toNat)
          (modMbx s m (fun b => { b with discarded := 0 })))
      ∧ (off = 0x1000E0 → (n = 4 ∨ n = 8) → gives (.eventLostRead q) (leBytes n s.evt.lost.toNat) { s with evt := { s.evt with lost := 0 } })
      ∧ (off = 0x200010 → (n = 4 ∨ n = 8) → gives (.traceLostRead q) (leBytes n s.trc.lost.toNat) { s with trc := { s.trc with lost := 0 } }))

/-- R442, R443, R449, R506, R512, R516, R518: a write sets the fields that can be written and is answered; the command slot takes bytes
only while OWN is 0, and a write of OWN hands the command over, last in the order; a register without a field to write is
UNSUPPORTED. Over the sideband the boot registers are written alike.
R449, R450, R480, R484, R508, R511, R512, R516, R532: GO starts an image read in SECURE_BOOT from the host; enabling the event ring
starts it at 0; TAIL frees room and reports a loss first; VALID is cleared with its record; the key 0xA5C3 resets the device but
for what R508 keeps, after the COMPLETION. -/
def Obligations.HostWritesTakeEffect : Prop :=
  (∀ (s : State) (q : HtlReq), HostAsks s q 2 →
      let off := htlOff q
      let n := htlBytes q
      let x := writtenNumber q
      let gives (u : State) : Prop := ∃ t, exec (.registerWrite q) s = .next t ∧ Answered s t q 0 [] ∧ { t with out := s.out } = u
      (off = 0x200 → n = 8 → gives { s with host := { s.host with
          apView := BitVec.ofNat 4 x, apSlot := BitVec.ofNat 6 (x / 16), apBase := BitVec.ofNat 48 (x / 2 ^ 16) } })
      ∧ (off = 0x300 → n = 8 → gives { s with host := { s.host with bootAddr := BitVec.ofNat 64 x } })
      ∧ (off = 0x308 → n = 8 → x.testBit 32 = false → gives { s with host := { s.host with bootLen := BitVec.ofNat 25 x } })
      ∧ (off = 0x200018 → (n = 4 ∨ n = 8) → gives { s with trc := { s.trc with winSeq := BitVec.ofNat 32 x } })
      ∧ (∀ m o, mbxPage off = some (m, o) → slotAccess 0 o n = true →
        ((getMbx s m).own = true →
          gives (modMbx s m (fun b => { b with discarded := BitVec.ofNat 32 (min (b.discarded.toNat + 1) (2 ^ 32 - 1)) })))
        ∧ ((getMbx s m).own = false →
          gives (modMbx s m (fun b => { b with cmd := BitVec.ofNat 512 (leNat (splice (slotBytes b.cmd) o (fitBytes n q.payload))) }))))
      ∧ (∀ m, m < 65 → off = 0x100080 + 0x1000 * m → (n = 4 ∨ n = 8) →
        (x.testBit 0 = true → (getMbx s m).own = false →
          gives { s with mbx := (modMbx s m (fun b => { b with irqEn := x.testBit 1, own := true, st := .queued })).mbx,
                         ownOrder := s.ownOrder.filter (· != m) ++ [m] })
        ∧ (x.testBit 0 = false ∨ (getMbx s m).own = true → gives (modMbx s m (fun b => { b with irqEn := x.testBit 1 }))))
      ∧ (off = 0x1000C0 → n = 8 → gives (if s.evt.en then s else { s with evt := { s.evt with base := BitVec.ofNat 64 x } }))
      ∧ (mbxPage off = none → inTraceWindow off = false → inAperture off = false → regWritable off = false →
        ∃ t, exec (.registerWrite q) s = .next t ∧ Unsupported s t q))
  ∧ (∀ (s : State) (q : HtlReq), HostAsks s q 2 →
      let off := htlOff q
      let n := htlBytes q
      let x := writtenNumber q
      (off = 0x308 → n = 8 → x.testBit 32 = true →
        let len := BitVec.ofNat 25 x
        (s.pwr.phase = 3 → s.pwr.bootSel = true → s.host.bootReading = false →
          ∃ t hdr, exec (.bootGo q) s = .next t ∧ t.host = { s.host with bootLen := len, bootReading := true }
            ∧ t.out = s.out ++ [.completion q.mdl.val hdr [], .hostRead (deviceModule s) (s.host.bootAddr.toNat / 64 * 64) len.toNat])
        ∧ (s.pwr.phase ≠ 3 ∨ s.pwr.bootSel = false ∨ s.host.bootReading = true →
          ∃ t, exec (.bootGo q) s = .next t ∧ Answered s t q 0 [] ∧ { t with out := s.out } = { s with host := { s.host with bootLen := len } }))
      ∧ (off = 0x1000C8 → n = 8 → x.testBit 8 = true → s.evt.en = false → 6 ≤ x % 32 → x % 32 ≤ 16 →
        ∃ t, exec (.eventRingEnable q) s = .next t ∧ Answered s t q 0 []
          ∧ t.evt = { s.evt with en := true, sizeLog2 := BitVec.ofNat 5 x, holdoff := BitVec.ofNat 32 (x / 2 ^ 32), head := 0, tail := 0,
                                 issued := 0, flight := [], headMoved := false })
      ∧ (off = 0x1000D8 → (n = 4 ∨ n = 8) →
        let e := { s.evt with tail := BitVec.ofNat 32 x }
        (s.evt.overflowOwed = false →
          ∃ t, exec (.eventRingTailWrite q) s = .next t ∧ Answered s t q 0 [] ∧ { t with out := s.out } = { s with evt := e })
        ∧ (s.evt.overflowOwed = true → s.evt.en = true → evtRoom e = true →
          ∃ t w, exec (.eventRingTailWrite q) s = .next t ∧ t.evt = { e with overflowOwed := false, issued := e.issued + 1, flight := e.flight ++ [w] }
            ∧ w.data = evtRecord 0x0016 0xFF e.issued.toNat s.time (leBytes 4 e.lost.toNat)))
      ∧ (off = 0x200020 → (n = 4 ∨ n = 8) → x.testBit 0 = true →
        ∃ t, exec (.lgaspClear q) s = .next t ∧ Answered s t q 0 []
          ∧ { t with out := s.out } = { s with trc := { s.trc with lgaspValid := false, lgasp := 0 } })
      ∧ (off = 0x100 → (n = 4 ∨ n = 8) →
        (x = 0xA5C3 → s.pwr.gaspActive = false → openCount s = 0 →
          ∃ t, exec (.deviceReset q) s = .next t ∧ Answered s t q 0 [] ∧ IsReset s t)
        ∧ (x ≠ 0xA5C3 ∨ s.pwr.gaspActive = true → ∃ t, exec (.deviceReset q) s = .next t ∧ OnlyAnswered s t q [])))

/-- R434 to R436, R450, R451: the completion of the oldest event record's write moves HEAD past it and raises vector 0, at once or at the
end of the hold-off; a record whose module goes down is sent again on the other. -/
def Obligations.EventRecordsReachTheHost : Prop :=
  ∀ (s : State) (q : HtlReq) (mdl : ModuleId),
    (∀ w rest, moduleUp s q.mdl.val = true → htlType q = 4 → s.evt.flight = w :: rest → w.tag = some (htlTag q) → w.done = false →
      w.mdl = q.mdl.val → (∀ v ∈ rest, v.tag ≠ w.tag ∧ v.tag ≠ none ∧ v.done = false) →
      (s.evt.lastIrq = none →
        ∃ t, exec (.htlCompletion q) s = .next t ∧ t.out = s.out ++ [.interrupt (deviceModule s) 0]
          ∧ t.evt = { s.evt with flight := rest, head := s.evt.head + 1, lastIrq := some s.time, headMoved := false })
      ∧ (∀ u, s.evt.lastIrq = some u → s.time < u + s.evt.holdoff.toNat →
        ∃ t, exec (.htlCompletion q) s = .next t ∧ t.out = s.out
          ∧ t.evt = { s.evt with flight := rest, head := s.evt.head + 1, headMoved := true }))
    ∧ (∀ u, s.evt.lastIrq = some u → s.evt.headMoved = true →
      ∃ t, exec .eventHoldoffExpiry s = .next t ∧ t.time = timeMask (max s.time (u + s.evt.holdoff.toNat))
        ∧ t.out = s.out ++ [.interrupt (deviceModule s) 0] ∧ t.evt = { s.evt with lastIrq := some t.time, headMoved := false })
    ∧ (moduleUp s mdl.val = true → moduleUp s (1 - mdl.val) = true → s.host.ucieUp.length = 2 →
      ∃ t, exec (.ucieModuleDown mdl) s = .next t ∧ moduleUp t mdl.val = false ∧ moduleUp t (1 - mdl.val) = true
        ∧ t.out = s.out ++ (s.evt.flight.filter (fun w => w.tag.isSome && !w.done && w.mdl != 1 - mdl.val)).map
            (fun w => .hostWrite (1 - mdl.val) (w.tag.getD 0) w.addr w.data)
        ∧ (∀ w ∈ t.evt.flight, w.tag ≠ none → w.done = false → w.mdl = 1 - mdl.val))
    ∧ (moduleUp s mdl.val = false → s.pwr.awake.testBit 1 = true → s.host.ucieUp.length = 2 →
      ∃ t, exec (.ucieModuleUp mdl) s = .next t ∧ moduleUp t mdl.val = true
        ∧ { t with out := s.out, evt := s.evt, host := { t.host with ucieUp := s.host.ucieUp } } = s)

/-- R423, R424, R440, R441: RAW reads back what was written, and only while no slot is OPEN; every other view needs an OPEN slot; PRIMARY
and error memory are not written while a step is armed; a host region takes writes and integer adds within its size. -/
def Obligations.ApertureAccesses : Prop :=
  ∀ (s : State) (q : HtlReq), moduleUp s q.mdl.val = true → htlSound q = true → inAperture (htlOff q) = true →
    let o := htlOff q - 0x1000000
    let n := htlBytes q
    let i := s.host.apSlot.toNat
    let view := s.host.apView.toNat
    let open_ := (getSlot s i).st = .open_
    (htlType q = 1 ∨ htlType q = 2 ∨ htlType q = 3 → (view = 0 ∧ openCount s ≠ 0) ∨ (1 ≤ view ∧ ¬ open_) ∨ 6 ≤ view →
      ∃ t, exec (if htlType q = 1 then .apertureRead q else if htlType q = 2 then .apertureWrite q else .apertureAdd q) s = .next t
        ∧ Refused s t q)
    ∧ (view = 0 → openCount s = 0 →
      let c := s.host.apBase.toNat % 1024
      let k := memKey c o
      (htlType q = 1 → (getChan s c).st = 0 → o + n ≤ stateEnd s (c / 8) → (∀ b ∈ s.hbm.bad, b + 32 ≤ k ∨ k + n ≤ b) →
        ∃ t, exec (.apertureRead q) s = .next t ∧ OnlyAnswered s t q (memRead s.hbm.mem k n))
      ∧ (htlType q = 2 →
        ∃ t, exec (.apertureWrite q) s = .next t ∧ Answered s t q 0 [] ∧ memRead t.hbm.mem k n = fitBytes n q.payload
          ∧ (∀ a, a < k ∨ k + n ≤ a → memByte t.hbm.mem a = memByte s.hbm.mem a)))
    ∧ (open_ → (view = 1 ∨ view = 4) → htlType q = 2 → stepArmed (getSlot s i) = true →
      ∃ t, exec (.apertureWrite q) s = .next t ∧ Refused s t q)
    ∧ (open_ → view = 5 → ∀ r, r < 4 → bitsOf s.host.apBase.toNat 40 8 = 5 + r →
      let h := (getSlot s i).shard
      let y := s.host.apBase.toNat % 2 ^ 40 + o
      (htlType q = 1 → ∃ t, exec (.apertureRead q) s = .next t ∧ OnlyAnswered s t q (regionRead h r y n))
      ∧ (htlType q = 2 → y + n ≤ regionSize h r →
        ∃ t, exec (.apertureWrite q) s = .next t ∧ Answered s t q 0 [] ∧ regionRead (getSlot t i).shard r y n = fitBytes n q.payload)
      ∧ (htlType q = 3 → htlAop q = 1 → y % 8 = 0 → n % 8 = 0 → y + n ≤ regionSize h r →
        ∃ t, exec (.apertureAdd q) s = .next t ∧ Answered s t q 0 []
          ∧ ∀ k, 8 * k < n → leAt (regionRead (getSlot t i).shard r y n) (8 * k) 8
              = (leAt (regionRead h r y n) (8 * k) 8 + leAt (fitBytes n q.payload) (8 * k) 8) % 2 ^ 64)
      ∧ (htlType q = 3 → htlAop q = 2 → regionUnordered h r = false → ∃ t, exec (.apertureAdd q) s = .next t ∧ Refused s t q))

/-! ### Power, resets and clocks (17) -/

/-- R463 to R467, R487: a dropout makes the device ride through; the input's return within 2 ms ends it and is counted and reported, and
so is a surge; 2 ms, or the store's reserve, bring the last gasp: its record and a leave notice, every DRY_FIT step aborted here. -/
def Obligations.SupplyLossIsRiddenThrough : Prop :=
  ∀ (s : State) (cause : GaspCause),
    let p := s.pwr
    let end_ := p.rideStart + 2000000
    (p.inputState = 0 → ∃ t, exec .inputDropout s = .next t ∧ OnlyPower s t { p with inputState := 1, rideStart := s.time })
    ∧ (p.inputState ≠ 0 → exec .inputDropout s = .next s)
    ∧ (p.inputState = 1 → p.switchOpen = false → s.time < end_ →
      ∃ t, exec .inputRecover s = .next t
        ∧ PowerEvent s t { p with inputState := 0, rideThroughs := BitVec.ofNat 16 (min (p.rideThroughs.toNat + 1) 65535) } 0x01 0xFF (dropoutUs s))
    ∧ (end_ ≤ s.time → exec .inputRecover s = .next s ∧ exec .surgeClose s = .next s)
    ∧ (p.inputState = 2 → exec .inputRecover s = .next s ∧ exec .surgeClose s = .next s ∧ exec (.lastGasp cause) s = .next s)
    ∧ (p.switchOpen = false → p.inputState = 0 →
      ∃ t, exec .surgeOpen s = .next t ∧ OnlyPower s t { p with inputState := 1, rideStart := s.time, switchOpen := true, switchSince := s.time
                                                                surges := BitVec.ofNat 16 (min (p.surges.toNat + 1) 65535) })
    ∧ (p.switchOpen = true → p.inputState = 1 → s.time < end_ →
      ∃ t, exec .surgeClose s = .next t
        ∧ PowerEvent s t { p with switchOpen := false, inputState := 0 } 0x02 0xFF ((s.time - p.switchSince) / 1000))
    ∧ (p.inputState = 1 → cause.val = 1 ∨ cause.val = 2 →
      ∃ t r, exec (.lastGasp cause) s = .next t ∧ t.time = (if cause.val = 1 then timeMask (max s.time end_) else s.time)
        ∧ t.pwr = { p with inputState := 2, phase := 9, gaspActive := true, gaspRecord := some r
                           lastGasps := BitVec.ofNat 16 (min (p.lastGasps.toNat + 1) 65535) }
        ∧ bitsOf r.toNat 0 64 = t.time % 2 ^ 64 ∧ bitsOf r.toNat 384 8 = cause.val ∧ bitsOf r.toNat 392 7 = openCount s
        ∧ bitsOf r.toNat 400 64 = sealedMask s ∧ AllDryFitsAborted s t 0x15
        ∧ ∃ l, t.out = s.out ++ leavesSent s 1 ++ l)

/-- R467, R468, R480, R482, R508, R532: a pin reset sends a leave notice when a slot is OPEN and resets everything but what R508 keeps;
it is ignored during a last gasp and while OFF. The end of a last gasp leaves the device OFF with its record in flash; the input's
return starts it anew, its event counts gone.
R28, R445, R479, R481, R487: a keeper core that is not heard of loses its incidents and aborts every DRY_FIT step; the standby core
serves once the image agrees, answering what had committed; a second failure, an image that does not agree, or the loss of the
25 MHz reference makes the device FATAL. Without the 156.25 MHz reference every enabled port is down. -/
def Obligations.ResetsKeeperAndReferences : Prop :=
  (∀ s : State,
      (s.pwr.gaspActive = false → s.pwr.phase ≠ 0 →
        ∃ t, exec .pinReset s = .next t ∧ IsReset s t ∧ t.out = s.out ++ (if openCount s = 0 then [] else leavesSent s 2))
      ∧ (s.pwr.gaspActive = true ∨ s.pwr.phase = 0 → exec .pinReset s = .next s)
      ∧ (s.pwr.gaspActive = true →
        ∃ t, exec .lastGaspComplete s = .next t ∧ t.out = s.out ∧ IsReset s { t with pwr := keptPower false s.pwr }
          ∧ t.pwr = { keptPower false s.pwr with phase := 0, inputState := 3, pwrGood := false, flashRecord := s.pwr.gaspRecord })
      ∧ (s.pwr.phase = 0 →
        ∃ t, exec .powerOn s = .next t ∧ t = { State.reset with
            pending := s.pending, out := s.out, freeCount := s.freeCount, pwr := keptPower true s.pwr, sec := keptSecurity s.sec }
          ∧ t.pwr.rideThroughs = 0 ∧ t.pwr.lastGasps = 0 ∧ t.pwr.flashRecord = s.pwr.flashRecord ∧ t.sec.minSvn = s.sec.minSvn))
  ∧ (∀ s : State,
      (gorirgenRuns s = true → s.pwr.gaspActive = false → s.host.keeperDown = false →
        (s.host.standbyActive = false →
          ∃ t, exec .keeperWatchdog s = .next t ∧ t.host = { s.host with keeperDown := true } ∧ AllDryFitsAborted s t 0x0F)
        ∧ (s.host.standbyActive = true → s.host.fatal = false → ∃ t, exec .keeperWatchdog s = .next t ∧ IsFatal t))
      ∧ (s.host.keeperDown = true → s.pwr.gaspActive = false →
        (imageAgrees s.sec = true →
          ∃ t, exec .takeover s = .next t ∧ t.host = { s.host with keeperDown := false, standbyActive := true } ∧ t.evt.deferred = []
            ∧ (s.evt.deferred = [] → EventPosted { s with host := { s.host with keeperDown := false } } t 0x000D 0xFF
                (leBytes 4 (s.evt.issued - 1).toNat))
            ∧ ∀ m, m < 65 → (∀ r, (getMbx s m).committed = some r → (getMbx t m).rsp = r ∧ (getMbx t m).own = false ∧ (getMbx t m).st = .idle)
                ∧ ((getMbx s m).committed = none → getMbx t m = getMbx s m))
        ∧ (imageAgrees s.sec = false → s.host.fatal = false → ∃ t, exec .takeover s = .next t ∧ IsFatal t))
      ∧ (s.pwr.ref25 = true → s.host.fatal = false → ∃ t, exec .ref25Loss s = .next t ∧ IsFatal t ∧ t.pwr.ref25 = false)
      ∧ (s.pwr.ref156 = true →
        ∃ t, exec .ref156Loss s = .next t ∧ t.pwr.ref156 = false ∧ ∀ p ∈ s.ports.map Prod.fst, (getPort s p).cfg.enable = true → (getPort t p).up = false)
      ∧ (∃ t, exec .ref156Return s = .next t ∧ OnlyPower s t { s.pwr with ref156 := true }))

/-- R469 to R472, R486, R487: an interval is measured against its limit, and one over it steps the levers down one command later; they
are lifted one step per 100 µs; a temperature at LIMIT sets the deepest levers, and at TRIP the device is FATAL with only D0 and
D1 on.
R473 to R477: a domain sleeps when the mask allows it and it is quiet; a wake event starts its wake, which ends awake within 50 µs
or is tried once more, and fails the device after that; a droop stretches its clock; a setpoint moves by one step of 5 mV, up when
a long droop has asked for it. -/
def Obligations.PowerManagementAndTemperature : Prop :=
  (∀ (s : State) (power voltage junction stack : W16) (hotTile : TileId) (hotStack : StackId),
      let p := s.pwr
      let k := s.time / 10000
      let limit := powerLimit p k
      let level := max (thermalLevel junction.toNat 950 1000 1050 1100) (thermalLevel stack.toNat 850 950 1000 1050)
      (∃ t, exec (.governorInterval power voltage) s = .next t ∧ t.time = timeMask (max s.time ((k + 1) * 10000))
        ∧ t.pwr.power = power ∧ t.pwr.voltage = voltage ∧ t.pwr.peak.toNat = max p.peak.toNat power.toNat
        ∧ t.pwr.owed = decide (limit < power.toNat) ∧ t.pwr.belowRun = (if limit < power.toNat then 0 else p.belowRun + 1)
        ∧ t.pwr.powDepth = min 21 (p.powDepth + (if p.owed then 1 else 0))
        ∧ t.pwr.thDepth = min 21 (p.thDepth + (if p.throttling then 1 else 0))
        ∧ t.pwr.bursts = burstsUsed p k ++ (if p.sustainedCap.toNat < power.toNat then [k] else [])
        ∧ (p.nextCaps = none → t.pwr.sustainedCap = p.sustainedCap ∧ t.pwr.burstCap = p.burstCap ∧ t.pwr.sleepMask = p.sleepMask)
        ∧ ∀ a b m, p.nextCaps = some (a, b, m) →
            t.pwr.sustainedCap = BitVec.ofNat 16 a ∧ t.pwr.burstCap = BitVec.ofNat 16 b ∧ t.pwr.sleepMask = m ∧ t.pwr.nextCaps = none)
      ∧ (p.inputState = 1 → limit = p.sustainedCap.toNat)
      ∧ ((0 < p.powDepth ∧ 3 ≤ p.belowRun) ∨ (0 < p.thDepth ∧ p.throttling = false) →
        ∃ t, exec .leverLift s = .next t ∧ t.time = timeMask (max s.time (p.lastLift + 100000)) ∧ t.pwr.lastLift = t.time
          ∧ t.pwr.powDepth = min 21 (if 3 ≤ p.belowRun then p.powDepth - 1 else p.powDepth)
          ∧ t.pwr.thDepth = min 21 (if p.throttling then p.thDepth else p.thDepth - 1))
      ∧ (level < 4 ∨ s.host.fatal = true →
        ∃ t, exec (.thermalSample junction stack hotTile hotStack) s = .next t
          ∧ t.time = timeMask (max s.time ((s.time / 100000 + 1) * 100000)) ∧ t.pwr.junction = junction ∧ t.pwr.stack = stack
          ∧ t.pwr.hotTile = BitVec.ofNat 7 hotTile.val ∧ t.pwr.hotStack = BitVec.ofNat 5 hotStack.val
          ∧ t.pwr.thermal.toNat = min 3 level ∧ (2 ≤ level → t.pwr.throttling = true) ∧ (3 ≤ level → t.pwr.thDepth = 21)
          ∧ (level < 2 → p.throttling = false → t.pwr.throttling = false))
      ∧ (level = 4 → s.host.fatal = false →
        ∃ t, exec (.thermalSample junction stack hotTile hotStack) s = .next t ∧ IsFatal t ∧ t.pwr.awake = 3))
  ∧ (∀ (s : State) (domain : DomainId),
      let d := domain.val
      let x := getDomain s d
      (isAwake s d = true → s.pwr.sleepMask.testBit d = true → domainQuiet s d = true →
        ∃ t, exec (.domainSleep domain) s = .next t ∧ (∀ e, isAwake t e = (isAwake s e && e != d)) ∧ { t with pwr := s.pwr } = s)
      ∧ (isAwake s d = false ∨ s.pwr.sleepMask.testBit d = false ∨ domainQuiet s d = false → exec (.domainSleep domain) s = .next s)
      ∧ (2 ≤ d → isAwake s d = false → x.waking = false → wakesRun s = true → (42 ≤ d ∨ domainQuiet s d = false) →
        ∃ t, exec (.domainWake domain) s = .next t ∧ getDomain t d = { x with waking := true, attempts := 1, wakeStart := s.time }
          ∧ ∀ e, e ≠ d → getDomain t e = getDomain s e)
      ∧ (x.waking = true → s.time ≤ x.wakeStart + 50000 →
        ∃ t, exec (.domainAwake domain) s = .next t ∧ (∀ e, isAwake t e = (isAwake s e || e == d))
          ∧ getDomain t d = { x with waking := false, attempts := 0 })
      ∧ (x.waking = true → x.attempts < 2 →
        ∃ t, exec (.domainFault domain) s = .next t ∧ t.time = timeMask (max s.time (x.wakeStart + 50000))
          ∧ getDomain t d = { x with attempts := x.attempts + 1, wakeStart := t.time } ∧ t.host = s.host)
      ∧ (x.waking = true → 2 ≤ x.attempts → s.host.fatal = false → ∃ t, exec (.domainFault domain) s = .next t ∧ IsFatal t ∧ (getDomain t d).waking = false)
      ∧ (d ≠ 0 → x.droop = false →
        ∃ t, exec (.droopTrip domain) s = .next t ∧ getDomain t d = { x with droop := true, droopAt := s.time })
      ∧ (x.droop = true →
        ∃ t, exec (.droopRecover domain) s = .next t ∧ getDomain t d = { x with droop := false, lift := x.lift || decide (x.droopAt + 200000 < s.time) })
      ∧ (d ≠ 0 → 130 ≤ x.setpoint → x.setpoint ≤ 180 →
        ∃ t, exec (.voltageStep domain) s = .next t ∧ t.time = timeMask (max s.time (x.lastStep + 100000)) ∧ (getDomain t d).lastStep = t.time
          ∧ 130 ≤ (getDomain t d).setpoint ∧ (getDomain t d).setpoint ≤ 180
          ∧ ((getDomain t d).setpoint = min 180 (x.setpoint + 1) ∨ (getDomain t d).setpoint = max 130 (x.setpoint - 1))
          ∧ (x.lift = true → (getDomain t d).setpoint = min 180 (x.setpoint + 1))))

/-! ### Security and start-up (17, 18) -/

/-- R468, R482, R485, R489 to R494, R512: start-up goes from phase to phase and wakes its domains; an image is verified by its checks in
order, the first that fails ends the boot with its code, and one that passes them all is measured and runs; READY needs device
time; a fuse request keeps its limits or is counted. -/
def Obligations.StartUpAndBoot : Prop :=
  ∀ (s : State) (image : Bytes),
    let b := { s with host := { s.host with bootReading := false } }
    (s.pwr.phase = 1 → ∃ t, exec .startupPhaseDone s = .next t ∧ t.pwr.phase = 2 ∧ isAwake t 1 = true ∧ t.sec.meas.getD 0 0 = Config.romDigest
      ∧ { t with pwr := s.pwr, sec := s.sec } = s)
    ∧ (s.pwr.phase = 2 → ∃ t, exec .startupPhaseDone s = .next t ∧ OnlyPower s t { s.pwr with phase := 3 })
    ∧ (s.pwr.phase = 4 → ∃ t, exec .startupPhaseDone s = .next t ∧ t.pwr.phase = 5 ∧ (∀ d, 42 ≤ d → d < 50 → isAwake t d = true)
      ∧ (∀ r, s.pwr.flashRecord = some r → t.trc.lgasp = r ∧ t.trc.lgaspValid = true ∧ t.pwr.flashRecord = none)
      ∧ (s.pwr.flashRecord = none → t.trc = s.trc ∧ t.evt = s.evt))
    ∧ (s.pwr.phase = 5 → ∃ t, exec .startupPhaseDone s = .next t ∧ t.pwr.phase = 6 ∧ ∀ d, 18 ≤ d → d < 42 → isAwake t d = true)
    ∧ (s.pwr.phase = 6 → ∃ t, exec .startupPhaseDone s = .next t ∧ OnlyPower s t { s.pwr with phase := 7 })
    ∧ (s.pwr.phase = 3 → (s.pwr.bootSel = true → s.host.bootReading = true) →
      (∀ code, bootCodeOf s image = code → code ≠ 0 →
        ∃ t, exec (.bootVerify image) s = .next t ∧ t.pwr = { s.pwr with phase := 0xB } ∧ t.sec.bootCode = BitVec.ofNat 4 code
          ∧ t.sec.meas = s.sec.meas ∧ t.sec.minSvn = s.sec.minSvn ∧ { t with pwr := s.pwr, sec := s.sec } = b)
      ∧ (bootCodeOf s image = 0 →
        ∃ t, exec (.bootVerify image) s = .next t ∧ t.pwr = { s.pwr with phase := 4 } ∧ t.sec.bootCode = 0
          ∧ t.host.gorirgenVersion = BitVec.ofNat 32 (leAt image 8 4) ∧ t.sec.svn = leAt image 12 4
          ∧ t.sec.meas.getD 1 0 = shaDigest (fitBytes 232 (image.take 232)) ∧ t.sec.nextLeaf = s.sec.flashCounter
          ∧ t.sec.counter = s.sec.flashCounter ∧ t.sec.minSvn = s.sec.minSvn ∧ t.sec.revoked = s.sec.revoked))
    ∧ (s.pwr.bootSel = false → ∀ pre e post, bootChecks s.sec image = pre ++ e :: post → (∀ x ∈ pre, x.2 = true) → e.2 = false →
      bootCodeOf s image = e.1)
    ∧ (s.sec.minSvn > leAt image 12 4 → bootCodeOf s image ≠ 0)
    ∧ (leAt image 16 1 < 4 → s.sec.revoked.getLsbD (leAt image 16 1) = true → bootCodeOf s image ≠ 0)
    ∧ (((s.pwr.phase = 6 ∨ s.pwr.phase = 7) ∧ s.timeRec.st = 3) ∨ (s.pwr.phase = 7 ∧ s.timeRec.st = 1) →
      ∃ t, exec .readyEntry s = .next t ∧ OnlyPower s t { s.pwr with phase := 8 })
    ∧ (∀ m r, s.pwr.phase = 8 → s.sec.fuseRequest = some (m, r) →
      (m ≤ s.sec.svn → r < 2 ^ s.sec.keyIndex.toNat →
        ∃ t, exec .fuseRequest s = .next t ∧ t = { s with sec := { s.sec with
          fuseRequest := none, minSvn := max s.sec.minSvn m, revoked := s.sec.revoked ||| BitVec.ofNat 4 r } })
      ∧ (s.sec.svn < m ∨ 2 ^ s.sec.keyIndex.toNat ≤ r →
        ∃ t, exec .fuseRequest s = .next t ∧ t = { s with sec := { s.sec with fuseRequest := none, fuseIgnored := s.sec.fuseIgnored + 1 } }))

/-- R444, R467, R496 to R499, R504, R529: ATTEST signs with the next leaf while a reserved one is left, and waits otherwise; leaves are
reserved 64 at a time, and a commit that is not confirmed leaves none to sign with; a held command goes on once its condition is met;
the management bus and JTAG answer what they show and change nothing. -/
def Obligations.KeysHeldCommandsAndManagement : Prop :=
  ∀ (s : State) (buf : HostBuf) (m : Nat) (c : Bytes) (good : Bool) (value : W32) (mbx : MbxId) (command instr : Byte),
    let x := s.sec
    (Commanded s m c 0x14 → unusedArgsZero c [(8, 44)] = true → bufSound c 40 (reportLength s) buf = true → s.pwr.gaspActive = false →
      x.nextLeaf.toNat < 2 ^ 20 → x.commitFailed = false →
      (x.nextLeaf.toNat < x.counter.toNat →
        ∃ t, exec (.attest buf) s = .next t ∧ t.sec = { x with nextLeaf := x.nextLeaf + 1 } ∧ MbxAnswered s t m 0 (leBytes 4 (reportLength s))
          ∧ ∃ bs, BufferWritten s t c 40 bs ∧ bs.length = reportLength s ∧ (bs.drop 8).take 32 = (c.drop 8).take 32
            ∧ bs.drop (reportLength s - 1772) = fitBytes 1772 (Config.lmsSign (shaDigest (bs.take (reportLength s - 1868))) x.nextLeaf.toNat))
      ∧ (x.counter.toNat ≤ x.nextLeaf.toNat →
        ∃ t, exec (.attest buf) s = .next t ∧ t = modMbx s m (fun b => { b with st := .held })))
    ∧ (gorirgenRuns s = true → s.pwr.gaspActive = false → x.commitOpen = false → x.counter.toNat - x.nextLeaf.toNat ≤ 16 →
      x.counter.toNat < 2 ^ 20 →
      ∃ t, exec .leafCommit s = .next t ∧ t.out = s.out ++ [.flash 1 (leBytes 4 (min (x.counter.toNat + 64) (2 ^ 20)))]
        ∧ t.sec = { x with commitOpen := true, commitAt := s.time, commitTo := BitVec.ofNat 32 (min (x.counter.toNat + 64) (2 ^ 20)) })
    ∧ (x.commitOpen = true →
      (good = true → value = x.commitTo →
        ∃ t, exec (.leafCommitDone good value) s = .next t
          ∧ t = { s with sec := { x with commitOpen := false, commitFailed := false, counter := value, flashCounter := value } })
      ∧ (good = false ∨ value ≠ x.commitTo →
        ∃ t, exec (.leafCommitDone good value) s = .next t ∧ t.sec = { x with commitOpen := false, commitFailed := true })
      ∧ ∃ t, exec .flashResponseTimeout s = .next t ∧ t.time = timeMask (max s.time (x.commitAt + 20000000))
          ∧ t.sec = { x with commitOpen := false }
          ∧ ((getMbx s 0).st = .held → opOf (slotBytes (getMbx s 0).cmd) = 0x14 → s.host.keeperDown = false → MbxAnswered s t 0 0x2B []))
    ∧ ((getMbx s mbx.val).st = .held → s.host.keeperDown = false → opOf (slotBytes (getMbx s mbx.val).cmd) = 0x03 →
      let i := mbx.val - 1
      ((getSlot s i).step.st = .sealed → ∃ t, exec (.heldCommandResume mbx buf) s = .next t ∧ t = s)
      ∧ ((getSlot s i).step.st ≠ .sealed → s.host.fatal = false →
        ∃ t, exec (.heldCommandResume mbx buf) s = .next t ∧ (getSlot t i).st = .draining ∧ MbxAnswered s t mbx.val 0 [])
      ∧ ((getSlot s i).step.st ≠ .sealed → s.host.fatal = true →
        ∃ t, exec (.heldCommandResume mbx buf) s = .next t ∧ MbxRefused s t mbx.val 0x2C))
    ∧ (s.pwr.phase ≠ 0 →
      ∃ t bs, exec (.mgmtRead command) s = .next t ∧ t = { s with out := s.out ++ [.smbus bs] }
        ∧ (command.toNat ≤ 6 → bs = leBytes 8 (pwrReg s command.toNat)) ∧ (command = 0x10 → s.pwr.phase ≠ 1 → bs = leBytes 8 (glbStatus s))
        ∧ (6 < command.toNat → command ≠ 0x10 → command ≠ 0x20 → bs = []))
    ∧ (instr = 1 → ∃ t, exec (.jtagAccess instr) s = .next t ∧ t = { s with out := s.out ++ [.jtag 1 Config.idcode.toNat] })
    ∧ (instr ≠ 1 → instr ≠ 2 → ∃ t, exec (.jtagAccess instr) s = .next t ∧ t = { s with out := s.out ++ [.jtag 0xFF 0] })
    ∧ (instr = 2 → 1 < s.pwr.phase.toNat → exec (.jtagAccess instr) s = .next s)

/-! ### Mailbox commands (19) -/

/-- R283, R444, R446, R453: each command is refused first for its opcode, its mailbox, a failed device and a slot that is not OPEN, in
this order, and then for an argument byte that it does not use; a refused command changes nothing but its mailbox. Without a
command to take nothing happens; a command of another kind is not this one (log entry 6). -/
def Obligations.MailboxCommandsAreRefused : Prop :=
  ∀ (s : State) (row : MbxRow) (buf : HostBuf) (m op : Nat), row ∈ mbxRows →
    (nextMbx s = none → exec (row.cmd buf) s = .next s)
    ∧ (nextMbx s = some m →
      let c := slotBytes (getMbx s m).cmd
      (row.accept c = false → exec (row.cmd buf) s = .next s)
      ∧ (row.accept c = true →
        (∀ st, gateStatus s m (opOf c) = some st → ∃ t, exec (row.cmd buf) s = .next t ∧ MbxRefused s t m st)
        ∧ (gateStatus s m (opOf c) = none → unusedArgsZero c row.used = false →
          ∃ t, exec (row.cmd buf) s = .next t ∧ MbxRefused s t m 0x03)))
    ∧ (op = 0 ∨ 0x14 < op → gateStatus s m op = some 0x01)
    ∧ (1 ≤ op → op ≤ 0x14 →
      let system := op ∈ [0x01, 0x02, 0x11, 0x12, 0x13, 0x14]
      (¬(system ↔ m = 0) → gateStatus s m op = some 0x02)
      ∧ ((system ↔ m = 0) → s.host.fatal = true → op ≠ 0x01 → op ≠ 0x14 → gateStatus s m op = some 0x2C)
      ∧ ((system ↔ m = 0) → s.host.fatal = false → ¬system → (getSlot s (m - 1)).st ≠ .open_ → gateStatus s m op = some 0x05)
      ∧ ((system ↔ m = 0) → s.host.fatal = false → (system ∨ (getSlot s (m - 1)).st = .open_) → gateStatus s m op = none))

/-- R330, R331, R431, R447, R453, R454, R461, R472: DEVICE_INFO answers the device's identity or writes its channel records, POWER_POLICY
reads what the governor measures and sets its caps, TRACE_SET sets the ring, the mode and the filters that its mask names. -/
def Obligations.SystemCommands : Prop :=
  ∀ (s : State) (buf : HostBuf) (m : Nat) (c : Bytes),
    (Ordered s m c 0x01 [(8, 1)] → leAt c 8 1 = 0 →
      ∃ t, exec .deviceInfoIdentity s = .next t ∧ MbxAnswered s t m 0 (identityResults s) ∧ OnlyMailbox s t m
        ∧ leAt (identityResults s) 0 2 = s.host.deviceId.toNat ∧ leAt (identityResults s) 4 4 = s.host.gorirgenVersion.toNat
        ∧ leAt (identityResults s) 24 8 = s.time % 2 ^ 64)
    ∧ (Ordered s m c 0x01 [(8, 1)] → 1 < leAt c 8 1 → ∃ t, exec .deviceInfoIdentity s = .next t ∧ MbxRefused s t m 0x03)
    ∧ (Ordered s m c 0x01 [(8, 1), (16, 12)] → leAt c 8 1 = 1 →
      (bufSound c 16 32768 buf = true →
        ∃ t, exec (.deviceInfoChannels buf) s = .next t ∧ MbxAnswered s t m 0 []
          ∧ ∃ bs, BufferWritten s t c 16 bs ∧ bs.length = 32768
            ∧ ∀ n, n < 1024 → leAt bs (32 * n) 1 % 4 = (getChan s n).st % 4 ∧ leAt bs (32 * n + 16) 4 = (getChan s n).uncorrectable % 2 ^ 32)
      ∧ (bufSound c 16 32768 buf = false → ∃ t, exec (.deviceInfoChannels buf) s = .next t ∧ MbxRefused s t m 0x04))
    ∧ (Ordered s m c 0x13 [] → leAt c 8 1 % 2 = 0 →
      ∃ t, exec .powerPolicyRead s = .next t ∧ OnlyMailbox s t m
        ∧ MbxAnswered s t m 0 (leBytes 2 s.pwr.power.toNat ++ leBytes 2 s.pwr.voltage.toNat ++ leBytes 2 s.pwr.junction.toNat))
    ∧ (Ordered s m c 0x13 [(8, 1), (10, 14)] → leAt c 8 1 = 1 →
      let sust := leAt c 10 2
      let burst := leAt c 12 2
      let ms := leAt c 14 2
      let mask := leAt c 16 8
      let sound := 1000 ≤ sust ∧ sust ≤ 3600 ∧ sust ≤ burst ∧ burst ≤ 5000 ∧ ms ≤ 200 ∧ mask % 4 = 0 ∧ mask < 2 ^ 50
      (sound → ∃ t, exec .powerPolicySet s = .next t ∧ t.pwr = { s.pwr with nextCaps := some (sust, burst, mask), burstMs := ms }
        ∧ MbxAnswered s t m 0 (leBytes 2 s.pwr.power.toNat ++ leBytes 2 s.pwr.voltage.toNat ++ leBytes 2 s.pwr.junction.toNat))
      ∧ (¬sound → ∃ t, exec .powerPolicySet s = .next t ∧ MbxRefused s t m 0x03))
    ∧ (Ordered s m c 0x11 [(8, 3), (16, 12)] →
      let size := leAt c 8 1
      let mask := leAt c 10 1
      let f (i : Nat) : BitVec 256 := BitVec.ofNat 256 (leAt (fitBytes 128 buf.bytes) (32 * i) 32)
      (size = 0 ∨ (20 ≤ size ∧ size ≤ 34)) → leAt c 9 1 ≤ 1 → mask ≤ 15 → (mask = 0 → leAt c 16 12 = 0) →
      (mask ≠ 0 → bufSound c 16 128 buf = true) →
      ((∀ i, i < 4 → bitOf mask i = true → filterBad (f i) = false) →
        (size ≠ 0 → spaceUsed s - ringSpace s.trc.sizeLog2 + ringSpace size ≤ 246 * 2 ^ 30) →
        ∃ t, exec (.traceSet buf) s = .next t ∧ MbxAnswered s t m 0 [] ∧ (t.trc.mode = true ↔ leAt c 9 1 = 1)
          ∧ (size = 0 → t.trc.sizeLog2 = s.trc.sizeLog2 ∧ t.trc.ring = s.trc.ring)
          ∧ (size ≠ 0 → t.trc.sizeLog2 = size ∧ t.trc.ring = [] ∧ t.trc.oldestSeq = s.trc.nextSeq)
          ∧ (∀ i, i < 4 → bitOf mask i = true → t.trc.filters.getD i 0 = f i ∧ natAt t.trc.counts i = 0)
          ∧ (∀ i, i < 4 → bitOf mask i = false → t.trc.filters.getD i 0 = s.trc.filters.getD i filterInit
              ∧ natAt t.trc.counts i = natAt s.trc.counts i))
      ∧ (∀ i, i < 4 → bitOf mask i = true → bitsOf (f i).toNat 96 24 = 0 →
        ∃ t, exec (.traceSet buf) s = .next t ∧ Declined s t m 0x03))

/-- R306, R319, R325, R337, R349, R377, R390, R393 to R395, R404, R408, R409, R458: LINK_CONFIG sets the device, a port or a lane from its
block, refuses a port that is up, and writes the records it reads; CLEAR also clears their counts. -/
def Obligations.LinkConfigSetsAndReads : Prop :=
  ∀ (s : State) (buf : HostBuf) (m : Nat) (c : Bytes), Ordered s m c 0x12 [(8, 4), (16, 12)] →
    let form := leAt c 8 1
    let flags := leAt c 9 1
    let n := leAt c 10 2
    let b := fitBytes 24 buf.bytes
    let q := fitBytes 64 buf.bytes
    let l := fitBytes 3 buf.bytes
    (flags = 0 → form = 1 → n = 0 → bufSound c 16 24 buf = true → leAt b 3 1 = 0 → leAt b 12 1 ≤ 3 → leAt b 13 1 ≤ 7 → leAt b 14 2 = 0 →
      (bitOf (leAt b 12 1) 1 = true → bitOf (leAt b 12 1) 0 = true ∧ openCount s = 0 ∧ s.time ≤ leAt b 16 8) →
      carveOk (leAt b 2 1) (devicePools b) = true →
      let changes := leAt b 2 1 ≠ s.fab.accArea ∨ devicePools b ≠ s.fab.pools
      (¬changes ∨ (fabricBusy s = false
          ∧ reservesFit { s with fab := { s.fab with accArea := leAt b 2 1, pools := devicePools b, stats := tmap s.fab.stats (fun _ q => { q with low := none }) } } = true) →
        ∃ t, exec (.linkConfigDevice buf) s = .next t ∧ MbxAnswered s t m 0 [] ∧ t.host.deviceId = BitVec.ofNat 16 (leAt b 0 2)
          ∧ t.host.deviceIdValid = true ∧ t.fab.accArea = leAt b 2 1 ∧ t.fab.pools = devicePools b
          ∧ (bitOf (leAt b 12 1) 0 = true → t.timeRec.st = 3 ∧ t.timeRec.depth = 0)
          ∧ (bitOf (leAt b 12 1) 0 = false → t.timeRec.parent = leAt b 13 1 ∧ (s.timeRec.st = 3 → t.timeRec.st = 0))
          ∧ (bitOf (leAt b 12 1) 1 = true → t.time = leAt b 16 8) ∧ (bitOf (leAt b 12 1) 1 = false → t.time = s.time))
      ∧ (changes → fabricBusy s = true → ∃ t, exec (.linkConfigDevice buf) s = .next t ∧ Declined s t m 0x0C))
    ∧ (flags = 0 → form = 4 → n < 8 → leAt c 16 12 = 0 → ∃ t, exec (.linkConfigDevice buf) s = .next t ∧ Declined s t m 0x00)
    ∧ (flags = 0 → form = 2 → n < 512 → bufSound c 16 64 buf = true → portBlockOk n q = true →
      ((portCfgOf q).enable = true → lanesClash s n (portCfgOf q).width = false) →
      (((getPort s n).up = false ∨ relinks (getPort s n).cfg (portCfgOf q) = false) →
        ((portCfgOf q).enable = true → portFits (modPort s n (fun p => { p with cfg := portCfgOf q })) n = true) →
        ∃ t, exec (.linkConfigPort buf) s = .next t ∧ MbxAnswered s t m 0 [] ∧ (getPort t n).cfg = portCfgOf q
          ∧ ((portCfgOf q).enable ≠ (getPort s n).cfg.enable → (getPort t n).up = false))
      ∧ ((getPort s n).up = true → relinks (getPort s n).cfg (portCfgOf q) = true →
        ∃ t, exec (.linkConfigPort buf) s = .next t ∧ Declined s t m 0x0E))
    ∧ (flags = 0 → form = 3 → n < 512 → bufSound c 16 3 buf = true → leAt l 0 1 ≤ 3 → leAt l 1 1 ≤ 3 → leAt l 2 1 ≤ 3 →
      let change := leAt l 1 1 ≠ (getLane s n).loopback
      (¬change ∨ lanePortUp s n = false →
        ∃ t, exec (.linkConfigLane buf) s = .next t ∧ MbxAnswered s t m 0 [] ∧ (getLane t n).txInvert = bitOf (leAt l 0 1) 0
          ∧ (getLane t n).rxInvert = bitOf (leAt l 0 1) 1 ∧ (getLane t n).loopback = leAt l 1 1 ∧ (getLane t n).pattern = leAt l 2 1
          ∧ (getLane t n).st = if leAt l 1 1 = (getLane s n).loopback then (getLane s n).st else if leAt l 1 1 = 0 then .down else .loopback)
      ∧ (change → lanePortUp s n = true → ∃ t, exec (.linkConfigLane buf) s = .next t ∧ Declined s t m 0x0E))
    ∧ (flags = 1 ∨ flags = 3 →
      let run : Instr := if flags = 1 then .linkConfigRead buf else .linkConfigClear buf
      (form = 1 → n = 0 → bufSound c 16 8208 buf = true →
        ∃ t bs, exec run s = .next t ∧ MbxAnswered s t m 0 [] ∧ BufferWritten s t c 16 bs ∧ bs.length = 8208
          ∧ leAt bs 0 1 % 4 = s.timeRec.st % 4
          ∧ (∀ i k, i < 128 → k < 4 → leAt bs (16 + 64 * i + 16 * k) 2 = if s.fab.sliceOut.contains i then 0 else poolCount s k % 65536)
          ∧ (flags = 1 → OnlyMailbox s t m) ∧ (flags = 3 → t.timeRec = { s.timeRec with exchanges := 0, faults := 0 }))
      ∧ (form = 2 → n < 512 → bufSound c 16 224 buf = true →
        ∃ t bs, exec run s = .next t ∧ MbxAnswered s t m 0 [] ∧ BufferWritten s t c 16 bs ∧ leAt bs 160 4 = (getPort s n).cnt.recoveries % 2 ^ 32
          ∧ (flags = 1 → OnlyMailbox s t m) ∧ (flags = 3 → (getPort t n).cnt.recoveries = 0 ∧ (getPort t n).up = (getPort s n).up))
      ∧ (form = 3 → n < 512 → bufSound c 16 32 buf = true →
        ∃ t bs, exec run s = .next t ∧ MbxAnswered s t m 0 [] ∧ BufferWritten s t c 16 bs ∧ bs.length = 32
          ∧ leAt bs 0 1 % 8 = laneCode (getLane s n).st ∧ (getLane t n).failRun = (getLane s n).failRun
          ∧ (flags = 3 → (getLane t n).cwUncorrectable = 0 ∧ (getLane t n).trainings = 0))
      ∧ (form = 4 → n < 8 → bufSound c 16 64 buf = true →
        ∃ t bs, exec run s = .next t ∧ MbxAnswered s t m 0 [] ∧ BufferWritten s t c 16 bs ∧ bs.length = 64
          ∧ leAt bs 0 1 % 4 = (getSpoke s n).st % 4 ∧ (flags = 3 → (getSpoke t n).crcErrors = 0 ∧ (getSpoke t n).linkDowns = 0)))
    ∧ (flags = 2 → ∃ t, exec (.linkConfigClear buf) s = .next t ∧ MbxRefused s t m 0x03)

/-- R34 to R37, R152, R153, R252, R415, R438, R455, R456, R495, R539: JOB_OPEN opens a FREE slot with the next generation and its
measurement; JOB_CLOSE drains it, or waits while it is SEALED; PROGRAM_LOAD adds a checked version and PROGRAM_SELECT selects one. -/
def Obligations.JobsAndPrograms : Prop :=
  ∀ (s : State) (buf : HostBuf) (m : Nat) (c : Bytes),
    let j := m - 1
    let sl := getSlot s j
    (Ordered s m c 0x02 [(8, 2), (16, 12)] → leAt c 8 1 ≤ 63 → leAt c 9 1 ≤ 1 → bufSound c 16 128 buf = true →
      let i := leAt c 8 1
      let b := fitBytes 128 buf.bytes
      let o := getSlot s i
      (openBlockOk b = false → ∃ t, exec (.jobOpen buf) s = .next t ∧ Declined s t m 0x03)
      ∧ (openBlockOk b = true → o.st = .open_ → ∃ t, exec (.jobOpen buf) s = .next t ∧ Declined s t m 0x06)
      ∧ (openBlockOk b = true → o.st = .draining → leAt c 9 1 = 0 → ∃ t, exec (.jobOpen buf) s = .next t ∧ Declined s t m 0x08)
      ∧ (openBlockOk b = true → o.st = .draining → leAt c 9 1 = 1 →
        ∃ t, exec (.jobOpen buf) s = .next t ∧ OnlyMailbox s t m ∧ getMbx t m = { getMbx s m with st := .held } ∧ t.ownOrder = s.ownOrder)
      ∧ (openBlockOk b = true → o.st = .free → (slotOfJob s (leAt b 0 2)).isSome = true →
        ∃ t, exec (.jobOpen buf) s = .next t ∧ Declined s t m 0x07)
      ∧ (openBlockOk b = true → o.st = .free → openStatus s (openBlockOf b) = none →
        ∃ t, exec (.jobOpen buf) s = .next t
          ∧ getSlot t i = { slotInit with
              st := .open_, gen := if o.gen % 65536 = 65535 then 1 else o.gen % 65536 + 1, pools := o.pools, ob := openBlockOf b
              meas := shaDigest (List.replicate 48 0 ++ sha384 b) }
          ∧ (∀ k, k ≠ i → getSlot t k = getSlot s k) ∧ MbxAnswered s t m 0 (leBytes 2 (if o.gen % 65536 = 65535 then 1 else o.gen % 65536 + 1))))
    ∧ (Ordered s m c 0x03 [] →
      (sl.step.st = .sealed → ∃ t, exec .jobClose s = .next t ∧ t = modMbx s m (fun b => { b with st := .held }))
      ∧ (sl.step.st ≠ .sealed →
        ∃ t, exec .jobClose s = .next t ∧ MbxAnswered s t m 0 [] ∧ (getSlot t j).st = .draining ∧ (getSlot t j).drainStart = s.time
          ∧ (sl.step.st = .dryFit → (getSlot t j).step.st = .rollingBack ∧ (getSlot t j).step.abortCause = 0x10)))
    ∧ (Ordered s m c 0x09 [(8, 4), (16, 12)] → 64 ≤ bufLen c 16 → bufSound c 16 (bufLen c 16) buf = true →
      let b := fitBytes (bufLen c 16) buf.bytes
      let num := leAt c 8 4
      imageHeaderOk b = true →
      (imageSound b (bufLen c 16) = false → ∃ t, exec (.programLoad buf) s = .next t ∧ Declined s t m 0x18)
      ∧ (imageSound b (bufLen c 16) = true →
        (4096 * sl.ob.cacheShare < 8 * imageCode b → ∃ t, exec (.programLoad buf) s = .next t ∧ Declined s t m 0x17)
        ∧ (8 * imageCode b ≤ 4096 * sl.ob.cacheShare →
          (∀ v, sl.progs.find? (fun v => v.num == num) = some v → v.st = .selected ∨ v.st = .inUse →
            ∃ t, exec (.programLoad buf) s = .next t ∧ Declined s t m 0x19)
          ∧ (sl.progs.find? (fun v => v.num == num) = none → 8 ≤ sl.progs.length → (∀ v ∈ sl.progs, v.st ≠ .ready ∧ v.st ≠ .retired) →
            ∃ t, exec (.programLoad buf) s = .next t ∧ Declined s t m 0x1A)
          ∧ (sl.progs.find? (fun v => v.num == num) = none → sl.progs.length < 8 →
            ∃ t v, exec (.programLoad buf) s = .next t ∧ MbxAnswered s t m 0 [] ∧ (getSlot t j).progs = sl.progs ++ [v] ∧ v.num = num
              ∧ v.st = .ready ∧ v.code.length = leAt b 4 4 ∧ v.consts.length = leAt b 8 4
              ∧ (∀ k, k < leAt b 4 4 → v.code.getD k 0 = BitVec.ofNat 64 (leAt b (64 + 8 * k) 8))
              ∧ (v.mirror = if leAt b 12 4 = 0xFFFFFFFF then none else some (leAt b 12 4))
              ∧ (getSlot t j).meas = shaDigest (leBytes 48 sl.meas.toNat ++ sha384 b)))))
    ∧ (Ordered s m c 0x0A [(8, 4)] →
      let num := leAt c 8 4
      (sl.progs.find? (fun v => v.num == num) = none → ∃ t, exec .programSelect s = .next t ∧ MbxRefused s t m 0x1B)
      ∧ (∀ v, sl.progs.find? (fun v => v.num == num) = some v → v.st ≠ .loading → v.st ≠ .selected →
        ∃ t, exec .programSelect s = .next t ∧ MbxAnswered s t m 0 [] ∧ (getSlot t j).progs.length = sl.progs.length
          ∧ ∀ (k : Nat) (x : ProgVer), sl.progs[k]? = some x →
            (getSlot t j).progs[k]? = some { x with
              st := if x.num = num then (if x.st = .inUse then .inUse else .selected) else if x.st = .selected then .ready else x.st }))

/-- R98 to R104, R222 to R231, R262, R279, R308, R416, R417, R453: GROUP_DEFINE writes a group's first version and GROUP_REGEN its next or
its removal, at once or with the next step; SHARD_PLACE sets the map; TANDEM_BIND names the partner and the mirrored device, and
SPARE_ADMIT where a spare's rows come from. -/
def Obligations.GroupsShardsAndTandems : Prop :=
  ∀ (s : State) (buf : HostBuf) (m : Nat) (c : Bytes),
    let i := m - 1
    let sl := getSlot s i
    (∀ op, op = 0x07 ∨ op = 0x08 → Ordered s m c op [(8, 2), (12, 4), (16, 12)] → leAt c 8 2 < 2 ^ 14 →
      let gid := leAt c 8 2
      let g := tget groupSetInit sl.groups gid
      let bytes := fitBytes (128 + 8 * leAt c 12 4) buf.bytes
      let v : GroupVer := ⟨BitVec.ofNat 1024 (leAt bytes 0 128), words64 (leAt c 12 4) (bytes.drop 128)⟩
      let run : Instr := if op = 0x07 then .groupDefine buf else .groupRegen buf
      let granted (w : GroupVer) (gen base : Nat) := w.list = v.list ∧ geGen w = gen ∧ runBase w = base ∧ geListCrc w = (listCrc v).toNat
        ∧ geDevices w = geDevices v
      bufSound c 16 (128 + 8 * leAt c 12 4) buf = true →
      (geGroupId v ≠ gid → ∃ t, exec run s = .next t ∧ Declined s t m 0x03)
      ∧ (geGroupId v = gid →
        (op = 0x07 → g.cur.isSome = true → ∃ t, exec run s = .next t ∧ Declined s t m 0x13)
        ∧ (op = 0x07 → g.cur = none → listOk s v = false → ∃ t, exec run s = .next t ∧ Declined s t m 0x12)
        ∧ (op = 0x07 → g.cur = none → listOk s v = true → ((tget? sl.groups gid).isSome = true ∨ groupEntries s < 16384) →
          ∀ base, placeRun s i sl.groups v = some base →
          ∃ t w, exec run s = .next t ∧ tget? (getSlot t i).groups gid = some { g with cur := some w } ∧ granted w 1 base
            ∧ MbxAnswered s t m 0 (leBytes 2 1 ++ List.replicate 6 0 ++ leBytes 8 (listCrc v).toNat))
        ∧ (op = 0x08 → g.cur = none → ∃ t, exec run s = .next t ∧ Declined s t m 0x14)
        ∧ (∀ cur, op = 0x08 → g.cur = some cur →
          let gen := if geGen cur % 65536 = 65535 then 1 else geGen cur % 65536 + 1
          (removalOk v = true → ∃ t, exec run s = .next t
            ∧ (stepArmed sl = true → tget? (getSlot t i).groups gid = some { g with staged := some none })
            ∧ (stepArmed sl = false → (tget groupSetInit (getSlot t i).groups gid).cur = none)
            ∧ MbxAnswered s t m 0 (leBytes 2 gen ++ List.replicate 6 0 ++ leBytes 8 (listCrc v).toNat))
          ∧ (removalOk v = false → listOk s v = true → ∀ base, placeRun s i (tset sl.groups gid { g with staged := none }) v = some base →
            ∃ t w, exec run s = .next t ∧ granted w gen base
              ∧ (stepArmed sl = true → tget? (getSlot t i).groups gid = some { g with staged := some (some w) })
              ∧ (stepArmed sl = false → tget? (getSlot t i).groups gid = some { g with cur := some w, staged := none })
              ∧ MbxAnswered s t m 0 (leBytes 2 gen ++ List.replicate 6 0 ++ leBytes 8 (listCrc v).toNat)))))
    ∧ (Ordered s m c 0x04 [(8, 8), (16, 12), (32, 4), (40, 20)] → leAt c 8 8 % 1024 = 0 → 1024 ≤ leAt c 8 8 → leAt c 8 8 ≤ 2 ^ 44 →
      leAt c 40 8 % 1024 = 0 →
      let n := (leAt c 8 8 + 2 ^ 20 - 1) / 2 ^ 20
      let b := fitBytes (4 * n) buf.bytes
      let new := placedSlot s sl c (mapEntries n b)
      bufSound c 16 (4 * n) buf = true → (∀ k, k < n → leAt b (4 * k) 4 < 2 ^ 17) →
      (stepArmed sl = true → ∃ t, exec (.shardPlace buf) s = .next t ∧ Declined s t m 0x10)
      ∧ (stepArmed sl = false → granulesFit s i new = true →
        spaceUsed s - shardSpace sl.shard + shardSpace new.shard ≤ 246 * 2 ^ 30 →
        ∃ t, exec (.shardPlace buf) s = .next t ∧ (getSlot t i).shard.l = leAt c 8 8 ∧ (getSlot t i).shard.map.length = n
          ∧ (∀ k, k < n → (getSlot t i).shard.map.getD k 0 = BitVec.ofNat 32 (leAt b (4 * k) 4)) ∧ (getSlot t i).shard.mapCrc = crc64 b
          ∧ (getSlot t i).shard.scratchRows = leAt c 32 4 ∧ (getSlot t i).shard.ememFirst = leAt c 40 8
          ∧ (getSlot t i).shard.ememChunks = leAt c 48 4 ∧ (getSlot t i).shard.short = false
          ∧ MbxAnswered s t m 0 (leBytes 8 (crc64 b).toNat ++ leBytes 8 (ownedChunks new (selfId s)).length)))
    ∧ (Ordered s m c 0x05 [(8, 4), (16, 4)] →
      let p := leAt c 8 2
      let d := leAt c 10 2
      let ship := leAt c 16 4
      (p = selfId s ∨ d = selfId s → ∃ t, exec .tandemBind s = .next t ∧ MbxRefused s t m 0x03)
      ∧ (p ≠ selfId s → d ≠ selfId s →
        (stepArmed sl = true → ∃ t, exec .tandemBind s = .next t ∧ MbxRefused s t m 0x10)
        ∧ (stepArmed sl = false → granulesFit s i (boundSlot sl (some p) (some d) ship) = true → shipRowsOthers s i + ship ≤ 3584 →
          ∃ t, exec .tandemBind s = .next t ∧ MbxAnswered s t m 0 [] ∧ (getSlot t i).tan.partner = some p ∧ (getSlot t i).tan.mirrorOf = some d
            ∧ (getSlot t i).tan.shipRows = ship)))
    ∧ (Ordered s m c 0x05 [(12, 1)] → leAt c 12 1 = 1 → stepArmed sl = false → granulesFit s i (boundSlot sl none none 0) = true →
      shipRowsOthers s i ≤ 3584 →
      ∃ t, exec .tandemUnbind s = .next t ∧ MbxAnswered s t m 0 [] ∧ (getSlot t i).tan.partner = none ∧ (getSlot t i).tan.mirrorOf = none)
    ∧ (Ordered s m c 0x06 [(8, 4)] →
      let lost := leAt c 8 2
      let source := leAt c 10 2
      (source = selfId s ∨ lost = selfId s → ∃ t, exec .spareAdmit s = .next t ∧ MbxRefused s t m 0x03)
      ∧ (source ≠ selfId s → lost ≠ selfId s →
        ∃ t, exec .spareAdmit s = .next t ∧ MbxAnswered s t m 0 []
          ∧ (ownedChunks sl (selfId s) = [] → EventPosted s t 0x0014 i (leBytes 1 1 ++ leBytes 8 (sl.step.lastGlued.getD 0)) ∧ (getSlot t i).tan = sl.tan)
          ∧ (ownedChunks sl (selfId s) ≠ [] → (getSlot t i).tan = { sl.tan with spareFrom := some (lost, source), spareGot := [] })))

/-- R246 to R249, R252, R278, R281, R298 to R300, R457, R460: STEP_ARM keeps the step sequence, makes a new step or a replay current at its
first arming, and arms what it carries; STEP_STATUS writes the slot's records; ROLLBACK aborts a step in dry-fit or resolves a SEALED
one; HEALTH_READ, BRAKE_SET and REHEARSAL_SET read and set the slot's health. -/
def Obligations.StepsAreArmedReadAndRolledBack : Prop :=
  ∀ (s : State) (buf : HostBuf) (m : Nat) (c : Bytes),
    let i := m - 1
    let sl := getSlot s i
    let r := sl.step
    let n := leAt c 8 8
    (Ordered s m c 0x0B [(8, 56)] →
      let declines (st : Nat) := ∃ t, exec (.stepArm buf) s = .next t ∧ OnlyMailbox s t m ∧ MbxAnswered s t m st (leBytes 2 0 ++ leBytes 2 0xFFFF)
      (armArgsOk r c = false → declines 0x03)
      ∧ (armArgsOk r c = true → bitOf (leAt c 16 1) 1 = false →
        (r.st = .sealed → declines 0x1F) ∧ (r.st = .rollingBack → declines 0x21) ∧ (r.st = .dryFit → n ≠ r.num → declines 0x1E)
        ∧ (r.st = .dryFit → n = r.num → r.last = true → declines 0x20) ∧ (r.st = .glued → n ≠ (r.num + 1) % 2 ^ 64 → declines 0x1E)
        ∧ (r.st = .rolledBack → n ≠ r.num → declines 0x1E)
        ∧ (∀ v, (r.st = .none ∨ (r.st = .glued ∧ n = (r.num + 1) % 2 ^ 64) ∨ (r.st = .rolledBack ∧ n = r.num)) → armVersion sl true = some v →
          slotStatus s { sl with groups := boundGroups sl.groups } (some v) = none → sl.cadHeld = [] → sl.tan.heldStates = [] → leAt c 18 2 = 0 →
          ∃ t, exec (.stepArm buf) s = .next t ∧ MbxAnswered s t m 0 (leBytes 2 0 ++ leBytes 2 0xFFFF)
            ∧ (getSlot t i).step.st = .dryFit ∧ (getSlot t i).step.num = n ∧ (getSlot t i).step.armTime = s.time
            ∧ (getSlot t i).step.attempt = (if r.st = .rolledBack then r.attempt else 0)
            ∧ (getSlot t i).step.deadline = 1000 * (if leAt c 20 4 = 0 then sl.ob.stepDeadline else leAt c 20 4)
            ∧ ((getSlot t i).step.last = true ↔ bitOf (leAt c 16 1) 0 = true) ∧ (getSlot t i).running = some v.num
            ∧ (getSlot t i).buckets = [] ∧ (getSlot t i).tokens = [] ∧ (getSlot t i).groups = boundGroups sl.groups)
        ∧ (∀ v d, r.st = .dryFit → n = r.num → r.last = false → armVersion sl false = some v → slotStatus s sl (some v) = none →
          leAt c 18 2 = 1 → d = BitVec.ofNat 256 (leAt c 24 32) →
          (∀ st, armStatus s i d = some st →
            ∃ t, exec (.stepArm buf) s = .next t ∧ OnlyMailbox s t m ∧ MbxAnswered s t m st (leBytes 2 0 ++ leBytes 2 0))
          ∧ (armStatus s i d = none → bdMode d = 2 →
            ∃ t b, exec (.stepArm buf) s = .next t ∧ MbxAnswered s t m 0 (leBytes 2 1 ++ leBytes 2 0xFFFF)
              ∧ tget? (getSlot t i).buckets (bdBucket d) = some b ∧ b.desc = d ∧ b.emax = some (bdEmaxFixed d) ∧ b.abandoned = false
              ∧ (∀ k, k ≠ bdBucket d → tget? (getSlot t i).buckets k = tget? sl.buckets k)
              ∧ ((getSlot t i).step.last = true ↔ bitOf (leAt c 16 1) 0 = true)))))
    ∧ (Ordered s m c 0x0C [(8, 13)] →
      let nb := min sl.buckets.length ((bufLen c 8 - 4608) / 64)
      let ne := min sl.log.length ((bufLen c 8 - 4608 - 64 * nb) / 16)
      let run : Instr := if leAt c 20 1 % 2 = 0 then .stepStatus buf else .stepStatusClearFlags buf
      (leAt c 20 1 ≤ 1 → bufSound c 8 4608 buf = true →
        ∃ t bs, exec run s = .next t ∧ BufferWritten s t c 8 bs ∧ bs.length = 4608 + 64 * nb + 16 * ne
          ∧ leAt bs 0 8 = r.num % 2 ^ 64 ∧ leAt bs 8 1 = r.attempt % 256 ∧ leAt bs 64 4 = sl.flags.toNat ∧ leAt bs 128 32 = sl.fault.toNat
          ∧ (getSlot t i).log = sl.log.drop ne ∧ (getSlot t i).flags = (if leAt c 20 1 = 1 then 0 else sl.flags)
          ∧ (getSlot t i).step = r ∧ (getSlot t i).buckets = sl.buckets
          ∧ MbxAnswered s t m 0 (leBytes 4 (4608 + 64 * nb + 16 * ne) ++ leBytes 4 sl.buckets.length))
      ∧ (leAt c 20 1 ≤ 1 → bufSound c 8 4608 buf = false → ∃ t, exec run s = .next t ∧ MbxRefused s t m 0x04)
      ∧ (1 < leAt c 20 1 → ∃ t, exec run s = .next t ∧ MbxRefused s t m 0x03))
    ∧ (Ordered s m c 0x0D [(8, 10)] →
      let resolve := leAt c 17 1
      let run : Instr := if resolve = 1 then .rollbackResolveGlued else if resolve = 2 then .rollbackResolveAborted else .rollback
      let named := r.st ≠ .none ∧ r.num = n ∧ r.attempt = leAt c 16 1
      (2 < resolve → ∃ t, exec run s = .next t ∧ MbxRefused s t m 0x03)
      ∧ (resolve ≤ 2 → ¬named → ∃ t, exec run s = .next t ∧ MbxRefused s t m 0x1E)
      ∧ (named → resolve = 0 →
        (r.st = .dryFit → ∃ t, exec run s = .next t ∧ MbxAnswered s t m 0 [] ∧ StepAborted s t i 0x12 (selfId s))
        ∧ (r.st = .sealed → ∃ t, exec run s = .next t ∧ MbxRefused s t m 0x1F) ∧ (r.st = .glued → ∃ t, exec run s = .next t ∧ MbxRefused s t m 0x24)
        ∧ (r.st = .rollingBack ∨ r.st = .rolledBack → ∃ t, exec run s = .next t ∧ MbxRefused s t m 0x1E))
      ∧ (named → resolve = 1 ∨ resolve = 2 →
        (r.st = .glued → ∃ t, exec run s = .next t ∧ MbxRefused s t m 0x24)
        ∧ (r.st = .dryFit ∨ r.st = .rollingBack ∨ r.st = .rolledBack → ∃ t, exec run s = .next t ∧ MbxRefused s t m 0x23))
      ∧ (named → resolve = 1 → r.st = .sealed →
        ∃ t, exec run s = .next t ∧ MbxAnswered s t m 0 [] ∧ (getSlot t i).step = { r with st := .glued, lastGlued := some r.num, decisionLost := false }
          ∧ (getSlot t i).shard.gluedCopy = r.num % 2)
      ∧ (named → resolve = 2 → r.st = .sealed →
        ∃ t, exec run s = .next t ∧ MbxAnswered s t m 0 [] ∧ StepAborted s t i 0x12 (selfId s)))
    ∧ (Ordered s m c 0x0E [(8, 12)] →
      let us := scoredSubjects s sl
      (bufSound c 8 (16 * us.length) buf = true →
        ∃ t, exec (.healthRead buf) s = .next t ∧ MbxAnswered s t m 0 (leBytes 4 us.length) ∧ OnlyMailbox s t m
          ∧ (us ≠ [] → ∃ bs, BufferWritten s t c 8 bs ∧ bs.length = 16 * us.length
            ∧ ∀ k u, us[k]? = some u → leAt bs (16 * k) 4 = u.suspect % 2 ^ 32 ∧ bitsOf (leAt bs (16 * k + 4) 2) 4 10 = u.score % 2 ^ 10))
      ∧ (bufSound c 8 (16 * us.length) buf = false → ∃ t, exec (.healthRead buf) s = .next t ∧ MbxRefused s t m 0x04))
    ∧ (Ordered s m c 0x0F [(8, 2), (12, 18), (32, 16)] →
      let h := brakeWanted sl.health c
      (brakeUnusedZero c = false ∨ brakeInRange h = false → ∃ t, exec .brakeSet s = .next t ∧ MbxRefused s t m 0x03)
      ∧ (brakeUnusedZero c = true → brakeInRange h = true → h.members.spares ≤ sl.health.members.spares → h.devices.spares ≤ sl.health.devices.spares →
        ∃ t, exec .brakeSet s = .next t ∧ MbxAnswered s t m 0 [] ∧ (getSlot t i).health = h
          ∧ h.w = (if bitOf (leAt c 8 2) 0 then leAt c 12 4 else sl.health.w)
          ∧ h.threshold = (if bitOf (leAt c 8 2) 6 then leAt c 24 2 else sl.health.threshold)
          ∧ h.brakeWindow = (if bitOf (leAt c 8 2) 9 then leAt c 32 4 else sl.health.brakeWindow) ∧ h.subjects = sl.health.subjects))
    ∧ (Ordered s m c 0x10 [(8, 5), (16, 8)] →
      (leAt c 8 4 ≤ 86400 → leAt c 12 1 ≤ 15 →
        ∃ t, exec .rehearsalSet s = .next t ∧ MbxAnswered s t m 0 []
          ∧ (getSlot t i).health = { sl.health with reI := leAt c 8 4, reKinds := leAt c 12 1, reSeed := leAt c 16 8 })
      ∧ (86400 < leAt c 8 4 ∨ 15 < leAt c 12 1 → ∃ t, exec .rehearsalSet s = .next t ∧ MbxRefused s t m 0x03))

/-! ### Delivery and buffers (04, 13) -/

/-- R105, R107, R110 to R115, R121, R123, R299, R343, R370, R373: a GATHER that passes its checks is served from a filled entry, joins the
entry that is being filled, or opens one; one that fails is answered with its reason. A DELIVER and a completed cast fill the entry
and serve whoever waits; a request turned away is sent again; an entry not filled in its window aborts the step; and who waits for a
buffer asks again. -/
def Obligations.DeliveriesAreServed : Prop :=
  ∀ (s s1 : State) (rx : RxFrame) (h : Hdr) (slot : SlotId),
    (∀ i, Admitted tGather s rx h i s1 →
      let p := rx.port.val
      let sl := getSlot s1 i
      let trunk := (getPort s p).cfg.trunk
      let run : Instr := if trunk then .deviceGather rx else .gather rx
      (∀ r, gatherCheck s1 sl h p = some r →
        ∃ t, exec run s = .next t ∧ (getSlot t i).fetch = sl.fetch ∧ (getSlot t i).deliv.accepted = sl.deliv.accepted
          ∧ Nacked s1 t p (reasonCode r))
      ∧ (∀ g, gatherCheck s1 sl h p = none → gatherChunks h = [g] →
        (∀ e b, findFetch sl g h.format h.mode = some e → e.st = .filled → e.buf = some b → e.chunk = g → TakesFrames s1 p i →
          sl.health.corruptNext ≠ some p →
          ∃ t f, exec run s = .next t ∧ Queued s1 t p 3 f ∧ f.payload = e.image ∧ f.fcs = e.crc ∧ f.h.tag = h.tag ∧ f.h.ts = g ∧ f.bufs = [b]
            ∧ (getSlot t i).deliv.cacheHits = inc32 sl.deliv.cacheHits ∧ (getSlot t i).deliv.copies = inc32 sl.deliv.copies)
        ∧ (∀ e, findFetch sl g h.format h.mode = some e → e.st ≠ .filled →
          ∃ t e', exec run s = .next t ∧ findFetch (getSlot t i) g h.format h.mode = some e' ∧ e'.st = e.st
            ∧ (trunk = false → e'.portMask.testBit p = true ∧ e'.downMask = e.downMask) ∧ (trunk = true → e'.portMask = e.portMask)
            ∧ (getPort t p).rx.gathers = (getPort s1 p).rx.gathers ++ [⟨i, g, h.format, h.mode, h.tag, h.group, gatherUnits h.format 1⟩]
            ∧ (getSlot t i).deliv.merged = inc32 sl.deliv.merged)
        ∧ (findFetch sl g h.format h.mode = none →
          ∃ t e', exec run s = .next t ∧ findFetch (getSlot t i) g h.format h.mode = some e' ∧ e'.created = s1.time
            ∧ (e'.st = .waitBuffer ↔ e'.buf = none)
            ∧ (ownerOf sl g = some (selfId s1) → e'.buf ≠ none → e'.st = if sl.servable.contains g then .casting else .waitSource)
            ∧ (ownerOf sl g ≠ some (selfId s1) → e'.buf ≠ none → e'.st = .fetching)
            ∧ (getSlot t i).deliv.accepted = inc32 sl.deliv.accepted)))
    ∧ (∀ i, Admitted tDeliver s rx h i s1 →
      let p := rx.port.val
      let sl := getSlot s1 i
      let g := hDeliverChunk h
      (∀ r, deliverCheck s1 sl h p = some r → ∃ t, exec (.deliver rx) s = .next t ∧ (getSlot t i).fetch = sl.fetch)
      ∧ (deliverCheck s1 sl h p = none →
        ∃ t e, exec (.deliver rx) s = .next t ∧ findFetch (getSlot t i) g h.format h.mode = some e ∧ e.st = .filled ∧ e.image = rx.payload
          ∧ e.crc = rx.fcs ∧ e.downMask = 0 ∧ e.portMask = 0
          ∧ ∀ q r, r ∈ (getPort t q).rx.gathers → ¬(r.slot = i ∧ r.chunk = g ∧ r.format = h.format ∧ r.mode = h.mode)))
    ∧ (let i := slot.val
      let sl := getSlot s i
      (∀ e, sl.fetch.find? (fun e => e.st == .casting) = some e →
        ∃ t e', exec (.castComplete slot) s = .next t ∧ findFetch (getSlot t i) e.chunk e.format e.mode = some e' ∧ e'.st = .filled
          ∧ e'.image = (castImage s i e.chunk e.format e.mode).1 ∧ e'.crc = crc64 (castImage s i e.chunk e.format e.mode).1
          ∧ (getSlot t i).flags = sl.flags ||| (castImage s i e.chunk e.format e.mode).2 ∧ (getSlot t i).deliv.cast = inc32 sl.deliv.cast)
      ∧ (∀ e, sl.fetch.find? (fun e => e.resendAt.isSome && e.st == .fetching) = some e →
        ∃ t e', exec (.gatherResend slot) s = .next t ∧ findFetch (getSlot t i) e.chunk e.format e.mode = some e' ∧ e'.resendAt = none
          ∧ t.time = timeMask (max s.time (e.resendAt.getD 0))
          ∧ ∀ v dev p, fetchParent sl e.group e.chunk = some (v, dev) → trunkPortFor v dev e.chunk = some p → TakesFrames s p i →
            ∃ f, Queued s t p 0 f ∧ f.h.typ = tGather ∧ f.h.attempt = 0 ∧ f.h.format = e.format ∧ f.h.mode = e.mode
              ∧ f.h.ts = 1024 * e.chunk + 2 ^ 44 ∧ f.payload = [])
      ∧ (∀ e, firstGatherDue s sl = some e →
        ∃ t, exec (.gatherDeadline slot) s = .next t ∧ t.time = timeMask (max s.time (e.windowStart + 1000 * sl.ob.gatherDeadline))
          ∧ (sl.step.st = .dryFit → StepAborted s t i 0x04 (selfId s)))
      ∧ (s.fab.waiters = [] → exec .poolWaitRetry s = .next s)
      ∧ (∀ t0, s.fab.waiters = [(.report i, t0)] → sl.pools.length = 5 →
        ∃ t, exec .poolWaitRetry s = .next t ∧ t.fab.waiters = []
          ∧ (getPool t i 4).waitMax = max (getPool s i 4).waitMax (min (s.time - t0) (2 ^ 32 - 1)))
      ∧ (∀ e t0 b s2, s.fab.waiters = [(.fetch i e.chunk e.format e.mode, t0)] → findFetch sl e.chunk e.format e.mode = some e → e.st = .waitBuffer →
        cachedUnits sl + poolSize (smallestPool ((chunkImageBytes e.format).getD 0)) / 256 ≤ sl.ob.castCache →
        ownerOf sl e.chunk = some (selfId s) → sl.servable.contains e.chunk = true →
        poolRequest s (tileOfChunk e.chunk) i 3 ((chunkImageBytes e.format).getD 0) (ownerFetch i) = (.ok b, s2) →
        ∃ t e', exec .poolWaitRetry s = .next t ∧ t.fab.waiters = [] ∧ findFetch (getSlot t i) e.chunk e.format e.mode = some e'
          ∧ e'.st = .casting ∧ e'.buf = some b))

/-- R340, R344 to R346: a buffer goes back to its pool, and its units to its slot, when its owner releases it and no list holds it, or
when the last list unlinks it after that; a release or unlink by another, or of a buffer that is free, is counted and changes no
buffer. -/
def Obligations.BuffersAreReleasedOnce : Prop :=
  ∀ (s : State) (b holder : Nat),
    let key := b / 65536 * 4 + b / 16384 % 4
    let stat (t : State) := tget poolStatInit t.fab.stats key
    let refused (c : Instr) (foreign : Bool) := ∃ t, exec c s = .next t ∧ t.fab.bufs = s.fab.bufs
      ∧ (foreign = false → stat t = { stat s with doubleFree := inc32 (stat s).doubleFree })
      ∧ (foreign = true → stat t = { stat s with foreignFree := inc32 (stat s).foreignFree })
    let freed (c : Instr) (d : BufDesc) := ∃ t, exec c s = .next t ∧ t.fab.bufs = terase s.fab.bufs b ∧ t.out = s.out
      ∧ (d.cls < (getSlot s d.slot).pools.length →
        (getPool t d.slot d.cls).txHeld = (getPool s d.slot d.cls).txHeld - poolSize (b / 16384 % 4) / 256)
    let becomes (c : Instr) (d : BufDesc) := ∃ t, exec c s = .next t ∧ t = { s with fab := { s.fab with bufs := tset s.fab.bufs b d } }
    (tget? s.fab.bufs b = none → refused (.bufferRelease b holder) false ∧ refused (.bufferUnlink b holder) false)
    ∧ (∀ d, tget? s.fab.bufs b = some d →
      (d.owner ≠ holder → refused (.bufferRelease b holder) true)
      ∧ (d.owner = holder → d.shared = false → freed (.bufferRelease b holder) d)
      ∧ (d.owner = holder → d.shared = true → d.ownerReleased = true → refused (.bufferRelease b holder) false)
      ∧ (d.owner = holder → d.shared = true → d.ownerReleased = false → d.holders = [] → freed (.bufferRelease b holder) d)
      ∧ (d.owner = holder → d.shared = true → d.ownerReleased = false → d.holders ≠ [] →
        becomes (.bufferRelease b holder) { d with ownerReleased := true })
      ∧ (d.holders = [] → refused (.bufferUnlink b holder) false)
      ∧ (d.holders ≠ [] → holder ∉ d.holders → refused (.bufferUnlink b holder) true)
      ∧ (holder ∈ d.holders → d.holders.erase holder ≠ [] → becomes (.bufferUnlink b holder) { d with holders := d.holders.erase holder })
      ∧ (holder ∈ d.holders → d.holders.erase holder = [] → d.ownerReleased = true → freed (.bufferUnlink b holder) d)
      ∧ (holder ∈ d.holders → d.holders.erase holder = [] → d.ownerReleased = false →
        becomes (.bufferUnlink b holder) { d with holders := [], shared := false }))

/-! ### The tandem mirror (10) -/

/-- R87, R93, R103, R254, R255, R264, R268, R371, R373: a STATE frame of the current step and attempt is kept: a pending row with its
CRC, error-memory words, a shipped row, a report that is compared. One that comes early, or while a mirror pass runs, is held; an
old one is dropped; a report that disagrees, a malformed frame and a full shipment area abort the step. -/
def Obligations.StateFramesReachTheMirror : Prop :=
  ∀ (s s1 : State) (rx : RxFrame) (h : Hdr) (i : Nat), Admitted tState s rx h i s1 →
    let p := rx.port.val
    let sl := getSlot s1 i
    let r := sl.step
    let tan := sl.tan
    let k := hStateKind h
    let g := hStateChunk h
    let x : HeldState := ⟨p, h, rx.payload, rx.fcs, unitsOf rx.payload.length⟩
    let run := stateCmd k rx
    let aborts (cause : Nat) := ∃ t, exec run s = .next t ∧ StepAborted s1 t i cause (selfId s1)
    let held := ∃ t, exec run s = .next t ∧ (getSlot t i).tan = { tan with heldStates := tan.heldStates ++ [x] } ∧ (getSlot t i).step = r
      ∧ t.hbm = s1.hbm
    (k = 0 ∨ 8 < k → stateMalformed s1 sl h p = true)
    ∧ (stateMalformed s1 sl h p = true → (getPort s1 p).cfg.trunk = true →
      (r.st = .dryFit → aborts 0x09) ∧ (r.st ≠ .dryFit → ∃ t, exec run s = .next t ∧ (getSlot t i).tan = tan ∧ t.hbm = s1.hbm))
    ∧ (stateMalformed s1 sl h p = false →
      (tan.passRunning = true → k ≠ 4 → k ≠ 8 → held)
      ∧ (k ∈ [1, 2, 3, 7, 8] → tan.passRunning = false ∨ k = 8 →
        (stateAge sl h = .newer → held)
        ∧ (stateAge sl h = .older → ∃ t, exec run s = .next t ∧ (getSlot t i).tan = tan ∧ t.hbm = s1.hbm
          ∧ (getSlot t i).step = { r with reportsDropped := if k = 7 ∨ k = 8 then inc32 r.reportsDropped else r.reportsDropped })
        ∧ (stateAge sl h = .same →
          (k = 1 → r.partnerReport = none → rx.payload.length = 4096 →
            ∃ t, exec run s = .next t ∧ (getSlot t i).tan = { tan with pending := tset tan.pending g rx.fcs } ∧ RowStored s1 t i .pending g 0 rx.payload)
          ∧ (k = 2 → r.partnerReport = none →
            ∃ t, exec run s = .next t ∧ g ∈ (getSlot t i).tan.pendingEmem ∧ ∀ n, n < 1024 →
              let word := BitVec.ofNat 32 (leAt rx.payload (4 * n) 4)
              (h.step % 2 = 0 → tget 0 (getSlot t i).tan.ememMirror0 (g * 1024 + n) = word)
              ∧ (h.step % 2 = 1 → tget 0 (getSlot t i).tan.ememMirror1 (g * 1024 + n) = word))
          ∧ (k = 3 →
            let here := (tan.shipped.filter (fun e => tileOfChunk e.1 == tileOfChunk g)).length
            (here < tan.shipRows → ∃ t, exec run s = .next t
              ∧ (getSlot t i).tan = { tan with shipped := tan.shipped ++ [(g, hStatePlane h, rx.payload)] })
            ∧ (tan.shipRows ≤ here → r.st = .dryFit → aborts 0x13))
          ∧ (k = 7 → ∀ d, tan.mirrorOf = some d →
            let w : BitVec 256 := BitVec.ofNat 256 (leNat rx.payload)
            let chunks := bitsOf w.toNat 0 32
            let rows := bitsOf w.toNat 32 32
            (r.partnerReport = none → r.partnerAgreed = false →
              ((tan.pending.length < chunks ∧ tan.pendingEmem.length ≤ rows) →
                ∃ t, exec run s = .next t ∧ (getSlot t i).step = { r with partnerReport := some w })
              ∧ (tan.pending.length = chunks → tan.pendingEmem.length = rows → (mirroredBuckets sl).all bucketDone = true →
                (gradDigest s1 sl d = BitVec.ofNat 64 (bitsOf w.toNat 64 64) →
                  ∃ t, exec run s = .next t ∧ (getSlot t i).step = { r with partnerReport := some w, partnerAgreed := true })
                ∧ (gradDigest s1 sl d ≠ BitVec.ofNat 64 (bitsOf w.toNat 64 64) → r.st = .dryFit → aborts 0x0B))
              ∧ (chunks < tan.pending.length ∨ rows < tan.pendingEmem.length → r.st = .dryFit → aborts 0x0B))
            ∧ (r.partnerReport = some w →
              ∃ t, exec run s = .next t ∧ (getSlot t i).step = { r with reportsDropped := inc32 r.reportsDropped })
            ∧ (∀ w0, r.partnerReport = some w0 → w0 ≠ w → r.st = .dryFit → aborts 0x0B))
          ∧ (k = 8 →
            let q := tget segInit r.ringPorts p
            let n := leAt rx.payload 0 4
            let d : W64 := BitVec.ofNat 64 (leAt rx.payload 8 8)
            (q.report = none → q.got < n → ∃ t, exec run s = .next t ∧ tget segInit (getSlot t i).step.ringPorts p = { q with report := some (n, d) })
            ∧ (q.report = none → q.got = n → q.gotDigest = d →
              ∃ t, exec run s = .next t ∧ tget segInit (getSlot t i).step.ringPorts p = { q with report := some (n, d), agreed := true })
            ∧ (q.report = none → n < q.got ∨ (q.got = n ∧ q.gotDigest ≠ d) → r.st = .dryFit → aborts 0x0B)
            ∧ (q.report = some (n, d) → ∃ t, exec run s = .next t ∧ (getSlot t i).step = { r with reportsDropped := inc32 r.reportsDropped })
            ∧ (∀ v, q.report = some v → v ≠ (n, d) → r.st = .dryFit → aborts 0x0B)))))

/-- R262, R263, R266, R269, R274, R277, R279, R308, R362, R430, R534: a restored row takes the place of a dirty one; resync rows and words
fill a mirror or a spare (which row ends a run is log entry 62, DEDUCED); a request for rows is served, waits or is refused by the
mirror's state; rows are sent one by one with their step, and the last of a resync is reported. -/
def Obligations.RowsAreRestoredAndResynced : Prop :=
  (∀ (s s1 : State) (rx : RxFrame) (h : Hdr) (i : Nat), Admitted tState s rx h i s1 →
    let p := rx.port.val
    let sl := getSlot s1 i
    let tan := sl.tan
    let k := hStateKind h
    let g := hStateChunk h
    let pl := hStatePlane h
    stateMalformed s1 sl h p = false →
    (k = 4 →
      (h.step = sl.step.lastGlued.getD 0 → (g, pl) ∈ tan.dirty → rx.payload.length = 4096 →
        let left := tan.dirty.filter (fun e => e != (g, pl))
        ∃ t, exec (.stateRestore rx) s = .next t ∧ RowStored s1 t i .primary g pl rx.payload
          ∧ (getSlot t i).tan = { tan with
              dirty := left
              late := tan.late.filter (fun e => e != (g, pl))
              restoring := tan.restoring && !left.isEmpty })
      ∧ (h.step ≠ sl.step.lastGlued.getD 0 ∨ (g, pl) ∉ tan.dirty →
        ∃ t, exec (.stateRestore rx) s = .next t ∧ (getSlot t i).tan = tan ∧ t.hbm = s1.hbm))
    ∧ (k = 5 → tan.passRunning = false → rx.payload.length = 4096 →
      (ownerOf sl g ≠ some (selfId s1) →
        let rows := shardRows sl (tan.mirrorOf.getD 0)
        (tan.mirrorSt = .empty ∨ tan.mirrorSt = .broken → 1 < rows →
          ∃ t, exec (.stateResync rx) s = .next t ∧ RowStored s1 t i .mirror g pl rx.payload
            ∧ (getSlot t i).tan = { tan with mirrorSt := .syncing, syncGot := [(g, pl)], syncNext := [] })
        ∧ (tan.mirrorSt = .syncing → (g, pl) ∉ tan.syncGot →
          (tan.syncGot.length + 1 < rows →
            ∃ t, exec (.stateResync rx) s = .next t ∧ RowStored s1 t i .mirror g pl rx.payload
              ∧ (getSlot t i).tan = { tan with syncGot := (g, pl) :: tan.syncGot })
          ∧ (rows ≤ tan.syncGot.length + 1 →
            ∃ t, exec (.stateResync rx) s = .next t ∧ RowStored s1 t i .mirror g pl rx.payload ∧ (getSlot t i).tan.mirrorSt = .current
              ∧ (getSlot t i).tan.mirrorStep = h.step ∧ EventPosted s1 t 0x0014 i (leBytes 1 1 ++ leBytes 8 h.step)))
        ∧ (tan.mirrorSt = .current ∨ tan.mirrorSt = .lagging → h.step < tan.mirrorStep →
          ∃ t, exec (.stateResync rx) s = .next t ∧ (getSlot t i).tan = tan ∧ t.hbm = s1.hbm))
      ∧ (ownerOf sl g = some (selfId s1) → (g, pl) ∉ tan.spareGot →
        (tan.spareGot.length + 1 < shardRows sl (selfId s1) →
          ∃ t, exec (.stateResync rx) s = .next t ∧ RowStored s1 t i .primary g pl rx.payload
            ∧ (getSlot t i).tan = { tan with spareGot := (g, pl) :: tan.spareGot })
        ∧ (shardRows sl (selfId s1) ≤ tan.spareGot.length + 1 →
          ∃ t, exec (.stateResync rx) s = .next t ∧ RowStored s1 t i .primary g pl rx.payload
            ∧ (getSlot t i).tan = { tan with spareFrom := none, spareGot := [] }
            ∧ (getSlot t i).step.lastGlued = (if h.step = 0 then sl.step.lastGlued else some h.step)
            ∧ EventPosted s1 t 0x0014 i (leBytes 1 1 ++ leBytes 8 h.step))))
    ∧ (k = 6 → tan.passRunning = false →
      let c := if h.step = 0 ∧ sl.step.lastGlued = none then sl.shard.gluedCopy else h.step % 2
      ∃ t, exec (.stateResyncEmem rx) s = .next t ∧ ∀ n, n < 1024 →
        let word := BitVec.ofNat 32 (leAt rx.payload (4 * n) 4)
        (tan.spareFrom.map Prod.snd ≠ some (portPeerDev s1 p) → c % 2 = 0 → tget 0 (getSlot t i).tan.ememMirror0 (g * 1024 + n) = word)
        ∧ (tan.spareFrom.map Prod.snd ≠ some (portPeerDev s1 p) → c % 2 = 1 → tget 0 (getSlot t i).tan.ememMirror1 (g * 1024 + n) = word)
        ∧ (tan.spareFrom.map Prod.snd = some (portPeerDev s1 p) → c = 0 → tget 0 (getSlot t i).shard.emem0 (g * 1024 + n) = word)
        ∧ (tan.spareFrom.map Prod.snd = some (portPeerDev s1 p) → c ≠ 0 → tget 0 (getSlot t i).shard.emem1 (g * 1024 + n) = word)))
  ∧ (∀ (s s1 : State) (rx : RxFrame) (h : Hdr) (i dev : Nat),
    let sl := getSlot s1 i
    let tan := sl.tan
    (Requested 0x07 s rx h i dev s1 →
      let rows := (restoreRuns sl.ob.w rx.payload).filter (fun e => ownerOf sl e.1 == some dev)
      let j : RestoreJob := ⟨rows, restoreIsRollback sl h.step, h.step, h.attempt, false⟩
      (tan.mirrorOf ≠ some dev → exec (.restoreReq rx) s = .next s1)
      ∧ (tan.mirrorOf = some dev → tan.restores = [] →
        (tan.mirrorSt = .current → mirrorHolds sl h.step = true →
          ∃ t, exec (.restoreReq rx) s = .next t ∧ (getSlot t i).tan = { tan with restores := [j] })
        ∧ (tan.mirrorSt = .lagging → ∃ t, exec (.restoreReq rx) s = .next t ∧ (getSlot t i).tan = { tan with restores := [{ j with deferred := true }] })
        ∧ (tan.mirrorSt = .empty ∨ tan.mirrorSt = .broken →
          ∃ t, exec (.restoreReq rx) s = .next t ∧ (getSlot t i).tan = tan
            ∧ ∀ p rest, upTrunk s1 dev = p :: rest → (getPort s1 p).helloSent = true →
              ∃ f, (getPort t p).tx.linkWait = (getPort s1 p).tx.linkWait ++ [f] ∧ f.h.typ = tLinkCtrl ∧ f.h.ts = 0x09)))
    ∧ (Requested 0x09 s rx h i dev s1 →
      (tan.partner = some dev → tan.restoring = true →
        ∃ t, exec (.restoreRefuse rx) s = .next t ∧ (getSlot t i).tan = { tan with restoring := false, lost := true }
          ∧ (tan.lost = false → EventPosted s1 t 0x0009 i (leBytes 8 sl.step.num)))
      ∧ (tan.partner ≠ some dev ∨ tan.restoring = false → exec (.restoreRefuse rx) s = .next s1))
    ∧ (Requested 0x08 s rx h i dev s1 →
      (tan.partner = some dev →
        ∃ t, exec (.resyncReq rx) s = .next t ∧ (getSlot t i).tan = { tan with
          resyncs := tan.resyncs.filter (fun j => j.ofMirror) ++ [⟨false, dev, resyncRows s1 sl .primary, ememChunkList sl⟩] })
      ∧ (tan.partner ≠ some dev → tan.mirrorOf = some dev →
        ∃ t, exec (.resyncReq rx) s = .next t ∧ (getSlot t i).tan = { tan with
          resyncs := tan.resyncs.filter (fun j => !j.ofMirror) ++ [⟨true, dev, resyncRows s1 sl .mirror, ememChunkList sl⟩] })
      ∧ (tan.partner ≠ some dev → tan.mirrorOf ≠ some dev → exec (.resyncReq rx) s = .next s1)))
  ∧ (∀ (s : State) (slot : SlotId),
    let i := slot.val
    let sl := getSlot s i
    let tan := sl.tan
    (∀ j d, tan.restores = [j] → j.deferred = false → serveNow sl j = .serve → tan.mirrorOf = some d →
      (j.rows = [] → ∃ t, exec (.restoreRowSend slot) s = .next t ∧ (getSlot t i).tan = { tan with restores := [] })
      ∧ (∀ g pl rest p b s2, j.rows = (g, pl) :: rest → partnerPort s d g = some p → TakesFrames s p i →
        poolRequest (settleRestores s i) (tileOfChunk g) i 4 4096 (ownerState i) = (PoolRes.ok b, s2) →
        ∃ t f, exec (.restoreRowSend slot) s = .next t ∧ Queued s t p 4 f ∧ f.h.typ = tState ∧ f.h.step = j.step
          ∧ f.h.ts = 4 + 16 * pl + 256 * g ∧ f.payload = chunkRead s i .mirror g pl ∧ f.bufs = [b]
          ∧ (getSlot t i).tan = { tan with restores := if rest = [] then [] else [{ j with rows := rest }] }))
    ∧ (∀ j, tan.resyncs = [j] → resyncRuns sl j = true →
      (j.emem = [] → j.rows = [] →
        ∃ t, exec (.resyncRowSend slot) s = .next t ∧ (getSlot t i).tan = { tan with resyncs := [] }
          ∧ EventPosted s t 0x0014 i (leBytes 1 0 ++ leBytes 8 (resyncStep sl j)))
      ∧ (∀ g rest p b s2, j.emem = g :: rest → partnerPort s j.dest g = some p → TakesFrames s p i →
        poolRequest s (tileOfChunk g) i 4 4096 (ownerState i) = (.ok b, s2) →
        ∃ t f, exec (.resyncRowSend slot) s = .next t ∧ Queued s t p 4 f ∧ f.h.typ = tState ∧ f.h.ts = 6 + 256 * g
          ∧ f.h.step = resyncStep sl j ∧ f.payload = bytesOfWords 4 (resyncEmem sl j g) ∧ (getSlot t i).tan = { tan with resyncs := [{ j with emem := rest }] })
      ∧ (∀ g pl p b s2, j.emem = [] → resyncNext s sl j = some (g, pl) → j.rows.erase (g, pl) ≠ [] → partnerPort s j.dest g = some p → TakesFrames s p i →
        poolRequest s (tileOfChunk g) i 4 4096 (ownerState i) = (.ok b, s2) →
        ∃ t f, exec (.resyncRowSend slot) s = .next t ∧ Queued s t p 4 f ∧ f.h.typ = tState ∧ f.h.ts = 5 + 16 * pl + 256 * g
          ∧ f.h.step = resyncStep sl j ∧ f.payload = chunkRead s i (if j.ofMirror then .mirror else .primary) g pl
          ∧ (getSlot t i).tan = { tan with resyncs := [{ j with rows := j.rows.erase (g, pl) }] }))
    ∧ ((∀ j ∈ tan.resyncs, resyncRuns sl j = false) → exec (.resyncRowSend slot) s = .next s))

/-! ### The step transaction (10) -/

/-- R249 to R254, R256, R257, R308, R373: a member's STEP_DONE counts once; the reports leave when they are due; a step in which every
condition holds inside its window is sealed, and then sends READY to its parent, or at the root is decided by the words of all. -/
def Obligations.StepsAreSealed : Prop :=
  (∀ (s s1 : State) (rx : RxFrame) (h : Hdr) (i : Nat), Admitted tStepDone s rx h i s1 →
    let p := rx.port.val
    let r := (getSlot s1 i).step
    (stepDoneCheck s1 (getSlot s1 i) i h p = none →
      ∃ t, exec (.stepDone rx) s = .next t ∧ (getSlot t i).step = { r with stepDone := p :: r.stepDone })
    ∧ (∀ why, stepDoneCheck s1 (getSlot s1 i) i h p = some why → (getPort s1 p).cfg.trunk = false →
      ∃ t, exec (.stepDone rx) s = .next t ∧ (getSlot t i).step = r))
  ∧ (∀ (s : State) (slot : SlotId),
    let i := slot.val
    let sl := getSlot s i
    let r := sl.step
    (r.st ≠ .dryFit → exec (.partnerReportSend slot) s = .next s)
    ∧ (r.st = .dryFit → r.partnerReportSent = false → r.programEnd = true → (armedBuckets sl).all bucketDone = true → downPorts s sl = [] →
      ∀ d p rest, sl.tan.partner = some d → trunkTo s d = p :: rest → TakesFrames s p i → reportRoom s i p 32 = true →
      ∃ t f, exec (.partnerReportSend slot) s = .next t ∧ Queued s t p 4 f ∧ f.h.typ = tState ∧ f.h.ts = 7
        ∧ f.payload = leBytes 4 r.roundedChunks ++ leBytes 4 r.ememRows ++ leBytes 8 (gradDigest s sl (selfId s)).toNat
            ++ leBytes 8 r.stateDigest.toNat ++ leBytes 8 0
        ∧ (getSlot t i).step = { r with partnerReportSent := true })
    ∧ (∀ p, r.st = .dryFit → sl.tan.partner = none → downPorts s sl = [p] → (tget segInit r.ringPorts p).reportSent = false →
      segmentSettled s sl p = true → TakesFrames s p i → reportRoom s i p 16 = true →
      let q := tget segInit r.ringPorts p
      ∃ t f, exec (.partnerReportSend slot) s = .next t ∧ Queued s t p 4 f ∧ f.h.typ = tState ∧ f.h.ts = 8
        ∧ f.payload = leBytes 4 q.sentAcked ++ leBytes 4 0 ++ leBytes 8 q.sentDigest.toNat
        ∧ tget segInit (getSlot t i).step.ringPorts p = { q with reportSent := true })
    ∧ (r.st ≠ .dryFit → exec (.stepSeal slot) s = .next s)
    ∧ (r.st = .dryFit → r.partnerReport = none → r.ringPorts = [] →
      ((readyConds s i).all id = false → exec (.stepSeal slot) s = .next s)
      ∧ ((readyConds s i).all id = true → stepWindowEnd sl ≤ s.time →
        ∃ t, exec (.stepSeal slot) s = .next t ∧ StepAborted s t i 0x06 (selfId s))
      ∧ (∀ v, (readyConds s i).all id = true → s.time < stepWindowEnd sl → controlGroup sl = some v → r.readySent = false →
        let ws := readyWords sl r.num r.attempt
        let mine := agreementWord sl
        let a := ws.foldl (fun x w => x &&& w.andW) mine
        let o := ws.foldl (fun x w => x ||| w.orW) mine
        (geCadRoot v = true ∨ (getSpoke s (geCadParent v)).st = 2 → readyAll v ws = false →
          ∃ t, exec (.stepSeal slot) s = .next t ∧ t = modSlot s i (fun sl => { sl with step := sealedAt sl s.time }))
        ∧ (geCadRoot v = true → readyAll v ws = true → a = o →
          ∃ t, exec (.stepSeal slot) s = .next t ∧ (getSlot t i).step.st = .glued ∧ (getSlot t i).step.lastGlued = some r.num)
        ∧ (geCadRoot v = true → readyAll v ws = true → a ≠ o →
          ∃ t, exec (.stepSeal slot) s = .next t ∧ (getSlot t i).step.st = .rollingBack ∧ (getSlot t i).step.abortCause = 0x0C)
        ∧ (geCadRoot v = false → (getSpoke s (geCadParent v)).st = 2 → readyAll v ws = true →
          ∃ t, exec (.stepSeal slot) s = .next t ∧ (getSlot t i).step = { sealedAt sl s.time with readySent := true }
            ∧ SpokeSent s t (geCadParent v) 0x1C
                (leBytes 2 sl.ob.jobId ++ leBytes 4 r.num ++ leBytes 1 r.attempt ++ leBytes 8 a.toNat ++ leBytes 8 o.toNat) 3)
        ∧ (geCadRoot v = false → (getSpoke s (geCadParent v)).st ≠ 2 → r.decisionLost = false → readyAll v ws = false →
          ∃ t, exec (.stepSeal slot) s = .next t ∧ (getSlot t i).step = { sealedAt sl s.time with decisionLost := true }))))

/-- R34 to R36, R243, R249, R251, R257, R258, R260, R271 to R273, R278, R282, R285, R398, R401, R538, R540: a decision of the job's current
step ends it as GLUED or ROLLING_BACK, whether it comes as READY at the root, GLUE, ABORT or a leave notice, or a deadline passes;
another is counted or leaves the step alone; the restore ends a rollback, and a drained slot is FREE again. -/
def Obligations.DecisionsEndSteps : Prop :=
  (∀ (s : State) (slot : SlotId),
    let i := slot.val
    let sl := getSlot s i
    (sl.step.st = .dryFit →
      ∃ t, exec (.stepDeadline slot) s = .next t ∧ t.time = timeMask (max s.time (stepWindowEnd sl)) ∧ StepAborted s t i 0x06 (selfId s))
    ∧ (sl.step.st ≠ .dryFit → exec (.stepDeadline slot) s = .next s)
    ∧ (∀ v, controlGroup sl = some v → geCadRoot v = true → sl.step.st = .sealed →
      ∃ t, exec (.rootDeadline slot) s = .next t ∧ t.time = timeMask (max s.time (stepWindowEnd sl)) ∧ StepAborted s t i 0x06 (selfId s))
    ∧ (sl.step.st = .rollingBack →
      ∃ t, exec (.rollbackCleared slot) s = .next t ∧ t = modSlot s i (fun sl => { sl with step := { sl.step with st := .rolledBack } }))
    ∧ (sl.step.st ≠ .rollingBack → exec (.rollbackCleared slot) s = .next s)
    ∧ (sl.st = .draining →
      ∃ t, exec (.slotDrainDone slot) s = .next t ∧ getSlot t i = { slotInit with gen := sl.gen, pools := sl.pools }
        ∧ (∀ k, k ≠ i → getSlot t k = getSlot s k) ∧ EventPosted s t 0x000C i [] ∧ ∀ n ∈ t.incidents, n.slot ≠ i)
    ∧ (sl.st ≠ .draining → exec (.slotDrainDone slot) s = .next s)
    ∧ (sl.st = .draining → sl.drainTimeoutPosted = false →
      ∃ t, exec (.slotDrainTimeout slot) s = .next t ∧ t.time = timeMask (max s.time (sl.drainStart + 50000000))
        ∧ getSlot t i = { sl with drainTimeoutPosted := true } ∧ EventPosted s t 0x000B i [])
    ∧ (sl.st ≠ .draining ∨ sl.drainTimeoutPosted = true → exec (.slotDrainTimeout slot) s = .next s))
  ∧ (∀ (s s1 : State) (rx : SpokeRx) (i step attempt : Nat),
    let k := rx.link.val
    let sl := getSlot s1 i
    let r := sl.step
    (∀ v, Controls s rx 0x1C 23 i step attempt s1 → controlGroup sl = some v → k ∈ cadKids v → geRelay v = false →
      (∀ x ∈ r.readyKids, ¬(x.link = k ∧ x.step = step ∧ x.attempt = attempt)) →
      let w : ReadyWord := ⟨k, step, attempt, BitVec.ofNat 64 (leAt rx.body 7 8), BitVec.ofNat 64 (leAt rx.body 15 8)⟩
      let ws := readyWords { sl with step := { r with readyKids := r.readyKids ++ [w] } } r.num r.attempt
      (r.st ≠ .sealed →
        ∃ t, exec (.readySeq rx) s = .next t ∧ (getSlot t i).step = { r with readyKids := r.readyKids ++ [w] })
      ∧ (r.st = .sealed → geCadRoot v = true → r.readySent = false → readyAll v ws = true → s1.time < stepWindowEnd sl →
        let a := ws.foldl (fun x w => x &&& w.andW) r.agreement
        let o := ws.foldl (fun x w => x ||| w.orW) r.agreement
        (a = o → ∃ t, exec (.readySeq rx) s = .next t ∧ (getSlot t i).step.st = .glued ∧ (getSlot t i).step.lastGlued = some r.num)
        ∧ (a ≠ o → ∃ t, exec (.readySeq rx) s = .next t ∧ (getSlot t i).step.st = .rollingBack ∧ (getSlot t i).step.abortCause = 0x0C)))
    ∧ (Controls s rx 0x7C 7 i step attempt s1 → isControlRelay sl = false →
      (CurrentStep sl step attempt → r.st = .sealed → ∃ t, exec (.glueSeq rx) s = .next t ∧ StepGlued s1 t i)
      ∧ (¬CurrentStep sl step attempt ∨ r.st ≠ .sealed →
        ∃ t, exec (.glueSeq rx) s = .next t ∧ (getSlot t i).step = { r with staleDecisions := inc32 r.staleDecisions }))
    ∧ (Controls s rx 0x5C 10 i step attempt s1 → isControlRelay sl = false →
      (CurrentStep sl step attempt → r.st = .sealed ∨ r.st = .dryFit →
        ∃ t, exec (.abortSeq rx) s = .next t ∧ StepAborted s1 t i (leAt rx.body 9 1) (leAt rx.body 7 2))
      ∧ (isRolledBack sl step attempt = true → ¬CurrentStep sl step attempt →
        ∃ t, exec (.abortSeq rx) s = .next t ∧ getSlot t i = sl))
    ∧ (∀ len, (len = 7 ∨ len = 10) → Controls s rx (if len = 7 then 0x7C else 0x5C) len i step attempt s1 → isControlRelay sl = true →
      ∃ t, exec (if len = 7 then .glueSeq rx else .abortSeq rx) s = .next t ∧ getSlot t i = sl)
    ∧ (SymTaken s rx 0x9C s1 → rx.body.length = 12 → leAt rx.body 3 1 = 1 → openSlotOf s1 (leAt rx.body 4 2) = some i →
      CurrentStep sl (leAt rx.body 6 4) (leAt rx.body 10 1) → k ∈ controlLinks sl →
      let flags := leAt rx.body 11 1
      let dev := leAt rx.body 0 2
      (bitsOf flags 2 2 = 1 → r.st = .sealed → ∃ t, exec (.leaveSeq rx) s = .next t ∧ (getSlot t i).step.st = .glued)
      ∧ (bitsOf flags 2 2 = 2 → r.st = .sealed ∨ r.st = .dryFit →
        ∃ t, exec (.leaveSeq rx) s = .next t ∧ StepAborted s1 t i 0x11 dev)
      ∧ (bitsOf flags 2 2 = 0 → bitOf flags 0 = false → r.st = .dryFit ∨ r.st = .sealed →
        ∃ t, exec (.leaveSeq rx) s = .next t ∧ StepAborted s1 t i 0x11 (selfId s1))
      ∧ (bitsOf flags 2 2 = 0 → bitOf flags 0 = true → bitOf flags 1 = true → r.st = .sealed →
        ∃ t, exec (.leaveSeq rx) s = .next t ∧ (getSlot t i).step = { r with decisionLost := true })))

/-! ### Incidents and health (11) -/

/-- R286 to R291, R294 to R297, R402, R403: an incident closes at its time, is posted and goes to the parent; a child's record is
acknowledged, merged or opened once; a record is sent again until it is acknowledged or given up; scores recover, a brake window
starts its counts anew and considers the HELD subjects, and an accuser's window forgets whom it named. -/
def Obligations.IncidentsGoUpAndHealthRecovers : Prop :=
  (∀ (s : State),
    (firstToClose s = none → exec .incidentClose s = .next s)
    ∧ (∀ n, firstToClose s = some n →
      let sl := getSlot s n.slot
      let at_ := incidentClose sl n
      let rec_ := incidentRecord s n at_
      ∃ t, exec .incidentClose s = .next t ∧ t.time = timeMask (max s.time at_) ∧ t.incidents = s.incidents.erase n
        ∧ EventPosted s t 0x0005 n.slot (leBytes 64 rec_.toNat)
        ∧ bitsOf rec_.toNat 0 32 = incidentId n.job n.kind n.suspect n.symptom n.step
        ∧ (getSlot t n.slot).health = { sl.health with closedKeys := (n.kind, n.suspect, n.symptom, n.step) :: sl.health.closedKeys }
        ∧ ∀ v, controlGroup sl = some v → geCadRoot v = false → (getSpoke s (geCadParent v)).st = 2 →
          Emit.spoke (geCadParent v) 0xFE (getSpoke s (geCadParent v)).nextSseq (leBytes 64 rec_.toNat) 1 ∈ t.out.drop s.out.length
            ∧ (getSpoke t (geCadParent v)).inc
              = (getSpoke s (geCadParent v)).inc ++ [⟨rec_, some (getSpoke s (geCadParent v)).nextSseq, t.time, 1, false⟩]))
  ∧ (∀ (s s1 : State) (rx : SpokeRx),
    let k := rx.link.val
    (SymTaken s rx 0xFE s1 → rx.body.length = 64 →
      let n := leNat rx.body
      let key := (bitsOf n 0 32, bitsOf n 96 64, bitsOf n 272 16)
      let x (i : Nat) := incidentOfRecord i s1.time rx.body
      let takes (i : Nat) := incidentTakes s1 i (x i).kind (x i).suspect (x i).symptom (x i).step
      ∃ t, exec (.incidentSeq rx) s = .next t
        ∧ SpokeSent s1 t k 0x3C (leBytes 1 2 ++ leBytes 1 rx.sseq.toNat ++ leBytes 1 0) 1
        ∧ (key ∈ (getSpoke s1 k).incTaken → t.incidents = s1.incidents)
        ∧ (key ∉ (getSpoke s1 k).incTaken → (getSpoke t k).incTaken = key :: (getSpoke s1 k).incTaken
          ∧ (openSlotOf s1 (bitsOf n 48 16) = none →
            t.incidents = s1.incidents ∧ (getSpoke t k).dropped = inc32 (getSpoke s1 k).dropped)
          ∧ (∀ i, openSlotOf s1 (bitsOf n 48 16) = some i →
            ((∀ y ∈ s1.incidents, takes i y = false) → s1.incidents.length < 4096 →
              t.incidents = s1.incidents ++ [{ x i with
                continuation := (getSlot s1 i).health.closedKeys.contains ((x i).kind, (x i).suspect, (x i).symptom, (x i).step) }])
            ∧ (∀ pre y post, s1.incidents = pre ++ y :: post → (∀ z ∈ pre, takes i z = false) → takes i y = true →
              t.incidents = pre ++ { y with
                accusers := satAdd 32 y.accusers (x i).accusers
                reports := satAdd 32 y.reports (x i).reports
                devices := satAdd 16 y.devices (bitsOf n 256 16)
                firstTime := min y.firstTime (x i).firstTime
                firstAccuser := if (x i).firstTime < y.firstTime then (x i).firstAccuser else y.firstAccuser
                hops := min y.hops (x i).hops
                rehearsal := y.rehearsal || (x i).rehearsal
                aborted := y.aborted || (x i).aborted } :: post))))
    ∧ (SymTaken s rx 0x3C s1 → rx.body.length = 3 → leAt rx.body 0 1 = 2 →
      let l := getSpoke s1 k
      let q := leAt rx.body 1 1
      (l.helloSseq = some q → l.helloAcked = false →
        ∃ t, exec (.linkctlAck rx) s = .next t ∧ getSpoke t k = { l with helloAcked := true, st := if l.helloTaken then 2 else l.st })
      ∧ (l.helloSseq ≠ some q ∨ l.helloAcked = true →
        (leAt rx.body 2 1 = 1 →
          ∃ t, exec (.linkctlAck rx) s = .next t
            ∧ getSpoke t k = { l with inc := l.inc.map (fun x => if x.sseq = some q then { x with full := true } else x) })
        ∧ (leAt rx.body 2 1 ≠ 1 →
          ∃ t, exec (.linkctlAck rx) s = .next t ∧ getSpoke t k = { l with inc := l.inc.filter (fun x => x.sseq != some q) }))))
  ∧ (∀ (s : State) (link : LinkId),
    let k := link.val
    let l := getSpoke s k
    (l.inc = [] → exec (.incidentRetransmit link) s = .next s)
    ∧ (∀ x rest, l.inc = x :: rest →
      (8 ≤ x.sends → ∃ t, exec (.incidentRetransmit link) s = .next t ∧ t.time = timeMask (max s.time (x.sentAt + 10000))
        ∧ getSpoke t k = { l with inc := rest, incidentRetx := inc32 l.incidentRetx } ∧ t.out = s.out)
      ∧ (x.sends < 8 → l.st = 2 → ∃ t, exec (.incidentRetransmit link) s = .next t ∧ t.time = timeMask (max s.time (x.sentAt + 10000))
        ∧ SpokeSent s t k 0xFE (leBytes 64 x.record.toNat) 1
        ∧ (getSpoke t k).inc = rest ++ [{ x with sseq := some l.nextSseq, sentAt := t.time, sends := x.sends + 1, full := false }])))
  ∧ (∀ (s : State) (slot : SlotId),
    let i := slot.val
    let sl := getSlot s i
    let h := sl.health
    let boundary (period : Nat) := timeMask (max s.time (if period = 0 then s.time else (s.time / period + 1) * period))
    (sl.st ≠ .open_ → exec (.scoreDecay slot) s = .next s ∧ exec (.brakeWindow slot) s = .next s ∧ exec (.accuseWindow slot) s = .next s)
    ∧ (sl.st = .open_ →
      (∃ t, exec (.scoreDecay slot) s = .next t ∧ t.time = boundary (h.p * 1000000)
        ∧ (getSlot t i).health = { h with subjects := (getSlot t i).health.subjects }
        ∧ (getSlot t i).health.subjects.length = h.subjects.length
        ∧ ∀ (n : Nat) (u : Subject), h.subjects[n]? = some u → (getSlot t i).health.subjects[n]? = some { u with
            score := if u.score < 1023 then min 1023 (u.score + max 1 ((1023 - u.score) / 2 ^ h.decayShift)) else u.score })
      ∧ (∃ t, exec (.accuseWindow slot) s = .next t ∧ t.time = boundary (h.a * 1000000) ∧ (getSlot t i).health = { h with accuse := [] })
      ∧ ((∀ u ∈ h.subjects, u.st ≠ 1) →
        ∃ t, exec (.brakeWindow slot) s = .next t ∧ t.time = boundary (h.brakeWindow * 1000000000)
          ∧ (getSlot t i).health = { h with
              members := { h.members with expelled := 0 }
              devices := { h.devices with expelled := 0 }
              escalated := []
              linkCounts := []
              subjects := h.subjects.map (fun u => { u with heldAborts := 0 }) })
      ∧ (∀ u, h.subjects = [u] → u.kind = 0 → u.st = 1 →
        (h.threshold + h.recover ≤ u.score →
          ∃ t, exec (.brakeWindow slot) s = .next t ∧ (getSlot t i).health.subjects = [{ u with st := 0, heldAborts := 0 }])
        ∧ (u.score < h.threshold + h.recover → 0 < h.members.rate → h.members.reserve < h.members.spares →
          ∃ t, exec (.brakeWindow slot) s = .next t ∧ (getSlot t i).health.subjects = [{ u with st := 2, heldAborts := 0 }]
            ∧ (getSlot t i).health.members = { h.members with expelled := 1, spares := h.members.spares - 1 }
            ∧ EventPosted s t 0x0006 i (healthRecord sl { u with st := 2, heldAborts := 0 }))
        ∧ (u.score < h.threshold + h.recover → h.members.rate = 0 ∨ h.members.spares ≤ h.members.reserve →
          ∃ t, exec (.brakeWindow slot) s = .next t ∧ (getSlot t i).health.subjects = [{ u with heldAborts := 0 }]))))

/-! ### HBM, slices, die links, rehearsals (01, 11, 12, 15) -/

/-- R252, R412, R422, R425 to R431: an uncorrectable sector is counted and what lies in it is repaired, restored or given up with its step;
the patrol scrub counts what it fixes; a channel mapped out aborts every step, and a second one of a tile or a 33rd is FATAL; the
device is degraded once the objects have moved. -/
def Obligations.MemoryErrorsAreContained : Prop :=
  ∀ (s : State) (chan : ChanId) (addr : ChanAddr) (corrected : Bool) (reason : MapReason),
    let c := chan.val
    let x := getChan s c
    let a := addr.toNat / 32 * 32
    (x.st ≠ 0 → exec (.hbmUncorrectable chan addr) s = .next s ∧ exec (.patrolScrub chan addr corrected) s = .next s
      ∧ exec (.channelMapout chan reason) s = .next s)
    ∧ (x.st = 0 → ∀ f, sectorFrame s c a = some f →
      let counted (t : State) := exec (.hbmUncorrectable chan addr) s = .next t ∧ c * 2 ^ 31 + a ∈ t.hbm.bad
        ∧ getChan t c = { x with
            uncorrectable := inc32 x.uncorrectable
            retries := inc32 x.retries
            uncWindow := s.time / 60000000000
            uncInWindow := if x.uncWindow = s.time / 60000000000 then x.uncInWindow + 1 else 1 }
      (frameOwner s (c / 8) f = none → ∃ t, counted t ∧ t.slots = s.slots)
      ∧ (∀ i v g, frameOwner s (c / 8) f = some (i, .primary, v) → chunkOfRow (getSlot s i) (selfId s) (c / 8) (v / max 1 (getSlot s i).ob.w) = some g →
        let key := (g, v % max 1 (getSlot s i).ob.w)
        ∃ t, counted t ∧ key ∈ (getSlot t i).tan.dirty
          ∧ ((getSlot s i).step.st = .dryFit → StepAborted s t i 0x0D (selfId s))
          ∧ ((getSlot s i).step.st = .sealed → (getSlot t i).step = (getSlot s i).step ∧ key ∈ (getSlot t i).tan.late))
      ∧ (∀ i v, frameOwner s (c / 8) f = some (i, .mirror, v) → (getSlot s i).tan.mirrorSt ≠ .empty →
        ∃ t, counted t ∧ (getSlot t i).tan.mirrorSt = .broken ∧ ((getSlot s i).step.st = .dryFit → StepAborted s t i 0x0D (selfId s)))
      ∧ (∀ i v, frameOwner s (c / 8) f = some (i, .scratch, v) →
        ∃ t, counted t ∧ ((getSlot s i).step.st = .dryFit → StepAborted s t i 0x0D (selfId s))))
    ∧ (x.st = 0 →
      (s.pwr.awake.testBit (42 + c / 128) = true →
        ∃ t, exec (.patrolScrub chan addr corrected) s = .next t ∧ t = modChan s c (fun x => { x with
          corrected := if corrected then inc32 x.corrected else x.corrected
          scrubFixes := if corrected then inc32 x.scrubFixes else x.scrubFixes
          scrubPasses := if addr.toNat / 32 = 2 ^ 26 - 1 then inc32 x.scrubPasses else x.scrubPasses }))
      ∧ (s.pwr.awake.testBit (42 + c / 128) = false → exec (.patrolScrub chan addr corrected) s = .next s))
    ∧ (x.st = 0 → mapoutDue s c (reason.val + 1) = true →
      ((liveChannels s (c / 8)).length = 8 → mappedOut s < 32 →
        ∃ t, exec (.channelMapout chan reason) s = .next t ∧ (getChan t c).st = (if reason.val = 0 then 2 else 1)
          ∧ (getChan t c).reason = reason.val + 1 ∧ t.hbm.moving = s.hbm.moving ++ [c] ∧ AllDryFitsAborted s t 0x0D)
      ∧ ((liveChannels s (c / 8)).length < 8 ∨ 32 ≤ mappedOut s → s.host.fatal = false →
        ∃ t, exec (.channelMapout chan reason) s = .next t ∧ IsFatal t ∧ t.hbm = s.hbm))
    ∧ (x.st = 0 → mapoutDue s c (reason.val + 1) = false → exec (.channelMapout chan reason) s = .next s)
    ∧ (c ∉ s.hbm.moving → exec (.memMapout chan) s = .next s)
    ∧ (c ∈ s.hbm.moving →
      ∃ t, exec (.memMapout chan) s = .next t ∧ t.hbm = { s.hbm with moving := s.hbm.moving.filter (· != c) } ∧ t.host.degraded = true
        ∧ ((s.hbm.moving.filter (· != c) ≠ [] ∨ ∀ i, i < 64 → (getSlot s i).st ≠ .open_) →
          EventPosted s t 0x000F 0xFF (leBytes 2 c ++ leBytes 8 (stateArea s) ++ leBytes 4 (minFreeGranules s))))

/-- R26, R299, R327, R328: a die link or a slice that fails aborts every step and leaves the device degraded, or FATAL when two dies
have no path, and a tile without a helper loses its ports; a rehearsal's draw picks its instant, its kind and its port, and one that
has not fired is counted. -/
def Obligations.FailuresAndRehearsals : Prop :=
  (∀ (s : State) (tile : TileId) (dlink : DieLink),
    let n := tile.val
    let k := dlink.val
    let failed := s.fab.dieFailed ++ [k]
    (s.fab.sliceOut.contains n = true → exec (.sliceMapout tile) s = .next s)
    ∧ (s.fab.sliceOut.contains n = false →
      ∃ t, exec (.sliceMapout tile) s = .next t ∧ t.fab.sliceOut = s.fab.sliceOut ++ [n] ∧ t.host.degraded = true ∧ AllDryFitsAborted s t 0x0D
        ∧ ((∀ d, d < 4 → s.fab.sliceOut.contains (n ^^^ d) = true ∨ d = 0) →
          ∀ d, d < 4 → (getPort t (4 * n + d)).cfg.enable = false ∧ ((getPort s (4 * n + d)).cfg.enable = true → (getPort t (4 * n + d)).up = false)))
    ∧ (k ∈ s.fab.dieFailed → exec (.dieLinkFail dlink) s = .next s)
    ∧ (k ∉ s.fab.dieFailed →
      ((∀ e ∈ diePairs, (dieHops failed e.1 e.2).isSome = true) →
        ∃ t, exec (.dieLinkFail dlink) s = .next t ∧ t.fab.dieFailed = failed ∧ t.host.degraded = true ∧ AllDryFitsAborted s t 0x0E
          ∧ ((∀ i, i < 64 → (getSlot s i).step.st ≠ .dryFit) → EventPosted s t 0x000E 0xFF (leBytes 1 1 ++ leBytes 2 k
            ++ (diePairs.filter (fun e => dieHops failed e.1 e.2 != dieHops s.fab.dieFailed e.1 e.2)).flatMap
              (fun e => leBytes 1 e.1 ++ leBytes 1 e.2 ++ leBytes 1 ((dieHops failed e.1 e.2).getD 0)))))
      ∧ (∀ e ∈ diePairs, dieHops failed e.1 e.2 = none → s.host.fatal = false →
        ∃ t, exec (.dieLinkFail dlink) s = .next t ∧ IsFatal t ∧ t.fab.dieFailed = failed ∧ AllDryFitsAborted s t 0x0E)))
  ∧ (∀ (s : State) (slot : SlotId),
    let i := slot.val
    let sl := getSlot s i
    let h := sl.health
    let span := h.reI * 1000000000
    let k := s.time / span
    let x := rehearsalDraw h sl.ob.jobId k
    let kinds := setBitsBelow 4 h.reKinds
    let kind := natAt kinds (x / 2 ^ 32 % kinds.length)
    let ports := slotMemberPorts sl
    sl.st = .open_ → 0 < span → kinds ≠ [] →
    (h.reFired ≠ some k →
      (∃ t, exec (.rehearsalSkip slot) s = .next t ∧ t.time = timeMask (max s.time ((k + 1) * span))
        ∧ (getSlot t i).health = { h with reSkipped := inc32 h.reSkipped })
      ∧ (sl.step.st = .dryFit → sl.step.attempt = 0 →
        (∀ p, ports ≠ [] → ports[x / 2 ^ 16 % ports.length]? = some p → kind < 3 →
          ∃ t, exec (.rehearsalInject slot) s = .next t ∧ t.time = timeMask (max s.time (k * span + x % (span / 2)))
            ∧ (getSlot t i).health.reFired = some k
            ∧ (kind = 0 → StepAborted s t i 0x94 (selfId s) ∧ (i, t.time + 100000) ∈ (getPort t p).dropSlots)
            ∧ (kind = 1 → (getSlot t i).health = { h with corruptNext := some p, reFired := some k } ∧ (getSlot t i).step = sl.step)
            ∧ (kind = 2 → (getSlot t i).health = { h with stallNext := some p, reFired := some k } ∧ (getSlot t i).step = sl.step))
        ∧ (kind = 3 → (openLineTile sl (x / 2 ^ 16 % 128)).isSome = true →
          ∃ t, exec (.rehearsalInject slot) s = .next t ∧ (getSlot t i).health.reFired = some k ∧ StepAborted s t i 0x8D (selfId s))))
    ∧ (h.reFired = some k → exec (.rehearsalInject slot) s = .next s ∧ exec (.rehearsalSkip slot) s = .next s))

/-! ### Lanes, spoke links and device time (13, 14) -/

/-- R387 to R392: a lane whose signal is there trains, answers what it is asked within its limits, locks after 64 frames, fails its
port at the eighth failure in a row; a port whose lanes are locked and aligned sends HELLO and CREDIT_INIT; a fault of a lane takes the
port down; an idle direction goes quiet and wakes with a burst. -/
def Obligations.LanesTrainAndPortsIdle : Prop :=
  (∀ (s : State) (lane : LaneId),
    let n := lane.val
    let l := getLane s n
    (∀ p, portOfLane s n = some p →
      (l.st = .down → l.loopback = 0 → (getPort s p).failed = false → lanesRun s n = true →
        ∃ t, exec (.signalDetected lane) s = .next t ∧ LaneTrains s t n l.failRun)
      ∧ (l.st ≠ .down ∨ l.loopback ≠ 0 ∨ (getPort s p).failed = true ∨ lanesRun s n = false → exec (.signalDetected lane) s = .next s)
      ∧ (l.st = .training →
        let due := timeMask (max s.time (l.trainStart + (if (getPort s p).cfg.cr then 500 else 50) * 1000000))
        (l.failRun + 1 < 8 → ∃ t, exec (.trainingTimeout lane) s = .next t ∧ t.time = due ∧ LaneTrains s t n (l.failRun + 1))
        ∧ (8 ≤ l.failRun + 1 →
          ∃ t, exec (.trainingTimeout lane) s = .next t ∧ t.time = due ∧ (getPort t p).failed = true
            ∧ EventPosted s t 0x0015 0xFF (leBytes 2 p ++ leBytes 1 0)
            ∧ ∀ m ∈ portLanes (getPort s p) p, (getLane s m).loopback = 0 → (getLane t m).st = .down))
      ∧ (laneCarries l = true →
        ∃ t, exec (.laneFault lane) s = .next t ∧ PortIsDown (getPort t p)
          ∧ ∀ m ∈ portLanes (getPort s p) p, (getLane s m).loopback = 0 → (getLane t m).st = .down)
      ∧ (l.st = .up →
        ∃ t, exec (.eiCodewordsReceived lane) s = .next t ∧ getLane t n = { l with st := .idle }
          ∧ ((getPort t p).idleRx = true ↔ ∀ m ∈ portLanes (getPort s p) p, m ≠ n → (getLane s m).st = .idle))
      ∧ (l.st = .idle →
        (∃ t, exec (.exitBurstReceived lane true) s = .next t ∧ getLane t n = { l with st := .up, eiExits := inc32 l.eiExits }
          ∧ getPort t p = { getPort s p with idleRx := false })
        ∧ (∃ t, exec (.exitBurstReceived lane false) s = .next t ∧ PortIsDown (getPort t p)
          ∧ ∀ m ∈ portLanes (getPort s p) p, (getLane s m).loopback = 0 → (getLane t m).st = .down)))
    ∧ (l.st ≠ .training → exec (.trainingTimeout lane) s = .next s)
    ∧ (laneCarries l = false → exec (.laneFault lane) s = .next s)
    ∧ (l.st ≠ .up → exec (.eiCodewordsReceived lane) s = .next s)
    ∧ (∀ d, l.st ≠ .idle → exec (.exitBurstReceived lane d) s = .next s)
    ∧ (l.st = .training → 64 ≤ l.readyRx → 64 ≤ l.readyTx →
      ∃ t, exec (.trainingComplete lane) s = .next t ∧ getLane t n = { l with st := .locking, failRun := 0 })
    ∧ (l.st ≠ .training ∨ l.readyRx < 64 ∨ l.readyTx < 64 → exec (.trainingComplete lane) s = .next s)
    ∧ ∀ ix skew, (l.st = .locking → ∃ t, exec (.codewordLock lane ix skew) s = .next t
        ∧ getLane t n = { l with rxLane := ix.val, skew := skew.toNat, locked := true })
      ∧ (l.st ≠ .locking → exec (.codewordLock lane ix skew) s = .next s))
  ∧ (∀ (s : State) (lane : LaneId) (request status : W32),
    let n := lane.val
    let l := getLane s n
    let r := request.toNat
    let tap := bitsOf r 0 3
    let step := bitsOf r 3 2
    let preset := bitsOf r 5 3
    let cr := ((portOfLane s n).map (fun p => (getPort s p).cfg.cr)).getD false
    let v := l.taps.getD tap 0 + (if step = 1 then 1 else -1)
    let last := l.request.toNat
    let asked := bitsOf last 3 2 ≠ 0 ∨ bitsOf last 5 3 ≠ 0
    (l.st ≠ .training → exec (.trainingFrame lane request status) s = .next s)
    ∧ (l.st = .training → ∃ t, exec (.trainingFrame lane request status) s = .next t ∧ t.freeCount = s.freeCount + 1
      ∧ t.out = s.out ++ [.training n (getLane t n).request (laneStatus (getLane t n))]
      ∧ (getLane t n).precoding = request.getLsbD 8
      ∧ (getLane t n).readyRx = (if request.getLsbD 9 then l.readyRx + 1 else 0)
      ∧ (getLane t n).readyTx = (if (getLane t n).request.getLsbD 9 then l.readyTx + 1 else 0)
      ∧ (step = 0 → preset = 0 → (getLane t n).resp = 0 ∧ (getLane t n).taps = l.taps)
      ∧ (step ≠ 0 ∨ preset ≠ 0 →
        (l.resp ≠ 0 → (getLane t n).resp = l.resp ∧ (getLane t n).taps = l.taps)
        ∧ (l.resp = 0 →
          (1 ≤ preset → preset ≤ 5 → (getLane t n).resp = 1 ∧ (getLane t n).taps = (List.range 5).map (Config.presetTap cr preset))
          ∧ (6 ≤ preset → (getLane t n).resp = 3 ∧ (getLane t n).taps = l.taps)
          ∧ (preset = 0 → step = 3 ∨ 5 ≤ tap → (getLane t n).resp = 3 ∧ (getLane t n).taps = l.taps)
          ∧ (preset = 0 → step < 3 → tap < 5 →
            (Config.tapLimit cr false tap ≤ v → v ≤ Config.tapLimit cr true tap →
              (getLane t n).resp = 1 ∧ (getLane t n).taps = l.taps.set tap v)
            ∧ (v < Config.tapLimit cr false tap ∨ Config.tapLimit cr true tap < v →
              (getLane t n).resp = 2 ∧ (getLane t n).taps = l.taps))))
      ∧ (asked → bitsOf status.toNat 0 2 = 0 → (getLane t n).request = l.request)
      ∧ (asked → bitsOf status.toNat 0 2 ≠ 0 → (getLane t n).request = l.request &&& 0x100)
      ∧ (¬ asked → bitsOf (getLane t n).request.toNat 3 2 < 3 ∧ bitsOf (getLane t n).request.toNat 5 3 < 6
        ∧ bitsOf (getLane t n).request.toNat 0 3 < 5)))
  ∧ (∀ (s : State) (port : PortId),
    let p := port.val
    let q := getPort s p
    (q.cfg.enable = true → q.failed = false → q.helloSent = false →
      (∀ n ∈ portLanes q p, (getLane s n).st = .locking ∧ (getLane s n).locked = true ∧ (getLane s n).loopback = 0 ∧ (getLane s n).skew ≤ 18000) →
      (∀ k, k < 2 ^ q.cfg.width → ∃ n ∈ portLanes q p, (getLane s n).rxLane = k) →
      ∃ t, exec (.portDeskewed port) s = .next t ∧ (∀ n ∈ portLanes q p, (getLane t n).st = .up)
        ∧ (getPort t p).helloSent = true ∧ (getPort t p).idleTx = false ∧ (getPort t p).idleRx = false
        ∧ ∃ f g, (getPort t p).tx.linkWait = q.tx.linkWait ++ [f, g] ∧ f.h.typ = 0xE ∧ hLinkKind f.h = 1 ∧ g.h.typ = 0xE ∧ hLinkKind g.h = 2
          ∧ leAt f.payload 0 4 = (selfId s * 65536 + p) % 2 ^ 32
          ∧ g.payload = (List.range 5).flatMap (fun c => leBytes 2 (natAt q.cfg.rxCredits c)))
    ∧ (q.cfg.enable = false ∨ q.failed = true ∨ q.helloSent = true
        ∨ (∃ n ∈ portLanes q p, (getLane s n).locked = false ∨ 18000 < (getLane s n).skew ∨ (getLane s n).loopback ≠ 0) →
      exec (.portDeskewed port) s = .next s)
    ∧ (q.up = true → q.cfg.idleEn = true → q.idleTx = false → q.tx.unacked = [] → q.tx.linkUnacked = [] → ¬ HasToSend q →
      ∃ t, exec (.idleEntry port) s = .next t ∧ t.time = timeMask (max s.time (q.lastBusy + q.cfg.idleEntry))
        ∧ getPort t p = { q with idleTx := true } ∧ t.out = s.out ++ [.idleEntry p])
    ∧ (q.up = false ∨ q.cfg.idleEn = false ∨ q.idleTx = true ∨ q.tx.unacked ≠ [] ∨ q.tx.linkUnacked ≠ [] ∨ HasToSend q →
      exec (.idleEntry port) s = .next s)
    ∧ (q.idleTx = true → HasToSend q →
      ∃ t, exec (.idleExit port) s = .next t ∧ getPort t p = { q with idleTx := false, lastBusy := s.time } ∧ t.out = s.out ++ [.exitBurst p])
    ∧ (q.idleTx = false ∨ ¬ HasToSend q → exec (.idleExit port) s = .next s))

/-- R398, R403, R405 to R408: a spoke link says HELLO, is up once both HELLOs are acknowledged, and goes down with the time it gave; a
device that is not the root asks its parent for the time, one that is asked answers, and the answer that is in time leaves its offset,
which a locked device removes by its rate and reports when it is more than 100 ns. -/
def Obligations.SpokesComeUpAndTimeIsKept : Prop :=
  (∀ (s : State) (link : LinkId),
    let k := link.val
    let l := getSpoke s k
    (l.st = 0 → spokesRun s = true →
      ∃ t, exec (.spokeAlign link) s = .next t
        ∧ getSpoke t k = { l with
            st := 1, helloSseq := some l.nextSseq, helloAcked := false, helloTaken := false
            nextSseq := (l.nextSseq + 1) % 256
            seqSent := inc32 l.seqSent }
        ∧ t.out = s.out ++ [.spoke k 0x3C l.nextSseq (leBytes 1 1 ++ leBytes 2 (selfId s) ++ leBytes 1 k) 1])
    ∧ (l.st ≠ 0 ∨ spokesRun s = false → exec (.spokeAlign link) s = .next s)
    ∧ (l.st = 0 → exec (.spokeLinkDown link) s = .next s)
    ∧ (l.st ≠ 0 →
      ∃ t, exec (.spokeLinkDown link) s = .next t ∧ (getSpoke t k).st = 0 ∧ (getSpoke t k).linkDowns = inc32 l.linkDowns
        ∧ (getSpoke t k).lastSseq = none ∧ (getSpoke t k).helloTaken = false
        ∧ (s.timeRec.parent = k → s.timeRec.st ≠ 3 → l.st = 2 → t.timeRec = { s.timeRec with st := 2, goodRun := 0, t1 := none })
        ∧ (s.timeRec.parent ≠ k ∨ s.timeRec.st = 3 ∨ l.st ≠ 2 → t.timeRec = s.timeRec)))
  ∧ (∀ (s s1 : State) (rx : SpokeRx), SymTaken s rx 0x3C s1 → rx.body.length = 4 → leAt rx.body 0 1 = 1 →
    let k := rx.link.val
    let l := getSpoke s1 k
    let peer := leAt rx.body 1 2
    (l.st ≠ 2 ∨ l.peer.toNat = peer →
      ∃ t, exec (.spokeHello rx) s = .next t
        ∧ getSpoke t k = { l with
            peer := BitVec.ofNat 16 peer, helloTaken := true, st := if l.helloAcked then 2 else l.st
            nextSseq := (l.nextSseq + 1) % 256
            seqSent := inc32 l.seqSent }
        ∧ t.out = s1.out ++ [.spoke k 0x3C l.nextSseq (leBytes 1 2 ++ leBytes 1 rx.sseq.toNat ++ leBytes 1 0) 1])
    ∧ (l.st = 2 → l.peer.toNat ≠ peer →
      ∃ t, exec (.spokeHello rx) s = .next t ∧ (getSpoke t k).st = 0 ∧ (getSpoke t k).linkDowns = inc32 l.linkDowns))
  ∧ (∀ (s : State),
    let t0 := s.timeRec
    let l := getSpoke s t0.parent
    let n := (t0.tseq + 1) % 65536
    (t0.st = 3 ∨ l.st ≠ 2 → exec .timeExchange s = .next s)
    ∧ (t0.st ≠ 3 → l.st = 2 →
      ∃ t, exec .timeExchange s = .next t ∧ t.time = timeMask (max s.time ((s.time / 100000 + 1) * 100000))
        ∧ t.timeRec = { t0 with tseq := n, t1 := some (t.time * 256 + t0.frac / 100000) }
        ∧ t.out = s.out ++ [.spoke t0.parent 0xDC l.nextSseq (leBytes 1 1 ++ leBytes 2 n) 1]))
  ∧ (∀ (s s1 : State) (rx : SpokeRx), SymTaken s rx 0xDC s1 → leAt rx.body 0 1 % 4 = 1 → rx.body.length = 3 →
    let now := stampBytes (now256 s1)
    ∃ t, exec (.timeReq rx) s = .next t ∧ t.timeRec = s.timeRec
      ∧ t.out = s1.out ++ [.spoke rx.link.val 0xDC (getSpoke s1 rx.link.val).nextSseq
          (leBytes 1 (2 + 4 * s.timeRec.depth) ++ (rx.body.drop 1).take 2 ++ now ++ now) 1])
  ∧ (∀ (s : State) (rx : SpokeRx) (t4 : Nat), rx.ksym.toNat = 0xDC → rx.good = true →
    let counted := modSpoke s rx.link.val (fun l => { l with crcErrors := inc32 l.crcErrors })
    (leAt rx.body 0 1 % 4 ≠ 2 → leAt rx.body 0 1 % 4 ≠ 1 ∨ rx.body.length ≠ 3 → ∃ t, exec (.timeReq rx) s = .next t ∧ t = counted)
    ∧ (leAt rx.body 0 1 % 4 = 2 → rx.body.length ≠ 21 → ∃ t, exec (.timeResp rx t4) s = .next t ∧ t = counted))
  ∧ (∀ (s s1 : State) (rx : SpokeRx) (t4 : Nat), SymTaken s rx 0xDC s1 → leAt rx.body 0 1 % 4 = 2 → rx.body.length = 21 →
    let u := s1.timeRec
    let t2 := stampAt rx.body 3
    let t3 := stampAt rx.body 12
    (u.st = 3 ∨ u.parent ≠ rx.link.val ∨ leAt rx.body 1 2 ≠ u.tseq ∨ u.t1 = none → exec (.timeResp rx t4) s = .next s1)
    ∧ (u.st ≠ 3 → u.parent = rx.link.val → leAt rx.body 1 2 = u.tseq → ∀ t1, u.t1 = some t1 →
      (t4 < t1 ∨ t1 + 2560000 < t4 → exec (.timeResp rx t4) s = .next s1)
      ∧ (t1 ≤ t4 → t4 ≤ t1 + 2560000 →
        let delay : Int := (((t4 : Int) - t1) - ((t3 : Int) - t2)).tdiv 2
        let off : Int := (((t2 : Int) - t1) - ((t4 : Int) - t3)).tdiv 2
        let run := if off.natAbs ≤ 512 then u.goodRun + 1 else 0
        ∃ t, exec (.timeResp rx t4) s = .next t ∧ t.timeRec.offset = off ∧ t.timeRec.delay = delay ∧ t.timeRec.exchanges = (u.exchanges + 1) % 65536
          ∧ t.timeRec.depth = (leAt rx.body 0 1 / 4 + 1) % 32 ∧ t.timeRec.goodRun = run ∧ t.timeRec.st = (if 16 ≤ run then 1 else u.st)
          ∧ (u.st ≠ 0 → t.timeRec.slew = max (-2560) (min 2560 off))
          ∧ (u.st = 1 → 25600 < off.natAbs →
            t.timeRec.faults = inc32 u.faults ∧ EventPosted s t 0x0012 0xFF (leBytes 8 (ofSigned 64 off)))
          ∧ (u.st ≠ 1 ∨ off.natAbs ≤ 25600 → t.timeRec.faults = u.faults ∧ t.evt = s.evt))))
end

