-- ==== Sys2Proof/Laws/Memory.lean ====
section
/-! SUPPORT. The canonical form of HBM's list: what it says of a list, and that every memory operation keeps it. -/

namespace Sys2Proof.Laws

open Sys2Proof Sys2Proof.Machine

/-- Two cells stand in rising order of their keys. -/
def Rising (c d : Host.Cell) : Prop := c.1 < d.1

theorem rising_trans {a b c : Host.Cell} (h : Rising a b) (h' : Rising b c) : Rising a c := by
  unfold Rising at *; omega

/-- The canonical form says: keys strictly rising, and no zero listed. -/
theorem wf_iff (m : List Host.Cell) :
    Memory.wf m = true ↔ m.Pairwise Rising ∧ ∀ c ∈ m, c.2 ≠ 0 := by
  induction m with
  | nil => simp [Memory.wf]
  | cons c rest ih =>
    cases rest with
    | nil => simp [Memory.wf]
    | cons d rest =>
      simp only [Memory.wf, Bool.and_eq_true, ih, bne_iff_ne, decide_eq_true_eq, List.pairwise_cons, List.forall_mem_cons]
      constructor
      · rintro ⟨⟨hc, hlt⟩, ⟨hd, hp⟩, hd0, h0⟩
        exact ⟨⟨⟨hlt, fun e he => rising_trans hlt (hd e he)⟩, hd, hp⟩, hc, hd0, h0⟩
      · rintro ⟨⟨⟨hlt, -⟩, hd, hp⟩, hc, hd0, h0⟩
        exact ⟨⟨hc, hlt⟩, ⟨hd, hp⟩, hd0, h0⟩

theorem wf_filter {m : List Host.Cell} (p : Host.Cell → Bool) (h : Memory.wf m = true) : Memory.wf (m.filter p) = true := by
  rw [wf_iff] at *
  exact ⟨h.1.filter p, fun c hc => h.2 c (List.mem_filter.mp hc).1⟩

theorem mem_cellsOf {a : Nat} {bs : Bytes} {c : Host.Cell} (h : c ∈ cellsOf a bs) :
    a ≤ c.1 ∧ c.1 < a + bs.length ∧ c.2 ≠ 0 := by
  induction bs generalizing a with
  | nil => simp [cellsOf] at h
  | cons b rest ih =>
    simp only [cellsOf] at h
    simp only [List.length_cons]
    split at h
    · have := ih h; exact ⟨by omega, by omega, this.2.2⟩
    · rename_i hb
      rcases List.mem_cons.mp h with e | h
      · subst e; exact ⟨Nat.le_refl _, by simp, hb⟩
      · have := ih h; exact ⟨by omega, by omega, this.2.2⟩

theorem wf_cellsOf (a : Nat) (bs : Bytes) : Memory.wf (cellsOf a bs) = true := by
  rw [wf_iff]
  refine ⟨?_, fun c hc => (mem_cellsOf hc).2.2⟩
  induction bs generalizing a with
  | nil => simp [cellsOf]
  | cons b rest ih =>
    simp only [cellsOf]
    split
    · exact ih _
    · exact List.pairwise_cons.mpr ⟨fun c hc => by have := mem_cellsOf hc; unfold Rising; simp only; omega, ih _⟩

/-- Writing a byte string keeps the canonical form. -/
theorem wf_memWrite {m : List Host.Cell} (a : Nat) (bs : Bytes) (h : Memory.wf m = true) : Memory.wf (memWrite m a bs) = true := by
  have hl := (wf_iff _).mp (wf_filter (fun c => c.1 < a) h)
  have hr := (wf_iff _).mp (wf_filter (fun c => a + bs.length ≤ c.1) h)
  have hm := (wf_iff _).mp (wf_cellsOf a bs)
  rw [wf_iff]
  unfold memWrite
  refine ⟨?_, ?_⟩
  · rw [List.append_assoc, List.pairwise_append, List.pairwise_append]
    refine ⟨hl.1, ⟨hm.1, hr.1, ?_⟩, ?_⟩
    · intro c hc d hd
      have h1 := mem_cellsOf hc
      have h2 := (List.mem_filter.mp hd).2
      simp only [decide_eq_true_eq] at h2
      unfold Rising; omega
    · intro c hc d hd
      have h1 := (List.mem_filter.mp hc).2
      simp only [decide_eq_true_eq] at h1
      unfold Rising
      rcases List.mem_append.mp hd with hd | hd
      · have h2 := mem_cellsOf hd; omega
      · have h2 := (List.mem_filter.mp hd).2
        simp only [decide_eq_true_eq] at h2; omega
  · intro c hc
    rw [List.append_assoc] at hc
    rcases List.mem_append.mp hc with hc | hc
    · exact hl.2 c hc
    · rcases List.mem_append.mp hc with hc | hc
      · exact hm.2 c hc
      · exact hr.2 c hc

/-- HBM's list right after reset is canonical: it lists nothing. -/
theorem wf_reset : Memory.wf State.reset.hbm.mem = true := rfl

end Sys2Proof.Laws
end

