-- ==== Sys2Proof/Laws/Tbl.lean ====
section
/-! SUPPORT. Tables by number: what is read after an entry is written. -/

namespace Sys2Proof.Laws

open Sys2Proof Sys2Proof.Machine

theorem tget?_tset {α : Type} (t : Tbl α) (i : Nat) (v : α) : tget? (tset t i v) i = some v := by
  induction t with
  | nil => simp [tset, tget?]
  | cons e rest ih =>
    obtain ⟨k, w⟩ := e
    simp only [tset]
    split
    · simp [tget?]
    · rename_i h
      split
      · simp [tget?]
      · simp [tget?, h, ih]

theorem tget?_tset_ne {α : Type} {t : Tbl α} {i k : Nat} {v : α} (h : k ≠ i) : tget? (tset t i v) k = tget? t k := by
  induction t with
  | nil => simp [tset, tget?, Ne.symm h]
  | cons e rest ih =>
    obtain ⟨j, w⟩ := e
    simp only [tset]
    split
    · rename_i hj
      subst hj
      simp [tget?, Ne.symm h]
    · split
      · simp [tget?, Ne.symm h]
      · simp only [tget?, ih]

/-- An entry reads back as it was written. -/
@[simp] theorem tget_tset {α : Type} (d : α) (t : Tbl α) (i : Nat) (v : α) : tget d (tset t i v) i = v := by
  simp [tget, tget?_tset]

/-- Every other entry reads as before. -/
theorem tget_tset_ne {α : Type} {d : α} {t : Tbl α} {i k : Nat} {v : α} (h : k ≠ i) : tget d (tset t i v) k = tget d t k := by
  simp [tget, tget?_tset_ne h]

end Sys2Proof.Laws
end

