-- ==== Sys2Proof/Laws/KeptBase.lean ====
section
/-! SUPPORT. What every command keeps: the rest of the queue, the canonical form of HBM's list, the fuses that are blown, and every
piece of state outside a set W of pieces (a mask over their numbers). -/

namespace Sys2Proof.Laws

open Sys2Proof Sys2Proof.Machine

/-- The number of a piece, its place in the mask. -/
def pieceNum : Piece → Nat
  | .time => 1
  | .out => 2
  | .freeCount => 3
  | .host => 4
  | .mbx => 5
  | .ownOrder => 6
  | .evt => 7
  | .trc => 8
  | .fab => 9
  | .ports => 10
  | .lanes => 11
  | .spokes => 12
  | .timeRec => 13
  | .hbm => 14
  | .pwr => 15
  | .sec => 16
  | .incidents => 17
  | .droppedReports => 18
  | .holder => 19
  | .benchLast => 20
  | .slotSt => 21
  | .slotGen => 22
  | .slotStaleGen => 23
  | .slotOb => 24
  | .slotMeas => 25
  | .slotDrainStart => 26
  | .slotDrainTimeoutPosted => 27
  | .slotShard => 28
  | .slotGroups => 29
  | .slotCtxs => 30
  | .slotCadHeld => 31
  | .slotCadRec => 32
  | .slotStep => 33
  | .slotTan => 34
  | .slotBuckets => 35
  | .slotServable => 36
  | .slotFetch => 37
  | .slotDeliv => 38
  | .slotFlags => 39
  | .slotLog => 40
  | .slotLogNext => 41
  | .slotLogRing => 42
  | .slotLogOverflow => 43
  | .slotMemLate => 44
  | .slotSums => 45
  | .slotWatch => 46
  | .slotFault => 47
  | .slotPools => 48
  | .slotWinTx => 49
  | .slotWinRx => 50
  | .slotHealth => 51
  | .slotProgs => 52
  | .slotRunning => 53
  | .slotResident => 54
  | .slotTokens => 55
  | .slotBench => 56

/-- From s0 to s the queue is the same, HBM's list stays canonical, fuses stay blown, and only pieces of W differ. -/
def Kept (W : Nat) (s0 s : State) : Prop :=
  s.pending = s0.pending ∧ (Memory.wf s0.hbm.mem = true → Memory.wf s.hbm.mem = true) ∧ s0.sec.minSvn ≤ s.sec.minSvn
    ∧ s.sec.revoked &&& s0.sec.revoked = s0.sec.revoked ∧ ∀ p : Piece, W.testBit (pieceNum p) = false → p.same s0 s

/-- Two slots differ only in pieces of W. -/
def SOld (W : Nat) (a b : Slot) : Prop := ∀ p : Piece, W.testBit (pieceNum p) = false → p.sameSlot a b

theorem kept_refl (W : Nat) (s : State) : Kept W s s :=
  ⟨rfl, id, Nat.le_refl _, BitVec.and_self, fun p _ => by cases p <;> first | rfl | exact fun _ => rfl⟩

theorem sold_refl {W : Nat} {a : Slot} : SOld W a a := fun p _ => by cases p <;> first | rfl | trivial

theorem msub {V U W : Nat} (hw : U &&& W = U) (h : V &&& U = V := by with_unfolding_all exact rfl) : V &&& W = V := by
  rw [← h, Nat.and_assoc, hw]

theorem bit_sub {V W k : Nat} (hw : V &&& W = V) (h : V.testBit k = true) : W.testBit k = true := by
  rw [← hw, Nat.testBit_and, Bool.and_eq_true] at h
  exact h.2

/-- A piece written in full: it is as before, or the mask names it. -/
abbrev Old {α : Type} (V k : Nat) (x y : α) : Prop := x = y ∨ V.testBit k = true

theorem old_trans {W V : Nat} (hw : V &&& W = V) {α : Type} {k : Nat} {x y z : α} (ho : Old V k x y) (hk : W.testBit k = false)
    (e : y = z) : x = z := by
  rcases ho with e' | b
  · exact e'.trans e
  · rw [bit_sub hw b] at hk; exact Bool.noConfusion hk

theorem kept_mk {W V : Nat} {s0 s : State} (hw : V &&& W = V) (h : Kept W s0 s)
    {x0 x1 x2 x3 x4 x5 x6 x7 x8 x9 x10 x11 x12 x13 x14 x15 x16 x17 x18 x19 x20 x21}
    (hp : x0 = s.pending) (hm : Hbm.mem x14 = s.hbm.mem) (hs : Security.minSvn x16 = s.sec.minSvn)
    (hr : Security.revoked x16 = s.sec.revoked) (hl : x21 = s.slots)
    (k1 : Old V 1 x1 s.time := by first | with_unfolding_all exact Or.inr rfl | exact Or.inl rfl)
    (k2 : Old V 2 x2 s.out := by first | with_unfolding_all exact Or.inr rfl | exact Or.inl rfl)
    (k3 : Old V 3 x3 s.freeCount := by first | with_unfolding_all exact Or.inr rfl | exact Or.inl rfl)
    (k4 : Old V 4 x4 s.host := by first | with_unfolding_all exact Or.inr rfl | exact Or.inl rfl)
    (k5 : Old V 5 x5 s.mbx := by first | with_unfolding_all exact Or.inr rfl | exact Or.inl rfl)
    (k6 : Old V 6 x6 s.ownOrder := by first | with_unfolding_all exact Or.inr rfl | exact Or.inl rfl)
    (k7 : Old V 7 x7 s.evt := by first | with_unfolding_all exact Or.inr rfl | exact Or.inl rfl)
    (k8 : Old V 8 x8 s.trc := by first | with_unfolding_all exact Or.inr rfl | exact Or.inl rfl)
    (k9 : Old V 9 x9 s.fab := by first | with_unfolding_all exact Or.inr rfl | exact Or.inl rfl)
    (k10 : Old V 10 x10 s.ports := by first | with_unfolding_all exact Or.inr rfl | exact Or.inl rfl)
    (k11 : Old V 11 x11 s.lanes := by first | with_unfolding_all exact Or.inr rfl | exact Or.inl rfl)
    (k12 : Old V 12 x12 s.spokes := by first | with_unfolding_all exact Or.inr rfl | exact Or.inl rfl)
    (k13 : Old V 13 x13 s.timeRec := by first | with_unfolding_all exact Or.inr rfl | exact Or.inl rfl)
    (k14 : Old V 14 x14 s.hbm := by first | with_unfolding_all exact Or.inr rfl | exact Or.inl rfl)
    (k15 : Old V 15 x15 s.pwr := by first | with_unfolding_all exact Or.inr rfl | exact Or.inl rfl)
    (k16 : Old V 16 x16 s.sec := by first | with_unfolding_all exact Or.inr rfl | exact Or.inl rfl)
    (k17 : Old V 17 x17 s.incidents := by first | with_unfolding_all exact Or.inr rfl | exact Or.inl rfl)
    (k18 : Old V 18 x18 s.droppedReports := by first | with_unfolding_all exact Or.inr rfl | exact Or.inl rfl)
    (k19 : Old V 19 x19 s.holder := by first | with_unfolding_all exact Or.inr rfl | exact Or.inl rfl)
    (k20 : Old V 20 x20 s.benchLast := by first | with_unfolding_all exact Or.inr rfl | exact Or.inl rfl) :
    Kept W s0 (State.mk x0 x1 x2 x3 x4 x5 x6 x7 x8 x9 x10 x11 x12 x13 x14 x15 x16 x17 x18 x19 x20 x21) := by
  obtain ⟨h1, h2, h3, h4, h5⟩ := h
  refine ⟨hp.trans h1, fun x => by simpa only [hm] using h2 x, by simpa only [hs] using h3, by simpa only [hr] using h4, ?_⟩
  intro p hp'
  subst hl
  cases p
  · exact old_trans hw k1 hp' (h5 .time hp')
  · exact old_trans hw k2 hp' (h5 .out hp')
  · exact old_trans hw k3 hp' (h5 .freeCount hp')
  · exact old_trans hw k4 hp' (h5 .host hp')
  · exact old_trans hw k5 hp' (h5 .mbx hp')
  · exact old_trans hw k6 hp' (h5 .ownOrder hp')
  · exact old_trans hw k7 hp' (h5 .evt hp')
  · exact old_trans hw k8 hp' (h5 .trc hp')
  · exact old_trans hw k9 hp' (h5 .fab hp')
  · exact old_trans hw k10 hp' (h5 .ports hp')
  · exact old_trans hw k11 hp' (h5 .lanes hp')
  · exact old_trans hw k12 hp' (h5 .spokes hp')
  · exact old_trans hw k13 hp' (h5 .timeRec hp')
  · exact old_trans hw k14 hp' (h5 .hbm hp')
  · exact old_trans hw k15 hp' (h5 .pwr hp')
  · exact old_trans hw k16 hp' (h5 .sec hp')
  · exact old_trans hw k17 hp' (h5 .incidents hp')
  · exact old_trans hw k18 hp' (h5 .droppedReports hp')
  · exact old_trans hw k19 hp' (h5 .holder hp')
  · exact old_trans hw k20 hp' (h5 .benchLast hp')
  · exact h5 .slotSt hp'
  · exact h5 .slotGen hp'
  · exact h5 .slotStaleGen hp'
  · exact h5 .slotOb hp'
  · exact h5 .slotMeas hp'
  · exact h5 .slotDrainStart hp'
  · exact h5 .slotDrainTimeoutPosted hp'
  · exact h5 .slotShard hp'
  · exact h5 .slotGroups hp'
  · exact h5 .slotCtxs hp'
  · exact h5 .slotCadHeld hp'
  · exact h5 .slotCadRec hp'
  · exact h5 .slotStep hp'
  · exact h5 .slotTan hp'
  · exact h5 .slotBuckets hp'
  · exact h5 .slotServable hp'
  · exact h5 .slotFetch hp'
  · exact h5 .slotDeliv hp'
  · exact h5 .slotFlags hp'
  · exact h5 .slotLog hp'
  · exact h5 .slotLogNext hp'
  · exact h5 .slotLogRing hp'
  · exact h5 .slotLogOverflow hp'
  · exact h5 .slotMemLate hp'
  · exact h5 .slotSums hp'
  · exact h5 .slotWatch hp'
  · exact h5 .slotFault hp'
  · exact h5 .slotPools hp'
  · exact h5 .slotWinTx hp'
  · exact h5 .slotWinRx hp'
  · exact h5 .slotHealth hp'
  · exact h5 .slotProgs hp'
  · exact h5 .slotRunning hp'
  · exact h5 .slotResident hp'
  · exact h5 .slotTokens hp'
  · exact h5 .slotBench hp'

theorem sold_mk {W V : Nat} {a b : Slot} (hw : V &&& W = V) (h : SOld W a b)
    {x0 x1 x2 x3 x4 x5 x6 x7 x8 x9 x10 x11 x12 x13 x14 x15 x16 x17 x18 x19 x20 x21 x22 x23 x24 x25 x26 x27 x28 x29 x30 x31
    x32 x33 x34 x35}
    (k0 : Old V 21 x0 b.st := by first | with_unfolding_all exact Or.inr rfl | exact Or.inl rfl)
    (k1 : Old V 22 x1 b.gen := by first | with_unfolding_all exact Or.inr rfl | exact Or.inl rfl)
    (k2 : Old V 23 x2 b.staleGen := by first | with_unfolding_all exact Or.inr rfl | exact Or.inl rfl)
    (k3 : Old V 24 x3 b.ob := by first | with_unfolding_all exact Or.inr rfl | exact Or.inl rfl)
    (k4 : Old V 25 x4 b.meas := by first | with_unfolding_all exact Or.inr rfl | exact Or.inl rfl)
    (k5 : Old V 26 x5 b.drainStart := by first | with_unfolding_all exact Or.inr rfl | exact Or.inl rfl)
    (k6 : Old V 27 x6 b.drainTimeoutPosted := by first | with_unfolding_all exact Or.inr rfl | exact Or.inl rfl)
    (k7 : Old V 28 x7 b.shard := by first | with_unfolding_all exact Or.inr rfl | exact Or.inl rfl)
    (k8 : Old V 29 x8 b.groups := by first | with_unfolding_all exact Or.inr rfl | exact Or.inl rfl)
    (k9 : Old V 30 x9 b.ctxs := by first | with_unfolding_all exact Or.inr rfl | exact Or.inl rfl)
    (k10 : Old V 31 x10 b.cadHeld := by first | with_unfolding_all exact Or.inr rfl | exact Or.inl rfl)
    (k11 : Old V 32 x11 b.cadRec := by first | with_unfolding_all exact Or.inr rfl | exact Or.inl rfl)
    (k12 : Old V 33 x12 b.step := by first | with_unfolding_all exact Or.inr rfl | exact Or.inl rfl)
    (k13 : Old V 34 x13 b.tan := by first | with_unfolding_all exact Or.inr rfl | exact Or.inl rfl)
    (k14 : Old V 35 x14 b.buckets := by first | with_unfolding_all exact Or.inr rfl | exact Or.inl rfl)
    (k15 : Old V 36 x15 b.servable := by first | with_unfolding_all exact Or.inr rfl | exact Or.inl rfl)
    (k16 : Old V 37 x16 b.fetch := by first | with_unfolding_all exact Or.inr rfl | exact Or.inl rfl)
    (k17 : Old V 38 x17 b.deliv := by first | with_unfolding_all exact Or.inr rfl | exact Or.inl rfl)
    (k18 : Old V 39 x18 b.flags := by first | with_unfolding_all exact Or.inr rfl | exact Or.inl rfl)
    (k19 : Old V 40 x19 b.log := by first | with_unfolding_all exact Or.inr rfl | exact Or.inl rfl)
    (k20 : Old V 41 x20 b.logNext := by first | with_unfolding_all exact Or.inr rfl | exact Or.inl rfl)
    (k21 : Old V 42 x21 b.logRing := by first | with_unfolding_all exact Or.inr rfl | exact Or.inl rfl)
    (k22 : Old V 43 x22 b.logOverflow := by first | with_unfolding_all exact Or.inr rfl | exact Or.inl rfl)
    (k23 : Old V 44 x23 b.memLate := by first | with_unfolding_all exact Or.inr rfl | exact Or.inl rfl)
    (k24 : Old V 45 x24 b.sums := by first | with_unfolding_all exact Or.inr rfl | exact Or.inl rfl)
    (k25 : Old V 46 x25 b.watch := by first | with_unfolding_all exact Or.inr rfl | exact Or.inl rfl)
    (k26 : Old V 47 x26 b.fault := by first | with_unfolding_all exact Or.inr rfl | exact Or.inl rfl)
    (k27 : Old V 48 x27 b.pools := by first | with_unfolding_all exact Or.inr rfl | exact Or.inl rfl)
    (k28 : Old V 49 x28 b.winTx := by first | with_unfolding_all exact Or.inr rfl | exact Or.inl rfl)
    (k29 : Old V 50 x29 b.winRx := by first | with_unfolding_all exact Or.inr rfl | exact Or.inl rfl)
    (k30 : Old V 51 x30 b.health := by first | with_unfolding_all exact Or.inr rfl | exact Or.inl rfl)
    (k31 : Old V 52 x31 b.progs := by first | with_unfolding_all exact Or.inr rfl | exact Or.inl rfl)
    (k32 : Old V 53 x32 b.running := by first | with_unfolding_all exact Or.inr rfl | exact Or.inl rfl)
    (k33 : Old V 54 x33 b.resident := by first | with_unfolding_all exact Or.inr rfl | exact Or.inl rfl)
    (k34 : Old V 55 x34 b.tokens := by first | with_unfolding_all exact Or.inr rfl | exact Or.inl rfl)
    (k35 : Old V 56 x35 b.bench := by first | with_unfolding_all exact Or.inr rfl | exact Or.inl rfl) :
    SOld W a (Slot.mk x0 x1 x2 x3 x4 x5 x6 x7 x8 x9 x10 x11 x12 x13 x14 x15 x16 x17 x18 x19 x20 x21 x22 x23 x24 x25 x26 x27 x28 x29 x30 x31
    x32 x33 x34 x35) := by
  intro p hp'
  have h5 := h p hp'
  cases p
  · trivial
  · trivial
  · trivial
  · trivial
  · trivial
  · trivial
  · trivial
  · trivial
  · trivial
  · trivial
  · trivial
  · trivial
  · trivial
  · trivial
  · trivial
  · trivial
  · trivial
  · trivial
  · trivial
  · trivial
  · exact old_trans hw k0 hp' h5
  · exact old_trans hw k1 hp' h5
  · exact old_trans hw k2 hp' h5
  · exact old_trans hw k3 hp' h5
  · exact old_trans hw k4 hp' h5
  · exact old_trans hw k5 hp' h5
  · exact old_trans hw k6 hp' h5
  · exact old_trans hw k7 hp' h5
  · exact old_trans hw k8 hp' h5
  · exact old_trans hw k9 hp' h5
  · exact old_trans hw k10 hp' h5
  · exact old_trans hw k11 hp' h5
  · exact old_trans hw k12 hp' h5
  · exact old_trans hw k13 hp' h5
  · exact old_trans hw k14 hp' h5
  · exact old_trans hw k15 hp' h5
  · exact old_trans hw k16 hp' h5
  · exact old_trans hw k17 hp' h5
  · exact old_trans hw k18 hp' h5
  · exact old_trans hw k19 hp' h5
  · exact old_trans hw k20 hp' h5
  · exact old_trans hw k21 hp' h5
  · exact old_trans hw k22 hp' h5
  · exact old_trans hw k23 hp' h5
  · exact old_trans hw k24 hp' h5
  · exact old_trans hw k25 hp' h5
  · exact old_trans hw k26 hp' h5
  · exact old_trans hw k27 hp' h5
  · exact old_trans hw k28 hp' h5
  · exact old_trans hw k29 hp' h5
  · exact old_trans hw k30 hp' h5
  · exact old_trans hw k31 hp' h5
  · exact old_trans hw k32 hp' h5
  · exact old_trans hw k33 hp' h5
  · exact old_trans hw k34 hp' h5
  · exact old_trans hw k35 hp' h5

theorem sold_ite {W : Nat} {c : Prop} [Decidable c] {a b b' : Slot} (h : SOld W a b) (h' : SOld W a b') :
    SOld W a (if c then b else b') := by split <;> assumption

theorem kept_setSlot {W : Nat} {s0 s : State} {i : Nat} {v : Slot} (h : Kept W s0 s) (hv : SOld W (getSlot s i) v) :
    Kept W s0 (setSlot s i v) := by
  refine ⟨h.1, h.2.1, h.2.2.1, h.2.2.2.1, fun p hp => ?_⟩
  have hs := h.2.2.2.2 p hp
  have hv := hv p hp
  have e : ∀ k, getSlot (setSlot s i v) k = if k = i then v else getSlot s k := by
    intro k
    split
    · rename_i hk; subst hk; exact tget_tset ..
    · rename_i hk; exact tget_tset_ne hk
  cases p
  · exact hs
  · exact hs
  · exact hs
  · exact hs
  · exact hs
  · exact hs
  · exact hs
  · exact hs
  · exact hs
  · exact hs
  · exact hs
  · exact hs
  · exact hs
  · exact hs
  · exact hs
  · exact hs
  · exact hs
  · exact hs
  · exact hs
  · exact hs
  all_goals
    intro k
    rw [e k]
    split
    · rename_i hk; subst hk; exact hv.trans (hs _)
    · exact hs k

theorem kept_modSlot {W : Nat} {s0 s : State} {i : Nat} {f : Slot → Slot} (h : Kept W s0 s) (hf : ∀ sl, SOld W sl (f sl)) :
    Kept W s0 (modSlot s i f) := kept_setSlot h (hf _)

theorem kept_ite {W : Nat} {s0 : State} {c : Prop} [Decidable c] {s t : State} (h : Kept W s0 s) (h' : Kept W s0 t) :
    Kept W s0 (if c then s else t) := by split <;> assumption

theorem kept_ite_snd {α : Type} {W : Nat} {s0 : State} {c : Prop} [Decidable c] {s t : α × State} (h : Kept W s0 s.2)
    (h' : Kept W s0 t.2) : Kept W s0 (if c then s else t).2 := by split <;> assumption

theorem kept_foldl {α : Type} {W : Nat} {s0 : State} {g : State → α → State} {l : List α} {s : State} (h : Kept W s0 s)
    (hg : ∀ s a, Kept W s0 s → Kept W s0 (g s a)) : Kept W s0 (l.foldl g s) := by
  induction l generalizing s with
  | nil => exact h
  | cons a l ih => exact ih (hg s a h)

end Sys2Proof.Laws
end

