-- ==== Sys2Proof/Laws/KeptOps.lean ====
section
/-! SUPPORT. What the definitions of Machine/Ops.lean keep (Laws/KeptBase.lean). -/

namespace Sys2Proof.Laws

open Sys2Proof Sys2Proof.Machine

set_option linter.all false
set_option Elab.async false



theorem kept_modPort {W s0} (hw : 1024 &&& W = 1024)  {s : State} {x1} {x2} (h : Kept W s0 s) : Kept W s0 (modPort s x1 x2) := by
  unfold modPort
  repeat (first
    | with_reducible assumption | with_reducible apply kept_ite | with_reducible apply kept_ite_snd
    | with_reducible apply kept_foldl | (with_reducible intro _) | split | (dsimp only; split)
    | (with_reducible refine kept_mk hw ?_ rfl rfl rfl rfl rfl))

theorem kept_modLane {W s0} (hw : 2048 &&& W = 2048)  {s : State} {x1} {x2} (h : Kept W s0 s) : Kept W s0 (modLane s x1 x2) := by
  unfold modLane
  repeat (first
    | with_reducible assumption | with_reducible apply kept_ite | with_reducible apply kept_ite_snd
    | with_reducible apply kept_foldl | (with_reducible intro _) | split | (dsimp only; split)
    | (with_reducible refine kept_mk hw ?_ rfl rfl rfl rfl rfl))

theorem kept_modSpoke {W s0} (hw : 4096 &&& W = 4096)  {s : State} {x1} {x2} (h : Kept W s0 s) : Kept W s0 (modSpoke s x1 x2) := by
  unfold modSpoke
  repeat (first
    | with_reducible assumption | with_reducible apply kept_ite | with_reducible apply kept_ite_snd
    | with_reducible apply kept_foldl | (with_reducible intro _) | split | (dsimp only; split)
    | (with_reducible refine kept_mk hw ?_ rfl rfl rfl rfl rfl))

theorem kept_modMbx {W s0} (hw : 32 &&& W = 32)  {s : State} {x1} {x2} (h : Kept W s0 s) : Kept W s0 (modMbx s x1 x2) := by
  unfold modMbx
  repeat (first
    | with_reducible assumption | with_reducible apply kept_ite | with_reducible apply kept_ite_snd
    | with_reducible apply kept_foldl | (with_reducible intro _) | split | (dsimp only; split)
    | (with_reducible refine kept_mk hw ?_ rfl rfl rfl rfl rfl))

theorem kept_modChan {W s0} (hw : 16384 &&& W = 16384)  {s : State} {x1} {x2} (h : Kept W s0 s) : Kept W s0 (modChan s x1 x2) := by
  unfold modChan
  repeat (first
    | with_reducible assumption | with_reducible apply kept_ite | with_reducible apply kept_ite_snd
    | with_reducible apply kept_foldl | (with_reducible intro _) | split | (dsimp only; split)
    | (with_reducible refine kept_mk hw ?_ rfl rfl rfl rfl rfl))

theorem kept_modDomain {W s0} (hw : 32768 &&& W = 32768)  {s : State} {x1} {x2} (h : Kept W s0 s) : Kept W s0 (modDomain s x1 x2) := by
  unfold modDomain
  repeat (first
    | with_reducible assumption | with_reducible apply kept_ite | with_reducible apply kept_ite_snd
    | with_reducible apply kept_foldl | (with_reducible intro _) | split | (dsimp only; split)
    | (with_reducible refine kept_mk hw ?_ rfl rfl rfl rfl rfl))

theorem kept_wakeDomain {W s0} (hw : 32768 &&& W = 32768)  {s : State} {x1} (h : Kept W s0 s) : Kept W s0 (wakeDomain s x1) := by
  unfold wakeDomain
  repeat (first
    | with_reducible assumption | (with_reducible refine kept_modDomain (msub hw) ?_) | with_reducible apply kept_ite
    | with_reducible apply kept_ite_snd | with_reducible apply kept_foldl | (with_reducible intro _) | split
    | (dsimp only; split) | (with_reducible refine kept_mk hw ?_ rfl rfl rfl rfl rfl))

theorem kept_wakeBench {W s0} (hw : 32768 &&& W = 32768)  {s : State}  (h : Kept W s0 s) : Kept W s0 (wakeBench s) := by
  unfold wakeBench
  repeat (first
    | with_reducible assumption | (with_reducible refine kept_wakeDomain (msub hw) ?_) | with_reducible apply kept_ite
    | with_reducible apply kept_ite_snd | with_reducible apply kept_foldl | (with_reducible intro _) | split
    | (dsimp only; split) | (with_reducible refine kept_mk hw ?_ rfl rfl rfl rfl rfl))

theorem kept_emit {W s0} (hw : 4 &&& W = 4)  {s : State} {x1} (h : Kept W s0 s) : Kept W s0 (emit s x1) := by
  unfold emit
  repeat (first
    | with_reducible assumption | with_reducible apply kept_ite | with_reducible apply kept_ite_snd
    | with_reducible apply kept_foldl | (with_reducible intro _) | split | (dsimp only; split)
    | (with_reducible refine kept_mk hw ?_ rfl rfl rfl rfl rfl))

theorem kept_drawFree {W s0} (hw : 8 &&& W = 8)  {s : State}  (h : Kept W s0 s) : Kept W s0 (drawFree s).2 := by
  unfold drawFree
  repeat (first
    | with_reducible assumption | with_reducible apply kept_ite | with_reducible apply kept_ite_snd
    | with_reducible apply kept_foldl | (with_reducible intro _) | split | (dsimp only; split)
    | (with_reducible refine kept_mk hw ?_ rfl rfl rfl rfl rfl))

theorem kept_drawFree' {W s0} (hw : 8 &&& W = 8)  {s s' : State} {y}  (e : drawFree s = (y, s')) (h : Kept W s0 s) : Kept W s0 s' := by
  have k : Kept W s0 (drawFree s).2 := kept_drawFree hw h
  rw [e] at k
  exact k

theorem kept_timeTo {W s0} (hw : 2 &&& W = 2)  {s : State} {x1} (h : Kept W s0 s) : Kept W s0 (timeTo s x1) := by
  unfold timeTo
  repeat (first
    | with_reducible assumption | with_reducible apply kept_ite | with_reducible apply kept_ite_snd
    | with_reducible apply kept_foldl | (with_reducible intro _) | split | (dsimp only; split)
    | (with_reducible refine kept_mk hw ?_ rfl rfl rfl rfl rfl))

theorem kept_raiseIrq {W s0} (hw : 4 &&& W = 4)  {s : State} {x1} (h : Kept W s0 s) : Kept W s0 (raiseIrq s x1) := by
  unfold raiseIrq
  repeat (first
    | with_reducible assumption | (with_reducible refine kept_emit (msub hw) ?_) | with_reducible apply kept_ite
    | with_reducible apply kept_ite_snd | with_reducible apply kept_foldl | (with_reducible intro _) | split
    | (dsimp only; split) | (with_reducible refine kept_mk hw ?_ rfl rfl rfl rfl rfl))

theorem kept_evtWrite {W s0} (hw : 132 &&& W = 132)  {s : State} {x1} {x2} {x3} (h : Kept W s0 s) : Kept W s0 (evtWrite s x1 x2 x3) := by
  unfold evtWrite
  repeat (first
    | with_reducible assumption | (with_reducible refine kept_emit (msub hw) ?_) | with_reducible apply kept_ite
    | with_reducible apply kept_ite_snd | with_reducible apply kept_foldl | (with_reducible intro _) | split
    | (dsimp only; split) | (with_reducible refine kept_mk hw ?_ rfl rfl rfl rfl rfl))

theorem kept_evtOverflow {W s0} (hw : 132 &&& W = 132)  {s : State}  (h : Kept W s0 s) : Kept W s0 (evtOverflow s) := by
  unfold evtOverflow
  repeat (first
    | with_reducible assumption | (with_reducible refine kept_evtWrite (msub hw) ?_) | with_reducible apply kept_ite
    | with_reducible apply kept_ite_snd | with_reducible apply kept_foldl | (with_reducible intro _) | split
    | (dsimp only; split) | (with_reducible refine kept_mk hw ?_ rfl rfl rfl rfl rfl))

theorem kept_postEvent {W s0} (hw : 132 &&& W = 132)  {s : State} {x1} {x2} {x3} (h : Kept W s0 s) : Kept W s0 (postEvent s x1 x2 x3) := by
  unfold postEvent
  repeat (first
    | with_reducible assumption | (with_reducible refine kept_evtOverflow (msub hw) ?_)
    | (with_reducible refine kept_evtWrite (msub hw) ?_) | with_reducible apply kept_ite
    | with_reducible apply kept_ite_snd | with_reducible apply kept_foldl | (with_reducible intro _) | split
    | (dsimp only; split) | (with_reducible refine kept_mk hw ?_ rfl rfl rfl rfl rfl))

theorem kept_answerMbx {W s0} (hw : 100 &&& W = 100)  {s : State} {x1} {x2} {x3} {x4} (h : Kept W s0 s) : Kept W s0 (answerMbx s x1 x2 x3 x4) := by
  unfold answerMbx
  repeat (first
    | with_reducible assumption | (with_reducible refine kept_modMbx (msub hw) ?_)
    | (with_reducible refine kept_raiseIrq (msub hw) ?_) | with_reducible apply kept_ite
    | with_reducible apply kept_ite_snd | with_reducible apply kept_foldl | (with_reducible intro _) | split
    | (dsimp only; split) | (with_reducible refine kept_mk hw ?_ rfl rfl rfl rfl rfl))

theorem kept_spokeSend {W s0} (hw : 4100 &&& W = 4100)  {s : State} {x1} {x2} {x3} (h : Kept W s0 s) : Kept W s0 (spokeSend s x1 x2 x3) := by
  unfold spokeSend
  repeat (first
    | with_reducible assumption | (with_reducible refine kept_emit (msub hw) ?_)
    | (with_reducible refine kept_modSpoke (msub hw) ?_) | with_reducible apply kept_ite
    | with_reducible apply kept_ite_snd | with_reducible apply kept_foldl | (with_reducible intro _) | split
    | (dsimp only; split) | (with_reducible refine kept_mk hw ?_ rfl rfl rfl rfl rfl))

theorem kept_spokeSendAll {W s0} (hw : 4100 &&& W = 4100)  {s : State} {x1} {x2} {x3} (h : Kept W s0 s) : Kept W s0 (spokeSendAll s x1 x2 x3) := by
  unfold spokeSendAll
  repeat (first
    | with_reducible assumption | (with_reducible refine kept_spokeSend (msub hw) ?_) | with_reducible apply kept_ite
    | with_reducible apply kept_ite_snd | with_reducible apply kept_foldl | (with_reducible intro _) | split
    | (dsimp only; split) | (with_reducible refine kept_mk hw ?_ rfl rfl rfl rfl rfl))

theorem kept_spokeTake {W s0} (hw : 4096 &&& W = 4096)  {s : State} {x1} (h : Kept W s0 s) : Kept W s0 (spokeTake s x1).2 := by
  unfold spokeTake
  repeat (first
    | with_reducible assumption | (with_reducible refine kept_modSpoke (msub hw) ?_) | with_reducible apply kept_ite
    | with_reducible apply kept_ite_snd | with_reducible apply kept_foldl | (with_reducible intro _) | split
    | (dsimp only; split) | (with_reducible refine kept_mk hw ?_ rfl rfl rfl rfl rfl))

theorem kept_spokeTake' {W s0} (hw : 4096 &&& W = 4096)  {s s' : State} {y} {x1} (e : spokeTake s x1 = (y, s')) (h : Kept W s0 s) : Kept W s0 s' := by
  have k : Kept W s0 (spokeTake s x1).2 := kept_spokeTake hw h
  rw [e] at k
  exact k

end Sys2Proof.Laws
end

