-- ==== Sys2Proof/Laws/KeptHealth.lean ====
section
/-! SUPPORT. What the definitions of Machine/Health.lean keep (Laws/KeptBase.lean). -/

namespace Sys2Proof.Laws

open Sys2Proof Sys2Proof.Machine

set_option linter.all false
set_option Elab.async false

theorem kept_modHealth {W s0} (hw : 2251799813685248 &&& W = 2251799813685248)  {s : State} {x1} {x2} (h : Kept W s0 s) : Kept W s0 (modHealth s x1 x2) := by
  unfold modHealth
  repeat (first
    | with_reducible assumption | (with_reducible refine kept_modSlot ?_ ?_) | (with_reducible exact sold_refl)
    | with_reducible apply sold_ite | (with_reducible intro _) | with_reducible apply kept_ite
    | with_reducible apply kept_ite_snd | with_reducible apply kept_foldl | split | (dsimp only; split)
    | (with_reducible refine kept_mk hw ?_ rfl rfl rfl rfl rfl) | (with_reducible refine sold_mk hw ?_))

theorem kept_escalate {W s0} (hw : 2251799813685380 &&& W = 2251799813685380)  {s : State} {x1} {x2} {x3} {x4} (h : Kept W s0 s) : Kept W s0 (escalate s x1 x2 x3 x4) := by
  unfold escalate
  repeat (first
    | with_reducible assumption | (with_reducible refine kept_modHealth (msub hw) ?_)
    | (with_reducible refine kept_postEvent (msub hw) ?_) | with_reducible apply kept_ite
    | with_reducible apply kept_ite_snd | (with_reducible intro _) | split | (dsimp only; split)
    | (with_reducible refine kept_mk hw ?_ rfl rfl rfl rfl rfl))

theorem kept_subjectEnters {W s0} (hw : 2251799813685380 &&& W = 2251799813685380)  {s : State} {x1} {x2} {x3} (h : Kept W s0 s) : Kept W s0 (subjectEnters s x1 x2 x3) := by
  unfold subjectEnters
  repeat (first
    | with_reducible assumption | (with_reducible refine kept_modHealth (msub hw) ?_)
    | (with_reducible refine kept_postEvent (msub hw) ?_) | (with_reducible intro _)
    | (with_reducible refine kept_mk hw ?_ rfl rfl rfl rfl rfl))

theorem kept_requestExpulsion {W s0} (hw : 2251799813685380 &&& W = 2251799813685380)  {s : State} {x1} {x2} (h : Kept W s0 s) : Kept W s0 (requestExpulsion s x1 x2) := by
  unfold requestExpulsion
  repeat (first
    | with_reducible assumption | (with_reducible refine kept_modHealth (msub hw) ?_)
    | (with_reducible refine kept_subjectEnters (msub hw) ?_) | (with_reducible refine kept_escalate (msub hw) ?_)
    | with_reducible apply kept_ite | with_reducible apply kept_ite_snd | (with_reducible intro _) | split
    | (dsimp only; split))

theorem kept_applyPenalty {W s0} (hw : 2251799813685380 &&& W = 2251799813685380)  {s : State} {x1} {x2} {x3} {x4} {x5} {x6} {x7} {x8} (h : Kept W s0 s) : Kept W s0 (applyPenalty s x1 x2 x3 x4 x5 x6 x7 x8) := by
  unfold applyPenalty
  repeat (first
    | with_reducible assumption | (with_reducible refine kept_modHealth (msub hw) ?_)
    | (with_reducible refine kept_requestExpulsion (msub hw) ?_) | with_reducible apply kept_ite
    | with_reducible apply kept_ite_snd | (with_reducible intro _) | split | (dsimp only; split)
    | (with_reducible refine kept_mk hw ?_ rfl rfl rfl rfl rfl))

theorem kept_countEscalations {W s0} (hw : 2251799813685380 &&& W = 2251799813685380)  {s : State} {x1} {x2} {x3} {x4} {x5} (h : Kept W s0 s) : Kept W s0 (countEscalations s x1 x2 x3 x4 x5) := by
  unfold countEscalations
  repeat (first
    | with_reducible assumption | (with_reducible refine kept_modHealth (msub hw) ?_)
    | (with_reducible refine kept_escalate (msub hw) ?_) | with_reducible apply kept_ite
    | with_reducible apply kept_ite_snd | (with_reducible intro _) | split | (dsimp only; split)
    | (with_reducible refine kept_mk hw ?_ rfl rfl rfl rfl rfl))

theorem kept_openIncident {W s0} (hw : 2251799814078596 &&& W = 2251799814078596)  {s : State} {x1} {x2} (h : Kept W s0 s) : Kept W s0 (openIncident s x1 x2) := by
  unfold openIncident
  repeat (first
    | with_reducible assumption | (with_reducible refine kept_escalate (msub hw) ?_)
    | (with_reducible refine kept_applyPenalty (msub hw) ?_) | (with_reducible refine kept_countEscalations (msub hw) ?_)
    | with_reducible apply kept_ite | with_reducible apply kept_ite_snd | split | (dsimp only; split)
    | (with_reducible refine kept_mk hw ?_ rfl rfl rfl rfl rfl))

theorem kept_mergeReport {W s0} (hw : 2251799814078596 &&& W = 2251799814078596)  {s : State} {x1} {x2} (h : Kept W s0 s) : Kept W s0 (mergeReport s x1 x2) := by
  unfold mergeReport
  repeat (first
    | with_reducible assumption | (with_reducible refine kept_openIncident (msub hw) ?_) | with_reducible apply kept_ite
    | with_reducible apply kept_ite_snd | (with_reducible intro _) | split | (dsimp only; split)
    | (with_reducible refine kept_mk hw ?_ rfl rfl rfl rfl rfl))

theorem kept_reportFault {W s0} (hw : 2251799814078596 &&& W = 2251799814078596)  {s : State} {x1} {x2} (h : Kept W s0 s) : Kept W s0 (reportFault s x1 x2) := by
  unfold reportFault
  repeat (first
    | with_reducible assumption | (with_reducible refine kept_mergeReport (msub hw) ?_)
    | (with_reducible refine kept_modHealth (msub hw) ?_) | (with_reducible refine kept_escalate (msub hw) ?_)
    | with_reducible apply kept_ite | with_reducible apply kept_ite_snd | (with_reducible intro _) | split
    | (dsimp only; split) | (with_reducible refine kept_mk hw ?_ rfl rfl rfl rfl rfl))

theorem kept_ownIncident {W s0} (hw : 2251799814078596 &&& W = 2251799814078596)  {s : State} {x1} {x2} {x3} {x4} {x5} (h : Kept W s0 s) : Kept W s0 (ownIncident s x1 x2 x3 x4 x5) := by
  unfold ownIncident
  repeat (first
    | with_reducible assumption | (with_reducible refine kept_reportFault (msub hw) ?_))

theorem kept_sendIncident {W s0} (hw : 4100 &&& W = 4100)  {s : State} {x1} {x2} (h : Kept W s0 s) : Kept W s0 (sendIncident s x1 x2) := by
  unfold sendIncident
  repeat (first
    | with_reducible assumption | (with_reducible refine kept_spokeSend (msub hw) ?_)
    | (with_reducible refine kept_modSpoke (msub hw) ?_) | with_reducible apply kept_ite
    | with_reducible apply kept_ite_snd | (with_reducible intro _) | split | (dsimp only; split)
    | (with_reducible refine kept_mk hw ?_ rfl rfl rfl rfl rfl))

theorem kept_effIncidentClose {W s0} (hw : 2251799813820550 &&& W = 2251799813820550)  {s : State}  (h : Kept W s0 s) : Kept W s0 (effIncidentClose s) := by
  unfold effIncidentClose
  repeat (first
    | with_reducible assumption | (with_reducible refine kept_timeTo (msub hw) ?_)
    | (with_reducible refine kept_modHealth (msub hw) ?_) | (with_reducible refine kept_postEvent (msub hw) ?_)
    | (with_reducible refine kept_sendIncident (msub hw) ?_) | with_reducible apply kept_ite
    | with_reducible apply kept_ite_snd | (with_reducible intro _) | split | (dsimp only; split)
    | (with_reducible refine kept_mk hw ?_ rfl rfl rfl rfl rfl))

theorem kept_mergeRecord {W s0} (hw : 2251799814078596 &&& W = 2251799814078596)  {s : State} {x1} {x2} (h : Kept W s0 s) : Kept W s0 (mergeRecord s x1 x2) := by
  unfold mergeRecord
  repeat (first
    | with_reducible assumption | (with_reducible refine kept_openIncident (msub hw) ?_) | with_reducible apply kept_ite
    | with_reducible apply kept_ite_snd | (with_reducible intro _) | split | (dsimp only; split)
    | (with_reducible refine kept_mk hw ?_ rfl rfl rfl rfl rfl))

theorem kept_effIncidentSeq {W s0} (hw : 2251799814082692 &&& W = 2251799814082692)  {s : State} {x0} (h : Kept W s0 s) : Kept W s0 (effIncidentSeq x0 s) := by
  unfold effIncidentSeq
  repeat (first
    | with_reducible assumption | (with_reducible refine kept_spokeTake (msub hw) ?_)
    | (with_reducible refine kept_spokeTake' (msub hw) (by assumption) ?_)
    | (with_reducible refine kept_spokeSend (msub hw) ?_) | (with_reducible refine kept_modSpoke (msub hw) ?_)
    | (with_reducible refine kept_mergeRecord (msub hw) ?_) | with_reducible apply kept_ite
    | with_reducible apply kept_ite_snd | (with_reducible intro _) | split | (dsimp only; split)
    | (with_reducible refine kept_mk hw ?_ rfl rfl rfl rfl rfl))

theorem kept_effIncidentRetransmit {W s0} (hw : 4102 &&& W = 4102)  {s : State} {x0} (h : Kept W s0 s) : Kept W s0 (effIncidentRetransmit x0 s) := by
  unfold effIncidentRetransmit
  repeat (first
    | with_reducible assumption | (with_reducible refine kept_timeTo (msub hw) ?_)
    | (with_reducible refine kept_modSpoke (msub hw) ?_) | (with_reducible refine kept_spokeSend (msub hw) ?_)
    | with_reducible apply kept_ite | with_reducible apply kept_ite_snd | (with_reducible intro _) | split
    | (dsimp only; split) | (with_reducible refine kept_mk hw ?_ rfl rfl rfl rfl rfl))

theorem kept_effLinkctlAck {W s0} (hw : 4096 &&& W = 4096)  {s : State} {x0} (h : Kept W s0 s) : Kept W s0 (effLinkctlAck x0 s) := by
  unfold effLinkctlAck
  repeat (first
    | with_reducible assumption | (with_reducible refine kept_spokeTake (msub hw) ?_)
    | (with_reducible refine kept_spokeTake' (msub hw) (by assumption) ?_)
    | (with_reducible refine kept_modSpoke (msub hw) ?_) | with_reducible apply kept_ite
    | with_reducible apply kept_ite_snd | (with_reducible intro _) | split | (dsimp only; split)
    | (with_reducible refine kept_mk hw ?_ rfl rfl rfl rfl rfl))

theorem kept_effScoreDecay {W s0} (hw : 2251799813685250 &&& W = 2251799813685250)  {s : State} {x0} (h : Kept W s0 s) : Kept W s0 (effScoreDecay x0 s) := by
  unfold effScoreDecay
  repeat (first
    | with_reducible assumption | (with_reducible refine kept_timeTo (msub hw) ?_)
    | (with_reducible refine kept_modHealth (msub hw) ?_) | with_reducible apply kept_ite
    | with_reducible apply kept_ite_snd | (with_reducible intro _) | split | (dsimp only; split)
    | (with_reducible refine kept_mk hw ?_ rfl rfl rfl rfl rfl))

theorem kept_considerHeld {W s0} (hw : 2251799813685380 &&& W = 2251799813685380)  {s : State} {x1} {x2} (h : Kept W s0 s) : Kept W s0 (considerHeld s x1 x2) := by
  unfold considerHeld
  repeat (first
    | with_reducible assumption | (with_reducible refine kept_modHealth (msub hw) ?_)
    | (with_reducible refine kept_subjectEnters (msub hw) ?_) | with_reducible apply kept_ite
    | with_reducible apply kept_ite_snd | with_reducible apply kept_foldl | (with_reducible intro _) | split
    | (dsimp only; split) | (with_reducible refine kept_mk hw ?_ rfl rfl rfl rfl rfl))

theorem kept_effBrakeWindow {W s0} (hw : 2251799813685382 &&& W = 2251799813685382)  {s : State} {x0} (h : Kept W s0 s) : Kept W s0 (effBrakeWindow x0 s) := by
  unfold effBrakeWindow
  repeat (first
    | with_reducible assumption | (with_reducible refine kept_timeTo (msub hw) ?_)
    | (with_reducible refine kept_modHealth (msub hw) ?_) | (with_reducible refine kept_considerHeld (msub hw) ?_)
    | with_reducible apply kept_ite | with_reducible apply kept_ite_snd | (with_reducible intro _) | split
    | (dsimp only; split) | (with_reducible refine kept_mk hw ?_ rfl rfl rfl rfl rfl))

theorem kept_effAccuseWindow {W s0} (hw : 2251799813685250 &&& W = 2251799813685250)  {s : State} {x0} (h : Kept W s0 s) : Kept W s0 (effAccuseWindow x0 s) := by
  unfold effAccuseWindow
  repeat (first
    | with_reducible assumption | (with_reducible refine kept_timeTo (msub hw) ?_)
    | (with_reducible refine kept_modHealth (msub hw) ?_) | with_reducible apply kept_ite
    | with_reducible apply kept_ite_snd | (with_reducible intro _) | split | (dsimp only; split)
    | (with_reducible refine kept_mk hw ?_ rfl rfl rfl rfl rfl))

end Sys2Proof.Laws
end

