-- ==== Sys2Proof/Laws/KeptPools.lean ====
section
/-! SUPPORT. What the definitions of Machine/Pools.lean keep (Laws/KeptBase.lean). -/

namespace Sys2Proof.Laws

open Sys2Proof Sys2Proof.Machine

set_option linter.all false
set_option Elab.async false

theorem kept_modFab {W s0} (hw : 512 &&& W = 512)  {s : State} {x1} (h : Kept W s0 s) : Kept W s0 (modFab s x1) := by
  unfold modFab
  repeat (first
    | with_reducible assumption | (with_reducible refine kept_mk hw ?_ rfl rfl rfl rfl rfl))

theorem kept_modBuf {W s0} (hw : 512 &&& W = 512)  {s : State} {x1} {x2} (h : Kept W s0 s) : Kept W s0 (modBuf s x1 x2) := by
  unfold modBuf
  repeat (first
    | with_reducible assumption | (with_reducible refine kept_modFab (msub hw) ?_) | (with_reducible intro _) | split
    | (dsimp only; split) | (with_reducible refine kept_mk hw ?_ rfl rfl rfl rfl rfl))

theorem kept_modPool {W s0} (hw : 281474976710656 &&& W = 281474976710656)  {s : State} {x1} {x2} {x3} (h : Kept W s0 s) : Kept W s0 (modPool s x1 x2 x3) := by
  unfold modPool
  repeat (first
    | with_reducible assumption | (with_reducible refine kept_modSlot ?_ ?_) | (with_reducible exact sold_refl)
    | with_reducible apply sold_ite | (with_reducible intro _)
    | (with_reducible refine kept_mk hw ?_ rfl rfl rfl rfl rfl) | (with_reducible refine sold_mk hw ?_))

theorem kept_poolTry {W s0} (hw : 281474976711168 &&& W = 281474976711168)  {s : State} {x1} {x2} {x3} {x4} {x5} {x6} {x7} (h : Kept W s0 s) : Kept W s0 (poolTry s x1 x2 x3 x4 x5 x6 x7).2 := by
  unfold poolTry
  repeat (first
    | with_reducible assumption | (with_reducible refine kept_modPool (msub hw) ?_)
    | (with_reducible refine kept_modFab (msub hw) ?_) | with_reducible apply kept_ite
    | with_reducible apply kept_ite_snd | (with_reducible intro _) | split | (dsimp only; split)
    | (with_reducible refine kept_mk hw ?_ rfl rfl rfl rfl rfl))

theorem kept_poolTry' {W s0} (hw : 281474976711168 &&& W = 281474976711168)  {s s' : State} {y} {x1} {x2} {x3} {x4} {x5} {x6} {x7} (e : poolTry s x1 x2 x3 x4 x5 x6 x7 = (y, s')) (h : Kept W s0 s) : Kept W s0 s' := by
  have k : Kept W s0 (poolTry s x1 x2 x3 x4 x5 x6 x7).2 := kept_poolTry hw h
  rw [e] at k
  exact k

theorem kept_poolRequest {W s0} (hw : 281474976711168 &&& W = 281474976711168)  {s : State} {x1} {x2} {x3} {x4} {x5} (h : Kept W s0 s) : Kept W s0 (poolRequest s x1 x2 x3 x4 x5).2 := by
  unfold poolRequest
  repeat (first
    | with_reducible assumption | (with_reducible refine kept_modPool (msub hw) ?_)
    | (with_reducible refine kept_poolTry (msub hw) ?_)
    | (with_reducible refine kept_poolTry' (msub hw) (by assumption) ?_) | with_reducible apply kept_ite
    | with_reducible apply kept_ite_snd | (with_reducible intro _) | split | (dsimp only; split)
    | (with_reducible refine kept_mk hw ?_ rfl rfl rfl rfl rfl))

theorem kept_poolRequest' {W s0} (hw : 281474976711168 &&& W = 281474976711168)  {s s' : State} {y} {x1} {x2} {x3} {x4} {x5} (e : poolRequest s x1 x2 x3 x4 x5 = (y, s')) (h : Kept W s0 s) : Kept W s0 s' := by
  have k : Kept W s0 (poolRequest s x1 x2 x3 x4 x5).2 := kept_poolRequest hw h
  rw [e] at k
  exact k

theorem kept_freeBuf {W s0} (hw : 281474976711168 &&& W = 281474976711168)  {s : State} {x1} {x2} (h : Kept W s0 s) : Kept W s0 (freeBuf s x1 x2) := by
  unfold freeBuf
  repeat (first
    | with_reducible assumption | (with_reducible refine kept_modFab (msub hw) ?_)
    | (with_reducible refine kept_modPool (msub hw) ?_) | (with_reducible intro _)
    | (with_reducible refine kept_mk hw ?_ rfl rfl rfl rfl rfl))

theorem kept_poolError {W s0} (hw : 2251799814079108 &&& W = 2251799814079108)  {s : State} {x1} {x2} {x3} (h : Kept W s0 s) : Kept W s0 (poolError s x1 x2 x3) := by
  unfold poolError
  repeat (first
    | with_reducible assumption | (with_reducible refine kept_modFab (msub hw) ?_)
    | (with_reducible refine kept_postEvent (msub hw) ?_) | (with_reducible refine kept_ownIncident (msub hw) ?_)
    | with_reducible apply kept_ite | with_reducible apply kept_ite_snd | with_reducible apply kept_foldl
    | (with_reducible intro _) | split | (dsimp only; split) | (with_reducible refine kept_mk hw ?_ rfl rfl rfl rfl rfl))

theorem kept_releaseBuf {W s0} (hw : 2533274790789764 &&& W = 2533274790789764)  {s : State} {x1} {x2} (h : Kept W s0 s) : Kept W s0 (releaseBuf s x1 x2) := by
  unfold releaseBuf
  repeat (first
    | with_reducible assumption | (with_reducible refine kept_poolError (msub hw) ?_)
    | (with_reducible refine kept_freeBuf (msub hw) ?_) | (with_reducible refine kept_modBuf (msub hw) ?_)
    | with_reducible apply kept_ite | with_reducible apply kept_ite_snd | (with_reducible intro _) | split
    | (dsimp only; split) | (with_reducible refine kept_mk hw ?_ rfl rfl rfl rfl rfl))

theorem kept_unlinkBuf {W s0} (hw : 2533274790789764 &&& W = 2533274790789764)  {s : State} {x1} {x2} (h : Kept W s0 s) : Kept W s0 (unlinkBuf s x1 x2) := by
  unfold unlinkBuf
  repeat (first
    | with_reducible assumption | (with_reducible refine kept_poolError (msub hw) ?_)
    | (with_reducible refine kept_modBuf (msub hw) ?_) | (with_reducible refine kept_freeBuf (msub hw) ?_)
    | with_reducible apply kept_ite | with_reducible apply kept_ite_snd | (with_reducible intro _) | split
    | (dsimp only; split) | (with_reducible refine kept_mk hw ?_ rfl rfl rfl rfl rfl))

theorem kept_handBuf {W s0} (hw : 512 &&& W = 512)  {s : State} {x1} {x2} (h : Kept W s0 s) : Kept W s0 (handBuf s x1 x2) := by
  unfold handBuf
  repeat (first
    | with_reducible assumption | (with_reducible refine kept_modBuf (msub hw) ?_) | (with_reducible intro _)
    | (with_reducible refine kept_mk hw ?_ rfl rfl rfl rfl rfl))

theorem kept_linkBuf {W s0} (hw : 512 &&& W = 512)  {s : State} {x1} {x2} (h : Kept W s0 s) : Kept W s0 (linkBuf s x1 x2) := by
  unfold linkBuf
  repeat (first
    | with_reducible assumption | (with_reducible refine kept_modBuf (msub hw) ?_) | (with_reducible intro _)
    | (with_reducible refine kept_mk hw ?_ rfl rfl rfl rfl rfl))

theorem kept_dropFrameBufs {W s0} (hw : 2533274790789764 &&& W = 2533274790789764)  {s : State} {x1} {x2} (h : Kept W s0 s) : Kept W s0 (dropFrameBufs s x1 x2) := by
  unfold dropFrameBufs
  repeat (first
    | with_reducible assumption | (with_reducible refine kept_unlinkBuf (msub hw) ?_)
    | (with_reducible refine kept_releaseBuf (msub hw) ?_) | with_reducible apply kept_ite
    | with_reducible apply kept_ite_snd | with_reducible apply kept_foldl | (with_reducible intro _) | split
    | (dsimp only; split) | (with_reducible refine kept_mk hw ?_ rfl rfl rfl rfl rfl))

theorem kept_effBufferRelease {W s0} (hw : 2533274790789764 &&& W = 2533274790789764)  {s : State} {x0} {x1} (h : Kept W s0 s) : Kept W s0 (effBufferRelease x0 x1 s) := by
  unfold effBufferRelease
  repeat (first
    | with_reducible assumption | (with_reducible refine kept_releaseBuf (msub hw) ?_))

theorem kept_effBufferUnlink {W s0} (hw : 2533274790789764 &&& W = 2533274790789764)  {s : State} {x0} {x1} (h : Kept W s0 s) : Kept W s0 (effBufferUnlink x0 x1 s) := by
  unfold effBufferUnlink
  repeat (first
    | with_reducible assumption | (with_reducible refine kept_unlinkBuf (msub hw) ?_))

theorem kept_addWaiter {W s0} (hw : 512 &&& W = 512)  {s : State} {x1} (h : Kept W s0 s) : Kept W s0 (addWaiter s x1) := by
  unfold addWaiter
  repeat (first
    | with_reducible assumption | (with_reducible refine kept_modFab (msub hw) ?_) | with_reducible apply kept_ite
    | with_reducible apply kept_ite_snd | (with_reducible intro _) | split | (dsimp only; split)
    | (with_reducible refine kept_mk hw ?_ rfl rfl rfl rfl rfl))

theorem kept_dropWaiter {W s0} (hw : 281474976711168 &&& W = 281474976711168)  {s : State} {x1} {x2} {x3} (h : Kept W s0 s) : Kept W s0 (dropWaiter s x1 x2 x3) := by
  unfold dropWaiter
  repeat (first
    | with_reducible assumption | (with_reducible refine kept_modFab (msub hw) ?_)
    | (with_reducible refine kept_modPool (msub hw) ?_) | (with_reducible intro _) | split | (dsimp only; split)
    | (with_reducible refine kept_mk hw ?_ rfl rfl rfl rfl rfl))

end Sys2Proof.Laws
end

