-- ==== Sys2Proof/Laws/KeptPorts.lean ====
section
/-! SUPPORT. What the definitions of Machine/Ports.lean keep (Laws/KeptBase.lean). -/

namespace Sys2Proof.Laws

open Sys2Proof Sys2Proof.Machine

set_option linter.all false
set_option Elab.async false

theorem kept_traceFrame {W s0} (hw : 256 &&& W = 256)  {s : State} {x1} (h : Kept W s0 s) : Kept W s0 (traceFrame s x1) := by
  unfold traceFrame
  repeat (first
    | with_reducible assumption | (with_reducible intro _) | split | (dsimp only; split)
    | (with_reducible refine kept_mk hw ?_ rfl rfl rfl rfl rfl))

theorem kept_modCnt {W s0} (hw : 1024 &&& W = 1024)  {s : State} {x1} {x2} (h : Kept W s0 s) : Kept W s0 (modCnt s x1 x2) := by
  unfold modCnt
  repeat (first
    | with_reducible assumption | (with_reducible refine kept_modPort (msub hw) ?_) | (with_reducible intro _)
    | (with_reducible refine kept_mk hw ?_ rfl rfl rfl rfl rfl))

theorem kept_modCls {W s0} (hw : 1024 &&& W = 1024)  {s : State} {x1} {x2} {x3} (h : Kept W s0 s) : Kept W s0 (modCls s x1 x2 x3) := by
  unfold modCls
  repeat (first
    | with_reducible assumption | (with_reducible refine kept_modPort (msub hw) ?_) | (with_reducible intro _)
    | (with_reducible refine kept_mk hw ?_ rfl rfl rfl rfl rfl))

theorem kept_modTx {W s0} (hw : 1024 &&& W = 1024)  {s : State} {x1} {x2} (h : Kept W s0 s) : Kept W s0 (modTx s x1 x2) := by
  unfold modTx
  repeat (first
    | with_reducible assumption | (with_reducible refine kept_modPort (msub hw) ?_) | (with_reducible intro _)
    | (with_reducible refine kept_mk hw ?_ rfl rfl rfl rfl rfl))

theorem kept_modRx {W s0} (hw : 1024 &&& W = 1024)  {s : State} {x1} {x2} (h : Kept W s0 s) : Kept W s0 (modRx s x1 x2) := by
  unfold modRx
  repeat (first
    | with_reducible assumption | (with_reducible refine kept_modPort (msub hw) ?_) | (with_reducible intro _)
    | (with_reducible refine kept_mk hw ?_ rfl rfl rfl rfl rfl))

theorem kept_queueClass {W s0} (hw : 2533274790790788 &&& W = 2533274790790788)  {s : State} {x1} {x2} (h : Kept W s0 s) : Kept W s0 (queueClass s x1 x2) := by
  unfold queueClass
  repeat (first
    | with_reducible assumption | (with_reducible refine kept_dropFrameBufs (msub hw) ?_)
    | (with_reducible refine kept_modTx (msub hw) ?_) | (with_reducible refine kept_modCls (msub hw) ?_)
    | (with_reducible refine kept_modPort (msub hw) ?_) | with_reducible apply kept_ite
    | with_reducible apply kept_ite_snd | (with_reducible intro _) | split | (dsimp only; split)
    | (with_reducible refine kept_mk hw ?_ rfl rfl rfl rfl rfl))

theorem kept_queueLink {W s0} (hw : 1024 &&& W = 1024)  {s : State} {x1} {x2} {x3} (h : Kept W s0 s) : Kept W s0 (queueLink s x1 x2 x3) := by
  unfold queueLink
  repeat (first
    | with_reducible assumption | (with_reducible refine kept_modTx (msub hw) ?_) | with_reducible apply kept_ite
    | with_reducible apply kept_ite_snd | (with_reducible intro _) | split | (dsimp only; split)
    | (with_reducible refine kept_mk hw ?_ rfl rfl rfl rfl rfl))

theorem kept_linkCtrl {W s0} (hw : 1024 &&& W = 1024)  {s : State} {x1} {x2} {x3} {x4} {x5} {x6} {x7} (h : Kept W s0 s) : Kept W s0 (linkCtrl s x1 x2 x3 x4 x5 x6 x7) := by
  unfold linkCtrl
  repeat (first
    | with_reducible assumption | (with_reducible refine kept_queueLink (msub hw) ?_)
    | (with_reducible refine kept_mk hw ?_ rfl rfl rfl rfl rfl))

theorem kept_slotLinkCtrl {W s0} (hw : 1024 &&& W = 1024)  {s : State} {x1} {x2} {x3} {x4} {x5} (h : Kept W s0 s) : Kept W s0 (slotLinkCtrl s x1 x2 x3 x4 x5) := by
  unfold slotLinkCtrl
  repeat (first
    | with_reducible assumption | (with_reducible refine kept_linkCtrl (msub hw) ?_))

theorem kept_sendNack {W s0} (hw : 1024 &&& W = 1024)  {s : State} {x1} {x2} {x3} {x4} {x5} {x6} {x7} (h : Kept W s0 s) : Kept W s0 (sendNack s x1 x2 x3 x4 x5 x6 x7) := by
  unfold sendNack
  repeat (first
    | with_reducible assumption | (with_reducible refine kept_queueLink (msub hw) ?_)
    | (with_reducible refine kept_modCnt (msub hw) ?_) | with_reducible apply kept_ite
    | with_reducible apply kept_ite_snd | (with_reducible intro _) | split | (dsimp only; split)
    | (with_reducible refine kept_mk hw ?_ rfl rfl rfl rfl rfl))

theorem kept_emitFrame {W s0} (hw : 1284 &&& W = 1284)  {s : State} {x1} {x2} {x3} {x4} (h : Kept W s0 s) : Kept W s0 (emitFrame s x1 x2 x3 x4) := by
  unfold emitFrame
  repeat (first
    | with_reducible assumption | (with_reducible refine kept_emit (msub hw) ?_)
    | (with_reducible refine kept_modPort (msub hw) ?_) | (with_reducible refine kept_traceFrame (msub hw) ?_)
    | (with_reducible intro _) | (with_reducible refine kept_mk hw ?_ rfl rfl rfl rfl rfl))

theorem kept_sendLinkFrame {W s0} (hw : 1284 &&& W = 1284)  {s : State} {x1} {x2} (h : Kept W s0 s) : Kept W s0 (sendLinkFrame s x1 x2) := by
  unfold sendLinkFrame
  repeat (first
    | with_reducible assumption | (with_reducible refine kept_modPort (msub hw) ?_)
    | (with_reducible refine kept_emitFrame (msub hw) ?_) | (with_reducible intro _)
    | (with_reducible refine kept_mk hw ?_ rfl rfl rfl rfl rfl))

theorem kept_debit {W s0} (hw : 562949953422336 &&& W = 562949953422336)  {s : State} {x1} {x2} {x3} (h : Kept W s0 s) : Kept W s0 (debit s x1 x2 x3) := by
  unfold debit
  repeat (first
    | with_reducible assumption | (with_reducible refine kept_modTx (msub hw) ?_)
    | (with_reducible refine kept_modSlot ?_ ?_) | (with_reducible exact sold_refl) | with_reducible apply sold_ite
    | (with_reducible intro _) | with_reducible apply kept_ite | with_reducible apply kept_ite_snd | split
    | (dsimp only; split) | (with_reducible refine kept_mk hw ?_ rfl rfl rfl rfl rfl)
    | (with_reducible refine sold_mk hw ?_))

theorem kept_sendClassFrame {W s0} (hw : 562949953422596 &&& W = 562949953422596)  {s : State} {x1} {x2} (h : Kept W s0 s) : Kept W s0 (sendClassFrame s x1 x2) := by
  unfold sendClassFrame
  repeat (first
    | with_reducible assumption | (with_reducible refine kept_debit (msub hw) ?_)
    | (with_reducible refine kept_modPort (msub hw) ?_) | (with_reducible refine kept_modCls (msub hw) ?_)
    | (with_reducible refine kept_emitFrame (msub hw) ?_) | with_reducible apply kept_ite
    | with_reducible apply kept_ite_snd | (with_reducible intro _) | split | (dsimp only; split)
    | (with_reducible refine kept_mk hw ?_ rfl rfl rfl rfl rfl))

theorem kept_arbitrate {W s0} (hw : 562949953422596 &&& W = 562949953422596) {s : State} {x1} {x2} (h : Kept W s0 s) : Kept W s0 (arbitrate s x1 x2) := by
  induction x2 generalizing s x1 with
  | nil =>
    unfold arbitrate
    repeat (first
    | with_reducible assumption | (with_reducible refine kept_modTx (msub hw) ?_)
    | (with_reducible refine kept_modCls (msub hw) ?_) | (with_reducible refine kept_sendClassFrame (msub hw) ?_)
    | with_reducible apply kept_ite | with_reducible apply kept_ite_snd | (with_reducible intro _) | split
    | (dsimp only; split) | (with_reducible refine kept_mk hw ?_ rfl rfl rfl rfl rfl))
  | cons a l ih =>
    unfold arbitrate
    repeat (first
    | with_reducible assumption | with_reducible apply ih | (with_reducible refine kept_modTx (msub hw) ?_)
    | (with_reducible refine kept_modCls (msub hw) ?_) | (with_reducible refine kept_sendClassFrame (msub hw) ?_)
    | with_reducible apply kept_ite | with_reducible apply kept_ite_snd | (with_reducible intro _) | split
    | (dsimp only; split) | (with_reducible refine kept_mk hw ?_ rfl rfl rfl rfl rfl))

theorem kept_sendReplay {W s0} (hw : 562949953422596 &&& W = 562949953422596)  {s : State} {x1} {x2} (h : Kept W s0 s) : Kept W s0 (sendReplay s x1 x2) := by
  unfold sendReplay
  repeat (first
    | with_reducible assumption | (with_reducible refine kept_modTx (msub hw) ?_)
    | (with_reducible refine kept_debit (msub hw) ?_) | (with_reducible refine kept_emitFrame (msub hw) ?_)
    | with_reducible apply kept_ite | with_reducible apply kept_ite_snd | (with_reducible intro _) | split
    | (dsimp only; split) | (with_reducible refine kept_mk hw ?_ rfl rfl rfl rfl rfl))

theorem kept_effFrameSend {W s0} (hw : 562949953422596 &&& W = 562949953422596)  {s : State} {x0} (h : Kept W s0 s) : Kept W s0 (effFrameSend x0 s) := by
  unfold effFrameSend
  repeat (first
    | with_reducible assumption | (with_reducible refine kept_sendLinkFrame (msub hw) ?_)
    | (with_reducible refine kept_modTx (msub hw) ?_) | (with_reducible refine kept_sendReplay (msub hw) ?_)
    | (with_reducible refine kept_arbitrate (msub hw) ?_) | with_reducible apply kept_ite
    | with_reducible apply kept_ite_snd | (with_reducible intro _) | split | (dsimp only; split)
    | (with_reducible refine kept_mk hw ?_ rfl rfl rfl rfl rfl))

theorem kept_takeHop {W s0} (hw : 1024 &&& W = 1024)  {s : State} {x1} {x2} {x3} (h : Kept W s0 s) : Kept W s0 (takeHop s x1 x2 x3) := by
  unfold takeHop
  repeat (first
    | with_reducible assumption | (with_reducible refine kept_modRx (msub hw) ?_) | (with_reducible intro _)
    | (with_reducible refine kept_mk hw ?_ rfl rfl rfl rfl rfl))

theorem kept_chargeChain {W s0} (hw : 1407374883553280 &&& W = 1407374883553280)  {s : State} {x1} {x2} {x3} {x4} (h : Kept W s0 s) : Kept W s0 (chargeChain s x1 x2 x3 x4) := by
  unfold chargeChain
  repeat (first
    | with_reducible assumption | (with_reducible refine kept_modPool (msub hw) ?_)
    | (with_reducible refine kept_modSlot ?_ ?_) | (with_reducible exact sold_refl) | with_reducible apply sold_ite
    | (with_reducible intro _) | (with_reducible refine kept_mk hw ?_ rfl rfl rfl rfl rfl)
    | (with_reducible refine sold_mk hw ?_))

theorem kept_owePort {W s0} (hw : 1024 &&& W = 1024)  {s : State} {x1} {x2} {x3} (h : Kept W s0 s) : Kept W s0 (owePort s x1 x2 x3) := by
  unfold owePort
  repeat (first
    | with_reducible assumption | (with_reducible refine kept_modRx (msub hw) ?_) | (with_reducible intro _)
    | (with_reducible refine kept_mk hw ?_ rfl rfl rfl rfl rfl))

theorem kept_releaseChain {W s0} (hw : 281474976711680 &&& W = 281474976711680)  {s : State} {x1} {x2} {x3} {x4} (h : Kept W s0 s) : Kept W s0 (releaseChain s x1 x2 x3 x4) := by
  unfold releaseChain
  repeat (first
    | with_reducible assumption | (with_reducible refine kept_owePort (msub hw) ?_)
    | (with_reducible refine kept_modRx (msub hw) ?_) | (with_reducible refine kept_modPool (msub hw) ?_)
    | (with_reducible intro _) | (with_reducible refine kept_mk hw ?_ rfl rfl rfl rfl rfl))

theorem kept_effCreditSend {W s0} (hw : 1125899906843648 &&& W = 1125899906843648)  {s : State} {x0} (h : Kept W s0 s) : Kept W s0 (effCreditSend x0 s) := by
  unfold effCreditSend
  repeat (first
    | with_reducible assumption | (with_reducible refine kept_modSlot ?_ ?_)
    | (with_reducible refine kept_modRx (msub hw) ?_) | (with_reducible refine kept_queueLink (msub hw) ?_)
    | (with_reducible exact sold_refl) | with_reducible apply sold_ite | (with_reducible intro _)
    | with_reducible apply kept_ite | with_reducible apply kept_ite_snd | with_reducible apply kept_foldl | split
    | (dsimp only; split) | (with_reducible refine kept_mk hw ?_ rfl rfl rfl rfl rfl)
    | (with_reducible refine sold_mk hw ?_))

theorem kept_effBareCredit {W s0} (hw : 1284 &&& W = 1284)  {s : State} {x0} (h : Kept W s0 s) : Kept W s0 (effBareCredit x0 s) := by
  unfold effBareCredit
  repeat (first
    | with_reducible assumption | (with_reducible refine kept_modRx (msub hw) ?_)
    | (with_reducible refine kept_emitFrame (msub hw) ?_) | with_reducible apply kept_ite
    | with_reducible apply kept_ite_snd | (with_reducible intro _) | split | (dsimp only; split)
    | (with_reducible refine kept_mk hw ?_ rfl rfl rfl rfl rfl))

theorem kept_effLinkFrameReplay {W s0} (hw : 1286 &&& W = 1286)  {s : State} {x0} (h : Kept W s0 s) : Kept W s0 (effLinkFrameReplay x0 s) := by
  unfold effLinkFrameReplay
  repeat (first
    | with_reducible assumption | (with_reducible refine kept_timeTo (msub hw) ?_)
    | (with_reducible refine kept_emitFrame (msub hw) ?_) | (with_reducible refine kept_modTx (msub hw) ?_)
    | (with_reducible refine kept_modPort (msub hw) ?_) | with_reducible apply kept_foldl | (with_reducible intro _)
    | split | (dsimp only; split) | (with_reducible refine kept_mk hw ?_ rfl rfl rfl rfl rfl))

theorem kept_effKAdapt {W s0} (hw : 1026 &&& W = 1026)  {s : State} {x0} (h : Kept W s0 s) : Kept W s0 (effKAdapt x0 s) := by
  unfold effKAdapt
  repeat (first
    | with_reducible assumption | (with_reducible refine kept_timeTo (msub hw) ?_)
    | (with_reducible refine kept_modPort (msub hw) ?_) | with_reducible apply kept_ite
    | with_reducible apply kept_ite_snd | with_reducible apply kept_foldl | (with_reducible intro _) | split
    | (dsimp only; split) | (with_reducible refine kept_mk hw ?_ rfl rfl rfl rfl rfl))

end Sys2Proof.Laws
end

