-- ==== Sys2Proof/Laws/KeptAbort.lean ====
section
/-! SUPPORT. What the definitions of Machine/Abort.lean keep (Laws/KeptBase.lean). -/

namespace Sys2Proof.Laws

open Sys2Proof Sys2Proof.Machine

set_option linter.all false
set_option Elab.async false

theorem sold_rollbackSlot {W} (hw : 108156894018797568 &&& W = 108156894018797568) {a sl : Slot} {c o} (h : SOld W a sl) : SOld W a (rollbackSlot c o sl) := by
  unfold rollbackSlot
  repeat (first
    | (with_reducible assumption) | (with_reducible exact sold_refl)
    | with_reducible apply sold_ite | split | (dsimp only; split) | (with_reducible refine sold_mk hw ?_))

theorem kept_releaseParked {W s0} (hw : 281474976711680 &&& W = 281474976711680)  {s : State} {x1} {x2} (h : Kept W s0 s) : Kept W s0 (releaseParked s x1 x2) := by
  unfold releaseParked
  repeat (first
    | with_reducible assumption | (with_reducible refine kept_releaseChain (msub hw) ?_)
    | with_reducible apply kept_foldl | (with_reducible intro _))

theorem kept_unlinkSlotFrames {W s0} (hw : 2533274790790788 &&& W = 2533274790790788)  {s : State} {x1} (h : Kept W s0 s) : Kept W s0 (unlinkSlotFrames s x1) := by
  unfold unlinkSlotFrames
  repeat (first
    | with_reducible assumption | (with_reducible refine kept_dropFrameBufs (msub hw) ?_)
    | (with_reducible refine kept_modTx (msub hw) ?_) | with_reducible apply kept_foldl | (with_reducible intro _)
    | (with_reducible refine kept_mk hw ?_ rfl rfl rfl rfl rfl))

theorem kept_abandonFetch {W s0} (hw : 2533412229744260 &&& W = 2533412229744260)  {s : State} {x1} (h : Kept W s0 s) : Kept W s0 (abandonFetch s x1) := by
  unfold abandonFetch
  repeat (first
    | with_reducible assumption | (with_reducible refine kept_releaseBuf (msub hw) ?_)
    | (with_reducible refine kept_modSlot ?_ ?_) | (with_reducible refine kept_modRx (msub hw) ?_)
    | (with_reducible exact sold_refl) | with_reducible apply sold_ite | (with_reducible intro _)
    | with_reducible apply kept_foldl | split | (dsimp only; split)
    | (with_reducible refine kept_mk hw ?_ rfl rfl rfl rfl rfl) | (with_reducible refine sold_mk hw ?_))

theorem kept_dropSlotWaiters {W s0} (hw : 512 &&& W = 512)  {s : State} {x1} (h : Kept W s0 s) : Kept W s0 (dropSlotWaiters s x1) := by
  unfold dropSlotWaiters
  repeat (first
    | with_reducible assumption | (with_reducible refine kept_modFab (msub hw) ?_) | (with_reducible intro _) | split
    | (dsimp only; split) | (with_reducible refine kept_mk hw ?_ rfl rfl rfl rfl rfl))

theorem kept_releaseHeld {W s0} (hw : 281492156580864 &&& W = 281492156580864)  {s : State} {x1} (h : Kept W s0 s) : Kept W s0 (releaseHeld s x1) := by
  unfold releaseHeld
  repeat (first
    | with_reducible assumption | (with_reducible refine kept_releaseChain (msub hw) ?_)
    | (with_reducible refine kept_modSlot ?_ ?_) | (with_reducible exact sold_refl) | with_reducible apply sold_ite
    | (with_reducible intro _) | with_reducible apply kept_foldl
    | (with_reducible refine kept_mk hw ?_ rfl rfl rfl rfl rfl) | (with_reducible refine sold_mk hw ?_))

theorem kept_loseSlot {W s0} (hw : 17179869316 &&& W = 17179869316)  {s : State} {x1} (h : Kept W s0 s) : Kept W s0 (loseSlot s x1) := by
  unfold loseSlot
  repeat (first
    | with_reducible assumption | (with_reducible refine kept_modSlot ?_ ?_)
    | (with_reducible refine kept_postEvent (msub hw) ?_) | (with_reducible exact sold_refl)
    | with_reducible apply sold_ite | (with_reducible intro _) | with_reducible apply kept_ite
    | with_reducible apply kept_ite_snd | split | (dsimp only; split)
    | (with_reducible refine kept_mk hw ?_ rfl rfl rfl rfl rfl) | (with_reducible refine sold_mk hw ?_))

theorem kept_sendRestoreReqs {W s0} (hw : 1024 &&& W = 1024) {s : State} {x1} {x2} {x3} {x4} {x5} (h : Kept W s0 s) : Kept W s0 (sendRestoreReqs s x1 x2 x3 x4 x5) := by
  induction x4 generalizing s x1 x2 x3 x5 with
  | zero =>
    unfold sendRestoreReqs
    repeat (first
    | with_reducible assumption | (with_reducible refine kept_linkCtrl (msub hw) ?_) | with_reducible apply kept_ite
    | with_reducible apply kept_ite_snd | (with_reducible intro _) | split | (dsimp only; split))
  | succ n ih =>
    unfold sendRestoreReqs
    repeat (first
    | with_reducible assumption | with_reducible apply ih | (with_reducible refine kept_linkCtrl (msub hw) ?_)
    | with_reducible apply kept_ite | with_reducible apply kept_ite_snd | (with_reducible intro _) | split
    | (dsimp only; split))

theorem kept_startRestore {W s0} (hw : 17179870340 &&& W = 17179870340)  {s : State} {x1} (h : Kept W s0 s) : Kept W s0 (startRestore s x1) := by
  unfold startRestore
  repeat (first
    | with_reducible assumption | (with_reducible refine kept_modSlot ?_ ?_)
    | (with_reducible refine kept_loseSlot (msub hw) ?_) | (with_reducible refine kept_sendRestoreReqs (msub hw) ?_)
    | (with_reducible exact sold_refl) | with_reducible apply sold_ite | (with_reducible intro _)
    | with_reducible apply kept_ite | with_reducible apply kept_ite_snd | split | (dsimp only; split)
    | (with_reducible refine kept_mk hw ?_ rfl rfl rfl rfl rfl) | (with_reducible refine sold_mk hw ?_))

theorem kept_leaveBench {W s0} (hw : 1572864 &&& W = 1572864)  {s : State} {x1} (h : Kept W s0 s) : Kept W s0 (leaveBench s x1) := by
  unfold leaveBench
  repeat (first
    | with_reducible assumption | with_reducible apply kept_ite | with_reducible apply kept_ite_snd | split
    | (dsimp only; split) | (with_reducible refine kept_mk hw ?_ rfl rfl rfl rfl rfl))

theorem kept_enterRollback {W s0} (hw : 110690306250114692 &&& W = 110690306250114692)  {s : State} {x1} {x2} {x3} (h : Kept W s0 s) : Kept W s0 (enterRollback s x1 x2 x3) := by
  unfold enterRollback
  repeat (first
    | with_reducible assumption | (with_reducible refine kept_unlinkSlotFrames (msub hw) ?_)
    | (with_reducible refine kept_releaseParked (msub hw) ?_) | (with_reducible refine kept_abandonFetch (msub hw) ?_)
    | (with_reducible refine kept_dropSlotWaiters (msub hw) ?_) | (with_reducible refine kept_releaseHeld (msub hw) ?_)
    | (with_reducible refine kept_leaveBench (msub hw) ?_) | (with_reducible refine kept_modSlot ?_ ?_)
    | (with_reducible refine kept_slotLinkCtrl (msub hw) ?_) | (with_reducible refine kept_postEvent (msub hw) ?_)
    | (with_reducible refine kept_startRestore (msub hw) ?_) | (with_reducible exact sold_refl)
    | (with_reducible refine sold_rollbackSlot (msub hw) ?_) | with_reducible apply sold_ite | (with_reducible intro _)
    | with_reducible apply kept_foldl | (with_reducible refine sold_mk hw ?_))

theorem kept_reportAll {W s0} (hw : 2251799814078596 &&& W = 2251799814078596)  {s : State} {x1} {x2} {x3} {x4} {x5} {x6} (h : Kept W s0 s) : Kept W s0 (reportAll s x1 x2 x3 x4 x5 x6) := by
  unfold reportAll
  repeat (first
    | with_reducible assumption | (with_reducible refine kept_reportFault (msub hw) ?_) | with_reducible apply kept_ite
    | with_reducible apply kept_ite_snd | with_reducible apply kept_foldl | (with_reducible intro _) | split
    | (dsimp only; split))

theorem kept_raiseAbort {W s0} (hw : 110690306250118788 &&& W = 110690306250118788)  {s : State} {x1} {x2} {x3} (h : Kept W s0 s) : Kept W s0 (raiseAbort s x1 x2 x3) := by
  unfold raiseAbort
  repeat (first
    | with_reducible assumption | (with_reducible refine kept_spokeSendAll (msub hw) ?_)
    | (with_reducible refine kept_enterRollback (msub hw) ?_) | (with_reducible refine kept_reportAll (msub hw) ?_)
    | with_reducible apply kept_ite | with_reducible apply kept_ite_snd | split | (dsimp only; split))

theorem kept_abortEveryStep {W s0} (hw : 110690306250118788 &&& W = 110690306250118788)  {s : State} {x1} {x2} (h : Kept W s0 s) : Kept W s0 (abortEveryStep s x1 x2) := by
  unfold abortEveryStep
  repeat (first
    | with_reducible assumption | (with_reducible refine kept_raiseAbort (msub hw) ?_) | with_reducible apply kept_foldl
    | (with_reducible intro _))

end Sys2Proof.Laws
end

