-- ==== Sys2Proof/Laws/KeptReceive.lean ====
section
/-! SUPPORT. What the definitions of Machine/Receive.lean keep (Laws/KeptBase.lean). -/

namespace Sys2Proof.Laws

open Sys2Proof Sys2Proof.Machine

set_option linter.all false
set_option Elab.async false

theorem kept_portIncident {W s0} (hw : 2251799814078596 &&& W = 2251799814078596)  {s : State} {x1} {x2} {x3} {x4} {x5} (h : Kept W s0 s) : Kept W s0 (portIncident s x1 x2 x3 x4 x5) := by
  unfold portIncident
  repeat (first
    | with_reducible assumption | (with_reducible refine kept_ownIncident (msub hw) ?_) | with_reducible apply kept_ite
    | with_reducible apply kept_ite_snd | with_reducible apply kept_foldl | (with_reducible intro _) | split
    | (dsimp only; split))

theorem kept_modBucket {W s0} (hw : 34359738368 &&& W = 34359738368)  {s : State} {x1} {x2} {x3} (h : Kept W s0 s) : Kept W s0 (modBucket s x1 x2 x3) := by
  unfold modBucket
  repeat (first
    | with_reducible assumption | (with_reducible refine kept_modSlot ?_ ?_) | (with_reducible exact sold_refl)
    | with_reducible apply sold_ite | (with_reducible intro _) | with_reducible apply kept_ite
    | with_reducible apply kept_ite_snd | with_reducible apply kept_foldl | split | (dsimp only; split)
    | (with_reducible refine kept_mk hw ?_ rfl rfl rfl rfl rfl) | (with_reducible refine sold_mk hw ?_))

theorem kept_modDeliv {W s0} (hw : 274877906944 &&& W = 274877906944)  {s : State} {x1} {x2} (h : Kept W s0 s) : Kept W s0 (modDeliv s x1 x2) := by
  unfold modDeliv
  repeat (first
    | with_reducible assumption | (with_reducible refine kept_modSlot ?_ ?_) | (with_reducible exact sold_refl)
    | with_reducible apply sold_ite | (with_reducible intro _)
    | (with_reducible refine kept_mk hw ?_ rfl rfl rfl rfl rfl) | (with_reducible refine sold_mk hw ?_))

theorem kept_countReason {W s0} (hw : 309246034944 &&& W = 309246034944)  {s : State} {x1} {x2} {x3} {x4} (h : Kept W s0 s) : Kept W s0 (countReason s x1 x2 x3 x4) := by
  unfold countReason
  repeat (first
    | with_reducible assumption | (with_reducible refine kept_modBucket (msub hw) ?_)
    | (with_reducible refine kept_modCnt (msub hw) ?_) | (with_reducible refine kept_modSlot ?_ ?_)
    | (with_reducible refine kept_modCls (msub hw) ?_) | (with_reducible refine kept_modDeliv (msub hw) ?_)
    | (with_reducible exact sold_refl) | with_reducible apply sold_ite | (with_reducible intro _)
    | with_reducible apply kept_ite | with_reducible apply kept_ite_snd | split | (dsimp only; split)
    | (with_reducible refine kept_mk hw ?_ rfl rfl rfl rfl rfl) | (with_reducible refine sold_mk hw ?_))

theorem kept_trunkPenalty {W s0} (hw : 110690306250118788 &&& W = 110690306250118788)  {s : State} {x1} {x2} {x3} {x4} {x5} (h : Kept W s0 s) : Kept W s0 (trunkPenalty s x1 x2 x3 x4 x5) := by
  unfold trunkPenalty
  repeat (first
    | with_reducible assumption | (with_reducible refine kept_raiseAbort (msub hw) ?_)
    | (with_reducible refine kept_portIncident (msub hw) ?_) | with_reducible apply kept_ite
    | with_reducible apply kept_ite_snd | split | (dsimp only; split)
    | (with_reducible refine kept_mk hw ?_ rfl rfl rfl rfl rfl))

theorem kept_dropFor {W s0} (hw : 110690581136414596 &&& W = 110690581136414596)  {s : State} {x1} {x2} {x3} {x4} {x5} {x6} (h : Kept W s0 s) : Kept W s0 (dropFor s x1 x2 x3 x4 x5 x6) := by
  unfold dropFor
  repeat (first
    | with_reducible assumption | (with_reducible refine kept_countReason (msub hw) ?_)
    | (with_reducible refine kept_sendNack (msub hw) ?_) | (with_reducible refine kept_traceFrame (msub hw) ?_)
    | (with_reducible refine kept_trunkPenalty (msub hw) ?_) | (with_reducible refine kept_portIncident (msub hw) ?_)
    | with_reducible apply kept_ite | with_reducible apply kept_ite_snd | (with_reducible intro _) | split
    | (dsimp only; split) | (with_reducible refine kept_mk hw ?_ rfl rfl rfl rfl rfl))

theorem kept_recoverFrame {W s0} (hw : 2251799814079876 &&& W = 2251799814079876)  {s : State} {x1} {x2} {x3} (h : Kept W s0 s) : Kept W s0 (recoverFrame s x1 x2 x3) := by
  unfold recoverFrame
  repeat (first
    | with_reducible assumption | (with_reducible refine kept_traceFrame (msub hw) ?_)
    | (with_reducible refine kept_modCnt (msub hw) ?_) | (with_reducible refine kept_modRx (msub hw) ?_)
    | (with_reducible refine kept_sendNack (msub hw) ?_) | (with_reducible refine kept_portIncident (msub hw) ?_)
    | with_reducible apply kept_ite | with_reducible apply kept_ite_snd | (with_reducible intro _) | split
    | (dsimp only; split) | (with_reducible refine kept_mk hw ?_ rfl rfl rfl rfl rfl))

theorem kept_advanceSeq {W s0} (hw : 1024 &&& W = 1024)  {s : State} {x1} (h : Kept W s0 s) : Kept W s0 (advanceSeq s x1) := by
  unfold advanceSeq
  repeat (first
    | with_reducible assumption | (with_reducible refine kept_modRx (msub hw) ?_) | (with_reducible intro _)
    | (with_reducible refine kept_mk hw ?_ rfl rfl rfl rfl rfl))

theorem kept_spendHop {W s0} (hw : 1024 &&& W = 1024)  {s : State} {x1} {x2} {x3} (h : Kept W s0 s) : Kept W s0 (spendHop s x1 x2 x3) := by
  unfold spendHop
  repeat (first
    | with_reducible assumption | (with_reducible refine kept_modRx (msub hw) ?_)
    | (with_reducible refine kept_takeHop (msub hw) ?_) | with_reducible apply kept_ite
    | with_reducible apply kept_ite_snd | (with_reducible intro _) | split | (dsimp only; split)
    | (with_reducible refine kept_mk hw ?_ rfl rfl rfl rfl rfl))

theorem kept_refundHop {W s0} (hw : 1024 &&& W = 1024)  {s : State} {x1} {x2} {x3} (h : Kept W s0 s) : Kept W s0 (refundHop s x1 x2 x3) := by
  unfold refundHop
  repeat (first
    | with_reducible assumption | (with_reducible refine kept_owePort (msub hw) ?_) | with_reducible apply kept_ite
    | with_reducible apply kept_ite_snd | (with_reducible intro _) | split | (dsimp only; split))

theorem kept_dropEarly {W s0} (hw : 110690581136414596 &&& W = 110690581136414596)  {s : State} {x1} {x2} {x3} {x4} {x5} {x6} {x7} (h : Kept W s0 s) : Kept W s0 (dropEarly s x1 x2 x3 x4 x5 x6 x7) := by
  unfold dropEarly
  repeat (first
    | with_reducible assumption | (with_reducible refine kept_refundHop (msub hw) ?_)
    | (with_reducible refine kept_spendHop (msub hw) ?_) | (with_reducible refine kept_advanceSeq (msub hw) ?_)
    | (with_reducible refine kept_dropFor (msub hw) ?_) | (with_reducible intro _))

theorem kept_finishChain {W s0} (hw : 281474976711680 &&& W = 281474976711680)  {s : State} {x1} {x2} {x3} {x4} (h : Kept W s0 s) : Kept W s0 (finishChain s x1 x2 x3 x4) := by
  unfold finishChain
  repeat (first
    | with_reducible assumption | (with_reducible refine kept_releaseChain (msub hw) ?_) | with_reducible apply kept_ite
    | with_reducible apply kept_ite_snd | split | (dsimp only; split))

theorem kept_dropLate {W s0} (hw : 110690581136414596 &&& W = 110690581136414596)  {s : State} {x1} {x2} {x3} {x4} (h : Kept W s0 s) : Kept W s0 (dropLate s x1 x2 x3 x4) := by
  unfold dropLate
  repeat (first
    | with_reducible assumption | (with_reducible refine kept_finishChain (msub hw) ?_)
    | (with_reducible refine kept_dropFor (msub hw) ?_))

theorem kept_headCheck {W s0} (hw : 110690581136414596 &&& W = 110690581136414596)  {s : State} {x1} (h : Kept W s0 s) : Kept W s0 (headCheck s x1).2 := by
  unfold headCheck
  repeat (first
    | with_reducible assumption | (with_reducible refine kept_recoverFrame (msub hw) ?_)
    | (with_reducible refine kept_dropFor (msub hw) ?_) | with_reducible apply kept_ite
    | with_reducible apply kept_ite_snd | split | (dsimp only; split)
    | (with_reducible refine kept_mk hw ?_ rfl rfl rfl rfl rfl))

theorem kept_headCheck' {W s0} (hw : 110690581136414596 &&& W = 110690581136414596)  {s s' : State} {y} {x1} (e : headCheck s x1 = (y, s')) (h : Kept W s0 s) : Kept W s0 s' := by
  have k : Kept W s0 (headCheck s x1).2 := kept_headCheck hw h
  rw [e] at k
  exact k

theorem kept_bodyCheck {W s0} (hw : 111816481043257220 &&& W = 111816481043257220)  {s : State} {x1} {x2} (h : Kept W s0 s) : Kept W s0 (bodyCheck s x1 x2).2 := by
  unfold bodyCheck
  repeat (first
    | with_reducible assumption | (with_reducible refine kept_modCls (msub hw) ?_)
    | (with_reducible refine kept_dropFor (msub hw) ?_) | (with_reducible refine kept_advanceSeq (msub hw) ?_)
    | (with_reducible refine kept_dropEarly (msub hw) ?_) | (with_reducible refine kept_recoverFrame (msub hw) ?_)
    | (with_reducible refine kept_spendHop (msub hw) ?_) | (with_reducible refine kept_chargeChain (msub hw) ?_)
    | (with_reducible refine kept_modCnt (msub hw) ?_) | (with_reducible refine kept_finishChain (msub hw) ?_)
    | (with_reducible refine kept_dropLate (msub hw) ?_) | (with_reducible refine kept_traceFrame (msub hw) ?_)
    | with_reducible apply kept_ite | with_reducible apply kept_ite_snd | (with_reducible intro _) | split
    | (dsimp only; split) | (with_reducible refine kept_mk hw ?_ rfl rfl rfl rfl rfl))

theorem kept_bodyCheck' {W s0} (hw : 111816481043257220 &&& W = 111816481043257220)  {s s' : State} {y} {x1} {x2} (e : bodyCheck s x1 x2 = (y, s')) (h : Kept W s0 s) : Kept W s0 s' := by
  have k : Kept W s0 (bodyCheck s x1 x2).2 := kept_bodyCheck hw h
  rw [e] at k
  exact k

theorem kept_admitFrame {W s0} (hw : 111816481043257220 &&& W = 111816481043257220)  {s : State} {x0} {x2} (h : Kept W s0 s) : Kept W s0 (admitFrame x0 s x2).2 := by
  unfold admitFrame
  repeat (first
    | with_reducible assumption | (with_reducible refine kept_headCheck (msub hw) ?_)
    | (with_reducible refine kept_headCheck' (msub hw) (by assumption) ?_)
    | (with_reducible refine kept_bodyCheck (msub hw) ?_)
    | (with_reducible refine kept_bodyCheck' (msub hw) (by assumption) ?_) | with_reducible apply kept_ite
    | with_reducible apply kept_ite_snd | split | (dsimp only; split)
    | (with_reducible refine kept_mk hw ?_ rfl rfl rfl rfl rfl))

theorem kept_admitFrame' {W s0} (hw : 111816481043257220 &&& W = 111816481043257220)  {s s' : State} {y} {x0} {x2} (e : admitFrame x0 s x2 = (y, s')) (h : Kept W s0 s) : Kept W s0 s' := by
  have k : Kept W s0 (admitFrame x0 s x2).2 := kept_admitFrame hw h
  rw [e] at k
  exact k

theorem kept_admitLink {W s0} (hw : 110690581136414596 &&& W = 110690581136414596)  {s : State} {x0} {x2} (h : Kept W s0 s) : Kept W s0 (admitLink x0 s x2).2 := by
  unfold admitLink
  repeat (first
    | with_reducible assumption | (with_reducible refine kept_modRx (msub hw) ?_)
    | (with_reducible refine kept_modTx (msub hw) ?_) | (with_reducible refine kept_dropFor (msub hw) ?_)
    | (with_reducible refine kept_traceFrame (msub hw) ?_) | with_reducible apply kept_ite
    | with_reducible apply kept_ite_snd | (with_reducible intro _) | split | (dsimp only; split)
    | (with_reducible refine kept_mk hw ?_ rfl rfl rfl rfl rfl))

theorem kept_admitLink' {W s0} (hw : 110690581136414596 &&& W = 110690581136414596)  {s s' : State} {y} {x0} {x2} (e : admitLink x0 s x2 = (y, s')) (h : Kept W s0 s) : Kept W s0 s' := by
  have k : Kept W s0 (admitLink x0 s x2).2 := kept_admitLink hw h
  rw [e] at k
  exact k

theorem kept_effCorruptFrame {W s0} (hw : 111816481043257220 &&& W = 111816481043257220)  {s : State} {x0} (h : Kept W s0 s) : Kept W s0 (effCorruptFrame x0 s) := by
  unfold effCorruptFrame
  repeat (first
    | with_reducible assumption | (with_reducible refine kept_headCheck (msub hw) ?_)
    | (with_reducible refine kept_headCheck' (msub hw) (by assumption) ?_)
    | (with_reducible refine kept_bodyCheck (msub hw) ?_)
    | (with_reducible refine kept_bodyCheck' (msub hw) (by assumption) ?_) | with_reducible apply kept_ite
    | with_reducible apply kept_ite_snd | split | (dsimp only; split)
    | (with_reducible refine kept_mk hw ?_ rfl rfl rfl rfl rfl))

end Sys2Proof.Laws
end

