-- ==== Sys2Proof/Laws/KeptWatch.lean ====
section
/-! SUPPORT. What the definitions of Machine/Watch.lean keep (Laws/KeptBase.lean). -/

namespace Sys2Proof.Laws

open Sys2Proof Sys2Proof.Machine

set_option linter.all false
set_option Elab.async false

theorem kept_postWatch {W s0} (hw : 70368744177796 &&& W = 70368744177796)  {s : State} {x1} {x2} (h : Kept W s0 s) : Kept W s0 (postWatch s x1 x2) := by
  unfold postWatch
  repeat (first
    | with_reducible assumption | (with_reducible refine kept_modSlot ?_ ?_)
    | (with_reducible refine kept_postEvent (msub hw) ?_) | (with_reducible exact sold_refl)
    | with_reducible apply sold_ite | (with_reducible intro _) | with_reducible apply kept_ite
    | with_reducible apply kept_ite_snd | split | (dsimp only; split)
    | (with_reducible refine kept_mk hw ?_ rfl rfl rfl rfl rfl) | (with_reducible refine sold_mk hw ?_))

theorem kept_setFlags {W s0} (hw : 70918499991684 &&& W = 70918499991684)  {s : State} {x1} {x2} (h : Kept W s0 s) : Kept W s0 (setFlags s x1 x2) := by
  unfold setFlags
  repeat (first
    | with_reducible assumption | (with_reducible refine kept_modSlot ?_ ?_)
    | (with_reducible refine kept_postWatch (msub hw) ?_) | (with_reducible exact sold_refl)
    | with_reducible apply sold_ite | (with_reducible intro _) | with_reducible apply kept_ite
    | with_reducible apply kept_ite_snd | split | (dsimp only; split)
    | (with_reducible refine kept_mk hw ?_ rfl rfl rfl rfl rfl) | (with_reducible refine sold_mk hw ?_))

theorem kept_watchChunk {W s0} (hw : 70368744177796 &&& W = 70368744177796)  {s : State} {x1} {x2} {x3} {x4} (h : Kept W s0 s) : Kept W s0 (watchChunk s x1 x2 x3 x4) := by
  unfold watchChunk
  repeat (first
    | with_reducible assumption | (with_reducible refine kept_postWatch (msub hw) ?_) | with_reducible apply kept_ite
    | with_reducible apply kept_ite_snd | split | (dsimp only; split)
    | (with_reducible refine kept_mk hw ?_ rfl rfl rfl rfl rfl))

theorem kept_watchSum {W s0} (hw : 70368744177796 &&& W = 70368744177796)  {s : State} {x1} {x2} {x3} {x4} {x5} {x6} (h : Kept W s0 s) : Kept W s0 (watchSum s x1 x2 x3 x4 x5 x6) := by
  unfold watchSum
  repeat (first
    | with_reducible assumption | (with_reducible refine kept_postWatch (msub hw) ?_) | with_reducible apply kept_ite
    | with_reducible apply kept_ite_snd | split | (dsimp only; split)
    | (with_reducible refine kept_mk hw ?_ rfl rfl rfl rfl rfl))

end Sys2Proof.Laws
end

