-- ==== Sys2Proof/Laws/KeptReduce.lean ====
section
/-! SUPPORT. What the definitions of Machine/Reduce.lean keep (Laws/KeptBase.lean). -/

namespace Sys2Proof.Laws

open Sys2Proof Sys2Proof.Machine

set_option linter.all false
set_option Elab.async false

theorem sold_ememOut {W} (hw : 268435456 &&& W = 268435456) {a sl : Slot} {x y} (h : SOld W a sl) : SOld W a (ememOut sl x y) := by
  unfold ememOut
  repeat (first
    | (with_reducible assumption) | (with_reducible exact sold_refl)
    | with_reducible apply sold_ite | split | (dsimp only; split) | (with_reducible refine sold_mk hw ?_))

theorem sold_logChunk {W} (hw : 16492674416640 &&& W = 16492674416640) {a sl : Slot} {x} (h : SOld W a sl) : SOld W a (logChunk sl x) := by
  unfold logChunk
  repeat (first
    | (with_reducible assumption) | (with_reducible exact sold_refl)
    | with_reducible apply sold_ite | split | (dsimp only; split) | (with_reducible refine sold_mk hw ?_))

theorem kept_modChunk {W s0} (hw : 34359738368 &&& W = 34359738368)  {s : State} {x1} {x2} {x3} {x4} (h : Kept W s0 s) : Kept W s0 (modChunk s x1 x2 x3 x4) := by
  unfold modChunk
  repeat (first
    | with_reducible assumption | (with_reducible refine kept_modBucket (msub hw) ?_) | (with_reducible intro _) | split
    | (dsimp only; split) | (with_reducible refine kept_mk hw ?_ rfl rfl rfl rfl rfl))

theorem kept_recordArrival {W s0} (hw : 34359738368 &&& W = 34359738368)  {s : State} {x1} {x2} {x3} {x4} (h : Kept W s0 s) : Kept W s0 (recordArrival s x1 x2 x3 x4) := by
  unfold recordArrival
  repeat (first
    | with_reducible assumption | (with_reducible refine kept_modBucket (msub hw) ?_) | (with_reducible intro _) | split
    | (dsimp only; split) | (with_reducible refine kept_mk hw ?_ rfl rfl rfl rfl rfl))

theorem kept_placeContribution {W s0} (hw : 70952859730052 &&& W = 70952859730052)  {s : State} {x1} {x2} {x3} {x4} {x5} {x6} (h : Kept W s0 s) : Kept W s0 (placeContribution s x1 x2 x3 x4 x5 x6) := by
  unfold placeContribution
  repeat (first
    | with_reducible assumption | (with_reducible refine kept_setFlags (msub hw) ?_)
    | (with_reducible refine kept_modChunk (msub hw) ?_) | (with_reducible intro _) | split | (dsimp only; split)
    | (with_reducible refine kept_mk hw ?_ rfl rfl rfl rfl rfl))

theorem kept_sendWindow {W s0} (hw : 2533274790790788 &&& W = 2533274790790788)  {s : State} {x1} {x2} {x3} {x4} {x5} (h : Kept W s0 s) : Kept W s0 (sendWindow s x1 x2 x3 x4 x5) := by
  unfold sendWindow
  repeat (first
    | with_reducible assumption | (with_reducible refine kept_queueClass (msub hw) ?_)
    | (with_reducible refine kept_mk hw ?_ rfl rfl rfl rfl rfl))

theorem kept_sendWindows {W s0} (hw : 2533274790790788 &&& W = 2533274790790788)  {s : State} {x1} {x2} {x3} {x4} (h : Kept W s0 s) : Kept W s0 (sendWindows s x1 x2 x3 x4) := by
  unfold sendWindows
  repeat (first
    | with_reducible assumption | (with_reducible refine kept_sendWindow (msub hw) ?_) | with_reducible apply kept_foldl
    | (with_reducible intro _))

theorem kept_placeParked {W s0} (hw : 352427836441732 &&& W = 352427836441732)  {s : State} {x1} {x2} {x3} {x4} (h : Kept W s0 s) : Kept W s0 (placeParked s x1 x2 x3 x4) := by
  unfold placeParked
  repeat (first
    | with_reducible assumption | (with_reducible refine kept_releaseChain (msub hw) ?_)
    | (with_reducible refine kept_placeContribution (msub hw) ?_) | (with_reducible refine kept_modChunk (msub hw) ?_)
    | with_reducible apply kept_ite | with_reducible apply kept_ite_snd | with_reducible apply kept_foldl
    | (with_reducible intro _) | split | (dsimp only; split) | (with_reducible refine kept_mk hw ?_ rfl rfl rfl rfl rfl))

theorem kept_openBucket {W s0} (hw : 2604227650520708 &&& W = 2604227650520708)  {s : State} {x1} {x2} {x3} (h : Kept W s0 s) : Kept W s0 (openBucket s x1 x2 x3) := by
  unfold openBucket
  repeat (first
    | with_reducible assumption | (with_reducible refine kept_modBucket (msub hw) ?_)
    | (with_reducible refine kept_placeParked (msub hw) ?_) | (with_reducible refine kept_sendWindows (msub hw) ?_)
    | with_reducible apply kept_ite | with_reducible apply kept_ite_snd | with_reducible apply kept_foldl
    | (with_reducible intro _) | split | (dsimp only; split) | (with_reducible refine kept_mk hw ?_ rfl rfl rfl rfl rfl))

theorem kept_postToken {W s0} (hw : 36028797018963968 &&& W = 36028797018963968)  {s : State} {x1} {x2} (h : Kept W s0 s) : Kept W s0 (postToken s x1 x2) := by
  unfold postToken
  repeat (first
    | with_reducible assumption | (with_reducible refine kept_modSlot ?_ ?_) | (with_reducible exact sold_refl)
    | with_reducible apply sold_ite | (with_reducible intro _) | with_reducible apply kept_ite
    | with_reducible apply kept_ite_snd | split | (dsimp only; split)
    | (with_reducible refine kept_mk hw ?_ rfl rfl rfl rfl rfl) | (with_reducible refine sold_mk hw ?_))

theorem kept_checkBucketToken {W s0} (hw : 36028831378702336 &&& W = 36028831378702336)  {s : State} {x1} {x2} (h : Kept W s0 s) : Kept W s0 (checkBucketToken s x1 x2) := by
  unfold checkBucketToken
  repeat (first
    | with_reducible assumption | (with_reducible refine kept_postToken (msub hw) ?_)
    | (with_reducible refine kept_modBucket (msub hw) ?_) | with_reducible apply kept_ite
    | with_reducible apply kept_ite_snd | (with_reducible intro _) | split | (dsimp only; split)
    | (with_reducible refine kept_mk hw ?_ rfl rfl rfl rfl rfl))

theorem kept_releaseChunk {W s0} (hw : 34359738368 &&& W = 34359738368)  {s : State} {x1} {x2} {x3} (h : Kept W s0 s) : Kept W s0 (releaseChunk s x1 x2 x3) := by
  unfold releaseChunk
  repeat (first
    | with_reducible assumption | (with_reducible refine kept_modChunk (msub hw) ?_) | (with_reducible intro _)
    | (with_reducible refine kept_mk hw ?_ rfl rfl rfl rfl rfl))

theorem kept_modSeg {W s0} (hw : 8589934592 &&& W = 8589934592)  {s : State} {x1} {x2} {x3} (h : Kept W s0 s) : Kept W s0 (modSeg s x1 x2 x3) := by
  unfold modSeg
  repeat (first
    | with_reducible assumption | (with_reducible refine kept_modSlot ?_ ?_) | (with_reducible exact sold_refl)
    | with_reducible apply sold_ite | (with_reducible intro _)
    | (with_reducible refine kept_mk hw ?_ rfl rfl rfl rfl rfl) | (with_reducible refine sold_mk hw ?_))

theorem kept_sendState {W s0} (hw : 2533274790790788 &&& W = 2533274790790788)  {s : State} {x1} {x2} {x3} {x4} {x5} {x6} {x7} {x8} {x9} (h : Kept W s0 s) : Kept W s0 (sendState s x1 x2 x3 x4 x5 x6 x7 x8 x9) := by
  unfold sendState
  repeat (first
    | with_reducible assumption | (with_reducible refine kept_releaseBuf (msub hw) ?_)
    | (with_reducible refine kept_handBuf (msub hw) ?_) | (with_reducible refine kept_queueClass (msub hw) ?_)
    | with_reducible apply kept_foldl | (with_reducible intro _) | split | (dsimp only; split)
    | (with_reducible refine kept_mk hw ?_ rfl rfl rfl rfl rfl))

theorem kept_queuePartial {W s0} (hw : 2533274790790788 &&& W = 2533274790790788)  {s : State} {x1} {x2} {x3} {x4} {x5} {x6} {x7} (h : Kept W s0 s) : Kept W s0 (queuePartial s x1 x2 x3 x4 x5 x6 x7) := by
  unfold queuePartial
  repeat (first
    | with_reducible assumption | (with_reducible refine kept_handBuf (msub hw) ?_)
    | (with_reducible refine kept_queueClass (msub hw) ?_) | with_reducible apply kept_foldl | (with_reducible intro _))

theorem kept_requestAll {W s0} (hw : 2533274790789764 &&& W = 2533274790789764) {s : State} {x1 x2 x3 x4 x5} (h : Kept W s0 s) :
    Kept W s0 (requestAll s x1 x2 x3 x4 x5).2 := by
  induction x5 generalizing s with
  | nil => exact h
  | cons a l ih =>
    obtain ⟨k, bs⟩ := a
    unfold requestAll
    split
    · rename_i e
      have h2 := ih (kept_poolRequest' (msub hw) e h)
      split
      · rename_i e2; rw [e2] at h2; exact h2
      · rename_i e2; rw [e2] at h2; exact kept_releaseBuf (msub hw) h2
    · rename_i e; exact kept_poolRequest' (msub hw) e h
    · rename_i e; exact kept_poolRequest' (msub hw) e h

theorem kept_requestAll' {W s0} (hw : 2533274790789764 &&& W = 2533274790789764) {s s' : State} {y} {x1 x2 x3 x4 x5} (e : requestAll s x1 x2 x3 x4 x5 = (y, s'))
    (h : Kept W s0 s) : Kept W s0 s' := by
  have k : Kept W s0 (requestAll s x1 x2 x3 x4 x5).2 := kept_requestAll (msub hw) h
  rw [e] at k
  exact k

theorem kept_writeEmem {W s0} (hw : 2533318008899204 &&& W = 2533318008899204)  {s : State} {x1} {x2} {x3} {x4} (h : Kept W s0 s) : Kept W s0 (writeEmem s x1 x2 x3 x4) := by
  unfold writeEmem
  repeat (first
    | with_reducible assumption | (with_reducible refine kept_modSlot ?_ ?_)
    | (with_reducible refine kept_modBucket (msub hw) ?_) | (with_reducible refine kept_sendState (msub hw) ?_)
    | (with_reducible exact sold_refl) | (with_reducible refine sold_ememOut (msub hw) ?_)
    | with_reducible apply sold_ite | (with_reducible intro _) | with_reducible apply kept_foldl | split
    | (dsimp only; split) | (with_reducible refine kept_mk hw ?_ rfl rfl rfl rfl rfl)
    | (with_reducible refine sold_mk hw ?_))

theorem kept_trySendPartial {W s0} (hw : 38562115027863172 &&& W = 38562115027863172)  {s : State} {x1} {x2} {x3} (h : Kept W s0 s) : Kept W s0 (trySendPartial s x1 x2 x3) := by
  unfold trySendPartial
  repeat (first
    | with_reducible assumption | (with_reducible refine kept_requestAll (msub hw) ?_)
    | (with_reducible refine kept_requestAll' (msub hw) (by assumption) ?_)
    | (with_reducible refine kept_addWaiter (msub hw) ?_) | (with_reducible refine kept_dropWaiter (msub hw) ?_)
    | (with_reducible refine kept_writeEmem (msub hw) ?_) | (with_reducible refine kept_modChunk (msub hw) ?_)
    | (with_reducible refine kept_queuePartial (msub hw) ?_) | (with_reducible refine kept_modSeg (msub hw) ?_)
    | (with_reducible refine kept_checkBucketToken (msub hw) ?_) | with_reducible apply kept_ite
    | with_reducible apply kept_ite_snd | (with_reducible intro _) | split | (dsimp only; split)
    | (with_reducible refine kept_mk hw ?_ rfl rfl rfl rfl rfl))

theorem kept_ackPartial {W s0} (hw : 42949672960 &&& W = 42949672960)  {s : State} {x1} {x2} {x3} {x4} (h : Kept W s0 s) : Kept W s0 (ackPartial s x1 x2 x3 x4) := by
  unfold ackPartial
  repeat (first
    | with_reducible assumption | (with_reducible refine kept_modSeg (msub hw) ?_)
    | (with_reducible refine kept_modChunk (msub hw) ?_) | (with_reducible refine kept_releaseChunk (msub hw) ?_)
    | with_reducible apply kept_ite | with_reducible apply kept_ite_snd | (with_reducible intro _) | split
    | (dsimp only; split) | (with_reducible refine kept_mk hw ?_ rfl rfl rfl rfl rfl))

theorem kept_trySendPending {W s0} (hw : 2533309150529156 &&& W = 2533309150529156)  {s : State} {x1} {x2} {x3} (h : Kept W s0 s) : Kept W s0 (trySendPending s x1 x2 x3) := by
  unfold trySendPending
  repeat (first
    | with_reducible assumption | (with_reducible refine kept_modChunk (msub hw) ?_)
    | (with_reducible refine kept_poolRequest (msub hw) ?_)
    | (with_reducible refine kept_poolRequest' (msub hw) (by assumption) ?_)
    | (with_reducible refine kept_dropWaiter (msub hw) ?_) | (with_reducible refine kept_sendState (msub hw) ?_)
    | (with_reducible refine kept_addWaiter (msub hw) ?_) | with_reducible apply kept_ite
    | with_reducible apply kept_ite_snd | (with_reducible intro _) | split | (dsimp only; split)
    | (with_reducible refine kept_mk hw ?_ rfl rfl rfl rfl rfl))

theorem kept_trySendShips {W s0} (hw : 2533291970659972 &&& W = 2533291970659972) {s : State} {x1} {x2} (h : Kept W s0 s) : Kept W s0 (trySendShips s x1 x2) := by
  induction x2 generalizing s x1 with
  | zero =>
    unfold trySendShips
    repeat (first
    | with_reducible assumption | (with_reducible refine kept_dropWaiter (msub hw) ?_)
    | (with_reducible refine kept_modSlot ?_ ?_) | (with_reducible refine kept_poolRequest (msub hw) ?_)
    | (with_reducible refine kept_poolRequest' (msub hw) (by assumption) ?_)
    | (with_reducible refine kept_sendState (msub hw) ?_) | (with_reducible refine kept_addWaiter (msub hw) ?_)
    | (with_reducible exact sold_refl) | with_reducible apply sold_ite | (with_reducible intro _) | split
    | (dsimp only; split) | (with_reducible refine kept_mk hw ?_ rfl rfl rfl rfl rfl)
    | (with_reducible refine sold_mk hw ?_))
  | succ n ih =>
    unfold trySendShips
    repeat (first
    | with_reducible assumption | with_reducible apply ih | (with_reducible refine kept_dropWaiter (msub hw) ?_)
    | (with_reducible refine kept_modSlot ?_ ?_) | (with_reducible refine kept_poolRequest (msub hw) ?_)
    | (with_reducible refine kept_poolRequest' (msub hw) (by assumption) ?_)
    | (with_reducible refine kept_sendState (msub hw) ?_) | (with_reducible refine kept_addWaiter (msub hw) ?_)
    | (with_reducible exact sold_refl) | with_reducible apply sold_ite | (with_reducible intro _) | split
    | (dsimp only; split) | (with_reducible refine kept_mk hw ?_ rfl rfl rfl rfl rfl)
    | (with_reducible refine sold_mk hw ?_))

theorem kept_roundChunk {W s0} (hw : 38649525933835908 &&& W = 38649525933835908)  {s : State} {x1} {x2} {x3} (h : Kept W s0 s) : Kept W s0 (roundChunk s x1 x2 x3) := by
  unfold roundChunk
  repeat (first
    | with_reducible assumption | (with_reducible refine kept_modChunk (msub hw) ?_)
    | (with_reducible refine kept_modBucket (msub hw) ?_) | (with_reducible refine kept_setFlags (msub hw) ?_)
    | (with_reducible refine kept_modSlot ?_ ?_) | (with_reducible refine kept_watchChunk (msub hw) ?_)
    | (with_reducible refine kept_checkBucketToken (msub hw) ?_)
    | (with_reducible refine kept_trySendPending (msub hw) ?_) | (with_reducible exact sold_refl)
    | (with_reducible refine sold_logChunk (msub hw) ?_) | with_reducible apply sold_ite | (with_reducible intro _)
    | with_reducible apply kept_ite | with_reducible apply kept_ite_snd | split | (dsimp only; split)
    | (with_reducible refine kept_mk hw ?_ rfl rfl rfl rfl rfl) | (with_reducible refine sold_mk hw ?_))

theorem kept_settleRounded {W s0} (hw : 34359738368 &&& W = 34359738368)  {s : State} {x1} {x2} {x3} (h : Kept W s0 s) : Kept W s0 (settleRounded s x1 x2 x3) := by
  unfold settleRounded
  repeat (first
    | with_reducible assumption | (with_reducible refine kept_releaseChunk (msub hw) ?_) | with_reducible apply kept_ite
    | with_reducible apply kept_ite_snd | split | (dsimp only; split)
    | (with_reducible refine kept_mk hw ?_ rfl rfl rfl rfl rfl))

end Sys2Proof.Laws
end

