-- ==== Sys2Proof/Laws/KeptCadence.lean ====
section
/-! SUPPORT. What the definitions of Machine/Cadence.lean keep (Laws/KeptBase.lean). -/

namespace Sys2Proof.Laws

open Sys2Proof Sys2Proof.Machine

set_option linter.all false
set_option Elab.async false

theorem kept_putCtx {W s0} (hw : 1073741824 &&& W = 1073741824)  {s : State} {x1} {x2} (h : Kept W s0 s) : Kept W s0 (putCtx s x1 x2) := by
  unfold putCtx
  repeat (first
    | with_reducible assumption | (with_reducible refine kept_modSlot ?_ ?_) | (with_reducible exact sold_refl)
    | with_reducible apply sold_ite | (with_reducible intro _)
    | (with_reducible refine kept_mk hw ?_ rfl rfl rfl rfl rfl) | (with_reducible refine sold_mk hw ?_))

theorem kept_modCad {W s0} (hw : 4294967296 &&& W = 4294967296)  {s : State} {x1} {x2} (h : Kept W s0 s) : Kept W s0 (modCad s x1 x2) := by
  unfold modCad
  repeat (first
    | with_reducible assumption | (with_reducible refine kept_modSlot ?_ ?_) | (with_reducible exact sold_refl)
    | with_reducible apply sold_ite | (with_reducible intro _)
    | (with_reducible refine kept_mk hw ?_ rfl rfl rfl rfl rfl) | (with_reducible refine sold_mk hw ?_))

theorem kept_cadDrop {W s0} (hw : 4294967296 &&& W = 4294967296)  {s : State} {x1} (h : Kept W s0 s) : Kept W s0 (cadDrop s x1) := by
  unfold cadDrop
  repeat (first
    | with_reducible assumption | (with_reducible refine kept_modCad (msub hw) ?_) | (with_reducible intro _)
    | (with_reducible refine kept_mk hw ?_ rfl rfl rfl rfl rfl))

theorem kept_failOp {W s0} (hw : 110690306250118788 &&& W = 110690306250118788)  {s : State} {x1} {x2} {x3} {x4} {x5} {x6} {x7} {x8} (h : Kept W s0 s) : Kept W s0 (failOp s x1 x2 x3 x4 x5 x6 x7 x8) := by
  unfold failOp
  repeat (first
    | with_reducible assumption | (with_reducible refine kept_modSlot ?_ ?_)
    | (with_reducible refine kept_modCad (msub hw) ?_) | (with_reducible refine kept_raiseAbort (msub hw) ?_)
    | (with_reducible refine kept_spokeSendAll (msub hw) ?_) | (with_reducible exact sold_refl)
    | with_reducible apply sold_ite | (with_reducible intro _) | with_reducible apply kept_ite
    | with_reducible apply kept_ite_snd | split | (dsimp only; split)
    | (with_reducible refine kept_mk hw ?_ rfl rfl rfl rfl rfl) | (with_reducible refine sold_mk hw ?_))

theorem kept_failMismatch {W s0} (hw : 110690306250118788 &&& W = 110690306250118788)  {s : State} {x1} {x2} (h : Kept W s0 s) : Kept W s0 (failMismatch s x1 x2) := by
  unfold failMismatch
  repeat (first
    | with_reducible assumption | (with_reducible refine kept_failOp (msub hw) ?_) | split | (dsimp only; split)
    | (with_reducible refine kept_mk hw ?_ rfl rfl rfl rfl rfl))

theorem kept_writeResult {W s0} (hw : 74697011429246596 &&& W = 74697011429246596)  {s : State} {x1} {x2} {x3} (h : Kept W s0 s) : Kept W s0 (writeResult s x1 x2 x3) := by
  unfold writeResult
  repeat (first
    | with_reducible assumption | (with_reducible refine kept_putCtx (msub hw) ?_)
    | (with_reducible refine kept_modCad (msub hw) ?_) | (with_reducible refine kept_openBucket (msub hw) ?_)
    | (with_reducible refine kept_setFlags (msub hw) ?_) | (with_reducible refine kept_modSlot ?_ ?_)
    | (with_reducible refine kept_watchSum (msub hw) ?_) | (with_reducible exact sold_refl)
    | with_reducible apply sold_ite | (with_reducible intro _) | with_reducible apply kept_ite
    | with_reducible apply kept_ite_snd | split | (dsimp only; split)
    | (with_reducible refine kept_mk hw ?_ rfl rfl rfl rfl rfl) | (with_reducible refine sold_mk hw ?_))

theorem kept_takePhase {W s0} (hw : 110726040378021508 &&& W = 110726040378021508)  {s : State} {x1} {x2} {x3} (h : Kept W s0 s) : Kept W s0 (takePhase s x1 x2 x3) := by
  unfold takePhase
  repeat (first
    | with_reducible assumption | (with_reducible refine kept_modCad (msub hw) ?_)
    | (with_reducible refine kept_failOp (msub hw) ?_) | (with_reducible refine kept_putCtx (msub hw) ?_)
    | (with_reducible refine kept_writeResult (msub hw) ?_) | with_reducible apply kept_ite
    | with_reducible apply kept_ite_snd | (with_reducible intro _) | split | (dsimp only; split)
    | (with_reducible refine kept_mk hw ?_ rfl rfl rfl rfl rfl))

theorem kept_advanceCtx {W s0} (hw : 110726040378021508 &&& W = 110726040378021508) {s : State} {x1} {x2} {x3} {x4} {x5} (h : Kept W s0 s) : Kept W s0 (advanceCtx s x1 x2 x3 x4 x5) := by
  induction x5 generalizing s x1 x2 x3 x4 with
  | zero =>
    unfold advanceCtx
    repeat (first
    | with_reducible assumption | (with_reducible refine kept_putCtx (msub hw) ?_)
    | (with_reducible refine kept_spokeSendAll (msub hw) ?_) | (with_reducible refine kept_takePhase (msub hw) ?_)
    | (with_reducible refine kept_spokeSend (msub hw) ?_) | with_reducible apply kept_ite
    | with_reducible apply kept_ite_snd | split | (dsimp only; split)
    | (with_reducible refine kept_mk hw ?_ rfl rfl rfl rfl rfl))
  | succ n ih =>
    unfold advanceCtx
    repeat (first
    | with_reducible assumption | with_reducible apply ih | (with_reducible refine kept_putCtx (msub hw) ?_)
    | (with_reducible refine kept_spokeSendAll (msub hw) ?_) | (with_reducible refine kept_takePhase (msub hw) ?_)
    | (with_reducible refine kept_spokeSend (msub hw) ?_) | with_reducible apply kept_ite
    | with_reducible apply kept_ite_snd | split | (dsimp only; split)
    | (with_reducible refine kept_mk hw ?_ rfl rfl rfl rfl rfl))

theorem kept_launchOp {W s0} (hw : 110726040378021508 &&& W = 110726040378021508)  {s : State} {x1} {x2} {x3} {x4} {x5} {x6} {x7} {x8} {x9} (h : Kept W s0 s) : Kept W s0 (launchOp s x1 x2 x3 x4 x5 x6 x7 x8 x9) := by
  unfold launchOp
  repeat (first
    | with_reducible assumption | (with_reducible refine kept_failMismatch (msub hw) ?_)
    | (with_reducible refine kept_putCtx (msub hw) ?_) | (with_reducible refine kept_advanceCtx (msub hw) ?_)
    | (with_reducible refine kept_failOp (msub hw) ?_) | with_reducible apply kept_ite
    | with_reducible apply kept_ite_snd | (with_reducible intro _) | split | (dsimp only; split)
    | (with_reducible refine kept_mk hw ?_ rfl rfl rfl rfl rfl))

theorem kept_launchProgram {W s0} (hw : 110726040914892420 &&& W = 110726040914892420)  {s : State} {x1} {x2} {x3} {x4} {x5} {x6} {x7} (h : Kept W s0 s) : Kept W s0 (launchProgram s x1 x2 x3 x4 x5 x6 x7) := by
  unfold launchProgram
  repeat (first
    | with_reducible assumption | (with_reducible refine kept_modSlot ?_ ?_)
    | (with_reducible refine kept_modCad (msub hw) ?_) | (with_reducible refine kept_launchOp (msub hw) ?_)
    | (with_reducible exact sold_refl) | with_reducible apply sold_ite | (with_reducible intro _)
    | with_reducible apply kept_ite | with_reducible apply kept_ite_snd | split | (dsimp only; split)
    | (with_reducible refine kept_mk hw ?_ rfl rfl rfl rfl rfl) | (with_reducible refine sold_mk hw ?_))

theorem kept_checkWindowRound {W s0} (hw : 110726040378021508 &&& W = 110726040378021508)  {s : State} {x1} {x2} (h : Kept W s0 s) : Kept W s0 (checkWindowRound s x1 x2) := by
  unfold checkWindowRound
  repeat (first
    | with_reducible assumption | (with_reducible refine kept_modBucket (msub hw) ?_)
    | (with_reducible refine kept_launchOp (msub hw) ?_) | with_reducible apply kept_ite
    | with_reducible apply kept_ite_snd | with_reducible apply kept_foldl | (with_reducible intro _) | split
    | (dsimp only; split) | (with_reducible refine kept_mk hw ?_ rfl rfl rfl rfl rfl))

theorem kept_takeUp {W s0} (hw : 110726040378021508 &&& W = 110726040378021508)  {s : State} {x1} {x2} {x3} {x4} (h : Kept W s0 s) : Kept W s0 (takeUp s x1 x2 x3 x4) := by
  unfold takeUp
  repeat (first
    | with_reducible assumption | (with_reducible refine kept_failMismatch (msub hw) ?_)
    | (with_reducible refine kept_cadDrop (msub hw) ?_) | (with_reducible refine kept_putCtx (msub hw) ?_)
    | (with_reducible refine kept_advanceCtx (msub hw) ?_) | (with_reducible refine kept_failOp (msub hw) ?_)
    | with_reducible apply kept_ite | with_reducible apply kept_ite_snd | (with_reducible intro _) | split
    | (dsimp only; split) | (with_reducible refine kept_mk hw ?_ rfl rfl rfl rfl rfl))

theorem kept_takeDown {W s0} (hw : 110726040378021508 &&& W = 110726040378021508)  {s : State} {x1} {x2} {x3} {x4} (h : Kept W s0 s) : Kept W s0 (takeDown s x1 x2 x3 x4) := by
  unfold takeDown
  repeat (first
    | with_reducible assumption | (with_reducible refine kept_failMismatch (msub hw) ?_)
    | (with_reducible refine kept_spokeSendAll (msub hw) ?_) | (with_reducible refine kept_advanceCtx (msub hw) ?_)
    | (with_reducible refine kept_takePhase (msub hw) ?_) | with_reducible apply kept_ite
    | with_reducible apply kept_ite_snd | split | (dsimp only; split)
    | (with_reducible refine kept_mk hw ?_ rfl rfl rfl rfl rfl))

theorem kept_takeFail {W s0} (hw : 110690306250118788 &&& W = 110690306250118788)  {s : State} {x1} {x2} {x3} {x4} (h : Kept W s0 s) : Kept W s0 (takeFail s x1 x2 x3 x4) := by
  unfold takeFail
  repeat (first
    | with_reducible assumption | (with_reducible refine kept_failMismatch (msub hw) ?_)
    | (with_reducible refine kept_modCad (msub hw) ?_) | (with_reducible refine kept_failOp (msub hw) ?_)
    | with_reducible apply kept_ite | with_reducible apply kept_ite_snd | (with_reducible intro _) | split
    | (dsimp only; split) | (with_reducible refine kept_mk hw ?_ rfl rfl rfl rfl rfl))

theorem kept_takeMsg {W s0} (hw : 110726040378021508 &&& W = 110726040378021508)  {s : State} {x1} {x2} {x3} (h : Kept W s0 s) : Kept W s0 (takeMsg s x1 x2 x3) := by
  unfold takeMsg
  repeat (first
    | with_reducible assumption | (with_reducible refine kept_failMismatch (msub hw) ?_)
    | (with_reducible refine kept_takeUp (msub hw) ?_) | (with_reducible refine kept_takeDown (msub hw) ?_)
    | (with_reducible refine kept_takeFail (msub hw) ?_) | (with_reducible refine kept_cadDrop (msub hw) ?_)
    | with_reducible apply kept_ite | with_reducible apply kept_ite_snd | split | (dsimp only; split)
    | (with_reducible refine kept_mk hw ?_ rfl rfl rfl rfl rfl))

theorem kept_holdMsg {W s0} (hw : 6442450944 &&& W = 6442450944)  {s : State} {x1} {x2} {x3} {x4} (h : Kept W s0 s) : Kept W s0 (holdMsg s x1 x2 x3 x4) := by
  unfold holdMsg
  repeat (first
    | with_reducible assumption | (with_reducible refine kept_cadDrop (msub hw) ?_)
    | (with_reducible refine kept_modSlot ?_ ?_) | (with_reducible exact sold_refl) | with_reducible apply sold_ite
    | (with_reducible intro _) | split | (dsimp only; split) | (with_reducible refine kept_mk hw ?_ rfl rfl rfl rfl rfl)
    | (with_reducible refine sold_mk hw ?_))

theorem kept_judgeMsg {W s0} (hw : 110726042525505156 &&& W = 110726042525505156)  {s : State} {x1} {x2} {x3} (h : Kept W s0 s) : Kept W s0 (judgeMsg s x1 x2 x3) := by
  unfold judgeMsg
  repeat (first
    | with_reducible assumption | (with_reducible refine kept_cadDrop (msub hw) ?_)
    | (with_reducible refine kept_takeMsg (msub hw) ?_) | (with_reducible refine kept_modSlot ?_ ?_)
    | (with_reducible refine kept_holdMsg (msub hw) ?_) | (with_reducible exact sold_refl)
    | with_reducible apply sold_ite | (with_reducible intro _) | with_reducible apply kept_ite
    | with_reducible apply kept_ite_snd | split | (dsimp only; split)
    | (with_reducible refine kept_mk hw ?_ rfl rfl rfl rfl rfl) | (with_reducible refine sold_mk hw ?_))

theorem kept_takeCadence {W s0} (hw : 110726042525505156 &&& W = 110726042525505156)  {s : State} {x0} {x1} (h : Kept W s0 s) : Kept W s0 (takeCadence x0 x1 s) := by
  unfold takeCadence
  repeat (first
    | with_reducible assumption | (with_reducible refine kept_spokeTake (msub hw) ?_)
    | (with_reducible refine kept_spokeTake' (msub hw) (by assumption) ?_)
    | (with_reducible refine kept_modSpoke (msub hw) ?_) | (with_reducible refine kept_judgeMsg (msub hw) ?_)
    | with_reducible apply kept_ite | with_reducible apply kept_ite_snd | (with_reducible intro _) | split
    | (dsimp only; split) | (with_reducible refine kept_mk hw ?_ rfl rfl rfl rfl rfl))

theorem kept_effCadenceUp {W s0} (hw : 110726042525505156 &&& W = 110726042525505156)  {s : State} {x0} (h : Kept W s0 s) : Kept W s0 (effCadenceUp x0 s) := by
  unfold effCadenceUp
  repeat (first
    | with_reducible assumption | (with_reducible refine kept_takeCadence (msub hw) ?_))

theorem kept_effCadenceDown {W s0} (hw : 110726042525505156 &&& W = 110726042525505156)  {s : State} {x0} (h : Kept W s0 s) : Kept W s0 (effCadenceDown x0 s) := by
  unfold effCadenceDown
  repeat (first
    | with_reducible assumption | (with_reducible refine kept_takeCadence (msub hw) ?_))

theorem kept_effCadenceFail {W s0} (hw : 110726042525505156 &&& W = 110726042525505156)  {s : State} {x0} (h : Kept W s0 s) : Kept W s0 (effCadenceFail x0 s) := by
  unfold effCadenceFail
  repeat (first
    | with_reducible assumption | (with_reducible refine kept_takeCadence (msub hw) ?_))

theorem kept_effCadenceDeadline {W s0} (hw : 110690306250118790 &&& W = 110690306250118790)  {s : State} {x0} (h : Kept W s0 s) : Kept W s0 (effCadenceDeadline x0 s) := by
  unfold effCadenceDeadline
  repeat (first
    | with_reducible assumption | (with_reducible refine kept_timeTo (msub hw) ?_)
    | (with_reducible refine kept_modCad (msub hw) ?_) | (with_reducible refine kept_failOp (msub hw) ?_)
    | (with_reducible intro _) | split | (dsimp only; split) | (with_reducible refine kept_mk hw ?_ rfl rfl rfl rfl rfl))

theorem kept_effCadenceHeldExpiry {W s0} (hw : 6442450946 &&& W = 6442450946)  {s : State} {x0} (h : Kept W s0 s) : Kept W s0 (effCadenceHeldExpiry x0 s) := by
  unfold effCadenceHeldExpiry
  repeat (first
    | with_reducible assumption | (with_reducible refine kept_timeTo (msub hw) ?_)
    | (with_reducible refine kept_cadDrop (msub hw) ?_) | (with_reducible refine kept_modSlot ?_ ?_)
    | (with_reducible exact sold_refl) | with_reducible apply sold_ite | (with_reducible intro _)
    | with_reducible apply kept_ite | with_reducible apply kept_ite_snd | with_reducible apply kept_foldl | split
    | (dsimp only; split) | (with_reducible refine kept_mk hw ?_ rfl rfl rfl rfl rfl)
    | (with_reducible refine sold_mk hw ?_))

theorem kept_releaseCadHeld {W s0} (hw : 110726042525505156 &&& W = 110726042525505156)  {s : State} {x1} (h : Kept W s0 s) : Kept W s0 (releaseCadHeld s x1) := by
  unfold releaseCadHeld
  repeat (first
    | with_reducible assumption | (with_reducible refine kept_modSlot ?_ ?_)
    | (with_reducible refine kept_judgeMsg (msub hw) ?_) | (with_reducible refine kept_cadDrop (msub hw) ?_)
    | (with_reducible exact sold_refl) | with_reducible apply sold_ite | (with_reducible intro _)
    | with_reducible apply kept_ite | with_reducible apply kept_ite_snd | with_reducible apply kept_foldl | split
    | (dsimp only; split) | (with_reducible refine kept_mk hw ?_ rfl rfl rfl rfl rfl)
    | (with_reducible refine sold_mk hw ?_))

theorem kept_failLinkOps {W s0} (hw : 110690306250118788 &&& W = 110690306250118788)  {s : State} {x1} (h : Kept W s0 s) : Kept W s0 (failLinkOps s x1) := by
  unfold failLinkOps
  repeat (first
    | with_reducible assumption | (with_reducible refine kept_failOp (msub hw) ?_) | with_reducible apply kept_ite
    | with_reducible apply kept_ite_snd | with_reducible apply kept_foldl | (with_reducible intro _) | split
    | (dsimp only; split) | (with_reducible refine kept_mk hw ?_ rfl rfl rfl rfl rfl))

end Sys2Proof.Laws
end

