-- ==== Sys2Proof/Laws/KeptReduction.lean ====
section
/-! SUPPORT. What the definitions of Machine/Reduction.lean keep (Laws/KeptBase.lean). -/

namespace Sys2Proof.Laws

open Sys2Proof Sys2Proof.Machine

set_option linter.all false
set_option Elab.async false

theorem kept_recordHeld {W s0} (hw : 34359738368 &&& W = 34359738368)  {s : State} {x1} {x2} {x3} (h : Kept W s0 s) : Kept W s0 (recordHeld s x1 x2 x3) := by
  unfold recordHeld
  repeat (first
    | with_reducible assumption | (with_reducible refine kept_modBucket (msub hw) ?_) | with_reducible apply kept_ite
    | with_reducible apply kept_ite_snd | (with_reducible intro _) | split | (dsimp only; split)
    | (with_reducible refine kept_mk hw ?_ rfl rfl rfl rfl rfl))

theorem kept_acceptContribution {W s0} (hw : 352427836441732 &&& W = 352427836441732)  {s : State} {x1} {x2} {x3} {x4} (h : Kept W s0 s) : Kept W s0 (acceptContribution s x1 x2 x3 x4) := by
  unfold acceptContribution
  repeat (first
    | with_reducible assumption | (with_reducible refine kept_recordArrival (msub hw) ?_)
    | (with_reducible refine kept_modChunk (msub hw) ?_) | (with_reducible refine kept_modBucket (msub hw) ?_)
    | (with_reducible refine kept_releaseChain (msub hw) ?_)
    | (with_reducible refine kept_placeContribution (msub hw) ?_) | with_reducible apply kept_ite
    | with_reducible apply kept_ite_snd | (with_reducible intro _) | split | (dsimp only; split)
    | (with_reducible refine kept_mk hw ?_ rfl rfl rfl rfl rfl))

theorem kept_effContribute {W s0} (hw : 111852215171159940 &&& W = 111852215171159940)  {s : State} {x0} (h : Kept W s0 s) : Kept W s0 (effContribute x0 s) := by
  unfold effContribute
  repeat (first
    | with_reducible assumption | (with_reducible refine kept_admitFrame (msub hw) ?_)
    | (with_reducible refine kept_admitFrame' (msub hw) (by assumption) ?_)
    | (with_reducible refine kept_modCnt (msub hw) ?_) | (with_reducible refine kept_releaseChain (msub hw) ?_)
    | (with_reducible refine kept_dropLate (msub hw) ?_) | (with_reducible refine kept_recordHeld (msub hw) ?_)
    | (with_reducible refine kept_acceptContribution (msub hw) ?_)
    | (with_reducible refine kept_checkWindowRound (msub hw) ?_) | with_reducible apply kept_ite
    | with_reducible apply kept_ite_snd | (with_reducible intro _) | split | (dsimp only; split)
    | (with_reducible refine kept_mk hw ?_ rfl rfl rfl rfl rfl))

theorem kept_effAccumulate {W s0} (hw : 111817030799071108 &&& W = 111817030799071108)  {s : State} {x0} (h : Kept W s0 s) : Kept W s0 (effAccumulate x0 s) := by
  unfold effAccumulate
  repeat (first
    | with_reducible assumption | (with_reducible refine kept_admitFrame (msub hw) ?_)
    | (with_reducible refine kept_admitFrame' (msub hw) (by assumption) ?_)
    | (with_reducible refine kept_dropLate (msub hw) ?_) | (with_reducible refine kept_setFlags (msub hw) ?_)
    | (with_reducible refine kept_modChunk (msub hw) ?_) | (with_reducible refine kept_recordArrival (msub hw) ?_)
    | (with_reducible refine kept_modSeg (msub hw) ?_) | (with_reducible refine kept_releaseChain (msub hw) ?_)
    | (with_reducible intro _) | split | (dsimp only; split) | (with_reducible refine kept_mk hw ?_ rfl rfl rfl rfl rfl))

theorem kept_effWindowProposal {W s0} (hw : 111852215171159940 &&& W = 111852215171159940)  {s : State} {x0} (h : Kept W s0 s) : Kept W s0 (effWindowProposal x0 s) := by
  unfold effWindowProposal
  repeat (first
    | with_reducible assumption | (with_reducible refine kept_admitFrame (msub hw) ?_)
    | (with_reducible refine kept_admitFrame' (msub hw) (by assumption) ?_)
    | (with_reducible refine kept_dropLate (msub hw) ?_) | (with_reducible refine kept_modBucket (msub hw) ?_)
    | (with_reducible refine kept_releaseChain (msub hw) ?_) | (with_reducible refine kept_checkWindowRound (msub hw) ?_)
    | (with_reducible intro _) | split | (dsimp only; split) | (with_reducible refine kept_mk hw ?_ rfl rfl rfl rfl rfl))

theorem kept_effPlacementComplete {W s0} (hw : 34359738368 &&& W = 34359738368)  {s : State} {x0} {x1} {x2} (h : Kept W s0 s) : Kept W s0 (effPlacementComplete x0 x1 x2 s) := by
  unfold effPlacementComplete
  repeat (first
    | with_reducible assumption | (with_reducible refine kept_modChunk (msub hw) ?_) | with_reducible apply kept_ite
    | with_reducible apply kept_ite_snd | (with_reducible intro _) | split | (dsimp only; split)
    | (with_reducible refine kept_mk hw ?_ rfl rfl rfl rfl rfl))

theorem kept_effPartialSend {W s0} (hw : 38562115027863172 &&& W = 38562115027863172)  {s : State} {x0} {x1} {x2} (h : Kept W s0 s) : Kept W s0 (effPartialSend x0 x1 x2 s) := by
  unfold effPartialSend
  repeat (first
    | with_reducible assumption | (with_reducible refine kept_trySendPartial (msub hw) ?_))

theorem kept_resendPart {W s0} (hw : 2533309150529156 &&& W = 2533309150529156)  {s : State} {x1} {x2} {x3} {x4} (h : Kept W s0 s) : Kept W s0 (resendPart s x1 x2 x3 x4) := by
  unfold resendPart
  repeat (first
    | with_reducible assumption | (with_reducible refine kept_poolRequest (msub hw) ?_)
    | (with_reducible refine kept_poolRequest' (msub hw) (by assumption) ?_)
    | (with_reducible refine kept_modChunk (msub hw) ?_) | (with_reducible refine kept_queuePartial (msub hw) ?_)
    | (with_reducible intro _) | split | (dsimp only; split) | (with_reducible refine kept_mk hw ?_ rfl rfl rfl rfl rfl))

theorem kept_effPartialResend {W s0} (hw : 2533309150529158 &&& W = 2533309150529158)  {s : State} {x0} {x1} {x2} (h : Kept W s0 s) : Kept W s0 (effPartialResend x0 x1 x2 s) := by
  unfold effPartialResend
  repeat (first
    | with_reducible assumption | (with_reducible refine kept_resendPart (msub hw) ?_)
    | (with_reducible refine kept_timeTo (msub hw) ?_) | with_reducible apply kept_ite
    | with_reducible apply kept_ite_snd | with_reducible apply kept_foldl | (with_reducible intro _) | split
    | (dsimp only; split) | (with_reducible refine kept_mk hw ?_ rfl rfl rfl rfl rfl))

theorem kept_effChunkRound {W s0} (hw : 38649525933835908 &&& W = 38649525933835908)  {s : State} {x0} {x1} {x2} (h : Kept W s0 s) : Kept W s0 (effChunkRound x0 x1 x2 s) := by
  unfold effChunkRound
  repeat (first
    | with_reducible assumption | (with_reducible refine kept_roundChunk (msub hw) ?_))

theorem kept_effBucketDeadline {W s0} (hw : 110690306250118790 &&& W = 110690306250118790)  {s : State} {x0} {x1} (h : Kept W s0 s) : Kept W s0 (effBucketDeadline x0 x1 s) := by
  unfold effBucketDeadline
  repeat (first
    | with_reducible assumption | (with_reducible refine kept_timeTo (msub hw) ?_)
    | (with_reducible refine kept_raiseAbort (msub hw) ?_) | with_reducible apply kept_ite
    | with_reducible apply kept_ite_snd | (with_reducible intro _) | split | (dsimp only; split)
    | (with_reducible refine kept_mk hw ?_ rfl rfl rfl rfl rfl))

end Sys2Proof.Laws
end

