-- ==== Sys2Proof/Laws/KeptRows.lean ====
section
/-! SUPPORT. What the definitions of Machine/Rows.lean keep (Laws/KeptBase.lean). -/

namespace Sys2Proof.Laws

open Sys2Proof Sys2Proof.Machine

set_option linter.all false
set_option Elab.async false

theorem kept_modMem {W s0} (hw : 16384 &&& W = 16384) {s : State} {p : Host.Cell → Bool} (h : Kept W s0 s) :
    Kept W s0 (modMem s (fun l => l.filter p)) := by
  refine ⟨h.1, fun x => wf_filter p (h.2.1 x), h.2.2.1, h.2.2.2.1, fun q hq => ?_⟩
  have := h.2.2.2.2 q hq
  cases q <;> first | exact this | exact absurd (bit_sub hw (k := 14) rfl) (by simpa [pieceNum] using hq)

theorem kept_pieceWrite {W s0} (hw : 16384 &&& W = 16384) {s : State} {x1 x2} (h : Kept W s0 s) : Kept W s0 (pieceWrite s x1 x2) := by
  refine ⟨h.1, fun x => wf_memWrite x1 x2 (h.2.1 x), h.2.2.1, h.2.2.2.1, fun q hq => ?_⟩
  have := h.2.2.2.2 q hq
  cases q <;> first | exact this | exact absurd (bit_sub hw (k := 14) rfl) (by simpa [pieceNum] using hq)

theorem kept_frameWrite {W s0} (hw : 16384 &&& W = 16384)  {s : State} {x1} {x2} {x3} (h : Kept W s0 s) : Kept W s0 (frameWrite s x1 x2 x3) := by
  unfold frameWrite
  repeat (first
    | with_reducible assumption | (with_reducible refine kept_pieceWrite (msub hw) ?_) | with_reducible apply kept_foldl
    | (with_reducible intro _) | split | (dsimp only; split) | (with_reducible refine kept_mk hw ?_ rfl rfl rfl rfl rfl))

theorem kept_rowWrite {W s0} (hw : 16384 &&& W = 16384)  {s : State} {x1} {x2} {x3} {x4} {x5} {x6} (h : Kept W s0 s) : Kept W s0 (rowWrite s x1 x2 x3 x4 x5 x6) := by
  unfold rowWrite
  repeat (first
    | with_reducible assumption | (with_reducible refine kept_frameWrite (msub hw) ?_) | split | (dsimp only; split)
    | (with_reducible refine kept_mk hw ?_ rfl rfl rfl rfl rfl))

theorem kept_chunkWrite {W s0} (hw : 16384 &&& W = 16384)  {s : State} {x1} {x2} {x3} {x4} {x5} (h : Kept W s0 s) : Kept W s0 (chunkWrite s x1 x2 x3 x4 x5) := by
  unfold chunkWrite
  repeat (first
    | with_reducible assumption | (with_reducible refine kept_rowWrite (msub hw) ?_) | split | (dsimp only; split)
    | (with_reducible refine kept_mk hw ?_ rfl rfl rfl rfl rfl))

end Sys2Proof.Laws
end

