-- ==== Sys2Proof/Laws/KeptDelivery.lean ====
section
/-! SUPPORT. What the definitions of Machine/Delivery.lean keep (Laws/KeptBase.lean). -/

namespace Sys2Proof.Laws

open Sys2Proof Sys2Proof.Machine

set_option linter.all false
set_option Elab.async false

theorem kept_modFetch {W s0} (hw : 137438953472 &&& W = 137438953472)  {s : State} {x1} {x2} {x3} {x4} {x5} (h : Kept W s0 s) : Kept W s0 (modFetch s x1 x2 x3 x4 x5) := by
  unfold modFetch
  repeat (first
    | with_reducible assumption | (with_reducible refine kept_modSlot ?_ ?_) | (with_reducible exact sold_refl)
    | with_reducible apply sold_ite | (with_reducible intro _) | with_reducible apply kept_ite
    | with_reducible apply kept_ite_snd | split | (dsimp only; split)
    | (with_reducible refine kept_mk hw ?_ rfl rfl rfl rfl rfl) | (with_reducible refine sold_mk hw ?_))

theorem kept_sendCopy {W s0} (hw : 2533687107651204 &&& W = 2533687107651204)  {s : State} {x1} {x2} {x3} {x4} (h : Kept W s0 s) : Kept W s0 (sendCopy s x1 x2 x3 x4) := by
  unfold sendCopy
  repeat (first
    | with_reducible assumption | (with_reducible refine kept_modHealth (msub hw) ?_)
    | (with_reducible refine kept_linkBuf (msub hw) ?_) | (with_reducible refine kept_queueClass (msub hw) ?_)
    | (with_reducible refine kept_modDeliv (msub hw) ?_) | (with_reducible refine kept_modFetch (msub hw) ?_)
    | with_reducible apply kept_ite | with_reducible apply kept_ite_snd | (with_reducible intro _) | split
    | (dsimp only; split) | (with_reducible refine kept_mk hw ?_ rfl rfl rfl rfl rfl))

theorem kept_serveRequests {W s0} (hw : 2533687107651204 &&& W = 2533687107651204)  {s : State} {x1} {x2} (h : Kept W s0 s) : Kept W s0 (serveRequests s x1 x2) := by
  unfold serveRequests
  repeat (first
    | with_reducible assumption | (with_reducible refine kept_sendCopy (msub hw) ?_)
    | (with_reducible refine kept_modRx (msub hw) ?_) | with_reducible apply kept_ite | with_reducible apply kept_ite_snd
    | with_reducible apply kept_foldl | (with_reducible intro _) | split | (dsimp only; split)
    | (with_reducible refine kept_mk hw ?_ rfl rfl rfl rfl rfl))

theorem kept_fillFetch {W s0} (hw : 2533687107651204 &&& W = 2533687107651204)  {s : State} {x1} {x2} {x3} {x4} (h : Kept W s0 s) : Kept W s0 (fillFetch s x1 x2 x3 x4) := by
  unfold fillFetch
  repeat (first
    | with_reducible assumption | (with_reducible refine kept_modFetch (msub hw) ?_)
    | (with_reducible refine kept_serveRequests (msub hw) ?_) | (with_reducible intro _)
    | (with_reducible refine kept_mk hw ?_ rfl rfl rfl rfl rfl))

theorem kept_sendGather {W s0} (hw : 2533549668697732 &&& W = 2533549668697732)  {s : State} {x1} {x2} (h : Kept W s0 s) : Kept W s0 (sendGather s x1 x2) := by
  unfold sendGather
  repeat (first
    | with_reducible assumption | (with_reducible refine kept_modDeliv (msub hw) ?_)
    | (with_reducible refine kept_modRx (msub hw) ?_) | (with_reducible refine kept_queueClass (msub hw) ?_)
    | (with_reducible intro _) | split | (dsimp only; split) | (with_reducible refine kept_mk hw ?_ rfl rfl rfl rfl rfl))

theorem kept_dropFetch {W s0} (hw : 2533412229743236 &&& W = 2533412229743236)  {s : State} {x1} {x2} (h : Kept W s0 s) : Kept W s0 (dropFetch s x1 x2) := by
  unfold dropFetch
  repeat (first
    | with_reducible assumption | (with_reducible refine kept_releaseBuf (msub hw) ?_)
    | (with_reducible refine kept_dropWaiter (msub hw) ?_) | (with_reducible refine kept_modSlot ?_ ?_)
    | (with_reducible exact sold_refl) | with_reducible apply sold_ite | (with_reducible intro _) | split
    | (dsimp only; split) | (with_reducible refine kept_mk hw ?_ rfl rfl rfl rfl rfl)
    | (with_reducible refine sold_mk hw ?_))

theorem kept_makeRoom {W s0} (hw : 2533687107650180 &&& W = 2533687107650180) {s : State} {x1} {x2} {x3} (h : Kept W s0 s) : Kept W s0 (makeRoom s x1 x2 x3) := by
  induction x3 generalizing s x1 x2 with
  | zero =>
    unfold makeRoom
    repeat (first
    | with_reducible assumption | (with_reducible refine kept_modDeliv (msub hw) ?_)
    | (with_reducible refine kept_dropFetch (msub hw) ?_) | with_reducible apply kept_ite
    | with_reducible apply kept_ite_snd | (with_reducible intro _) | split | (dsimp only; split)
    | (with_reducible refine kept_mk hw ?_ rfl rfl rfl rfl rfl))
  | succ n ih =>
    unfold makeRoom
    repeat (first
    | with_reducible assumption | with_reducible apply ih | (with_reducible refine kept_modDeliv (msub hw) ?_)
    | (with_reducible refine kept_dropFetch (msub hw) ?_) | with_reducible apply kept_ite
    | with_reducible apply kept_ite_snd | (with_reducible intro _) | split | (dsimp only; split)
    | (with_reducible refine kept_mk hw ?_ rfl rfl rfl rfl rfl))

theorem kept_startFetch {W s0} (hw : 2533687107651204 &&& W = 2533687107651204)  {s : State} {x1} {x2} {x3} (h : Kept W s0 s) : Kept W s0 (startFetch s x1 x2 x3) := by
  unfold startFetch
  repeat (first
    | with_reducible assumption | (with_reducible refine kept_modFetch (msub hw) ?_)
    | (with_reducible refine kept_sendGather (msub hw) ?_) | with_reducible apply kept_ite
    | with_reducible apply kept_ite_snd | (with_reducible intro _) | split | (dsimp only; split)
    | (with_reducible refine kept_mk hw ?_ rfl rfl rfl rfl rfl))

theorem kept_tryFetchBuffer {W s0} (hw : 2533687107651204 &&& W = 2533687107651204)  {s : State} {x1} {x2} (h : Kept W s0 s) : Kept W s0 (tryFetchBuffer s x1 x2) := by
  unfold tryFetchBuffer
  repeat (first
    | with_reducible assumption | (with_reducible refine kept_makeRoom (msub hw) ?_)
    | (with_reducible refine kept_poolRequest (msub hw) ?_)
    | (with_reducible refine kept_poolRequest' (msub hw) (by assumption) ?_)
    | (with_reducible refine kept_startFetch (msub hw) ?_) | (with_reducible refine kept_dropWaiter (msub hw) ?_)
    | (with_reducible refine kept_addWaiter (msub hw) ?_) | split | (dsimp only; split)
    | (with_reducible refine kept_mk hw ?_ rfl rfl rfl rfl rfl))

theorem kept_handleRequest {W s0} (hw : 2533687107651204 &&& W = 2533687107651204)  {s : State} {x1} {x2} {x3} {x4} (h : Kept W s0 s) : Kept W s0 (handleRequest s x1 x2 x3 x4) := by
  unfold handleRequest
  repeat (first
    | with_reducible assumption | (with_reducible refine kept_modDeliv (msub hw) ?_)
    | (with_reducible refine kept_sendCopy (msub hw) ?_) | (with_reducible refine kept_modFetch (msub hw) ?_)
    | (with_reducible refine kept_modRx (msub hw) ?_) | (with_reducible refine kept_modSlot ?_ ?_)
    | (with_reducible refine kept_tryFetchBuffer (msub hw) ?_) | (with_reducible exact sold_refl)
    | with_reducible apply sold_ite | (with_reducible intro _) | with_reducible apply kept_ite
    | with_reducible apply kept_ite_snd | split | (dsimp only; split)
    | (with_reducible refine kept_mk hw ?_ rfl rfl rfl rfl rfl) | (with_reducible refine sold_mk hw ?_))

theorem kept_takeGather {W s0} (hw : 111816481043257220 &&& W = 111816481043257220)  {s : State} {x0} (h : Kept W s0 s) : Kept W s0 (takeGather x0 s) := by
  unfold takeGather
  repeat (first
    | with_reducible assumption | (with_reducible refine kept_admitFrame (msub hw) ?_)
    | (with_reducible refine kept_admitFrame' (msub hw) (by assumption) ?_)
    | (with_reducible refine kept_dropLate (msub hw) ?_) | (with_reducible refine kept_releaseChain (msub hw) ?_)
    | (with_reducible refine kept_modDeliv (msub hw) ?_) | (with_reducible refine kept_modTx (msub hw) ?_)
    | (with_reducible refine kept_handleRequest (msub hw) ?_) | with_reducible apply kept_ite
    | with_reducible apply kept_ite_snd | with_reducible apply kept_foldl | (with_reducible intro _) | split
    | (dsimp only; split) | (with_reducible refine kept_mk hw ?_ rfl rfl rfl rfl rfl))

theorem kept_effGather {W s0} (hw : 111816481043257220 &&& W = 111816481043257220)  {s : State} {x0} (h : Kept W s0 s) : Kept W s0 (effGather x0 s) := by
  unfold effGather
  repeat (first
    | with_reducible assumption | (with_reducible refine kept_takeGather (msub hw) ?_) | with_reducible apply kept_ite
    | with_reducible apply kept_ite_snd | split | (dsimp only; split))

theorem kept_effDeviceGather {W s0} (hw : 111816481043257220 &&& W = 111816481043257220)  {s : State} {x0} (h : Kept W s0 s) : Kept W s0 (effDeviceGather x0 s) := by
  unfold effDeviceGather
  repeat (first
    | with_reducible assumption | (with_reducible refine kept_takeGather (msub hw) ?_) | with_reducible apply kept_ite
    | with_reducible apply kept_ite_snd | split | (dsimp only; split))

theorem kept_effGatherResend {W s0} (hw : 2533687107651206 &&& W = 2533687107651206)  {s : State} {x0} (h : Kept W s0 s) : Kept W s0 (effGatherResend x0 s) := by
  unfold effGatherResend
  repeat (first
    | with_reducible assumption | (with_reducible refine kept_timeTo (msub hw) ?_)
    | (with_reducible refine kept_modFetch (msub hw) ?_) | (with_reducible refine kept_sendGather (msub hw) ?_)
    | (with_reducible intro _) | split | (dsimp only; split) | (with_reducible refine kept_mk hw ?_ rfl rfl rfl rfl rfl))

theorem kept_effDeliver {W s0} (hw : 111816481043257220 &&& W = 111816481043257220)  {s : State} {x0} (h : Kept W s0 s) : Kept W s0 (effDeliver x0 s) := by
  unfold effDeliver
  repeat (first
    | with_reducible assumption | (with_reducible refine kept_modDeliv (msub hw) ?_)
    | (with_reducible refine kept_admitFrame (msub hw) ?_)
    | (with_reducible refine kept_admitFrame' (msub hw) (by assumption) ?_)
    | (with_reducible refine kept_dropLate (msub hw) ?_) | (with_reducible refine kept_fillFetch (msub hw) ?_)
    | with_reducible apply kept_ite | with_reducible apply kept_ite_snd | (with_reducible intro _) | split
    | (dsimp only; split) | (with_reducible refine kept_mk hw ?_ rfl rfl rfl rfl rfl))

theorem kept_effCastComplete {W s0} (hw : 2604605607642756 &&& W = 2604605607642756)  {s : State} {x0} (h : Kept W s0 s) : Kept W s0 (effCastComplete x0 s) := by
  unfold effCastComplete
  repeat (first
    | with_reducible assumption | (with_reducible refine kept_setFlags (msub hw) ?_)
    | (with_reducible refine kept_modDeliv (msub hw) ?_) | (with_reducible refine kept_fillFetch (msub hw) ?_)
    | (with_reducible intro _) | split | (dsimp only; split) | (with_reducible refine kept_mk hw ?_ rfl rfl rfl rfl rfl))

theorem kept_makeServable {W s0} (hw : 206158430208 &&& W = 206158430208)  {s : State} {x1} {x2} (h : Kept W s0 s) : Kept W s0 (makeServable s x1 x2) := by
  unfold makeServable
  repeat (first
    | with_reducible assumption | (with_reducible refine kept_modSlot ?_ ?_) | (with_reducible exact sold_refl)
    | with_reducible apply sold_ite | (with_reducible intro _) | with_reducible apply kept_ite
    | with_reducible apply kept_ite_snd | split | (dsimp only; split)
    | (with_reducible refine kept_mk hw ?_ rfl rfl rfl rfl rfl) | (with_reducible refine sold_mk hw ?_))

theorem kept_effGatherDeadline {W s0} (hw : 110690306250118790 &&& W = 110690306250118790)  {s : State} {x0} (h : Kept W s0 s) : Kept W s0 (effGatherDeadline x0 s) := by
  unfold effGatherDeadline
  repeat (first
    | with_reducible assumption | (with_reducible refine kept_timeTo (msub hw) ?_)
    | (with_reducible refine kept_raiseAbort (msub hw) ?_) | split | (dsimp only; split)
    | (with_reducible refine kept_mk hw ?_ rfl rfl rfl rfl rfl))

theorem kept_staleRequests {W s0} (hw : 274877907968 &&& W = 274877907968)  {s : State} {x1} {x2} {x3} (h : Kept W s0 s) : Kept W s0 (staleRequests s x1 x2 x3) := by
  unfold staleRequests
  repeat (first
    | with_reducible assumption | (with_reducible refine kept_sendNack (msub hw) ?_)
    | (with_reducible refine kept_modDeliv (msub hw) ?_) | (with_reducible refine kept_modRx (msub hw) ?_)
    | with_reducible apply kept_ite | with_reducible apply kept_ite_snd | with_reducible apply kept_foldl
    | (with_reducible intro _) | split | (dsimp only; split) | (with_reducible refine kept_mk hw ?_ rfl rfl rfl rfl rfl))

theorem kept_abandonEntry {W s0} (hw : 2533687107651204 &&& W = 2533687107651204)  {s : State} {x1} {x2} (h : Kept W s0 s) : Kept W s0 (abandonEntry s x1 x2) := by
  unfold abandonEntry
  repeat (first
    | with_reducible assumption | (with_reducible refine kept_dropFetch (msub hw) ?_)
    | (with_reducible refine kept_staleRequests (msub hw) ?_))

theorem kept_retryWaiter {W s0} (hw : 38562544524592772 &&& W = 38562544524592772)  {s : State} {x1} (h : Kept W s0 s) : Kept W s0 (retryWaiter s x1) := by
  unfold retryWaiter
  repeat (first
    | with_reducible assumption | (with_reducible refine kept_dropWaiter (msub hw) ?_)
    | (with_reducible refine kept_tryFetchBuffer (msub hw) ?_) | (with_reducible refine kept_trySendPartial (msub hw) ?_)
    | (with_reducible refine kept_trySendPending (msub hw) ?_) | (with_reducible refine kept_trySendShips (msub hw) ?_)
    | with_reducible apply kept_ite | with_reducible apply kept_ite_snd | split | (dsimp only; split)
    | (with_reducible refine kept_mk hw ?_ rfl rfl rfl rfl rfl))

theorem kept_effPoolWaitRetry {W s0} (hw : 38562544524592772 &&& W = 38562544524592772)  {s : State}  (h : Kept W s0 s) : Kept W s0 (effPoolWaitRetry s) := by
  unfold effPoolWaitRetry
  repeat (first
    | with_reducible assumption | (with_reducible refine kept_retryWaiter (msub hw) ?_) | with_reducible apply kept_foldl
    | (with_reducible intro _))

end Sys2Proof.Laws
end

