-- ==== Sys2Proof/Laws/KeptMirror.lean ====
section
/-! SUPPORT. What the definitions of Machine/Mirror.lean keep (Laws/KeptBase.lean). -/

namespace Sys2Proof.Laws

open Sys2Proof Sys2Proof.Machine

set_option linter.all false
set_option Elab.async false

theorem kept_modTan {W s0} (hw : 17179869184 &&& W = 17179869184)  {s : State} {x1} {x2} (h : Kept W s0 s) : Kept W s0 (modTan s x1 x2) := by
  unfold modTan
  repeat (first
    | with_reducible assumption | (with_reducible refine kept_modSlot ?_ ?_) | (with_reducible exact sold_refl)
    | with_reducible apply sold_ite | (with_reducible intro _)
    | (with_reducible refine kept_mk hw ?_ rfl rfl rfl rfl rfl) | (with_reducible refine sold_mk hw ?_))

theorem kept_modStep {W s0} (hw : 8589934592 &&& W = 8589934592)  {s : State} {x1} {x2} (h : Kept W s0 s) : Kept W s0 (modStep s x1 x2) := by
  unfold modStep
  repeat (first
    | with_reducible assumption | (with_reducible refine kept_modSlot ?_ ?_) | (with_reducible exact sold_refl)
    | with_reducible apply sold_ite | (with_reducible intro _)
    | (with_reducible refine kept_mk hw ?_ rfl rfl rfl rfl rfl) | (with_reducible refine sold_mk hw ?_))

theorem kept_requestResync {W s0} (hw : 1024 &&& W = 1024)  {s : State} {x1} (h : Kept W s0 s) : Kept W s0 (requestResync s x1) := by
  unfold requestResync
  repeat (first
    | with_reducible assumption | (with_reducible refine kept_slotLinkCtrl (msub hw) ?_) | with_reducible apply kept_ite
    | with_reducible apply kept_ite_snd | split | (dsimp only; split)
    | (with_reducible refine kept_mk hw ?_ rfl rfl rfl rfl rfl))

theorem kept_refuseRestore {W s0} (hw : 1024 &&& W = 1024)  {s : State} {x1} {x2} (h : Kept W s0 s) : Kept W s0 (refuseRestore s x1 x2) := by
  unfold refuseRestore
  repeat (first
    | with_reducible assumption | (with_reducible refine kept_slotLinkCtrl (msub hw) ?_) | split | (dsimp only; split)
    | (with_reducible refine kept_mk hw ?_ rfl rfl rfl rfl rfl))

theorem kept_settleRestores {W s0} (hw : 17179870208 &&& W = 17179870208)  {s : State} {x1} (h : Kept W s0 s) : Kept W s0 (settleRestores s x1) := by
  unfold settleRestores
  repeat (first
    | with_reducible assumption | (with_reducible refine kept_modTan (msub hw) ?_)
    | (with_reducible refine kept_refuseRestore (msub hw) ?_) | with_reducible apply kept_foldl
    | (with_reducible intro _) | split | (dsimp only; split) | (with_reducible refine kept_mk hw ?_ rfl rfl rfl rfl rfl))

theorem kept_breakMirror {W s0} (hw : 2251816993948804 &&& W = 2251816993948804)  {s : State} {x1} {x2} (h : Kept W s0 s) : Kept W s0 (breakMirror s x1 x2) := by
  unfold breakMirror
  repeat (first
    | with_reducible assumption | (with_reducible refine kept_modTan (msub hw) ?_)
    | (with_reducible refine kept_postEvent (msub hw) ?_) | (with_reducible refine kept_ownIncident (msub hw) ?_)
    | (with_reducible refine kept_settleRestores (msub hw) ?_) | (with_reducible refine kept_requestResync (msub hw) ?_)
    | (with_reducible intro _) | (with_reducible refine kept_mk hw ?_ rfl rfl rfl rfl rfl))

theorem kept_reportMismatch {W s0} (hw : 110690306250118788 &&& W = 110690306250118788)  {s : State} {x1} {x2} (h : Kept W s0 s) : Kept W s0 (reportMismatch s x1 x2) := by
  unfold reportMismatch
  repeat (first
    | with_reducible assumption | (with_reducible refine kept_raiseAbort (msub hw) ?_) | split | (dsimp only; split))

theorem kept_judgePartner {W s0} (hw : 110690306250118788 &&& W = 110690306250118788)  {s : State} {x1} (h : Kept W s0 s) : Kept W s0 (judgePartner s x1) := by
  unfold judgePartner
  repeat (first
    | with_reducible assumption | (with_reducible refine kept_reportMismatch (msub hw) ?_)
    | (with_reducible refine kept_modStep (msub hw) ?_) | with_reducible apply kept_ite
    | with_reducible apply kept_ite_snd | (with_reducible intro _) | split | (dsimp only; split)
    | (with_reducible refine kept_mk hw ?_ rfl rfl rfl rfl rfl))

theorem kept_judgeSegment {W s0} (hw : 110690306250118788 &&& W = 110690306250118788)  {s : State} {x1} {x2} (h : Kept W s0 s) : Kept W s0 (judgeSegment s x1 x2) := by
  unfold judgeSegment
  repeat (first
    | with_reducible assumption | (with_reducible refine kept_modSeg (msub hw) ?_)
    | (with_reducible refine kept_reportMismatch (msub hw) ?_) | with_reducible apply kept_ite
    | with_reducible apply kept_ite_snd | (with_reducible intro _) | split | (dsimp only; split)
    | (with_reducible refine kept_mk hw ?_ rfl rfl rfl rfl rfl))

theorem kept_judgeReports {W s0} (hw : 110690306250118788 &&& W = 110690306250118788)  {s : State} {x1} (h : Kept W s0 s) : Kept W s0 (judgeReports s x1) := by
  unfold judgeReports
  repeat (first
    | with_reducible assumption | (with_reducible refine kept_judgePartner (msub hw) ?_)
    | (with_reducible refine kept_judgeSegment (msub hw) ?_) | with_reducible apply kept_foldl | (with_reducible intro _))

theorem kept_stateTaken {W s0} (hw : 281474976711680 &&& W = 281474976711680)  {s : State} {x1} {x2} (h : Kept W s0 s) : Kept W s0 (stateTaken s x1 x2) := by
  unfold stateTaken
  repeat (first
    | with_reducible assumption | (with_reducible refine kept_releaseChain (msub hw) ?_))

theorem kept_stateDropped {W s0} (hw : 110690581136414596 &&& W = 110690581136414596)  {s : State} {x1} {x2} {x3} (h : Kept W s0 s) : Kept W s0 (stateDropped s x1 x2 x3) := by
  unfold stateDropped
  repeat (first
    | with_reducible assumption | (with_reducible refine kept_dropLate (msub hw) ?_))

theorem kept_writePending {W s0} (hw : 110690306250135172 &&& W = 110690306250135172)  {s : State} {x1} {x2} (h : Kept W s0 s) : Kept W s0 (writePending s x1 x2) := by
  unfold writePending
  repeat (first
    | with_reducible assumption | (with_reducible refine kept_chunkWrite (msub hw) ?_)
    | (with_reducible refine kept_modTan (msub hw) ?_) | (with_reducible refine kept_judgePartner (msub hw) ?_)
    | (with_reducible refine kept_stateTaken (msub hw) ?_) | (with_reducible intro _)
    | (with_reducible refine kept_mk hw ?_ rfl rfl rfl rfl rfl))

theorem kept_writeStateEmem {W s0} (hw : 110690306250118788 &&& W = 110690306250118788)  {s : State} {x1} {x2} (h : Kept W s0 s) : Kept W s0 (writeStateEmem s x1 x2) := by
  unfold writeStateEmem
  repeat (first
    | with_reducible assumption | (with_reducible refine kept_modTan (msub hw) ?_)
    | (with_reducible refine kept_judgePartner (msub hw) ?_) | (with_reducible refine kept_stateTaken (msub hw) ?_)
    | with_reducible apply kept_ite | with_reducible apply kept_ite_snd | (with_reducible intro _) | split
    | (dsimp only; split) | (with_reducible refine kept_mk hw ?_ rfl rfl rfl rfl rfl))

theorem kept_holdShip {W s0} (hw : 110690306250118788 &&& W = 110690306250118788)  {s : State} {x1} {x2} (h : Kept W s0 s) : Kept W s0 (holdShip s x1 x2) := by
  unfold holdShip
  repeat (first
    | with_reducible assumption | (with_reducible refine kept_stateTaken (msub hw) ?_)
    | (with_reducible refine kept_raiseAbort (msub hw) ?_) | (with_reducible refine kept_modTan (msub hw) ?_)
    | with_reducible apply kept_ite | with_reducible apply kept_ite_snd | (with_reducible intro _) | split
    | (dsimp only; split) | (with_reducible refine kept_mk hw ?_ rfl rfl rfl rfl rfl))

theorem kept_takePartnerReport {W s0} (hw : 110690581136414596 &&& W = 110690581136414596)  {s : State} {x1} {x2} (h : Kept W s0 s) : Kept W s0 (takePartnerReport s x1 x2) := by
  unfold takePartnerReport
  repeat (first
    | with_reducible assumption | (with_reducible refine kept_modStep (msub hw) ?_)
    | (with_reducible refine kept_judgePartner (msub hw) ?_) | (with_reducible refine kept_stateTaken (msub hw) ?_)
    | (with_reducible refine kept_stateDropped (msub hw) ?_) | (with_reducible refine kept_reportMismatch (msub hw) ?_)
    | with_reducible apply kept_ite | with_reducible apply kept_ite_snd | (with_reducible intro _) | split
    | (dsimp only; split) | (with_reducible refine kept_mk hw ?_ rfl rfl rfl rfl rfl))

theorem kept_takeSegmentReport {W s0} (hw : 110690581136414596 &&& W = 110690581136414596)  {s : State} {x1} {x2} (h : Kept W s0 s) : Kept W s0 (takeSegmentReport s x1 x2) := by
  unfold takeSegmentReport
  repeat (first
    | with_reducible assumption | (with_reducible refine kept_modStep (msub hw) ?_)
    | (with_reducible refine kept_judgeSegment (msub hw) ?_) | (with_reducible refine kept_modSeg (msub hw) ?_)
    | (with_reducible refine kept_stateTaken (msub hw) ?_) | (with_reducible refine kept_stateDropped (msub hw) ?_)
    | (with_reducible refine kept_reportMismatch (msub hw) ?_) | with_reducible apply kept_ite
    | with_reducible apply kept_ite_snd | (with_reducible intro _) | split | (dsimp only; split)
    | (with_reducible refine kept_mk hw ?_ rfl rfl rfl rfl rfl))

theorem kept_writeRestore {W s0} (hw : 110690581136430980 &&& W = 110690581136430980)  {s : State} {x1} {x2} (h : Kept W s0 s) : Kept W s0 (writeRestore s x1 x2) := by
  unfold writeRestore
  repeat (first
    | with_reducible assumption | (with_reducible refine kept_stateDropped (msub hw) ?_)
    | (with_reducible refine kept_stateTaken (msub hw) ?_) | (with_reducible refine kept_chunkWrite (msub hw) ?_)
    | (with_reducible refine kept_modTan (msub hw) ?_) | with_reducible apply kept_ite
    | with_reducible apply kept_ite_snd | (with_reducible intro _) | split | (dsimp only; split)
    | (with_reducible refine kept_mk hw ?_ rfl rfl rfl rfl rfl))

theorem kept_mirrorSynced {W s0} (hw : 17179870340 &&& W = 17179870340)  {s : State} {x1} {x2} (h : Kept W s0 s) : Kept W s0 (mirrorSynced s x1 x2) := by
  unfold mirrorSynced
  repeat (first
    | with_reducible assumption | (with_reducible refine kept_modSlot ?_ ?_)
    | (with_reducible refine kept_settleRestores (msub hw) ?_) | (with_reducible refine kept_postEvent (msub hw) ?_)
    | (with_reducible exact sold_refl) | with_reducible apply sold_ite | (with_reducible intro _)
    | (with_reducible refine kept_mk hw ?_ rfl rfl rfl rfl rfl) | (with_reducible refine sold_mk hw ?_))

theorem kept_mirrorResync {W s0} (hw : 17179886724 &&& W = 17179886724)  {s : State} {x1} {x2} (h : Kept W s0 s) : Kept W s0 (mirrorResync s x1 x2) := by
  unfold mirrorResync
  repeat (first
    | with_reducible assumption | (with_reducible refine kept_chunkWrite (msub hw) ?_)
    | (with_reducible refine kept_modTan (msub hw) ?_) | (with_reducible refine kept_mirrorSynced (msub hw) ?_)
    | with_reducible apply kept_ite | with_reducible apply kept_ite_snd | (with_reducible intro _) | split
    | (dsimp only; split) | (with_reducible refine kept_mk hw ?_ rfl rfl rfl rfl rfl))

theorem kept_writeResync {W s0} (hw : 281500746531972 &&& W = 281500746531972)  {s : State} {x1} {x2} (h : Kept W s0 s) : Kept W s0 (writeResync s x1 x2) := by
  unfold writeResync
  repeat (first
    | with_reducible assumption | (with_reducible refine kept_stateTaken (msub hw) ?_)
    | (with_reducible refine kept_chunkWrite (msub hw) ?_) | (with_reducible refine kept_modSlot ?_ ?_)
    | (with_reducible refine kept_postEvent (msub hw) ?_) | (with_reducible refine kept_modTan (msub hw) ?_)
    | (with_reducible refine kept_mirrorResync (msub hw) ?_) | (with_reducible exact sold_refl)
    | with_reducible apply sold_ite | (with_reducible intro _) | with_reducible apply kept_ite
    | with_reducible apply kept_ite_snd | split | (dsimp only; split)
    | (with_reducible refine kept_mk hw ?_ rfl rfl rfl rfl rfl) | (with_reducible refine sold_mk hw ?_))

theorem kept_writeResyncEmem {W s0} (hw : 281492425016320 &&& W = 281492425016320)  {s : State} {x1} {x2} (h : Kept W s0 s) : Kept W s0 (writeResyncEmem s x1 x2) := by
  unfold writeResyncEmem
  repeat (first
    | with_reducible assumption | (with_reducible refine kept_stateTaken (msub hw) ?_)
    | (with_reducible refine kept_modSlot ?_ ?_) | (with_reducible refine kept_modTan (msub hw) ?_)
    | (with_reducible exact sold_refl) | with_reducible apply sold_ite | (with_reducible intro _)
    | with_reducible apply kept_ite | with_reducible apply kept_ite_snd | split | (dsimp only; split)
    | (with_reducible refine kept_mk hw ?_ rfl rfl rfl rfl rfl) | (with_reducible refine sold_mk hw ?_))

theorem kept_takeState {W s0} (hw : 110690581404866436 &&& W = 110690581404866436)  {s : State} {x1} {x2} (h : Kept W s0 s) : Kept W s0 (takeState s x1 x2) := by
  unfold takeState
  repeat (first
    | with_reducible assumption | (with_reducible refine kept_modTan (msub hw) ?_)
    | (with_reducible refine kept_stateDropped (msub hw) ?_) | (with_reducible refine kept_writeRestore (msub hw) ?_)
    | (with_reducible refine kept_writeResync (msub hw) ?_) | (with_reducible refine kept_writeResyncEmem (msub hw) ?_)
    | (with_reducible refine kept_modStep (msub hw) ?_) | (with_reducible refine kept_writePending (msub hw) ?_)
    | (with_reducible refine kept_writeStateEmem (msub hw) ?_) | (with_reducible refine kept_holdShip (msub hw) ?_)
    | (with_reducible refine kept_takePartnerReport (msub hw) ?_)
    | (with_reducible refine kept_takeSegmentReport (msub hw) ?_) | with_reducible apply kept_ite
    | with_reducible apply kept_ite_snd | (with_reducible intro _) | split | (dsimp only; split)
    | (with_reducible refine kept_mk hw ?_ rfl rfl rfl rfl rfl))

theorem kept_rejudgeHeld {W s0} (hw : 110690581404866436 &&& W = 110690581404866436)  {s : State} {x1} (h : Kept W s0 s) : Kept W s0 (rejudgeHeld s x1) := by
  unfold rejudgeHeld
  repeat (first
    | with_reducible assumption | (with_reducible refine kept_modTan (msub hw) ?_)
    | (with_reducible refine kept_takeState (msub hw) ?_) | with_reducible apply kept_foldl | (with_reducible intro _)
    | (with_reducible refine kept_mk hw ?_ rfl rfl rfl rfl rfl))

theorem kept_armHeld {W s0} (hw : 110690581404866436 &&& W = 110690581404866436)  {s : State} {x1} (h : Kept W s0 s) : Kept W s0 (armHeld s x1) := by
  unfold armHeld
  repeat (first
    | with_reducible assumption | (with_reducible refine kept_modTan (msub hw) ?_)
    | (with_reducible refine kept_takeState (msub hw) ?_) | (with_reducible refine kept_stateTaken (msub hw) ?_)
    | with_reducible apply kept_ite | with_reducible apply kept_ite_snd | with_reducible apply kept_foldl
    | (with_reducible intro _) | split | (dsimp only; split) | (with_reducible refine kept_mk hw ?_ rfl rfl rfl rfl rfl))

theorem kept_endPass {W s0} (hw : 110690581404866436 &&& W = 110690581404866436)  {s : State} {x1} (h : Kept W s0 s) : Kept W s0 (endPass s x1) := by
  unfold endPass
  repeat (first
    | with_reducible assumption | (with_reducible refine kept_modTan (msub hw) ?_)
    | (with_reducible refine kept_breakMirror (msub hw) ?_) | (with_reducible refine kept_settleRestores (msub hw) ?_)
    | (with_reducible refine kept_rejudgeHeld (msub hw) ?_) | with_reducible apply kept_ite
    | with_reducible apply kept_ite_snd | (with_reducible intro _) | split | (dsimp only; split)
    | (with_reducible refine kept_mk hw ?_ rfl rfl rfl rfl rfl))

theorem kept_failPass {W s0} (hw : 110690581404866436 &&& W = 110690581404866436)  {s : State} {x1} {x2} (h : Kept W s0 s) : Kept W s0 (failPass s x1 x2) := by
  unfold failPass
  repeat (first
    | with_reducible assumption | (with_reducible refine kept_modTan (msub hw) ?_)
    | (with_reducible refine kept_settleRestores (msub hw) ?_) | (with_reducible refine kept_rejudgeHeld (msub hw) ?_)
    | (with_reducible refine kept_breakMirror (msub hw) ?_) | (with_reducible intro _)
    | (with_reducible refine kept_mk hw ?_ rfl rfl rfl rfl rfl))

theorem kept_stateFrame {W s0} (hw : 111816481311709060 &&& W = 111816481311709060)  {s : State} {x0} {x1} (h : Kept W s0 s) : Kept W s0 (stateFrame x0 x1 s) := by
  unfold stateFrame
  repeat (first
    | with_reducible assumption | (with_reducible refine kept_admitFrame (msub hw) ?_)
    | (with_reducible refine kept_admitFrame' (msub hw) (by assumption) ?_)
    | (with_reducible refine kept_takeState (msub hw) ?_) | with_reducible apply kept_ite
    | with_reducible apply kept_ite_snd | split | (dsimp only; split)
    | (with_reducible refine kept_mk hw ?_ rfl rfl rfl rfl rfl))

theorem kept_effStatePending {W s0} (hw : 111816481311709060 &&& W = 111816481311709060)  {s : State} {x0} (h : Kept W s0 s) : Kept W s0 (effStatePending x0 s) := by
  unfold effStatePending
  repeat (first
    | with_reducible assumption | (with_reducible refine kept_stateFrame (msub hw) ?_) | (with_reducible intro _))

theorem kept_effStateEmem {W s0} (hw : 111816481311709060 &&& W = 111816481311709060)  {s : State} {x0} (h : Kept W s0 s) : Kept W s0 (effStateEmem x0 s) := by
  unfold effStateEmem
  repeat (first
    | with_reducible assumption | (with_reducible refine kept_stateFrame (msub hw) ?_))

theorem kept_effStateShip {W s0} (hw : 111816481311709060 &&& W = 111816481311709060)  {s : State} {x0} (h : Kept W s0 s) : Kept W s0 (effStateShip x0 s) := by
  unfold effStateShip
  repeat (first
    | with_reducible assumption | (with_reducible refine kept_stateFrame (msub hw) ?_))

theorem kept_effStateRestore {W s0} (hw : 111816481311709060 &&& W = 111816481311709060)  {s : State} {x0} (h : Kept W s0 s) : Kept W s0 (effStateRestore x0 s) := by
  unfold effStateRestore
  repeat (first
    | with_reducible assumption | (with_reducible refine kept_stateFrame (msub hw) ?_))

theorem kept_effStateResync {W s0} (hw : 111816481311709060 &&& W = 111816481311709060)  {s : State} {x0} (h : Kept W s0 s) : Kept W s0 (effStateResync x0 s) := by
  unfold effStateResync
  repeat (first
    | with_reducible assumption | (with_reducible refine kept_stateFrame (msub hw) ?_))

theorem kept_effStateResyncEmem {W s0} (hw : 111816481311709060 &&& W = 111816481311709060)  {s : State} {x0} (h : Kept W s0 s) : Kept W s0 (effStateResyncEmem x0 s) := by
  unfold effStateResyncEmem
  repeat (first
    | with_reducible assumption | (with_reducible refine kept_stateFrame (msub hw) ?_))

theorem kept_effPartnerReport {W s0} (hw : 111816481311709060 &&& W = 111816481311709060)  {s : State} {x0} (h : Kept W s0 s) : Kept W s0 (effPartnerReport x0 s) := by
  unfold effPartnerReport
  repeat (first
    | with_reducible assumption | (with_reducible refine kept_stateFrame (msub hw) ?_))

theorem kept_effSegmentReport {W s0} (hw : 111816481311709060 &&& W = 111816481311709060)  {s : State} {x0} (h : Kept W s0 s) : Kept W s0 (effSegmentReport x0 s) := by
  unfold effSegmentReport
  repeat (first
    | with_reducible assumption | (with_reducible refine kept_stateFrame (msub hw) ?_))

theorem kept_tandemRequest {W s0} (hw : 110690581136414596 &&& W = 110690581136414596)  {s : State} {x0} {x1} (h : Kept W s0 s) : Kept W s0 (tandemRequest x0 x1 s).2 := by
  unfold tandemRequest
  repeat (first
    | with_reducible assumption | (with_reducible refine kept_admitLink (msub hw) ?_)
    | (with_reducible refine kept_admitLink' (msub hw) (by assumption) ?_)
    | (with_reducible refine kept_dropFor (msub hw) ?_) | with_reducible apply kept_ite
    | with_reducible apply kept_ite_snd | split | (dsimp only; split)
    | (with_reducible refine kept_mk hw ?_ rfl rfl rfl rfl rfl))

theorem kept_tandemRequest' {W s0} (hw : 110690581136414596 &&& W = 110690581136414596)  {s s' : State} {y} {x0} {x1} (e : tandemRequest x0 x1 s = (y, s')) (h : Kept W s0 s) : Kept W s0 s' := by
  have k : Kept W s0 (tandemRequest x0 x1 s).2 := kept_tandemRequest hw h
  rw [e] at k
  exact k

theorem kept_effRestoreReq {W s0} (hw : 110690581136414596 &&& W = 110690581136414596)  {s : State} {x0} (h : Kept W s0 s) : Kept W s0 (effRestoreReq x0 s) := by
  unfold effRestoreReq
  repeat (first
    | with_reducible assumption | (with_reducible refine kept_tandemRequest (msub hw) ?_)
    | (with_reducible refine kept_tandemRequest' (msub hw) (by assumption) ?_)
    | (with_reducible refine kept_settleRestores (msub hw) ?_) | (with_reducible refine kept_modTan (msub hw) ?_)
    | with_reducible apply kept_ite | with_reducible apply kept_ite_snd | (with_reducible intro _) | split
    | (dsimp only; split) | (with_reducible refine kept_mk hw ?_ rfl rfl rfl rfl rfl))

theorem kept_effRestoreRowSend {W s0} (hw : 2533291970659972 &&& W = 2533291970659972)  {s : State} {x0} (h : Kept W s0 s) : Kept W s0 (effRestoreRowSend x0 s) := by
  unfold effRestoreRowSend
  repeat (first
    | with_reducible assumption | (with_reducible refine kept_settleRestores (msub hw) ?_)
    | (with_reducible refine kept_modTan (msub hw) ?_) | (with_reducible refine kept_poolRequest (msub hw) ?_)
    | (with_reducible refine kept_poolRequest' (msub hw) (by assumption) ?_)
    | (with_reducible refine kept_sendState (msub hw) ?_) | with_reducible apply kept_ite
    | with_reducible apply kept_ite_snd | (with_reducible intro _) | split | (dsimp only; split)
    | (with_reducible refine kept_mk hw ?_ rfl rfl rfl rfl rfl))

theorem kept_effRestoreRefuse {W s0} (hw : 110690581136414596 &&& W = 110690581136414596)  {s : State} {x0} (h : Kept W s0 s) : Kept W s0 (effRestoreRefuse x0 s) := by
  unfold effRestoreRefuse
  repeat (first
    | with_reducible assumption | (with_reducible refine kept_tandemRequest (msub hw) ?_)
    | (with_reducible refine kept_tandemRequest' (msub hw) (by assumption) ?_)
    | (with_reducible refine kept_loseSlot (msub hw) ?_) | with_reducible apply kept_ite
    | with_reducible apply kept_ite_snd | split | (dsimp only; split)
    | (with_reducible refine kept_mk hw ?_ rfl rfl rfl rfl rfl))

theorem kept_startResync {W s0} (hw : 17179869184 &&& W = 17179869184)  {s : State} {x1} {x2} {x3} (h : Kept W s0 s) : Kept W s0 (startResync s x1 x2 x3) := by
  unfold startResync
  repeat (first
    | with_reducible assumption | (with_reducible refine kept_modTan (msub hw) ?_) | with_reducible apply kept_ite
    | with_reducible apply kept_ite_snd | (with_reducible intro _) | split | (dsimp only; split)
    | (with_reducible refine kept_mk hw ?_ rfl rfl rfl rfl rfl))

theorem kept_effResyncReq {W s0} (hw : 110690581136414596 &&& W = 110690581136414596)  {s : State} {x0} (h : Kept W s0 s) : Kept W s0 (effResyncReq x0 s) := by
  unfold effResyncReq
  repeat (first
    | with_reducible assumption | (with_reducible refine kept_tandemRequest (msub hw) ?_)
    | (with_reducible refine kept_tandemRequest' (msub hw) (by assumption) ?_)
    | (with_reducible refine kept_startResync (msub hw) ?_) | with_reducible apply kept_ite
    | with_reducible apply kept_ite_snd | split | (dsimp only; split)
    | (with_reducible refine kept_mk hw ?_ rfl rfl rfl rfl rfl))

theorem kept_putResync {W s0} (hw : 17179869184 &&& W = 17179869184)  {s : State} {x1} {x2} {x3} (h : Kept W s0 s) : Kept W s0 (putResync s x1 x2 x3) := by
  unfold putResync
  repeat (first
    | with_reducible assumption | (with_reducible refine kept_modTan (msub hw) ?_) | with_reducible apply kept_ite
    | with_reducible apply kept_ite_snd | (with_reducible intro _) | split | (dsimp only; split)
    | (with_reducible refine kept_mk hw ?_ rfl rfl rfl rfl rfl))

theorem kept_finishResync {W s0} (hw : 17179869316 &&& W = 17179869316)  {s : State} {x1} {x2} (h : Kept W s0 s) : Kept W s0 (finishResync s x1 x2) := by
  unfold finishResync
  repeat (first
    | with_reducible assumption | (with_reducible refine kept_modTan (msub hw) ?_)
    | (with_reducible refine kept_postEvent (msub hw) ?_) | (with_reducible intro _)
    | (with_reducible refine kept_mk hw ?_ rfl rfl rfl rfl rfl))

theorem kept_effResyncRowSend {W s0} (hw : 2533291970659972 &&& W = 2533291970659972)  {s : State} {x0} (h : Kept W s0 s) : Kept W s0 (effResyncRowSend x0 s) := by
  unfold effResyncRowSend
  repeat (first
    | with_reducible assumption | (with_reducible refine kept_poolRequest (msub hw) ?_)
    | (with_reducible refine kept_poolRequest' (msub hw) (by assumption) ?_)
    | (with_reducible refine kept_putResync (msub hw) ?_) | (with_reducible refine kept_sendState (msub hw) ?_)
    | (with_reducible refine kept_finishResync (msub hw) ?_) | with_reducible apply kept_ite
    | with_reducible apply kept_ite_snd | split | (dsimp only; split)
    | (with_reducible refine kept_mk hw ?_ rfl rfl rfl rfl rfl))

end Sys2Proof.Laws
end

