-- ==== Sys2Proof/Laws/KeptSteps.lean ====
section
/-! SUPPORT. What the definitions of Machine/Steps.lean keep (Laws/KeptBase.lean). -/

namespace Sys2Proof.Laws

open Sys2Proof Sys2Proof.Machine

set_option linter.all false
set_option Elab.async false

theorem sold_glueSlot {W} (hw : 4503625665609728 &&& W = 4503625665609728) {a sl : Slot}  (h : SOld W a sl) : SOld W a (glueSlot sl) := by
  unfold glueSlot
  repeat (first
    | (with_reducible assumption) | (with_reducible exact sold_refl)
    | with_reducible apply sold_ite | split | (dsimp only; split) | (with_reducible refine sold_mk hw ?_))

theorem kept_effStepDone {W s0} (hw : 111816481043257220 &&& W = 111816481043257220)  {s : State} {x0} (h : Kept W s0 s) : Kept W s0 (effStepDone x0 s) := by
  unfold effStepDone
  repeat (first
    | with_reducible assumption | (with_reducible refine kept_admitFrame (msub hw) ?_)
    | (with_reducible refine kept_admitFrame' (msub hw) (by assumption) ?_)
    | (with_reducible refine kept_dropLate (msub hw) ?_) | (with_reducible refine kept_releaseChain (msub hw) ?_)
    | (with_reducible refine kept_modStep (msub hw) ?_) | (with_reducible intro _) | split | (dsimp only; split)
    | (with_reducible refine kept_mk hw ?_ rfl rfl rfl rfl rfl))

theorem kept_sendReport {W s0} (hw : 2533274790790788 &&& W = 2533274790790788)  {s : State} {x1} {x2} {x3} {x4} (h : Kept W s0 s) : Kept W s0 (sendReport s x1 x2 x3 x4) := by
  unfold sendReport
  repeat (first
    | with_reducible assumption | (with_reducible refine kept_poolRequest (msub hw) ?_)
    | (with_reducible refine kept_poolRequest' (msub hw) (by assumption) ?_)
    | (with_reducible refine kept_queueClass (msub hw) ?_) | (with_reducible refine kept_handBuf (msub hw) ?_)
    | (with_reducible refine kept_addWaiter (msub hw) ?_) | split | (dsimp only; split)
    | (with_reducible refine kept_mk hw ?_ rfl rfl rfl rfl rfl))

theorem kept_sendPartnerReport {W s0} (hw : 2533283380725380 &&& W = 2533283380725380)  {s : State} {x1} (h : Kept W s0 s) : Kept W s0 (sendPartnerReport s x1) := by
  unfold sendPartnerReport
  repeat (first
    | with_reducible assumption | (with_reducible refine kept_addWaiter (msub hw) ?_)
    | (with_reducible refine kept_sendReport (msub hw) ?_) | (with_reducible refine kept_dropWaiter (msub hw) ?_)
    | (with_reducible refine kept_modStep (msub hw) ?_) | with_reducible apply kept_ite
    | with_reducible apply kept_ite_snd | (with_reducible intro _) | split | (dsimp only; split)
    | (with_reducible refine kept_mk hw ?_ rfl rfl rfl rfl rfl))

theorem kept_sendSegmentReports {W s0} (hw : 2533283380725380 &&& W = 2533283380725380)  {s : State} {x1} (h : Kept W s0 s) : Kept W s0 (sendSegmentReports s x1) := by
  unfold sendSegmentReports
  repeat (first
    | with_reducible assumption | (with_reducible refine kept_addWaiter (msub hw) ?_)
    | (with_reducible refine kept_sendReport (msub hw) ?_) | (with_reducible refine kept_dropWaiter (msub hw) ?_)
    | (with_reducible refine kept_modSeg (msub hw) ?_) | with_reducible apply kept_ite
    | with_reducible apply kept_ite_snd | with_reducible apply kept_foldl | (with_reducible intro _) | split
    | (dsimp only; split) | (with_reducible refine kept_mk hw ?_ rfl rfl rfl rfl rfl))

theorem kept_effPartnerReportSend {W s0} (hw : 2533283380725380 &&& W = 2533283380725380)  {s : State} {x0} (h : Kept W s0 s) : Kept W s0 (effPartnerReportSend x0 s) := by
  unfold effPartnerReportSend
  repeat (first
    | with_reducible assumption | (with_reducible refine kept_sendSegmentReports (msub hw) ?_)
    | (with_reducible refine kept_sendPartnerReport (msub hw) ?_))

theorem kept_startPass {W s0} (hw : 17179885568 &&& W = 17179885568)  {s : State} {x1} (h : Kept W s0 s) : Kept W s0 (startPass s x1) := by
  unfold startPass
  repeat (first
    | with_reducible assumption | (with_reducible refine kept_modTan (msub hw) ?_)
    | (with_reducible refine kept_chunkWrite (msub hw) ?_) | with_reducible apply kept_ite
    | with_reducible apply kept_ite_snd | with_reducible apply kept_foldl | (with_reducible intro _) | split
    | (dsimp only; split) | (with_reducible refine kept_mk hw ?_ rfl rfl rfl rfl rfl))

theorem kept_glueUp {W s0} (hw : 4503625665627268 &&& W = 4503625665627268)  {s : State} {x1} (h : Kept W s0 s) : Kept W s0 (glueUp s x1) := by
  unfold glueUp
  repeat (first
    | with_reducible assumption | (with_reducible refine kept_modSlot ?_ ?_)
    | (with_reducible refine kept_slotLinkCtrl (msub hw) ?_) | (with_reducible refine kept_postEvent (msub hw) ?_)
    | (with_reducible refine kept_startPass (msub hw) ?_) | (with_reducible refine kept_startRestore (msub hw) ?_)
    | (with_reducible exact sold_refl) | (with_reducible refine sold_glueSlot (msub hw) ?_)
    | with_reducible apply sold_ite | (with_reducible intro _) | with_reducible apply kept_ite
    | with_reducible apply kept_ite_snd | with_reducible apply kept_foldl | split | (dsimp only; split)
    | (with_reducible refine sold_mk hw ?_))

theorem kept_loseDecision {W s0} (hw : 2251808404013188 &&& W = 2251808404013188)  {s : State} {x1} {x2} (h : Kept W s0 s) : Kept W s0 (loseDecision s x1 x2) := by
  unfold loseDecision
  repeat (first
    | with_reducible assumption | (with_reducible refine kept_modStep (msub hw) ?_)
    | (with_reducible refine kept_postEvent (msub hw) ?_) | (with_reducible refine kept_ownIncident (msub hw) ?_)
    | with_reducible apply kept_ite | with_reducible apply kept_ite_snd | (with_reducible intro _) | split
    | (dsimp only; split) | (with_reducible refine kept_mk hw ?_ rfl rfl rfl rfl rfl))

theorem kept_decideAbort {W s0} (hw : 110690306250118788 &&& W = 110690306250118788)  {s : State} {x1} {x2} {x3} (h : Kept W s0 s) : Kept W s0 (decideAbort s x1 x2 x3) := by
  unfold decideAbort
  repeat (first
    | with_reducible assumption | (with_reducible refine kept_spokeSendAll (msub hw) ?_)
    | (with_reducible refine kept_enterRollback (msub hw) ?_) | (with_reducible refine kept_reportAll (msub hw) ?_))

theorem kept_decideGlue {W s0} (hw : 4503625665631364 &&& W = 4503625665631364)  {s : State} {x1} (h : Kept W s0 s) : Kept W s0 (decideGlue s x1) := by
  unfold decideGlue
  repeat (first
    | with_reducible assumption | (with_reducible refine kept_spokeSendAll (msub hw) ?_)
    | (with_reducible refine kept_glueUp (msub hw) ?_) | (with_reducible refine kept_modStep (msub hw) ?_)
    | (with_reducible intro _) | (with_reducible refine kept_mk hw ?_ rfl rfl rfl rfl rfl))

theorem kept_tryReady {W s0} (hw : 115193906145941124 &&& W = 115193906145941124)  {s : State} {x1} (h : Kept W s0 s) : Kept W s0 (tryReady s x1) := by
  unfold tryReady
  repeat (first
    | with_reducible assumption | (with_reducible refine kept_decideAbort (msub hw) ?_)
    | (with_reducible refine kept_decideGlue (msub hw) ?_) | (with_reducible refine kept_spokeSend (msub hw) ?_)
    | (with_reducible refine kept_modStep (msub hw) ?_) | with_reducible apply kept_ite
    | with_reducible apply kept_ite_snd | with_reducible apply kept_foldl | (with_reducible intro _) | split
    | (dsimp only; split) | (with_reducible refine kept_mk hw ?_ rfl rfl rfl rfl rfl))

theorem kept_effStepSeal {W s0} (hw : 115193906145941124 &&& W = 115193906145941124)  {s : State} {x0} (h : Kept W s0 s) : Kept W s0 (effStepSeal x0 s) := by
  unfold effStepSeal
  repeat (first
    | with_reducible assumption | (with_reducible refine kept_judgeReports (msub hw) ?_)
    | (with_reducible refine kept_raiseAbort (msub hw) ?_) | (with_reducible refine kept_modStep (msub hw) ?_)
    | (with_reducible refine kept_loseDecision (msub hw) ?_) | (with_reducible refine kept_tryReady (msub hw) ?_)
    | with_reducible apply kept_ite | with_reducible apply kept_ite_snd | (with_reducible intro _) | split
    | (dsimp only; split) | (with_reducible refine kept_mk hw ?_ rfl rfl rfl rfl rfl))

theorem kept_effStepDeadline {W s0} (hw : 110690306250118790 &&& W = 110690306250118790)  {s : State} {x0} (h : Kept W s0 s) : Kept W s0 (effStepDeadline x0 s) := by
  unfold effStepDeadline
  repeat (first
    | with_reducible assumption | (with_reducible refine kept_timeTo (msub hw) ?_)
    | (with_reducible refine kept_raiseAbort (msub hw) ?_) | with_reducible apply kept_ite
    | with_reducible apply kept_ite_snd | split | (dsimp only; split))

theorem kept_effRootDeadline {W s0} (hw : 110690306250118790 &&& W = 110690306250118790)  {s : State} {x0} (h : Kept W s0 s) : Kept W s0 (effRootDeadline x0 s) := by
  unfold effRootDeadline
  repeat (first
    | with_reducible assumption | (with_reducible refine kept_timeTo (msub hw) ?_)
    | (with_reducible refine kept_decideAbort (msub hw) ?_) | with_reducible apply kept_ite
    | with_reducible apply kept_ite_snd | split | (dsimp only; split)
    | (with_reducible refine kept_mk hw ?_ rfl rfl rfl rfl rfl))

theorem kept_takeControl {W s0} (hw : 4096 &&& W = 4096)  {s : State} {x0} {x1} {x2} (h : Kept W s0 s) : Kept W s0 (takeControl x0 x1 x2 s).2 := by
  unfold takeControl
  repeat (first
    | with_reducible assumption | (with_reducible refine kept_spokeTake (msub hw) ?_)
    | (with_reducible refine kept_spokeTake' (msub hw) (by assumption) ?_)
    | (with_reducible refine kept_modSpoke (msub hw) ?_) | with_reducible apply kept_ite
    | with_reducible apply kept_ite_snd | (with_reducible intro _) | split | (dsimp only; split)
    | (with_reducible refine kept_mk hw ?_ rfl rfl rfl rfl rfl))

theorem kept_takeControl' {W s0} (hw : 4096 &&& W = 4096)  {s s' : State} {y} {x0} {x1} {x2} (e : takeControl x0 x1 x2 s = (y, s')) (h : Kept W s0 s) : Kept W s0 s' := by
  have k : Kept W s0 (takeControl x0 x1 x2 s).2 := kept_takeControl hw h
  rw [e] at k
  exact k

theorem kept_forwardControl {W s0} (hw : 4100 &&& W = 4100)  {s : State} {x1} {x2} {x3} {x4} (h : Kept W s0 s) : Kept W s0 (forwardControl s x1 x2 x3 x4) := by
  unfold forwardControl
  repeat (first
    | with_reducible assumption | (with_reducible refine kept_spokeSendAll (msub hw) ?_) | (with_reducible intro _))

theorem kept_relayReady {W s0} (hw : 8589938692 &&& W = 8589938692)  {s : State} {x1} {x2} {x3} {x4} (h : Kept W s0 s) : Kept W s0 (relayReady s x1 x2 x3 x4) := by
  unfold relayReady
  repeat (first
    | with_reducible assumption | (with_reducible refine kept_spokeSend (msub hw) ?_)
    | (with_reducible refine kept_modStep (msub hw) ?_) | with_reducible apply kept_ite
    | with_reducible apply kept_ite_snd | with_reducible apply kept_foldl | (with_reducible intro _) | split
    | (dsimp only; split) | (with_reducible refine kept_mk hw ?_ rfl rfl rfl rfl rfl))

theorem kept_effReadySeq {W s0} (hw : 115193906145941124 &&& W = 115193906145941124)  {s : State} {x0} (h : Kept W s0 s) : Kept W s0 (effReadySeq x0 s) := by
  unfold effReadySeq
  repeat (first
    | with_reducible assumption | (with_reducible refine kept_takeControl (msub hw) ?_)
    | (with_reducible refine kept_takeControl' (msub hw) (by assumption) ?_)
    | (with_reducible refine kept_modStep (msub hw) ?_) | (with_reducible refine kept_relayReady (msub hw) ?_)
    | (with_reducible refine kept_tryReady (msub hw) ?_) | with_reducible apply kept_ite
    | with_reducible apply kept_ite_snd | (with_reducible intro _) | split | (dsimp only; split)
    | (with_reducible refine kept_mk hw ?_ rfl rfl rfl rfl rfl))

theorem kept_staleDecision {W s0} (hw : 2251808404013188 &&& W = 2251808404013188)  {s : State} {x1} {x2} (h : Kept W s0 s) : Kept W s0 (staleDecision s x1 x2) := by
  unfold staleDecision
  repeat (first
    | with_reducible assumption | (with_reducible refine kept_modStep (msub hw) ?_)
    | (with_reducible refine kept_ownIncident (msub hw) ?_) | with_reducible apply kept_ite
    | with_reducible apply kept_ite_snd | (with_reducible intro _) | split | (dsimp only; split)
    | (with_reducible refine kept_mk hw ?_ rfl rfl rfl rfl rfl))

theorem kept_takeGlue {W s0} (hw : 6755425479705732 &&& W = 6755425479705732)  {s : State} {x1} {x2} {x3} (h : Kept W s0 s) : Kept W s0 (takeGlue s x1 x2 x3) := by
  unfold takeGlue
  repeat (first
    | with_reducible assumption | (with_reducible refine kept_glueUp (msub hw) ?_)
    | (with_reducible refine kept_staleDecision (msub hw) ?_) | with_reducible apply kept_ite
    | with_reducible apply kept_ite_snd | split | (dsimp only; split))

theorem kept_takeAbort {W s0} (hw : 110690306250114692 &&& W = 110690306250114692)  {s : State} {x1} {x2} {x3} {x4} {x5} (h : Kept W s0 s) : Kept W s0 (takeAbort s x1 x2 x3 x4 x5) := by
  unfold takeAbort
  repeat (first
    | with_reducible assumption | (with_reducible refine kept_enterRollback (msub hw) ?_)
    | (with_reducible refine kept_staleDecision (msub hw) ?_) | with_reducible apply kept_ite
    | with_reducible apply kept_ite_snd | split | (dsimp only; split))

theorem kept_effGlueSeq {W s0} (hw : 6755425479709828 &&& W = 6755425479709828)  {s : State} {x0} (h : Kept W s0 s) : Kept W s0 (effGlueSeq x0 s) := by
  unfold effGlueSeq
  repeat (first
    | with_reducible assumption | (with_reducible refine kept_takeControl (msub hw) ?_)
    | (with_reducible refine kept_takeControl' (msub hw) (by assumption) ?_)
    | (with_reducible refine kept_forwardControl (msub hw) ?_) | (with_reducible refine kept_takeGlue (msub hw) ?_)
    | with_reducible apply kept_ite | with_reducible apply kept_ite_snd | split | (dsimp only; split)
    | (with_reducible refine kept_mk hw ?_ rfl rfl rfl rfl rfl))

theorem kept_effAbortSeq {W s0} (hw : 110690306250118788 &&& W = 110690306250118788)  {s : State} {x0} (h : Kept W s0 s) : Kept W s0 (effAbortSeq x0 s) := by
  unfold effAbortSeq
  repeat (first
    | with_reducible assumption | (with_reducible refine kept_takeControl (msub hw) ?_)
    | (with_reducible refine kept_takeControl' (msub hw) (by assumption) ?_)
    | (with_reducible refine kept_forwardControl (msub hw) ?_) | (with_reducible refine kept_takeAbort (msub hw) ?_)
    | with_reducible apply kept_ite | with_reducible apply kept_ite_snd | split | (dsimp only; split)
    | (with_reducible refine kept_mk hw ?_ rfl rfl rfl rfl rfl))

theorem kept_effRollbackCleared {W s0} (hw : 8589934592 &&& W = 8589934592)  {s : State} {x0} (h : Kept W s0 s) : Kept W s0 (effRollbackCleared x0 s) := by
  unfold effRollbackCleared
  repeat (first
    | with_reducible assumption | (with_reducible refine kept_modStep (msub hw) ?_) | with_reducible apply kept_ite
    | with_reducible apply kept_ite_snd | (with_reducible intro _) | split | (dsimp only; split)
    | (with_reducible refine kept_mk hw ?_ rfl rfl rfl rfl rfl))

theorem kept_partnerLeft {W s0} (hw : 17179869316 &&& W = 17179869316)  {s : State} {x1} {x2} (h : Kept W s0 s) : Kept W s0 (partnerLeft s x1 x2) := by
  unfold partnerLeft
  repeat (first
    | with_reducible assumption | (with_reducible refine kept_modTan (msub hw) ?_)
    | (with_reducible refine kept_loseSlot (msub hw) ?_) | with_reducible apply kept_ite
    | with_reducible apply kept_ite_snd | (with_reducible intro _) | split | (dsimp only; split)
    | (with_reducible refine kept_mk hw ?_ rfl rfl rfl rfl rfl))

theorem kept_leaveAbort {W s0} (hw : 110690306250118788 &&& W = 110690306250118788)  {s : State} {x1} {x2} (h : Kept W s0 s) : Kept W s0 (leaveAbort s x1 x2) := by
  unfold leaveAbort
  repeat (first
    | with_reducible assumption | (with_reducible refine kept_raiseAbort (msub hw) ?_)
    | (with_reducible refine kept_decideAbort (msub hw) ?_) | with_reducible apply kept_ite
    | with_reducible apply kept_ite_snd | split | (dsimp only; split))

theorem kept_takeLeaveEntry {W s0} (hw : 115193906145941124 &&& W = 115193906145941124)  {s : State} {x1} {x2} {x3} (h : Kept W s0 s) : Kept W s0 (takeLeaveEntry s x1 x2 x3) := by
  unfold takeLeaveEntry
  repeat (first
    | with_reducible assumption | (with_reducible refine kept_partnerLeft (msub hw) ?_)
    | (with_reducible refine kept_takeGlue (msub hw) ?_) | (with_reducible refine kept_forwardControl (msub hw) ?_)
    | (with_reducible refine kept_takeAbort (msub hw) ?_) | (with_reducible refine kept_leaveAbort (msub hw) ?_)
    | (with_reducible refine kept_loseDecision (msub hw) ?_) | with_reducible apply kept_ite
    | with_reducible apply kept_ite_snd | split | (dsimp only; split)
    | (with_reducible refine kept_mk hw ?_ rfl rfl rfl rfl rfl))

theorem kept_effLeaveSeq {W s0} (hw : 115193906145941124 &&& W = 115193906145941124)  {s : State} {x0} (h : Kept W s0 s) : Kept W s0 (effLeaveSeq x0 s) := by
  unfold effLeaveSeq
  repeat (first
    | with_reducible assumption | (with_reducible refine kept_spokeTake (msub hw) ?_)
    | (with_reducible refine kept_spokeTake' (msub hw) (by assumption) ?_)
    | (with_reducible refine kept_takeLeaveEntry (msub hw) ?_) | with_reducible apply kept_ite
    | with_reducible apply kept_ite_snd | with_reducible apply kept_foldl | (with_reducible intro _) | split
    | (dsimp only; split) | (with_reducible refine kept_mk hw ?_ rfl rfl rfl rfl rfl))

theorem kept_sendLeave {W s0} (hw : 4100 &&& W = 4100)  {s : State} {x1} (h : Kept W s0 s) : Kept W s0 (sendLeave s x1) := by
  unfold sendLeave
  repeat (first
    | with_reducible assumption | (with_reducible refine kept_spokeSendAll (msub hw) ?_) | (with_reducible intro _))

theorem kept_drainSlot {W s0} (hw : 110690308601026180 &&& W = 110690308601026180)  {s : State} {x1} (h : Kept W s0 s) : Kept W s0 (drainSlot s x1) := by
  unfold drainSlot
  repeat (first
    | with_reducible assumption | (with_reducible refine kept_raiseAbort (msub hw) ?_)
    | (with_reducible refine kept_dropFrameBufs (msub hw) ?_) | (with_reducible refine kept_modTx (msub hw) ?_)
    | (with_reducible refine kept_releaseParked (msub hw) ?_) | (with_reducible refine kept_dropSlotWaiters (msub hw) ?_)
    | (with_reducible refine kept_releaseHeld (msub hw) ?_) | (with_reducible refine kept_abandonFetch (msub hw) ?_)
    | (with_reducible refine kept_modSlot ?_ ?_) | (with_reducible exact sold_refl) | with_reducible apply sold_ite
    | (with_reducible intro _) | with_reducible apply kept_ite | with_reducible apply kept_ite_snd
    | with_reducible apply kept_foldl | split | (dsimp only; split)
    | (with_reducible refine kept_mk hw ?_ rfl rfl rfl rfl rfl) | (with_reducible refine sold_mk hw ?_))

theorem kept_scrubGranules {W s0} (hw : 16384 &&& W = 16384)  {s : State} {x1} (h : Kept W s0 s) : Kept W s0 (scrubGranules s x1) := by
  unfold scrubGranules
  repeat (first
    | with_reducible assumption | (with_reducible refine kept_frameWrite (msub hw) ?_) | with_reducible apply kept_foldl
    | (with_reducible intro _))

theorem kept_effSlotDrainDone {W s0} (hw : 143833713093001348 &&& W = 143833713093001348) {s : State} {x0} (h : Kept W s0 s) :
    Kept W s0 (effSlotDrainDone x0 s) := by
  unfold effSlotDrainDone
  dsimp only
  split
  · exact h
  · refine kept_postEvent (msub hw) ?_
    with_reducible refine kept_mk hw ?_ rfl rfl rfl rfl rfl
    refine kept_setSlot (kept_scrubGranules (msub hw) h) ?_
    have g := (kept_scrubGranules (W := 16384) (x1 := getSlot s x0.val) rfl (kept_refl _ s)).2.2.2.2
    intro p hp
    cases p
    all_goals first
      | trivial
      | exact (g .slotGen rfl _).symm
      | exact (g .slotPools rfl _).symm
      | exact absurd (bit_sub hw rfl) (by simpa only [pieceNum, Bool.not_eq_true] using hp)

theorem kept_effSlotDrainTimeout {W s0} (hw : 134217862 &&& W = 134217862)  {s : State} {x0} (h : Kept W s0 s) : Kept W s0 (effSlotDrainTimeout x0 s) := by
  unfold effSlotDrainTimeout
  repeat (first
    | with_reducible assumption | (with_reducible refine kept_timeTo (msub hw) ?_)
    | (with_reducible refine kept_postEvent (msub hw) ?_) | (with_reducible refine kept_modSlot ?_ ?_)
    | (with_reducible exact sold_refl) | with_reducible apply sold_ite | (with_reducible intro _)
    | with_reducible apply kept_ite | with_reducible apply kept_ite_snd | split | (dsimp only; split)
    | (with_reducible refine kept_mk hw ?_ rfl rfl rfl rfl rfl) | (with_reducible refine sold_mk hw ?_))

end Sys2Proof.Laws
end

