-- ==== Sys2Proof/Laws/KeptLinks.lean ====
section
/-! SUPPORT. What the definitions of Machine/Links.lean keep (Laws/KeptBase.lean). -/

namespace Sys2Proof.Laws

open Sys2Proof Sys2Proof.Machine

set_option linter.all false
set_option Elab.async false

theorem kept_becomeFatal {W s0} (hw : 2251799814115476 &&& W = 2251799814115476)  {s : State} {x1} (h : Kept W s0 s) : Kept W s0 (becomeFatal s x1) := by
  unfold becomeFatal
  repeat (first
    | with_reducible assumption | (with_reducible refine kept_sendLeave (msub hw) ?_)
    | (with_reducible refine kept_ownIncident (msub hw) ?_) | with_reducible apply kept_ite
    | with_reducible apply kept_ite_snd | with_reducible apply kept_foldl | (with_reducible intro _) | split
    | (dsimp only; split) | (with_reducible refine kept_mk hw ?_ rfl rfl rfl rfl rfl))

theorem kept_portDownSlots {W s0} (hw : 110690306250118788 &&& W = 110690306250118788)  {s : State} {x1} (h : Kept W s0 s) : Kept W s0 (portDownSlots s x1) := by
  unfold portDownSlots
  repeat (first
    | with_reducible assumption | (with_reducible refine kept_raiseAbort (msub hw) ?_)
    | (with_reducible refine kept_loseSlot (msub hw) ?_) | with_reducible apply kept_ite
    | with_reducible apply kept_ite_snd | with_reducible apply kept_foldl | (with_reducible intro _) | split
    | (dsimp only; split))

theorem kept_resetPort {W s0} (hw : 4222124651054724 &&& W = 4222124651054724)  {s : State} {x1} (h : Kept W s0 s) : Kept W s0 (resetPort s x1) := by
  unfold resetPort
  repeat (first
    | with_reducible assumption | (with_reducible refine kept_dropFrameBufs (msub hw) ?_)
    | (with_reducible refine kept_debit (msub hw) ?_) | (with_reducible refine kept_modSlot ?_ ?_)
    | (with_reducible refine kept_modPort (msub hw) ?_) | (with_reducible exact sold_refl)
    | with_reducible apply sold_ite | (with_reducible intro _) | with_reducible apply kept_foldl
    | (with_reducible refine kept_mk hw ?_ rfl rfl rfl rfl rfl) | (with_reducible refine sold_mk hw ?_))

theorem kept_portDown {W s0} (hw : 112379156110382724 &&& W = 112379156110382724)  {s : State} {x1} (h : Kept W s0 s) : Kept W s0 (portDown s x1) := by
  unfold portDown
  repeat (first
    | with_reducible assumption | (with_reducible refine kept_postEvent (msub hw) ?_)
    | (with_reducible refine kept_modPort (msub hw) ?_) | (with_reducible refine kept_resetPort (msub hw) ?_)
    | (with_reducible refine kept_portDownSlots (msub hw) ?_) | with_reducible apply kept_ite
    | with_reducible apply kept_ite_snd | (with_reducible intro _) | split | (dsimp only; split)
    | (with_reducible refine kept_mk hw ?_ rfl rfl rfl rfl rfl))

theorem kept_effPortDown {W s0} (hw : 112379156110382724 &&& W = 112379156110382724)  {s : State} {x0} (h : Kept W s0 s) : Kept W s0 (effPortDown x0 s) := by
  unfold effPortDown
  repeat (first
    | with_reducible assumption | (with_reducible refine kept_portDown (msub hw) ?_) | with_reducible apply kept_ite
    | with_reducible apply kept_ite_snd | split | (dsimp only; split))

theorem kept_sendHello {W s0} (hw : 1024 &&& W = 1024)  {s : State} {x1} (h : Kept W s0 s) : Kept W s0 (sendHello s x1) := by
  unfold sendHello
  repeat (first
    | with_reducible assumption | (with_reducible refine kept_modPort (msub hw) ?_)
    | (with_reducible refine kept_linkCtrl (msub hw) ?_) | (with_reducible intro _)
    | (with_reducible refine kept_mk hw ?_ rfl rfl rfl rfl rfl))

theorem kept_announceJob {W s0} (hw : 1024 &&& W = 1024)  {s : State} {x1} {x2} {x3} (h : Kept W s0 s) : Kept W s0 (announceJob s x1 x2 x3) := by
  unfold announceJob
  repeat (first
    | with_reducible assumption | (with_reducible refine kept_linkCtrl (msub hw) ?_))

theorem kept_announceAll {W s0} (hw : 1024 &&& W = 1024)  {s : State} {x1} {x2} (h : Kept W s0 s) : Kept W s0 (announceAll s x1 x2) := by
  unfold announceAll
  repeat (first
    | with_reducible assumption | (with_reducible refine kept_announceJob (msub hw) ?_) | with_reducible apply kept_foldl
    | (with_reducible intro _))

theorem kept_tryPortUp {W s0} (hw : 1156 &&& W = 1156)  {s : State} {x1} (h : Kept W s0 s) : Kept W s0 (tryPortUp s x1) := by
  unfold tryPortUp
  repeat (first
    | with_reducible assumption | (with_reducible refine kept_modPort (msub hw) ?_)
    | (with_reducible refine kept_postEvent (msub hw) ?_) | (with_reducible refine kept_announceJob (msub hw) ?_)
    | with_reducible apply kept_ite | with_reducible apply kept_ite_snd | with_reducible apply kept_foldl
    | (with_reducible intro _) | split | (dsimp only; split) | (with_reducible refine kept_mk hw ?_ rfl rfl rfl rfl rfl))

theorem kept_takeLinkCtrl {W s0} (hw : 110690581136414596 &&& W = 110690581136414596)  {s : State} {x0} {x1} (h : Kept W s0 s) : Kept W s0 (takeLinkCtrl x0 x1 s).2 := by
  unfold takeLinkCtrl
  repeat (first
    | with_reducible assumption | (with_reducible refine kept_admitLink (msub hw) ?_)
    | (with_reducible refine kept_admitLink' (msub hw) (by assumption) ?_)
    | (with_reducible refine kept_dropFor (msub hw) ?_) | with_reducible apply kept_ite
    | with_reducible apply kept_ite_snd | split | (dsimp only; split)
    | (with_reducible refine kept_mk hw ?_ rfl rfl rfl rfl rfl))

theorem kept_takeLinkCtrl' {W s0} (hw : 110690581136414596 &&& W = 110690581136414596)  {s s' : State} {y} {x0} {x1} (e : takeLinkCtrl x0 x1 s = (y, s')) (h : Kept W s0 s) : Kept W s0 s' := by
  have k : Kept W s0 (takeLinkCtrl x0 x1 s).2 := kept_takeLinkCtrl hw h
  rw [e] at k
  exact k

theorem kept_helloRestart {W s0} (hw : 112379156110382724 &&& W = 112379156110382724)  {s : State} {x0} (h : Kept W s0 s) : Kept W s0 (helloRestart x0 s) := by
  unfold helloRestart
  repeat (first
    | with_reducible assumption | (with_reducible refine kept_sendHello (msub hw) ?_)
    | (with_reducible refine kept_portDown (msub hw) ?_) | (with_reducible refine kept_modRx (msub hw) ?_)
    | with_reducible apply kept_ite | with_reducible apply kept_ite_snd | (with_reducible intro _) | split
    | (dsimp only; split) | (with_reducible refine kept_mk hw ?_ rfl rfl rfl rfl rfl))

theorem kept_effHello {W s0} (hw : 112379430996678532 &&& W = 112379430996678532)  {s : State} {x0} (h : Kept W s0 s) : Kept W s0 (effHello x0 s) := by
  unfold effHello
  repeat (first
    | with_reducible assumption | (with_reducible refine kept_takeLinkCtrl (msub hw) ?_)
    | (with_reducible refine kept_takeLinkCtrl' (msub hw) (by assumption) ?_)
    | (with_reducible refine kept_helloRestart (msub hw) ?_) | (with_reducible refine kept_tryPortUp (msub hw) ?_)
    | (with_reducible refine kept_modPort (msub hw) ?_) | (with_reducible refine kept_admitLink (msub hw) ?_)
    | (with_reducible refine kept_admitLink' (msub hw) (by assumption) ?_)
    | (with_reducible refine kept_dropFor (msub hw) ?_) | with_reducible apply kept_ite
    | with_reducible apply kept_ite_snd | (with_reducible intro _) | split | (dsimp only; split)
    | (with_reducible refine kept_mk hw ?_ rfl rfl rfl rfl rfl))

theorem kept_effCreditInit {W s0} (hw : 110690581136414596 &&& W = 110690581136414596)  {s : State} {x0} (h : Kept W s0 s) : Kept W s0 (effCreditInit x0 s) := by
  unfold effCreditInit
  repeat (first
    | with_reducible assumption | (with_reducible refine kept_takeLinkCtrl (msub hw) ?_)
    | (with_reducible refine kept_takeLinkCtrl' (msub hw) (by assumption) ?_)
    | (with_reducible refine kept_tryPortUp (msub hw) ?_) | (with_reducible refine kept_modPort (msub hw) ?_)
    | with_reducible apply kept_ite | with_reducible apply kept_ite_snd | (with_reducible intro _) | split
    | (dsimp only; split) | (with_reducible refine kept_mk hw ?_ rfl rfl rfl rfl rfl))

theorem kept_effJobAnnounce {W s0} (hw : 110690581136414596 &&& W = 110690581136414596)  {s : State} {x0} (h : Kept W s0 s) : Kept W s0 (effJobAnnounce x0 s) := by
  unfold effJobAnnounce
  repeat (first
    | with_reducible assumption | (with_reducible refine kept_takeLinkCtrl (msub hw) ?_)
    | (with_reducible refine kept_takeLinkCtrl' (msub hw) (by assumption) ?_)
    | (with_reducible refine kept_modRx (msub hw) ?_) | (with_reducible intro _) | split | (dsimp only; split)
    | (with_reducible refine kept_mk hw ?_ rfl rfl rfl rfl rfl))

theorem kept_effJobWithdraw {W s0} (hw : 111253531089835908 &&& W = 111253531089835908)  {s : State} {x0} (h : Kept W s0 s) : Kept W s0 (effJobWithdraw x0 s) := by
  unfold effJobWithdraw
  repeat (first
    | with_reducible assumption | (with_reducible refine kept_takeLinkCtrl (msub hw) ?_)
    | (with_reducible refine kept_takeLinkCtrl' (msub hw) (by assumption) ?_)
    | (with_reducible refine kept_modRx (msub hw) ?_) | (with_reducible refine kept_modSlot ?_ ?_)
    | (with_reducible exact sold_refl) | with_reducible apply sold_ite | (with_reducible intro _) | split
    | (dsimp only; split) | (with_reducible refine kept_mk hw ?_ rfl rfl rfl rfl rfl)
    | (with_reducible refine sold_mk hw ?_))

theorem kept_frameAcked {W s0} (hw : 2533317740462724 &&& W = 2533317740462724)  {s : State} {x1} {x2} (h : Kept W s0 s) : Kept W s0 (frameAcked s x1 x2) := by
  unfold frameAcked
  repeat (first
    | with_reducible assumption | (with_reducible refine kept_dropFrameBufs (msub hw) ?_)
    | (with_reducible refine kept_ackPartial (msub hw) ?_) | (with_reducible refine kept_settleRounded (msub hw) ?_)
    | (with_reducible refine kept_modChunk (msub hw) ?_) | (with_reducible refine kept_modSeg (msub hw) ?_)
    | with_reducible apply kept_ite | with_reducible apply kept_ite_snd | (with_reducible intro _) | split
    | (dsimp only; split) | (with_reducible refine kept_mk hw ?_ rfl rfl rfl rfl rfl))

theorem kept_takeAck {W s0} (hw : 2533317740463748 &&& W = 2533317740463748)  {s : State} {x1} {x2} (h : Kept W s0 s) : Kept W s0 (takeAck s x1 x2) := by
  unfold takeAck
  repeat (first
    | with_reducible assumption | (with_reducible refine kept_modTx (msub hw) ?_)
    | (with_reducible refine kept_frameAcked (msub hw) ?_) | with_reducible apply kept_ite
    | with_reducible apply kept_ite_snd | with_reducible apply kept_foldl | (with_reducible intro _) | split
    | (dsimp only; split) | (with_reducible refine kept_mk hw ?_ rfl rfl rfl rfl rfl))

theorem kept_takeWindowUnits {W s0} (hw : 562949953421312 &&& W = 562949953421312)  {s : State} {x1} {x2} (h : Kept W s0 s) : Kept W s0 (takeWindowUnits s x1 x2) := by
  unfold takeWindowUnits
  repeat (first
    | with_reducible assumption | (with_reducible refine kept_modSlot ?_ ?_) | (with_reducible exact sold_refl)
    | with_reducible apply sold_ite | (with_reducible intro _) | split | (dsimp only; split)
    | (with_reducible refine kept_mk hw ?_ rfl rfl rfl rfl rfl) | (with_reducible refine sold_mk hw ?_))

theorem kept_effCredit {W s0} (hw : 111253531089835908 &&& W = 111253531089835908)  {s : State} {x0} (h : Kept W s0 s) : Kept W s0 (effCredit x0 s) := by
  unfold effCredit
  repeat (first
    | with_reducible assumption | (with_reducible refine kept_admitLink (msub hw) ?_)
    | (with_reducible refine kept_admitLink' (msub hw) (by assumption) ?_)
    | (with_reducible refine kept_dropFor (msub hw) ?_) | (with_reducible refine kept_modTx (msub hw) ?_)
    | (with_reducible refine kept_takeWindowUnits (msub hw) ?_) | (with_reducible refine kept_takeAck (msub hw) ?_)
    | (with_reducible refine kept_sendSegmentReports (msub hw) ?_) | with_reducible apply kept_ite
    | with_reducible apply kept_ite_snd | with_reducible apply kept_foldl | (with_reducible intro _) | split
    | (dsimp only; split) | (with_reducible refine kept_mk hw ?_ rfl rfl rfl rfl rfl))

theorem kept_startReplay {W s0} (hw : 112379156110382724 &&& W = 112379156110382724)  {s : State} {x1} {x2} (h : Kept W s0 s) : Kept W s0 (startReplay s x1 x2) := by
  unfold startReplay
  repeat (first
    | with_reducible assumption | (with_reducible refine kept_portDown (msub hw) ?_)
    | (with_reducible refine kept_debit (msub hw) ?_) | (with_reducible refine kept_modTx (msub hw) ?_)
    | with_reducible apply kept_ite | with_reducible apply kept_ite_snd | with_reducible apply kept_foldl
    | (with_reducible intro _) | split | (dsimp only; split) | (with_reducible refine kept_mk hw ?_ rfl rfl rfl rfl rfl))

theorem kept_effReplayTimeout {W s0} (hw : 112379156110382726 &&& W = 112379156110382726)  {s : State} {x0} (h : Kept W s0 s) : Kept W s0 (effReplayTimeout x0 s) := by
  unfold effReplayTimeout
  repeat (first
    | with_reducible assumption | (with_reducible refine kept_startReplay (msub hw) ?_)
    | (with_reducible refine kept_timeTo (msub hw) ?_) | with_reducible apply kept_ite
    | with_reducible apply kept_ite_snd | split | (dsimp only; split)
    | (with_reducible refine kept_mk hw ?_ rfl rfl rfl rfl rfl))

theorem kept_markNacked {W s0} (hw : 1024 &&& W = 1024)  {s : State} {x1} {x2} (h : Kept W s0 s) : Kept W s0 (markNacked s x1 x2) := by
  unfold markNacked
  repeat (first
    | with_reducible assumption | (with_reducible refine kept_modTx (msub hw) ?_) | with_reducible apply kept_ite
    | with_reducible apply kept_ite_snd | (with_reducible intro _) | split | (dsimp only; split)
    | (with_reducible refine kept_mk hw ?_ rfl rfl rfl rfl rfl))

theorem kept_nackCredit {W s0} (hw : 562949953422336 &&& W = 562949953422336)  {s : State} {x1} {x2} {x3} {x4} (h : Kept W s0 s) : Kept W s0 (nackCredit s x1 x2 x3 x4) := by
  unfold nackCredit
  repeat (first
    | with_reducible assumption | (with_reducible refine kept_modSlot ?_ ?_)
    | (with_reducible refine kept_modTx (msub hw) ?_) | (with_reducible exact sold_refl) | with_reducible apply sold_ite
    | (with_reducible intro _) | with_reducible apply kept_ite | with_reducible apply kept_ite_snd | split
    | (dsimp only; split) | (with_reducible refine kept_mk hw ?_ rfl rfl rfl rfl rfl)
    | (with_reducible refine sold_mk hw ?_))

theorem kept_nackAgain {W s0} (hw : 34359739392 &&& W = 34359739392)  {s : State} {x1} {x2} (h : Kept W s0 s) : Kept W s0 (nackAgain s x1 x2) := by
  unfold nackAgain
  repeat (first
    | with_reducible assumption | (with_reducible refine kept_markNacked (msub hw) ?_)
    | (with_reducible refine kept_modChunk (msub hw) ?_) | with_reducible apply kept_ite
    | with_reducible apply kept_ite_snd | (with_reducible intro _) | split | (dsimp only; split)
    | (with_reducible refine kept_mk hw ?_ rfl rfl rfl rfl rfl))

theorem kept_takeGrant {W s0} (hw : 1024 &&& W = 1024)  {s : State} {x1} {x2} (h : Kept W s0 s) : Kept W s0 (takeGrant s x1 x2) := by
  unfold takeGrant
  repeat (first
    | with_reducible assumption | (with_reducible refine kept_modRx (msub hw) ?_) | (with_reducible intro _)
    | (with_reducible refine kept_mk hw ?_ rfl rfl rfl rfl rfl))

theorem kept_nackTableFull {W s0} (hw : 137438954496 &&& W = 137438954496)  {s : State} {x1} {x2} (h : Kept W s0 s) : Kept W s0 (nackTableFull s x1 x2) := by
  unfold nackTableFull
  repeat (first
    | with_reducible assumption | (with_reducible refine kept_takeGrant (msub hw) ?_)
    | (with_reducible refine kept_markNacked (msub hw) ?_) | (with_reducible refine kept_modFetch (msub hw) ?_)
    | (with_reducible intro _) | split | (dsimp only; split) | (with_reducible refine kept_mk hw ?_ rfl rfl rfl rfl rfl))

theorem kept_nackStale {W s0} (hw : 2533687107651204 &&& W = 2533687107651204)  {s : State} {x1} {x2} (h : Kept W s0 s) : Kept W s0 (nackStale s x1 x2) := by
  unfold nackStale
  repeat (first
    | with_reducible assumption | (with_reducible refine kept_takeGrant (msub hw) ?_)
    | (with_reducible refine kept_abandonEntry (msub hw) ?_) | with_reducible apply kept_ite
    | with_reducible apply kept_ite_snd | split | (dsimp only; split)
    | (with_reducible refine kept_mk hw ?_ rfl rfl rfl rfl rfl))

theorem kept_nackDeliverCrc {W s0} (hw : 110690306250118788 &&& W = 110690306250118788)  {s : State} {x1} {x2} (h : Kept W s0 s) : Kept W s0 (nackDeliverCrc s x1 x2) := by
  unfold nackDeliverCrc
  repeat (first
    | with_reducible assumption | (with_reducible refine kept_reportFault (msub hw) ?_)
    | (with_reducible refine kept_raiseAbort (msub hw) ?_) | with_reducible apply kept_ite
    | with_reducible apply kept_ite_snd | (with_reducible intro _) | split | (dsimp only; split))

theorem kept_nackUnexpected {W s0} (hw : 2251799814078596 &&& W = 2251799814078596)  {s : State} {x1} {x2} (h : Kept W s0 s) : Kept W s0 (nackUnexpected s x1 x2) := by
  unfold nackUnexpected
  repeat (first
    | with_reducible assumption | (with_reducible refine kept_reportFault (msub hw) ?_))

theorem kept_effNack {W s0} (hw : 112379430996678532 &&& W = 112379430996678532)  {s : State} {x0} (h : Kept W s0 s) : Kept W s0 (effNack x0 s) := by
  unfold effNack
  repeat (first
    | with_reducible assumption | (with_reducible refine kept_admitLink (msub hw) ?_)
    | (with_reducible refine kept_admitLink' (msub hw) (by assumption) ?_)
    | (with_reducible refine kept_modCnt (msub hw) ?_) | (with_reducible refine kept_startReplay (msub hw) ?_)
    | (with_reducible refine kept_nackCredit (msub hw) ?_) | (with_reducible refine kept_nackAgain (msub hw) ?_)
    | (with_reducible refine kept_nackTableFull (msub hw) ?_) | (with_reducible refine kept_nackStale (msub hw) ?_)
    | (with_reducible refine kept_nackDeliverCrc (msub hw) ?_) | (with_reducible refine kept_nackUnexpected (msub hw) ?_)
    | (with_reducible refine kept_markNacked (msub hw) ?_) | with_reducible apply kept_ite
    | with_reducible apply kept_ite_snd | (with_reducible intro _) | split | (dsimp only; split)
    | (with_reducible refine kept_mk hw ?_ rfl rfl rfl rfl rfl))

theorem kept_dropSliceFrames {W s0} (hw : 2533274790790788 &&& W = 2533274790790788)  {s : State} {x1} (h : Kept W s0 s) : Kept W s0 (dropSliceFrames s x1) := by
  unfold dropSliceFrames
  repeat (first
    | with_reducible assumption | (with_reducible refine kept_dropFrameBufs (msub hw) ?_)
    | (with_reducible refine kept_modTx (msub hw) ?_) | with_reducible apply kept_ite | with_reducible apply kept_ite_snd
    | with_reducible apply kept_foldl | (with_reducible intro _) | split | (dsimp only; split)
    | (with_reducible refine kept_mk hw ?_ rfl rfl rfl rfl rfl))

theorem kept_dropSliceFetches {W s0} (hw : 2533412229743236 &&& W = 2533412229743236)  {s : State} {x1} (h : Kept W s0 s) : Kept W s0 (dropSliceFetches s x1) := by
  unfold dropSliceFetches
  repeat (first
    | with_reducible assumption | (with_reducible refine kept_dropFetch (msub hw) ?_) | with_reducible apply kept_foldl
    | (with_reducible intro _))

theorem kept_disableTilePorts {W s0} (hw : 112379156110382724 &&& W = 112379156110382724) {s : State} {x1} (h : Kept W s0 s) : Kept W s0 (disableTilePorts s x1) := by
  unfold disableTilePorts
  refine kept_foldl h ?_
  intro s k h
  dsimp only
  split
  · exact kept_modPort (msub hw) (kept_portDown (msub hw) h)
  · exact h

theorem kept_effSliceMapout {W s0} (hw : 112379156110382740 &&& W = 112379156110382740)  {s : State} {x0} (h : Kept W s0 s) : Kept W s0 (effSliceMapout x0 s) := by
  unfold effSliceMapout
  repeat (first
    | with_reducible assumption | (with_reducible refine kept_abortEveryStep (msub hw) ?_)
    | (with_reducible refine kept_dropSliceFrames (msub hw) ?_)
    | (with_reducible refine kept_dropSliceFetches (msub hw) ?_) | (with_reducible refine kept_modFab (msub hw) ?_)
    | (with_reducible refine kept_postEvent (msub hw) ?_) | (with_reducible refine kept_disableTilePorts (msub hw) ?_)
    | with_reducible apply kept_ite | with_reducible apply kept_ite_snd | (with_reducible intro _) | split
    | (dsimp only; split) | (with_reducible refine kept_mk hw ?_ rfl rfl rfl rfl rfl))

theorem kept_effDieLinkFail {W s0} (hw : 110690306250151572 &&& W = 110690306250151572)  {s : State} {x0} (h : Kept W s0 s) : Kept W s0 (effDieLinkFail x0 s) := by
  unfold effDieLinkFail
  repeat (first
    | with_reducible assumption | (with_reducible refine kept_abortEveryStep (msub hw) ?_)
    | (with_reducible refine kept_modFab (msub hw) ?_) | (with_reducible refine kept_becomeFatal (msub hw) ?_)
    | (with_reducible refine kept_postEvent (msub hw) ?_) | with_reducible apply kept_ite
    | with_reducible apply kept_ite_snd | (with_reducible intro _) | split | (dsimp only; split)
    | (with_reducible refine kept_mk hw ?_ rfl rfl rfl rfl rfl))

theorem kept_injectFault {W s0} (hw : 110690306250118788 &&& W = 110690306250118788) {s s' : State} {x1} {x2} {x3} (e : injectFault s x1 x2 x3 = some s') (h : Kept W s0 s) : Kept W s0 s' := by
  unfold injectFault at e
  try dsimp only at e
  repeat' (split at e)
  all_goals first
    | (cases e; done)
    | (simp only [Option.map_eq_some_iff] at e; obtain ⟨_, _, rfl⟩ := e; repeat (first
    | with_reducible assumption | (with_reducible refine kept_modPort (msub hw) ?_)
    | (with_reducible refine kept_raiseAbort (msub hw) ?_) | (with_reducible refine kept_modHealth (msub hw) ?_)
    | with_reducible apply kept_ite | with_reducible apply kept_ite_snd | (with_reducible intro _) | split
    | (dsimp only; split) | (with_reducible refine kept_mk hw ?_ rfl rfl rfl rfl rfl)))
    | (cases e; repeat (first
    | with_reducible assumption | (with_reducible refine kept_modPort (msub hw) ?_)
    | (with_reducible refine kept_raiseAbort (msub hw) ?_) | (with_reducible refine kept_modHealth (msub hw) ?_)
    | with_reducible apply kept_ite | with_reducible apply kept_ite_snd | (with_reducible intro _) | split
    | (dsimp only; split) | (with_reducible refine kept_mk hw ?_ rfl rfl rfl rfl rfl)))

theorem kept_effRehearsalInject {W s0} (hw : 110690306250118790 &&& W = 110690306250118790)  {s : State} {x0} (h : Kept W s0 s) : Kept W s0 (effRehearsalInject x0 s) := by
  unfold effRehearsalInject
  repeat (first
    | with_reducible assumption | (with_reducible refine kept_injectFault (msub hw) (by assumption) ?_)
    | (with_reducible refine kept_timeTo (msub hw) ?_) | (with_reducible refine kept_modHealth (msub hw) ?_)
    | with_reducible apply kept_ite | with_reducible apply kept_ite_snd | (with_reducible intro _) | split
    | (dsimp only; split) | (with_reducible refine kept_mk hw ?_ rfl rfl rfl rfl rfl))

theorem kept_effRehearsalSkip {W s0} (hw : 2251799813685250 &&& W = 2251799813685250)  {s : State} {x0} (h : Kept W s0 s) : Kept W s0 (effRehearsalSkip x0 s) := by
  unfold effRehearsalSkip
  repeat (first
    | with_reducible assumption | (with_reducible refine kept_timeTo (msub hw) ?_)
    | (with_reducible refine kept_modHealth (msub hw) ?_) | with_reducible apply kept_ite
    | with_reducible apply kept_ite_snd | (with_reducible intro _) | split | (dsimp only; split)
    | (with_reducible refine kept_mk hw ?_ rfl rfl rfl rfl rfl))

theorem kept_effLinkDropEnd {W s0} (hw : 1026 &&& W = 1026)  {s : State} {x0} {x1} (h : Kept W s0 s) : Kept W s0 (effLinkDropEnd x0 x1 s) := by
  unfold effLinkDropEnd
  repeat (first
    | with_reducible assumption | (with_reducible refine kept_modPort (msub hw) ?_)
    | (with_reducible refine kept_timeTo (msub hw) ?_) | (with_reducible intro _) | split | (dsimp only; split)
    | (with_reducible refine kept_mk hw ?_ rfl rfl rfl rfl rfl))

end Sys2Proof.Laws
end

