-- ==== Sys2Proof/Laws/KeptArming.lean ====
section
/-! SUPPORT. What the definitions of Machine/Arming.lean keep (Laws/KeptBase.lean). -/

namespace Sys2Proof.Laws

open Sys2Proof Sys2Proof.Machine

set_option linter.all false
set_option Elab.async false

theorem kept_armBucket {W s0} (hw : 110726040378021508 &&& W = 110726040378021508)  {s : State} {x1} {x2} (h : Kept W s0 s) : Kept W s0 (armBucket s x1 x2) := by
  unfold armBucket
  repeat (first
    | with_reducible assumption | (with_reducible refine kept_modSlot ?_ ?_)
    | (with_reducible refine kept_sendWindows (msub hw) ?_) | (with_reducible refine kept_checkWindowRound (msub hw) ?_)
    | (with_reducible exact sold_refl) | with_reducible apply sold_ite | (with_reducible intro _)
    | with_reducible apply kept_ite | with_reducible apply kept_ite_snd | split | (dsimp only; split)
    | (with_reducible refine kept_mk hw ?_ rfl rfl rfl rfl rfl) | (with_reducible refine sold_mk hw ?_))

end Sys2Proof.Laws
end

