-- ==== Sys2Proof/Laws/KeptBenchOps.lean ====
section
/-! SUPPORT. What the definitions of Machine/BenchOps.lean keep (Laws/KeptBase.lean). -/

namespace Sys2Proof.Laws

open Sys2Proof Sys2Proof.Machine

set_option linter.all false
set_option Elab.async false

theorem kept_modBench {W s0} (hw : 72057594037927936 &&& W = 72057594037927936)  {s : State} {x1} {x2} (h : Kept W s0 s) : Kept W s0 (modBench s x1 x2) := by
  unfold modBench
  repeat (first
    | with_reducible assumption | (with_reducible refine kept_modSlot ?_ ?_) | (with_reducible exact sold_refl)
    | with_reducible apply sold_ite | (with_reducible intro _)
    | (with_reducible refine kept_mk hw ?_ rfl rfl rfl rfl rfl) | (with_reducible refine sold_mk hw ?_))

theorem kept_modJig {W s0} (hw : 72057594037927936 &&& W = 72057594037927936)  {s : State} {x1} {x2} (h : Kept W s0 s) : Kept W s0 (modJig s x1 x2) := by
  unfold modJig
  repeat (first
    | with_reducible assumption | (with_reducible refine kept_modBench (msub hw) ?_) | (with_reducible intro _)
    | (with_reducible refine kept_mk hw ?_ rfl rfl rfl rfl rfl))

theorem kept_atCycle {W s0} (hw : 2 &&& W = 2)  {s : State} {x1} {x2} (h : Kept W s0 s) : Kept W s0 (atCycle s x1 x2) := by
  unfold atCycle
  repeat (first
    | with_reducible assumption | (with_reducible refine kept_timeTo (msub hw) ?_))

theorem kept_withBenchClock {W s0} (hw : 72057594037927936 &&& W = 72057594037927936) {x0} (hf0 : ∀ s, Kept W s0 s → Kept W s0 (x0 s)) {s : State}  (h : Kept W s0 s) : Kept W s0 (withBenchClock x0 s) := by
  unfold withBenchClock
  repeat (first
    | with_reducible assumption | with_reducible apply hf0 | (with_reducible refine kept_modSlot ?_ ?_)
    | (with_reducible exact sold_refl) | with_reducible apply sold_ite | (with_reducible intro _) | split
    | (dsimp only; split) | (with_reducible refine kept_mk hw ?_ rfl rfl rfl rfl rfl)
    | (with_reducible refine sold_mk hw ?_))

theorem kept_writeStaged {W s0} (hw : 16384 &&& W = 16384)  {s : State} {x1} {x2} {x3} {x4} {x5} (h : Kept W s0 s) : Kept W s0 (writeStaged s x1 x2 x3 x4 x5) := by
  unfold writeStaged
  repeat (first
    | with_reducible assumption | (with_reducible refine kept_rowWrite (msub hw) ?_) | with_reducible apply kept_foldl
    | (with_reducible intro _))

theorem kept_completeEarlier {W s0} (hw : 16384 &&& W = 16384)  {s : State} {x1} {x2} (h : Kept W s0 s) : Kept W s0 (completeEarlier s x1 x2) := by
  unfold completeEarlier
  repeat (first
    | with_reducible assumption | (with_reducible refine kept_writeStaged (msub hw) ?_) | with_reducible apply kept_foldl
    | (with_reducible intro _) | split | (dsimp only; split) | (with_reducible refine kept_mk hw ?_ rfl rfl rfl rfl rfl))

theorem kept_stopPass {W s0} (hw : 110690581404866436 &&& W = 110690581404866436)  {s : State} {x1} {x2} (h : Kept W s0 s) : Kept W s0 (stopPass s x1 x2) := by
  unfold stopPass
  repeat (first
    | with_reducible assumption | (with_reducible refine kept_postWatch (msub hw) ?_)
    | (with_reducible refine kept_modBench (msub hw) ?_) | (with_reducible refine kept_failPass (msub hw) ?_)
    | with_reducible apply kept_ite | with_reducible apply kept_ite_snd | with_reducible apply kept_foldl
    | (with_reducible intro _) | split | (dsimp only; split) | (with_reducible refine kept_mk hw ?_ rfl rfl rfl rfl rfl))

theorem kept_scheduleFault {W s0} (hw : 110831318893221766 &&& W = 110831318893221766)  {s : State} {x1} {x2} (h : Kept W s0 s) : Kept W s0 (scheduleFault s x1 x2) := by
  unfold scheduleFault
  repeat (first
    | with_reducible assumption | (with_reducible refine kept_atCycle (msub hw) ?_)
    | (with_reducible refine kept_completeEarlier (msub hw) ?_) | (with_reducible refine kept_modSlot ?_ ?_)
    | (with_reducible refine kept_postEvent (msub hw) ?_) | (with_reducible refine kept_stopPass (msub hw) ?_)
    | (with_reducible refine kept_raiseAbort (msub hw) ?_) | (with_reducible exact sold_refl)
    | with_reducible apply sold_ite | (with_reducible intro _) | with_reducible apply kept_ite
    | with_reducible apply kept_ite_snd | split | (dsimp only; split)
    | (with_reducible refine kept_mk hw ?_ rfl rfl rfl rfl rfl) | (with_reducible refine sold_mk hw ?_))

theorem kept_issueFault {W s0} (hw : 110831318893221766 &&& W = 110831318893221766)  {s : State} {x1} {x2} {x3} {x4} {x5} (h : Kept W s0 s) : Kept W s0 (issueFault s x1 x2 x3 x4 x5) := by
  unfold issueFault
  repeat (first
    | with_reducible assumption | (with_reducible refine kept_scheduleFault (msub hw) ?_))

theorem kept_shipRow {W s0} (hw : 2533291970659972 &&& W = 2533291970659972)  {s : State} {x1} {x2} {x3} {x4} (h : Kept W s0 s) : Kept W s0 (shipRow s x1 x2 x3 x4) := by
  unfold shipRow
  repeat (first
    | with_reducible assumption | (with_reducible refine kept_modTan (msub hw) ?_)
    | (with_reducible refine kept_trySendShips (msub hw) ?_) | (with_reducible intro _)
    | (with_reducible refine kept_mk hw ?_ rfl rfl rfl rfl rfl))

theorem kept_launchFlight {W s0} (hw : 110726040914892420 &&& W = 110726040914892420)  {s : State} {x1} {x2} {x3} {x4} {x5} {x6} {x7} {x8} {x9} (h : Kept W s0 s) : Kept W s0 (launchFlight s x1 x2 x3 x4 x5 x6 x7 x8 x9) := by
  unfold launchFlight
  repeat (first
    | with_reducible assumption | (with_reducible refine kept_modBench (msub hw) ?_)
    | (with_reducible refine kept_launchProgram (msub hw) ?_) | (with_reducible intro _)
    | (with_reducible refine kept_mk hw ?_ rfl rfl rfl rfl rfl))

theorem kept_jigFault {W s0} (hw : 110831318893221766 &&& W = 110831318893221766)  {s : State} {x1} {x2} {x3} (h : Kept W s0 s) : Kept W s0 (jigFault s x1 x2 x3) := by
  unfold jigFault
  repeat (first
    | with_reducible assumption | (with_reducible refine kept_scheduleFault (msub hw) ?_))

theorem kept_restBench {W s0} (hw : 110690581404866438 &&& W = 110690581404866438)  {s : State} {x1} (h : Kept W s0 s) : Kept W s0 (restBench s x1) := by
  unfold restBench
  repeat (first
    | with_reducible assumption | (with_reducible refine kept_atCycle (msub hw) ?_)
    | (with_reducible refine kept_modBench (msub hw) ?_) | (with_reducible refine kept_endPass (msub hw) ?_)
    | (with_reducible refine kept_modStep (msub hw) ?_) | with_reducible apply kept_ite
    | with_reducible apply kept_ite_snd | (with_reducible intro _) | split | (dsimp only; split)
    | (with_reducible refine kept_mk hw ?_ rfl rfl rfl rfl rfl))

theorem kept_quietEvent {W s0} (hw : 110831318893221766 &&& W = 110831318893221766) {s s' : State} {x1} (e : quietEvent s x1 = some s') (h : Kept W s0 s) : Kept W s0 s' := by
  unfold quietEvent at e
  try dsimp only at e
  repeat' (split at e)
  all_goals first
    | (cases e; done)
    | (simp only [Option.map_eq_some_iff] at e; obtain ⟨_, _, rfl⟩ := e; repeat (first
    | with_reducible assumption | (with_reducible refine kept_atCycle (msub hw) ?_)
    | (with_reducible refine kept_modBench (msub hw) ?_) | (with_reducible refine kept_shipRow (msub hw) ?_)
    | (with_reducible refine kept_postWatch (msub hw) ?_) | (with_reducible refine kept_issueFault (msub hw) ?_)
    | (with_reducible refine kept_restBench (msub hw) ?_) | (with_reducible refine kept_jigFault (msub hw) ?_)
    | with_reducible apply kept_ite | with_reducible apply kept_ite_snd | (with_reducible intro _) | split
    | (dsimp only; split) | (with_reducible refine kept_mk hw ?_ rfl rfl rfl rfl rfl)))
    | (cases e; repeat (first
    | with_reducible assumption | (with_reducible refine kept_atCycle (msub hw) ?_)
    | (with_reducible refine kept_modBench (msub hw) ?_) | (with_reducible refine kept_shipRow (msub hw) ?_)
    | (with_reducible refine kept_postWatch (msub hw) ?_) | (with_reducible refine kept_issueFault (msub hw) ?_)
    | (with_reducible refine kept_restBench (msub hw) ?_) | (with_reducible refine kept_jigFault (msub hw) ?_)
    | with_reducible apply kept_ite | with_reducible apply kept_ite_snd | (with_reducible intro _) | split
    | (dsimp only; split) | (with_reducible refine kept_mk hw ?_ rfl rfl rfl rfl rfl)))

theorem kept_settle {W s0} (hw : 110831318893221766 &&& W = 110831318893221766) {s : State} {x1} {x2} (h : Kept W s0 s) : Kept W s0 (settle s x1 x2) := by
  induction x2 generalizing s x1 with
  | zero =>
    unfold settle
    repeat (first
    | with_reducible assumption | (with_reducible refine kept_quietEvent (msub hw) (by assumption) ?_) | split
    | (dsimp only; split) | (with_reducible refine kept_mk hw ?_ rfl rfl rfl rfl rfl))
  | succ n ih =>
    unfold settle
    repeat (first
    | with_reducible assumption | with_reducible apply ih
    | (with_reducible refine kept_quietEvent (msub hw) (by assumption) ?_) | split | (dsimp only; split)
    | (with_reducible refine kept_mk hw ?_ rfl rfl rfl rfl rfl))

theorem kept_settled {W s0} (hw : 110831318893221766 &&& W = 110831318893221766)  {s : State} {x1} (h : Kept W s0 s) : Kept W s0 (settled s x1) := by
  unfold settled
  repeat (first
    | with_reducible assumption | (with_reducible refine kept_settle (msub hw) ?_))

end Sys2Proof.Laws
end

