-- ==== Sys2Proof/Laws/KeptJig.lean ====
section
/-! SUPPORT. What the definitions of Machine/Jig.lean keep (Laws/KeptBase.lean). -/

namespace Sys2Proof.Laws

open Sys2Proof Sys2Proof.Machine

set_option linter.all false
set_option Elab.async false

theorem kept_jigDone {W s0} (hw : 72057594037927936 &&& W = 72057594037927936)  {s : State} {x1} {x2} {x3} {x4} (h : Kept W s0 s) : Kept W s0 (jigDone s x1 x2 x3 x4) := by
  unfold jigDone
  repeat (first
    | with_reducible assumption | (with_reducible refine kept_modBench (msub hw) ?_) | (with_reducible intro _)
    | (with_reducible refine kept_mk hw ?_ rfl rfl rfl rfl rfl))

theorem kept_jigRow {W s0} (hw : 110831318893221766 &&& W = 110831318893221766)  {s : State} {x0} {x1} {x2} {x3} (h : Kept W s0 s) : Kept W s0 (jigRow x0 x1 x2 x3 s) := by
  unfold jigRow
  repeat (first
    | with_reducible assumption | (with_reducible refine kept_atCycle (msub hw) ?_)
    | (with_reducible refine kept_settled (msub hw) ?_) | (with_reducible refine kept_jigFault (msub hw) ?_)
    | (with_reducible refine kept_jigDone (msub hw) ?_) | split | (dsimp only; split)
    | (with_reducible refine kept_mk hw ?_ rfl rfl rfl rfl rfl))

theorem kept_effJigAdd {W s0} (hw : 110831318893221766 &&& W = 110831318893221766)  {s : State} {x0} (h : Kept W s0 s) : Kept W s0 (effJigAdd x0 s) := by
  unfold effJigAdd
  repeat (first
    | with_reducible assumption | (with_reducible refine kept_jigRow (msub hw) ?_))

theorem kept_effJigSub {W s0} (hw : 110831318893221766 &&& W = 110831318893221766)  {s : State} {x0} (h : Kept W s0 s) : Kept W s0 (effJigSub x0 s) := by
  unfold effJigSub
  repeat (first
    | with_reducible assumption | (with_reducible refine kept_jigRow (msub hw) ?_))

theorem kept_effJigAnd {W s0} (hw : 110831318893221766 &&& W = 110831318893221766)  {s : State} {x0} (h : Kept W s0 s) : Kept W s0 (effJigAnd x0 s) := by
  unfold effJigAnd
  repeat (first
    | with_reducible assumption | (with_reducible refine kept_jigRow (msub hw) ?_))

theorem kept_effJigOr {W s0} (hw : 110831318893221766 &&& W = 110831318893221766)  {s : State} {x0} (h : Kept W s0 s) : Kept W s0 (effJigOr x0 s) := by
  unfold effJigOr
  repeat (first
    | with_reducible assumption | (with_reducible refine kept_jigRow (msub hw) ?_))

theorem kept_effJigXor {W s0} (hw : 110831318893221766 &&& W = 110831318893221766)  {s : State} {x0} (h : Kept W s0 s) : Kept W s0 (effJigXor x0 s) := by
  unfold effJigXor
  repeat (first
    | with_reducible assumption | (with_reducible refine kept_jigRow (msub hw) ?_))

theorem kept_effJigSll {W s0} (hw : 110831318893221766 &&& W = 110831318893221766)  {s : State} {x0} (h : Kept W s0 s) : Kept W s0 (effJigSll x0 s) := by
  unfold effJigSll
  repeat (first
    | with_reducible assumption | (with_reducible refine kept_jigRow (msub hw) ?_))

theorem kept_effJigSrl {W s0} (hw : 110831318893221766 &&& W = 110831318893221766)  {s : State} {x0} (h : Kept W s0 s) : Kept W s0 (effJigSrl x0 s) := by
  unfold effJigSrl
  repeat (first
    | with_reducible assumption | (with_reducible refine kept_jigRow (msub hw) ?_))

theorem kept_effJigSra {W s0} (hw : 110831318893221766 &&& W = 110831318893221766)  {s : State} {x0} (h : Kept W s0 s) : Kept W s0 (effJigSra x0 s) := by
  unfold effJigSra
  repeat (first
    | with_reducible assumption | (with_reducible refine kept_jigRow (msub hw) ?_))

theorem kept_effJigMul {W s0} (hw : 110831318893221766 &&& W = 110831318893221766)  {s : State} {x0} (h : Kept W s0 s) : Kept W s0 (effJigMul x0 s) := by
  unfold effJigMul
  repeat (first
    | with_reducible assumption | (with_reducible refine kept_jigRow (msub hw) ?_))

theorem kept_effJigMulhu {W s0} (hw : 110831318893221766 &&& W = 110831318893221766)  {s : State} {x0} (h : Kept W s0 s) : Kept W s0 (effJigMulhu x0 s) := by
  unfold effJigMulhu
  repeat (first
    | with_reducible assumption | (with_reducible refine kept_jigRow (msub hw) ?_))

theorem kept_effJigSlt {W s0} (hw : 110831318893221766 &&& W = 110831318893221766)  {s : State} {x0} (h : Kept W s0 s) : Kept W s0 (effJigSlt x0 s) := by
  unfold effJigSlt
  repeat (first
    | with_reducible assumption | (with_reducible refine kept_jigRow (msub hw) ?_) | (with_reducible intro _))

theorem kept_effJigSltu {W s0} (hw : 110831318893221766 &&& W = 110831318893221766)  {s : State} {x0} (h : Kept W s0 s) : Kept W s0 (effJigSltu x0 s) := by
  unfold effJigSltu
  repeat (first
    | with_reducible assumption | (with_reducible refine kept_jigRow (msub hw) ?_) | (with_reducible intro _))

theorem kept_effJigMin {W s0} (hw : 110831318893221766 &&& W = 110831318893221766)  {s : State} {x0} (h : Kept W s0 s) : Kept W s0 (effJigMin x0 s) := by
  unfold effJigMin
  repeat (first
    | with_reducible assumption | (with_reducible refine kept_jigRow (msub hw) ?_) | with_reducible apply kept_ite
    | with_reducible apply kept_ite_snd | (with_reducible intro _) | split | (dsimp only; split))

theorem kept_effJigMax {W s0} (hw : 110831318893221766 &&& W = 110831318893221766)  {s : State} {x0} (h : Kept W s0 s) : Kept W s0 (effJigMax x0 s) := by
  unfold effJigMax
  repeat (first
    | with_reducible assumption | (with_reducible refine kept_jigRow (msub hw) ?_) | with_reducible apply kept_ite
    | with_reducible apply kept_ite_snd | (with_reducible intro _) | split | (dsimp only; split))

theorem kept_effJigAddi {W s0} (hw : 110831318893221766 &&& W = 110831318893221766)  {s : State} {x0} (h : Kept W s0 s) : Kept W s0 (effJigAddi x0 s) := by
  unfold effJigAddi
  repeat (first
    | with_reducible assumption | (with_reducible refine kept_jigRow (msub hw) ?_))

theorem kept_effJigAndi {W s0} (hw : 110831318893221766 &&& W = 110831318893221766)  {s : State} {x0} (h : Kept W s0 s) : Kept W s0 (effJigAndi x0 s) := by
  unfold effJigAndi
  repeat (first
    | with_reducible assumption | (with_reducible refine kept_jigRow (msub hw) ?_))

theorem kept_effJigOri {W s0} (hw : 110831318893221766 &&& W = 110831318893221766)  {s : State} {x0} (h : Kept W s0 s) : Kept W s0 (effJigOri x0 s) := by
  unfold effJigOri
  repeat (first
    | with_reducible assumption | (with_reducible refine kept_jigRow (msub hw) ?_))

theorem kept_effJigXori {W s0} (hw : 110831318893221766 &&& W = 110831318893221766)  {s : State} {x0} (h : Kept W s0 s) : Kept W s0 (effJigXori x0 s) := by
  unfold effJigXori
  repeat (first
    | with_reducible assumption | (with_reducible refine kept_jigRow (msub hw) ?_))

theorem kept_effJigSlli {W s0} (hw : 110831318893221766 &&& W = 110831318893221766)  {s : State} {x0} (h : Kept W s0 s) : Kept W s0 (effJigSlli x0 s) := by
  unfold effJigSlli
  repeat (first
    | with_reducible assumption | (with_reducible refine kept_jigRow (msub hw) ?_))

theorem kept_effJigSrli {W s0} (hw : 110831318893221766 &&& W = 110831318893221766)  {s : State} {x0} (h : Kept W s0 s) : Kept W s0 (effJigSrli x0 s) := by
  unfold effJigSrli
  repeat (first
    | with_reducible assumption | (with_reducible refine kept_jigRow (msub hw) ?_))

theorem kept_effJigSrai {W s0} (hw : 110831318893221766 &&& W = 110831318893221766)  {s : State} {x0} (h : Kept W s0 s) : Kept W s0 (effJigSrai x0 s) := by
  unfold effJigSrai
  repeat (first
    | with_reducible assumption | (with_reducible refine kept_jigRow (msub hw) ?_))

theorem kept_effJigLui {W s0} (hw : 110831318893221766 &&& W = 110831318893221766)  {s : State} {x0} (h : Kept W s0 s) : Kept W s0 (effJigLui x0 s) := by
  unfold effJigLui
  repeat (first
    | with_reducible assumption | (with_reducible refine kept_jigRow (msub hw) ?_) | (with_reducible intro _))

theorem kept_effJigSlti {W s0} (hw : 110831318893221766 &&& W = 110831318893221766)  {s : State} {x0} (h : Kept W s0 s) : Kept W s0 (effJigSlti x0 s) := by
  unfold effJigSlti
  repeat (first
    | with_reducible assumption | (with_reducible refine kept_jigRow (msub hw) ?_) | (with_reducible intro _))

theorem kept_effJigAset {W s0} (hw : 110831318893221766 &&& W = 110831318893221766)  {s : State} {x0} (h : Kept W s0 s) : Kept W s0 (effJigAset x0 s) := by
  unfold effJigAset
  repeat (first
    | with_reducible assumption | (with_reducible refine kept_jigRow (msub hw) ?_))

theorem kept_effJigAadd {W s0} (hw : 110831318893221766 &&& W = 110831318893221766)  {s : State} {x0} (h : Kept W s0 s) : Kept W s0 (effJigAadd x0 s) := by
  unfold effJigAadd
  repeat (first
    | with_reducible assumption | (with_reducible refine kept_jigRow (msub hw) ?_))

theorem kept_effJigArd {W s0} (hw : 110831318893221766 &&& W = 110831318893221766)  {s : State} {x0} (h : Kept W s0 s) : Kept W s0 (effJigArd x0 s) := by
  unfold effJigArd
  repeat (first
    | with_reducible assumption | (with_reducible refine kept_jigRow (msub hw) ?_) | (with_reducible intro _))

theorem kept_effJigSrd {W s0} (hw : 110831318893221766 &&& W = 110831318893221766)  {s : State} {x0} (h : Kept W s0 s) : Kept W s0 (effJigSrd x0 s) := by
  unfold effJigSrd
  repeat (first
    | with_reducible assumption | (with_reducible refine kept_jigRow (msub hw) ?_) | (with_reducible intro _))

theorem kept_effJigLset {W s0} (hw : 110831318893221766 &&& W = 110831318893221766)  {s : State} {x0} (h : Kept W s0 s) : Kept W s0 (effJigLset x0 s) := by
  unfold effJigLset
  repeat (first
    | with_reducible assumption | (with_reducible refine kept_jigRow (msub hw) ?_))

theorem kept_effJigLrd {W s0} (hw : 110831318893221766 &&& W = 110831318893221766)  {s : State} {x0} (h : Kept W s0 s) : Kept W s0 (effJigLrd x0 s) := by
  unfold effJigLrd
  repeat (first
    | with_reducible assumption | (with_reducible refine kept_jigRow (msub hw) ?_))

theorem kept_effJigBeq {W s0} (hw : 110831318893221766 &&& W = 110831318893221766)  {s : State} {x0} (h : Kept W s0 s) : Kept W s0 (effJigBeq x0 s) := by
  unfold effJigBeq
  repeat (first
    | with_reducible assumption | (with_reducible refine kept_jigRow (msub hw) ?_))

theorem kept_effJigBne {W s0} (hw : 110831318893221766 &&& W = 110831318893221766)  {s : State} {x0} (h : Kept W s0 s) : Kept W s0 (effJigBne x0 s) := by
  unfold effJigBne
  repeat (first
    | with_reducible assumption | (with_reducible refine kept_jigRow (msub hw) ?_))

theorem kept_effJigBlt {W s0} (hw : 110831318893221766 &&& W = 110831318893221766)  {s : State} {x0} (h : Kept W s0 s) : Kept W s0 (effJigBlt x0 s) := by
  unfold effJigBlt
  repeat (first
    | with_reducible assumption | (with_reducible refine kept_jigRow (msub hw) ?_) | (with_reducible intro _))

theorem kept_effJigBge {W s0} (hw : 110831318893221766 &&& W = 110831318893221766)  {s : State} {x0} (h : Kept W s0 s) : Kept W s0 (effJigBge x0 s) := by
  unfold effJigBge
  repeat (first
    | with_reducible assumption | (with_reducible refine kept_jigRow (msub hw) ?_) | (with_reducible intro _))

theorem kept_effJigBltu {W s0} (hw : 110831318893221766 &&& W = 110831318893221766)  {s : State} {x0} (h : Kept W s0 s) : Kept W s0 (effJigBltu x0 s) := by
  unfold effJigBltu
  repeat (first
    | with_reducible assumption | (with_reducible refine kept_jigRow (msub hw) ?_) | (with_reducible intro _))

theorem kept_effJigBgeu {W s0} (hw : 110831318893221766 &&& W = 110831318893221766)  {s : State} {x0} (h : Kept W s0 s) : Kept W s0 (effJigBgeu x0 s) := by
  unfold effJigBgeu
  repeat (first
    | with_reducible assumption | (with_reducible refine kept_jigRow (msub hw) ?_) | (with_reducible intro _))

theorem kept_effJigJmp {W s0} (hw : 110831318893221766 &&& W = 110831318893221766)  {s : State} {x0} (h : Kept W s0 s) : Kept W s0 (effJigJmp x0 s) := by
  unfold effJigJmp
  repeat (first
    | with_reducible assumption | (with_reducible refine kept_jigRow (msub hw) ?_) | (with_reducible intro _))

theorem kept_effJigLoop {W s0} (hw : 110831318893221766 &&& W = 110831318893221766)  {s : State} {x0} (h : Kept W s0 s) : Kept W s0 (effJigLoop x0 s) := by
  unfold effJigLoop
  repeat (first
    | with_reducible assumption | (with_reducible refine kept_jigRow (msub hw) ?_))

theorem kept_effJigLdc {W s0} (hw : 110831318893221766 &&& W = 110831318893221766)  {s : State} {x0} (h : Kept W s0 s) : Kept W s0 (effJigLdc x0 s) := by
  unfold effJigLdc
  repeat (first
    | with_reducible assumption | (with_reducible refine kept_jigRow (msub hw) ?_))

theorem kept_effJigRdspr {W s0} (hw : 110831318893221766 &&& W = 110831318893221766)  {s : State} {x0} (h : Kept W s0 s) : Kept W s0 (effJigRdspr x0 s) := by
  unfold effJigRdspr
  repeat (first
    | with_reducible assumption | (with_reducible refine kept_jigRow (msub hw) ?_))

theorem kept_effJigRdcad {W s0} (hw : 110831318893221766 &&& W = 110831318893221766)  {s : State} {x0} (h : Kept W s0 s) : Kept W s0 (effJigRdcad x0 s) := by
  unfold effJigRdcad
  repeat (first
    | with_reducible assumption | (with_reducible refine kept_jigRow (msub hw) ?_))

theorem kept_effJigPace {W s0} (hw : 110831318893221766 &&& W = 110831318893221766)  {s : State} {x0} (h : Kept W s0 s) : Kept W s0 (effJigPace x0 s) := by
  unfold effJigPace
  repeat (first
    | with_reducible assumption | (with_reducible refine kept_jigRow (msub hw) ?_))

theorem kept_effJigRep {W s0} (hw : 110831318893221766 &&& W = 110831318893221766)  {s : State} {x0} (h : Kept W s0 s) : Kept W s0 (effJigRep x0 s) := by
  unfold effJigRep
  repeat (first
    | with_reducible assumption | (with_reducible refine kept_jigRow (msub hw) ?_))

theorem kept_effJigNop {W s0} (hw : 110831318893221766 &&& W = 110831318893221766)  {s : State} {x0} (h : Kept W s0 s) : Kept W s0 (effJigNop x0 s) := by
  unfold effJigNop
  repeat (first
    | with_reducible assumption | (with_reducible refine kept_jigRow (msub hw) ?_) | (with_reducible intro _))

theorem kept_effJigIllegalOpcode {W s0} (hw : 110831318893221766 &&& W = 110831318893221766)  {s : State} {x0} (h : Kept W s0 s) : Kept W s0 (effJigIllegalOpcode x0 s) := by
  unfold effJigIllegalOpcode
  repeat (first
    | with_reducible assumption | (with_reducible refine kept_settled (msub hw) ?_)
    | (with_reducible refine kept_jigFault (msub hw) ?_) | with_reducible apply kept_ite
    | with_reducible apply kept_ite_snd | split | (dsimp only; split)
    | (with_reducible refine kept_mk hw ?_ rfl rfl rfl rfl rfl))

theorem kept_effJigArm {W s0} (hw : 110867053021124486 &&& W = 110867053021124486)  {s : State} {x0} (h : Kept W s0 s) : Kept W s0 (effJigArm x0 s) := by
  unfold effJigArm
  repeat (first
    | with_reducible assumption | (with_reducible refine kept_atCycle (msub hw) ?_)
    | (with_reducible refine kept_settled (msub hw) ?_) | (with_reducible refine kept_jigFault (msub hw) ?_)
    | (with_reducible refine kept_jigDone (msub hw) ?_) | (with_reducible refine kept_armBucket (msub hw) ?_)
    | with_reducible apply kept_ite | with_reducible apply kept_ite_snd | split | (dsimp only; split)
    | (with_reducible refine kept_mk hw ?_ rfl rfl rfl rfl rfl))

theorem kept_endSegment {W s0} (hw : 110831318893221766 &&& W = 110831318893221766)  {s : State} {x1} {x2} {x3} (h : Kept W s0 s) : Kept W s0 (endSegment s x1 x2 x3) := by
  unfold endSegment
  repeat (first
    | with_reducible assumption | (with_reducible refine kept_settled (msub hw) ?_)
    | (with_reducible refine kept_jigFault (msub hw) ?_) | (with_reducible refine kept_modBench (msub hw) ?_)
    | with_reducible apply kept_ite | with_reducible apply kept_ite_snd | (with_reducible intro _) | split
    | (dsimp only; split) | (with_reducible refine kept_mk hw ?_ rfl rfl rfl rfl rfl))

theorem kept_awaitRow {W s0} (hw : 110831318893221766 &&& W = 110831318893221766)  {s : State} {x0} {x1} {x2} (h : Kept W s0 s) : Kept W s0 (awaitRow x0 x1 x2 s) := by
  unfold awaitRow
  repeat (first
    | with_reducible assumption | (with_reducible refine kept_atCycle (msub hw) ?_)
    | (with_reducible refine kept_settled (msub hw) ?_) | (with_reducible refine kept_jigFault (msub hw) ?_)
    | (with_reducible refine kept_endSegment (msub hw) ?_) | with_reducible apply kept_ite
    | with_reducible apply kept_ite_snd | split | (dsimp only; split)
    | (with_reducible refine kept_mk hw ?_ rfl rfl rfl rfl rfl))

theorem kept_endRow {W s0} (hw : 110831318893221766 &&& W = 110831318893221766)  {s : State} {x0} {x1} {x2} (h : Kept W s0 s) : Kept W s0 (endRow x0 x1 x2 s) := by
  unfold endRow
  repeat (first
    | with_reducible assumption | (with_reducible refine kept_atCycle (msub hw) ?_)
    | (with_reducible refine kept_settled (msub hw) ?_) | (with_reducible refine kept_jigFault (msub hw) ?_)
    | (with_reducible refine kept_endSegment (msub hw) ?_) | split | (dsimp only; split)
    | (with_reducible refine kept_mk hw ?_ rfl rfl rfl rfl rfl))

theorem kept_effJigAwait {W s0} (hw : 110831318893221766 &&& W = 110831318893221766)  {s : State} {x0} (h : Kept W s0 s) : Kept W s0 (effJigAwait x0 s) := by
  unfold effJigAwait
  repeat (first
    | with_reducible assumption | (with_reducible refine kept_awaitRow (msub hw) ?_))

theorem kept_effJigAwaitY {W s0} (hw : 110831318893221766 &&& W = 110831318893221766)  {s : State} {x0} (h : Kept W s0 s) : Kept W s0 (effJigAwaitY x0 s) := by
  unfold effJigAwaitY
  repeat (first
    | with_reducible assumption | (with_reducible refine kept_awaitRow (msub hw) ?_))

theorem kept_effJigYield {W s0} (hw : 110831318893221766 &&& W = 110831318893221766)  {s : State} {x0} (h : Kept W s0 s) : Kept W s0 (effJigYield x0 s) := by
  unfold effJigYield
  repeat (first
    | with_reducible assumption | (with_reducible refine kept_endRow (msub hw) ?_))

theorem kept_effJigEnd {W s0} (hw : 110831318893221766 &&& W = 110831318893221766)  {s : State} {x0} (h : Kept W s0 s) : Kept W s0 (effJigEnd x0 s) := by
  unfold effJigEnd
  repeat (first
    | with_reducible assumption | (with_reducible refine kept_endRow (msub hw) ?_))

theorem kept_beginSegment {W s0} (hw : 110831318893221766 &&& W = 110831318893221766)  {s : State} {x1} (h : Kept W s0 s) : Kept W s0 (beginSegment s x1) := by
  unfold beginSegment
  repeat (first
    | with_reducible assumption | (with_reducible refine kept_settled (msub hw) ?_)
    | (with_reducible refine kept_modBench (msub hw) ?_) | (with_reducible intro _)
    | (with_reducible refine kept_mk hw ?_ rfl rfl rfl rfl rfl))

theorem kept_firstSegment {W s0} (hw : 110831318893221766 &&& W = 110831318893221766)  {s : State} {x1} (h : Kept W s0 s) : Kept W s0 (firstSegment s x1) := by
  unfold firstSegment
  repeat (first
    | with_reducible assumption | (with_reducible refine kept_settled (msub hw) ?_)
    | (with_reducible refine kept_modBench (msub hw) ?_) | (with_reducible intro _)
    | (with_reducible refine kept_mk hw ?_ rfl rfl rfl rfl rfl))

theorem kept_beginPass {W s0} (hw : 128845717402703750 &&& W = 128845717402703750)  {s : State} {x1} (h : Kept W s0 s) : Kept W s0 (beginPass s x1) := by
  unfold beginPass
  repeat (first
    | with_reducible assumption | (with_reducible refine kept_modSlot ?_ ?_)
    | (with_reducible refine kept_firstSegment (msub hw) ?_) | (with_reducible exact sold_refl)
    | with_reducible apply sold_ite | (with_reducible intro _)
    | (with_reducible refine kept_mk hw ?_ rfl rfl rfl rfl rfl) | (with_reducible refine sold_mk hw ?_))

theorem kept_beginProgram {W s0} (hw : 128845717402703750 &&& W = 128845717402703750)  {s : State} {x1} (h : Kept W s0 s) : Kept W s0 (beginProgram s x1) := by
  unfold beginProgram
  repeat (first
    | with_reducible assumption | (with_reducible refine kept_modSlot ?_ ?_)
    | (with_reducible refine kept_firstSegment (msub hw) ?_) | (with_reducible exact sold_refl)
    | with_reducible apply sold_ite | (with_reducible intro _)
    | (with_reducible refine kept_mk hw ?_ rfl rfl rfl rfl rfl) | (with_reducible refine sold_mk hw ?_))

theorem kept_beginNext {W s0} (hw : 128845717402703750 &&& W = 128845717402703750)  {s : State} {x1} (h : Kept W s0 s) : Kept W s0 (beginNext s x1) := by
  unfold beginNext
  repeat (first
    | with_reducible assumption | (with_reducible refine kept_beginPass (msub hw) ?_)
    | (with_reducible refine kept_beginProgram (msub hw) ?_) | (with_reducible refine kept_beginSegment (msub hw) ?_)
    | with_reducible apply kept_ite | with_reducible apply kept_ite_snd | split | (dsimp only; split))

theorem kept_grantBench {W s0} (hw : 72057594038452226 &&& W = 72057594038452226)  {s : State} {x1} (h : Kept W s0 s) : Kept W s0 (grantBench s x1) := by
  unfold grantBench
  repeat (first
    | with_reducible assumption | (with_reducible refine kept_modSlot ?_ ?_) | (with_reducible exact sold_refl)
    | with_reducible apply sold_ite | (with_reducible intro _)
    | (with_reducible refine kept_mk hw ?_ rfl rfl rfl rfl rfl) | (with_reducible refine sold_mk hw ?_))

theorem kept_effSegmentBegin {W s0} (hw : 128845717402703750 &&& W = 128845717402703750)  {s : State} {x0} (h : Kept W s0 s) : Kept W s0 (effSegmentBegin x0 s) := by
  unfold effSegmentBegin
  repeat (first
    | with_reducible assumption | (with_reducible refine kept_beginSegment (msub hw) ?_)
    | (with_reducible refine kept_beginNext (msub hw) ?_) | (with_reducible refine kept_grantBench (msub hw) ?_)
    | with_reducible apply kept_ite | with_reducible apply kept_ite_snd | split | (dsimp only; split))

theorem kept_effTurnOverrun {W s0} (hw : 110831318893221766 &&& W = 110831318893221766)  {s : State} {x0} (h : Kept W s0 s) : Kept W s0 (effTurnOverrun x0 s) := by
  unfold effTurnOverrun
  repeat (first
    | with_reducible assumption | (with_reducible refine kept_settled (msub hw) ?_)
    | (with_reducible refine kept_scheduleFault (msub hw) ?_) | split | (dsimp only; split)
    | (with_reducible refine kept_mk hw ?_ rfl rfl rfl rfl rfl))

end Sys2Proof.Laws
end

