-- ==== Sys2Proof/Laws/State.lean ====
section
/-! SUPPORT. What each small change of the state leaves and what it changes, field by field, so that no proof unfolds a record update. -/

namespace Sys2Proof.Laws

open Sys2Proof Sys2Proof.Machine

/-! ### setSlot -/

@[simp] theorem setSlot_pending (s : State) (i : Nat) (v : Slot) : (setSlot s i v).pending = s.pending := rfl
@[simp] theorem setSlot_time (s : State) (i : Nat) (v : Slot) : (setSlot s i v).time = s.time := rfl
@[simp] theorem setSlot_out (s : State) (i : Nat) (v : Slot) : (setSlot s i v).out = s.out := rfl
@[simp] theorem setSlot_freeCount (s : State) (i : Nat) (v : Slot) : (setSlot s i v).freeCount = s.freeCount := rfl
@[simp] theorem setSlot_host (s : State) (i : Nat) (v : Slot) : (setSlot s i v).host = s.host := rfl
@[simp] theorem setSlot_mbx (s : State) (i : Nat) (v : Slot) : (setSlot s i v).mbx = s.mbx := rfl
@[simp] theorem setSlot_ownOrder (s : State) (i : Nat) (v : Slot) : (setSlot s i v).ownOrder = s.ownOrder := rfl
@[simp] theorem setSlot_evt (s : State) (i : Nat) (v : Slot) : (setSlot s i v).evt = s.evt := rfl
@[simp] theorem setSlot_trc (s : State) (i : Nat) (v : Slot) : (setSlot s i v).trc = s.trc := rfl
@[simp] theorem setSlot_fab (s : State) (i : Nat) (v : Slot) : (setSlot s i v).fab = s.fab := rfl
@[simp] theorem setSlot_ports (s : State) (i : Nat) (v : Slot) : (setSlot s i v).ports = s.ports := rfl
@[simp] theorem setSlot_lanes (s : State) (i : Nat) (v : Slot) : (setSlot s i v).lanes = s.lanes := rfl
@[simp] theorem setSlot_spokes (s : State) (i : Nat) (v : Slot) : (setSlot s i v).spokes = s.spokes := rfl
@[simp] theorem setSlot_timeRec (s : State) (i : Nat) (v : Slot) : (setSlot s i v).timeRec = s.timeRec := rfl
@[simp] theorem setSlot_hbm (s : State) (i : Nat) (v : Slot) : (setSlot s i v).hbm = s.hbm := rfl
@[simp] theorem setSlot_pwr (s : State) (i : Nat) (v : Slot) : (setSlot s i v).pwr = s.pwr := rfl
@[simp] theorem setSlot_sec (s : State) (i : Nat) (v : Slot) : (setSlot s i v).sec = s.sec := rfl
@[simp] theorem setSlot_incidents (s : State) (i : Nat) (v : Slot) : (setSlot s i v).incidents = s.incidents := rfl
@[simp] theorem setSlot_droppedReports (s : State) (i : Nat) (v : Slot) : (setSlot s i v).droppedReports = s.droppedReports := rfl
@[simp] theorem setSlot_holder (s : State) (i : Nat) (v : Slot) : (setSlot s i v).holder = s.holder := rfl
@[simp] theorem setSlot_benchLast (s : State) (i : Nat) (v : Slot) : (setSlot s i v).benchLast = s.benchLast := rfl
@[simp] theorem setSlot_slots (s : State) (i : Nat) (v : Slot) :
    (setSlot s i v).slots = tset s.slots i v := rfl

/-! ### modSlot -/

@[simp] theorem modSlot_pending (s : State) (i : Nat) (f : Slot → Slot) : (modSlot s i f).pending = s.pending := rfl
@[simp] theorem modSlot_time (s : State) (i : Nat) (f : Slot → Slot) : (modSlot s i f).time = s.time := rfl
@[simp] theorem modSlot_out (s : State) (i : Nat) (f : Slot → Slot) : (modSlot s i f).out = s.out := rfl
@[simp] theorem modSlot_freeCount (s : State) (i : Nat) (f : Slot → Slot) : (modSlot s i f).freeCount = s.freeCount := rfl
@[simp] theorem modSlot_host (s : State) (i : Nat) (f : Slot → Slot) : (modSlot s i f).host = s.host := rfl
@[simp] theorem modSlot_mbx (s : State) (i : Nat) (f : Slot → Slot) : (modSlot s i f).mbx = s.mbx := rfl
@[simp] theorem modSlot_ownOrder (s : State) (i : Nat) (f : Slot → Slot) : (modSlot s i f).ownOrder = s.ownOrder := rfl
@[simp] theorem modSlot_evt (s : State) (i : Nat) (f : Slot → Slot) : (modSlot s i f).evt = s.evt := rfl
@[simp] theorem modSlot_trc (s : State) (i : Nat) (f : Slot → Slot) : (modSlot s i f).trc = s.trc := rfl
@[simp] theorem modSlot_fab (s : State) (i : Nat) (f : Slot → Slot) : (modSlot s i f).fab = s.fab := rfl
@[simp] theorem modSlot_ports (s : State) (i : Nat) (f : Slot → Slot) : (modSlot s i f).ports = s.ports := rfl
@[simp] theorem modSlot_lanes (s : State) (i : Nat) (f : Slot → Slot) : (modSlot s i f).lanes = s.lanes := rfl
@[simp] theorem modSlot_spokes (s : State) (i : Nat) (f : Slot → Slot) : (modSlot s i f).spokes = s.spokes := rfl
@[simp] theorem modSlot_timeRec (s : State) (i : Nat) (f : Slot → Slot) : (modSlot s i f).timeRec = s.timeRec := rfl
@[simp] theorem modSlot_hbm (s : State) (i : Nat) (f : Slot → Slot) : (modSlot s i f).hbm = s.hbm := rfl
@[simp] theorem modSlot_pwr (s : State) (i : Nat) (f : Slot → Slot) : (modSlot s i f).pwr = s.pwr := rfl
@[simp] theorem modSlot_sec (s : State) (i : Nat) (f : Slot → Slot) : (modSlot s i f).sec = s.sec := rfl
@[simp] theorem modSlot_incidents (s : State) (i : Nat) (f : Slot → Slot) : (modSlot s i f).incidents = s.incidents := rfl
@[simp] theorem modSlot_droppedReports (s : State) (i : Nat) (f : Slot → Slot) : (modSlot s i f).droppedReports = s.droppedReports := rfl
@[simp] theorem modSlot_holder (s : State) (i : Nat) (f : Slot → Slot) : (modSlot s i f).holder = s.holder := rfl
@[simp] theorem modSlot_benchLast (s : State) (i : Nat) (f : Slot → Slot) : (modSlot s i f).benchLast = s.benchLast := rfl
@[simp] theorem modSlot_slots (s : State) (i : Nat) (f : Slot → Slot) :
    (modSlot s i f).slots = tset s.slots i (f (getSlot s i)) := rfl

/-! ### modPort -/

@[simp] theorem modPort_pending (s : State) (p : Nat) (f : Port → Port) : (modPort s p f).pending = s.pending := rfl
@[simp] theorem modPort_time (s : State) (p : Nat) (f : Port → Port) : (modPort s p f).time = s.time := rfl
@[simp] theorem modPort_out (s : State) (p : Nat) (f : Port → Port) : (modPort s p f).out = s.out := rfl
@[simp] theorem modPort_freeCount (s : State) (p : Nat) (f : Port → Port) : (modPort s p f).freeCount = s.freeCount := rfl
@[simp] theorem modPort_host (s : State) (p : Nat) (f : Port → Port) : (modPort s p f).host = s.host := rfl
@[simp] theorem modPort_mbx (s : State) (p : Nat) (f : Port → Port) : (modPort s p f).mbx = s.mbx := rfl
@[simp] theorem modPort_ownOrder (s : State) (p : Nat) (f : Port → Port) : (modPort s p f).ownOrder = s.ownOrder := rfl
@[simp] theorem modPort_evt (s : State) (p : Nat) (f : Port → Port) : (modPort s p f).evt = s.evt := rfl
@[simp] theorem modPort_trc (s : State) (p : Nat) (f : Port → Port) : (modPort s p f).trc = s.trc := rfl
@[simp] theorem modPort_fab (s : State) (p : Nat) (f : Port → Port) : (modPort s p f).fab = s.fab := rfl
@[simp] theorem modPort_ports (s : State) (p : Nat) (f : Port → Port) :
    (modPort s p f).ports = tset s.ports p (f (getPort s p)) := rfl
@[simp] theorem modPort_lanes (s : State) (p : Nat) (f : Port → Port) : (modPort s p f).lanes = s.lanes := rfl
@[simp] theorem modPort_spokes (s : State) (p : Nat) (f : Port → Port) : (modPort s p f).spokes = s.spokes := rfl
@[simp] theorem modPort_timeRec (s : State) (p : Nat) (f : Port → Port) : (modPort s p f).timeRec = s.timeRec := rfl
@[simp] theorem modPort_hbm (s : State) (p : Nat) (f : Port → Port) : (modPort s p f).hbm = s.hbm := rfl
@[simp] theorem modPort_pwr (s : State) (p : Nat) (f : Port → Port) : (modPort s p f).pwr = s.pwr := rfl
@[simp] theorem modPort_sec (s : State) (p : Nat) (f : Port → Port) : (modPort s p f).sec = s.sec := rfl
@[simp] theorem modPort_incidents (s : State) (p : Nat) (f : Port → Port) : (modPort s p f).incidents = s.incidents := rfl
@[simp] theorem modPort_droppedReports (s : State) (p : Nat) (f : Port → Port) : (modPort s p f).droppedReports = s.droppedReports := rfl
@[simp] theorem modPort_holder (s : State) (p : Nat) (f : Port → Port) : (modPort s p f).holder = s.holder := rfl
@[simp] theorem modPort_benchLast (s : State) (p : Nat) (f : Port → Port) : (modPort s p f).benchLast = s.benchLast := rfl
@[simp] theorem modPort_slots (s : State) (p : Nat) (f : Port → Port) : (modPort s p f).slots = s.slots := rfl

/-! ### modLane -/

@[simp] theorem modLane_pending (s : State) (n : Nat) (f : Lane → Lane) : (modLane s n f).pending = s.pending := rfl
@[simp] theorem modLane_time (s : State) (n : Nat) (f : Lane → Lane) : (modLane s n f).time = s.time := rfl
@[simp] theorem modLane_out (s : State) (n : Nat) (f : Lane → Lane) : (modLane s n f).out = s.out := rfl
@[simp] theorem modLane_freeCount (s : State) (n : Nat) (f : Lane → Lane) : (modLane s n f).freeCount = s.freeCount := rfl
@[simp] theorem modLane_host (s : State) (n : Nat) (f : Lane → Lane) : (modLane s n f).host = s.host := rfl
@[simp] theorem modLane_mbx (s : State) (n : Nat) (f : Lane → Lane) : (modLane s n f).mbx = s.mbx := rfl
@[simp] theorem modLane_ownOrder (s : State) (n : Nat) (f : Lane → Lane) : (modLane s n f).ownOrder = s.ownOrder := rfl
@[simp] theorem modLane_evt (s : State) (n : Nat) (f : Lane → Lane) : (modLane s n f).evt = s.evt := rfl
@[simp] theorem modLane_trc (s : State) (n : Nat) (f : Lane → Lane) : (modLane s n f).trc = s.trc := rfl
@[simp] theorem modLane_fab (s : State) (n : Nat) (f : Lane → Lane) : (modLane s n f).fab = s.fab := rfl
@[simp] theorem modLane_ports (s : State) (n : Nat) (f : Lane → Lane) : (modLane s n f).ports = s.ports := rfl
@[simp] theorem modLane_lanes (s : State) (n : Nat) (f : Lane → Lane) :
    (modLane s n f).lanes = tset s.lanes n (f (getLane s n)) := rfl
@[simp] theorem modLane_spokes (s : State) (n : Nat) (f : Lane → Lane) : (modLane s n f).spokes = s.spokes := rfl
@[simp] theorem modLane_timeRec (s : State) (n : Nat) (f : Lane → Lane) : (modLane s n f).timeRec = s.timeRec := rfl
@[simp] theorem modLane_hbm (s : State) (n : Nat) (f : Lane → Lane) : (modLane s n f).hbm = s.hbm := rfl
@[simp] theorem modLane_pwr (s : State) (n : Nat) (f : Lane → Lane) : (modLane s n f).pwr = s.pwr := rfl
@[simp] theorem modLane_sec (s : State) (n : Nat) (f : Lane → Lane) : (modLane s n f).sec = s.sec := rfl
@[simp] theorem modLane_incidents (s : State) (n : Nat) (f : Lane → Lane) : (modLane s n f).incidents = s.incidents := rfl
@[simp] theorem modLane_droppedReports (s : State) (n : Nat) (f : Lane → Lane) : (modLane s n f).droppedReports = s.droppedReports := rfl
@[simp] theorem modLane_holder (s : State) (n : Nat) (f : Lane → Lane) : (modLane s n f).holder = s.holder := rfl
@[simp] theorem modLane_benchLast (s : State) (n : Nat) (f : Lane → Lane) : (modLane s n f).benchLast = s.benchLast := rfl
@[simp] theorem modLane_slots (s : State) (n : Nat) (f : Lane → Lane) : (modLane s n f).slots = s.slots := rfl

/-! ### modSpoke -/

@[simp] theorem modSpoke_pending (s : State) (k : Nat) (f : Spoke → Spoke) : (modSpoke s k f).pending = s.pending := rfl
@[simp] theorem modSpoke_time (s : State) (k : Nat) (f : Spoke → Spoke) : (modSpoke s k f).time = s.time := rfl
@[simp] theorem modSpoke_out (s : State) (k : Nat) (f : Spoke → Spoke) : (modSpoke s k f).out = s.out := rfl
@[simp] theorem modSpoke_freeCount (s : State) (k : Nat) (f : Spoke → Spoke) : (modSpoke s k f).freeCount = s.freeCount := rfl
@[simp] theorem modSpoke_host (s : State) (k : Nat) (f : Spoke → Spoke) : (modSpoke s k f).host = s.host := rfl
@[simp] theorem modSpoke_mbx (s : State) (k : Nat) (f : Spoke → Spoke) : (modSpoke s k f).mbx = s.mbx := rfl
@[simp] theorem modSpoke_ownOrder (s : State) (k : Nat) (f : Spoke → Spoke) : (modSpoke s k f).ownOrder = s.ownOrder := rfl
@[simp] theorem modSpoke_evt (s : State) (k : Nat) (f : Spoke → Spoke) : (modSpoke s k f).evt = s.evt := rfl
@[simp] theorem modSpoke_trc (s : State) (k : Nat) (f : Spoke → Spoke) : (modSpoke s k f).trc = s.trc := rfl
@[simp] theorem modSpoke_fab (s : State) (k : Nat) (f : Spoke → Spoke) : (modSpoke s k f).fab = s.fab := rfl
@[simp] theorem modSpoke_ports (s : State) (k : Nat) (f : Spoke → Spoke) : (modSpoke s k f).ports = s.ports := rfl
@[simp] theorem modSpoke_lanes (s : State) (k : Nat) (f : Spoke → Spoke) : (modSpoke s k f).lanes = s.lanes := rfl
@[simp] theorem modSpoke_spokes (s : State) (k : Nat) (f : Spoke → Spoke) :
    (modSpoke s k f).spokes = tset s.spokes k (f (getSpoke s k)) := rfl
@[simp] theorem modSpoke_timeRec (s : State) (k : Nat) (f : Spoke → Spoke) : (modSpoke s k f).timeRec = s.timeRec := rfl
@[simp] theorem modSpoke_hbm (s : State) (k : Nat) (f : Spoke → Spoke) : (modSpoke s k f).hbm = s.hbm := rfl
@[simp] theorem modSpoke_pwr (s : State) (k : Nat) (f : Spoke → Spoke) : (modSpoke s k f).pwr = s.pwr := rfl
@[simp] theorem modSpoke_sec (s : State) (k : Nat) (f : Spoke → Spoke) : (modSpoke s k f).sec = s.sec := rfl
@[simp] theorem modSpoke_incidents (s : State) (k : Nat) (f : Spoke → Spoke) : (modSpoke s k f).incidents = s.incidents := rfl
@[simp] theorem modSpoke_droppedReports (s : State) (k : Nat) (f : Spoke → Spoke) : (modSpoke s k f).droppedReports = s.droppedReports := rfl
@[simp] theorem modSpoke_holder (s : State) (k : Nat) (f : Spoke → Spoke) : (modSpoke s k f).holder = s.holder := rfl
@[simp] theorem modSpoke_benchLast (s : State) (k : Nat) (f : Spoke → Spoke) : (modSpoke s k f).benchLast = s.benchLast := rfl
@[simp] theorem modSpoke_slots (s : State) (k : Nat) (f : Spoke → Spoke) : (modSpoke s k f).slots = s.slots := rfl

/-! ### modMbx -/

@[simp] theorem modMbx_pending (s : State) (m : Nat) (f : Mailbox → Mailbox) : (modMbx s m f).pending = s.pending := rfl
@[simp] theorem modMbx_time (s : State) (m : Nat) (f : Mailbox → Mailbox) : (modMbx s m f).time = s.time := rfl
@[simp] theorem modMbx_out (s : State) (m : Nat) (f : Mailbox → Mailbox) : (modMbx s m f).out = s.out := rfl
@[simp] theorem modMbx_freeCount (s : State) (m : Nat) (f : Mailbox → Mailbox) : (modMbx s m f).freeCount = s.freeCount := rfl
@[simp] theorem modMbx_host (s : State) (m : Nat) (f : Mailbox → Mailbox) : (modMbx s m f).host = s.host := rfl
@[simp] theorem modMbx_mbx (s : State) (m : Nat) (f : Mailbox → Mailbox) :
    (modMbx s m f).mbx = tset s.mbx m (f (getMbx s m)) := rfl
@[simp] theorem modMbx_ownOrder (s : State) (m : Nat) (f : Mailbox → Mailbox) : (modMbx s m f).ownOrder = s.ownOrder := rfl
@[simp] theorem modMbx_evt (s : State) (m : Nat) (f : Mailbox → Mailbox) : (modMbx s m f).evt = s.evt := rfl
@[simp] theorem modMbx_trc (s : State) (m : Nat) (f : Mailbox → Mailbox) : (modMbx s m f).trc = s.trc := rfl
@[simp] theorem modMbx_fab (s : State) (m : Nat) (f : Mailbox → Mailbox) : (modMbx s m f).fab = s.fab := rfl
@[simp] theorem modMbx_ports (s : State) (m : Nat) (f : Mailbox → Mailbox) : (modMbx s m f).ports = s.ports := rfl
@[simp] theorem modMbx_lanes (s : State) (m : Nat) (f : Mailbox → Mailbox) : (modMbx s m f).lanes = s.lanes := rfl
@[simp] theorem modMbx_spokes (s : State) (m : Nat) (f : Mailbox → Mailbox) : (modMbx s m f).spokes = s.spokes := rfl
@[simp] theorem modMbx_timeRec (s : State) (m : Nat) (f : Mailbox → Mailbox) : (modMbx s m f).timeRec = s.timeRec := rfl
@[simp] theorem modMbx_hbm (s : State) (m : Nat) (f : Mailbox → Mailbox) : (modMbx s m f).hbm = s.hbm := rfl
@[simp] theorem modMbx_pwr (s : State) (m : Nat) (f : Mailbox → Mailbox) : (modMbx s m f).pwr = s.pwr := rfl
@[simp] theorem modMbx_sec (s : State) (m : Nat) (f : Mailbox → Mailbox) : (modMbx s m f).sec = s.sec := rfl
@[simp] theorem modMbx_incidents (s : State) (m : Nat) (f : Mailbox → Mailbox) : (modMbx s m f).incidents = s.incidents := rfl
@[simp] theorem modMbx_droppedReports (s : State) (m : Nat) (f : Mailbox → Mailbox) : (modMbx s m f).droppedReports = s.droppedReports := rfl
@[simp] theorem modMbx_holder (s : State) (m : Nat) (f : Mailbox → Mailbox) : (modMbx s m f).holder = s.holder := rfl
@[simp] theorem modMbx_benchLast (s : State) (m : Nat) (f : Mailbox → Mailbox) : (modMbx s m f).benchLast = s.benchLast := rfl
@[simp] theorem modMbx_slots (s : State) (m : Nat) (f : Mailbox → Mailbox) : (modMbx s m f).slots = s.slots := rfl

/-! ### modChan -/

@[simp] theorem modChan_pending (s : State) (c : Nat) (f : Chan → Chan) : (modChan s c f).pending = s.pending := rfl
@[simp] theorem modChan_time (s : State) (c : Nat) (f : Chan → Chan) : (modChan s c f).time = s.time := rfl
@[simp] theorem modChan_out (s : State) (c : Nat) (f : Chan → Chan) : (modChan s c f).out = s.out := rfl
@[simp] theorem modChan_freeCount (s : State) (c : Nat) (f : Chan → Chan) : (modChan s c f).freeCount = s.freeCount := rfl
@[simp] theorem modChan_host (s : State) (c : Nat) (f : Chan → Chan) : (modChan s c f).host = s.host := rfl
@[simp] theorem modChan_mbx (s : State) (c : Nat) (f : Chan → Chan) : (modChan s c f).mbx = s.mbx := rfl
@[simp] theorem modChan_ownOrder (s : State) (c : Nat) (f : Chan → Chan) : (modChan s c f).ownOrder = s.ownOrder := rfl
@[simp] theorem modChan_evt (s : State) (c : Nat) (f : Chan → Chan) : (modChan s c f).evt = s.evt := rfl
@[simp] theorem modChan_trc (s : State) (c : Nat) (f : Chan → Chan) : (modChan s c f).trc = s.trc := rfl
@[simp] theorem modChan_fab (s : State) (c : Nat) (f : Chan → Chan) : (modChan s c f).fab = s.fab := rfl
@[simp] theorem modChan_ports (s : State) (c : Nat) (f : Chan → Chan) : (modChan s c f).ports = s.ports := rfl
@[simp] theorem modChan_lanes (s : State) (c : Nat) (f : Chan → Chan) : (modChan s c f).lanes = s.lanes := rfl
@[simp] theorem modChan_spokes (s : State) (c : Nat) (f : Chan → Chan) : (modChan s c f).spokes = s.spokes := rfl
@[simp] theorem modChan_timeRec (s : State) (c : Nat) (f : Chan → Chan) : (modChan s c f).timeRec = s.timeRec := rfl
@[simp] theorem modChan_hbm (s : State) (c : Nat) (f : Chan → Chan) :
    (modChan s c f).hbm = { s.hbm with chans := tset s.hbm.chans c (f (getChan s c)) } := rfl
@[simp] theorem modChan_pwr (s : State) (c : Nat) (f : Chan → Chan) : (modChan s c f).pwr = s.pwr := rfl
@[simp] theorem modChan_sec (s : State) (c : Nat) (f : Chan → Chan) : (modChan s c f).sec = s.sec := rfl
@[simp] theorem modChan_incidents (s : State) (c : Nat) (f : Chan → Chan) : (modChan s c f).incidents = s.incidents := rfl
@[simp] theorem modChan_droppedReports (s : State) (c : Nat) (f : Chan → Chan) : (modChan s c f).droppedReports = s.droppedReports := rfl
@[simp] theorem modChan_holder (s : State) (c : Nat) (f : Chan → Chan) : (modChan s c f).holder = s.holder := rfl
@[simp] theorem modChan_benchLast (s : State) (c : Nat) (f : Chan → Chan) : (modChan s c f).benchLast = s.benchLast := rfl
@[simp] theorem modChan_slots (s : State) (c : Nat) (f : Chan → Chan) : (modChan s c f).slots = s.slots := rfl

/-! ### modDomain -/

@[simp] theorem modDomain_pending (s : State) (d : Nat) (f : Domain → Domain) : (modDomain s d f).pending = s.pending := rfl
@[simp] theorem modDomain_time (s : State) (d : Nat) (f : Domain → Domain) : (modDomain s d f).time = s.time := rfl
@[simp] theorem modDomain_out (s : State) (d : Nat) (f : Domain → Domain) : (modDomain s d f).out = s.out := rfl
@[simp] theorem modDomain_freeCount (s : State) (d : Nat) (f : Domain → Domain) : (modDomain s d f).freeCount = s.freeCount := rfl
@[simp] theorem modDomain_host (s : State) (d : Nat) (f : Domain → Domain) : (modDomain s d f).host = s.host := rfl
@[simp] theorem modDomain_mbx (s : State) (d : Nat) (f : Domain → Domain) : (modDomain s d f).mbx = s.mbx := rfl
@[simp] theorem modDomain_ownOrder (s : State) (d : Nat) (f : Domain → Domain) : (modDomain s d f).ownOrder = s.ownOrder := rfl
@[simp] theorem modDomain_evt (s : State) (d : Nat) (f : Domain → Domain) : (modDomain s d f).evt = s.evt := rfl
@[simp] theorem modDomain_trc (s : State) (d : Nat) (f : Domain → Domain) : (modDomain s d f).trc = s.trc := rfl
@[simp] theorem modDomain_fab (s : State) (d : Nat) (f : Domain → Domain) : (modDomain s d f).fab = s.fab := rfl
@[simp] theorem modDomain_ports (s : State) (d : Nat) (f : Domain → Domain) : (modDomain s d f).ports = s.ports := rfl
@[simp] theorem modDomain_lanes (s : State) (d : Nat) (f : Domain → Domain) : (modDomain s d f).lanes = s.lanes := rfl
@[simp] theorem modDomain_spokes (s : State) (d : Nat) (f : Domain → Domain) : (modDomain s d f).spokes = s.spokes := rfl
@[simp] theorem modDomain_timeRec (s : State) (d : Nat) (f : Domain → Domain) : (modDomain s d f).timeRec = s.timeRec := rfl
@[simp] theorem modDomain_hbm (s : State) (d : Nat) (f : Domain → Domain) : (modDomain s d f).hbm = s.hbm := rfl
@[simp] theorem modDomain_pwr (s : State) (d : Nat) (f : Domain → Domain) :
    (modDomain s d f).pwr = { s.pwr with domains := tset s.pwr.domains d (f (getDomain s d)) } := rfl
@[simp] theorem modDomain_sec (s : State) (d : Nat) (f : Domain → Domain) : (modDomain s d f).sec = s.sec := rfl
@[simp] theorem modDomain_incidents (s : State) (d : Nat) (f : Domain → Domain) : (modDomain s d f).incidents = s.incidents := rfl
@[simp] theorem modDomain_droppedReports (s : State) (d : Nat) (f : Domain → Domain) : (modDomain s d f).droppedReports = s.droppedReports := rfl
@[simp] theorem modDomain_holder (s : State) (d : Nat) (f : Domain → Domain) : (modDomain s d f).holder = s.holder := rfl
@[simp] theorem modDomain_benchLast (s : State) (d : Nat) (f : Domain → Domain) : (modDomain s d f).benchLast = s.benchLast := rfl
@[simp] theorem modDomain_slots (s : State) (d : Nat) (f : Domain → Domain) : (modDomain s d f).slots = s.slots := rfl

/-! ### emit -/

@[simp] theorem emit_pending (s : State) (e : Emit) : (emit s e).pending = s.pending := rfl
@[simp] theorem emit_time (s : State) (e : Emit) : (emit s e).time = s.time := rfl
@[simp] theorem emit_out (s : State) (e : Emit) :
    (emit s e).out = s.out ++ [e] := rfl
@[simp] theorem emit_freeCount (s : State) (e : Emit) : (emit s e).freeCount = s.freeCount := rfl
@[simp] theorem emit_host (s : State) (e : Emit) : (emit s e).host = s.host := rfl
@[simp] theorem emit_mbx (s : State) (e : Emit) : (emit s e).mbx = s.mbx := rfl
@[simp] theorem emit_ownOrder (s : State) (e : Emit) : (emit s e).ownOrder = s.ownOrder := rfl
@[simp] theorem emit_evt (s : State) (e : Emit) : (emit s e).evt = s.evt := rfl
@[simp] theorem emit_trc (s : State) (e : Emit) : (emit s e).trc = s.trc := rfl
@[simp] theorem emit_fab (s : State) (e : Emit) : (emit s e).fab = s.fab := rfl
@[simp] theorem emit_ports (s : State) (e : Emit) : (emit s e).ports = s.ports := rfl
@[simp] theorem emit_lanes (s : State) (e : Emit) : (emit s e).lanes = s.lanes := rfl
@[simp] theorem emit_spokes (s : State) (e : Emit) : (emit s e).spokes = s.spokes := rfl
@[simp] theorem emit_timeRec (s : State) (e : Emit) : (emit s e).timeRec = s.timeRec := rfl
@[simp] theorem emit_hbm (s : State) (e : Emit) : (emit s e).hbm = s.hbm := rfl
@[simp] theorem emit_pwr (s : State) (e : Emit) : (emit s e).pwr = s.pwr := rfl
@[simp] theorem emit_sec (s : State) (e : Emit) : (emit s e).sec = s.sec := rfl
@[simp] theorem emit_incidents (s : State) (e : Emit) : (emit s e).incidents = s.incidents := rfl
@[simp] theorem emit_droppedReports (s : State) (e : Emit) : (emit s e).droppedReports = s.droppedReports := rfl
@[simp] theorem emit_holder (s : State) (e : Emit) : (emit s e).holder = s.holder := rfl
@[simp] theorem emit_benchLast (s : State) (e : Emit) : (emit s e).benchLast = s.benchLast := rfl
@[simp] theorem emit_slots (s : State) (e : Emit) : (emit s e).slots = s.slots := rfl

/-! ### timeTo -/

@[simp] theorem timeTo_pending (s : State) (t : Nat) : (timeTo s t).pending = s.pending := rfl
@[simp] theorem timeTo_time (s : State) (t : Nat) :
    (timeTo s t).time = timeMask (max s.time t) := rfl
@[simp] theorem timeTo_out (s : State) (t : Nat) : (timeTo s t).out = s.out := rfl
@[simp] theorem timeTo_freeCount (s : State) (t : Nat) : (timeTo s t).freeCount = s.freeCount := rfl
@[simp] theorem timeTo_host (s : State) (t : Nat) : (timeTo s t).host = s.host := rfl
@[simp] theorem timeTo_mbx (s : State) (t : Nat) : (timeTo s t).mbx = s.mbx := rfl
@[simp] theorem timeTo_ownOrder (s : State) (t : Nat) : (timeTo s t).ownOrder = s.ownOrder := rfl
@[simp] theorem timeTo_evt (s : State) (t : Nat) : (timeTo s t).evt = s.evt := rfl
@[simp] theorem timeTo_trc (s : State) (t : Nat) : (timeTo s t).trc = s.trc := rfl
@[simp] theorem timeTo_fab (s : State) (t : Nat) : (timeTo s t).fab = s.fab := rfl
@[simp] theorem timeTo_ports (s : State) (t : Nat) : (timeTo s t).ports = s.ports := rfl
@[simp] theorem timeTo_lanes (s : State) (t : Nat) : (timeTo s t).lanes = s.lanes := rfl
@[simp] theorem timeTo_spokes (s : State) (t : Nat) : (timeTo s t).spokes = s.spokes := rfl
@[simp] theorem timeTo_timeRec (s : State) (t : Nat) : (timeTo s t).timeRec = s.timeRec := rfl
@[simp] theorem timeTo_hbm (s : State) (t : Nat) : (timeTo s t).hbm = s.hbm := rfl
@[simp] theorem timeTo_pwr (s : State) (t : Nat) : (timeTo s t).pwr = s.pwr := rfl
@[simp] theorem timeTo_sec (s : State) (t : Nat) : (timeTo s t).sec = s.sec := rfl
@[simp] theorem timeTo_incidents (s : State) (t : Nat) : (timeTo s t).incidents = s.incidents := rfl
@[simp] theorem timeTo_droppedReports (s : State) (t : Nat) : (timeTo s t).droppedReports = s.droppedReports := rfl
@[simp] theorem timeTo_holder (s : State) (t : Nat) : (timeTo s t).holder = s.holder := rfl
@[simp] theorem timeTo_benchLast (s : State) (t : Nat) : (timeTo s t).benchLast = s.benchLast := rfl
@[simp] theorem timeTo_slots (s : State) (t : Nat) : (timeTo s t).slots = s.slots := rfl

/-! ### raiseIrq -/

@[simp] theorem raiseIrq_pending (s : State) (v : Nat) : (raiseIrq s v).pending = s.pending := rfl
@[simp] theorem raiseIrq_time (s : State) (v : Nat) : (raiseIrq s v).time = s.time := rfl
@[simp] theorem raiseIrq_out (s : State) (v : Nat) :
    (raiseIrq s v).out = s.out ++ [.interrupt (deviceModule s) v] := rfl
@[simp] theorem raiseIrq_freeCount (s : State) (v : Nat) : (raiseIrq s v).freeCount = s.freeCount := rfl
@[simp] theorem raiseIrq_host (s : State) (v : Nat) : (raiseIrq s v).host = s.host := rfl
@[simp] theorem raiseIrq_mbx (s : State) (v : Nat) : (raiseIrq s v).mbx = s.mbx := rfl
@[simp] theorem raiseIrq_ownOrder (s : State) (v : Nat) : (raiseIrq s v).ownOrder = s.ownOrder := rfl
@[simp] theorem raiseIrq_evt (s : State) (v : Nat) : (raiseIrq s v).evt = s.evt := rfl
@[simp] theorem raiseIrq_trc (s : State) (v : Nat) : (raiseIrq s v).trc = s.trc := rfl
@[simp] theorem raiseIrq_fab (s : State) (v : Nat) : (raiseIrq s v).fab = s.fab := rfl
@[simp] theorem raiseIrq_ports (s : State) (v : Nat) : (raiseIrq s v).ports = s.ports := rfl
@[simp] theorem raiseIrq_lanes (s : State) (v : Nat) : (raiseIrq s v).lanes = s.lanes := rfl
@[simp] theorem raiseIrq_spokes (s : State) (v : Nat) : (raiseIrq s v).spokes = s.spokes := rfl
@[simp] theorem raiseIrq_timeRec (s : State) (v : Nat) : (raiseIrq s v).timeRec = s.timeRec := rfl
@[simp] theorem raiseIrq_hbm (s : State) (v : Nat) : (raiseIrq s v).hbm = s.hbm := rfl
@[simp] theorem raiseIrq_pwr (s : State) (v : Nat) : (raiseIrq s v).pwr = s.pwr := rfl
@[simp] theorem raiseIrq_sec (s : State) (v : Nat) : (raiseIrq s v).sec = s.sec := rfl
@[simp] theorem raiseIrq_incidents (s : State) (v : Nat) : (raiseIrq s v).incidents = s.incidents := rfl
@[simp] theorem raiseIrq_droppedReports (s : State) (v : Nat) : (raiseIrq s v).droppedReports = s.droppedReports := rfl
@[simp] theorem raiseIrq_holder (s : State) (v : Nat) : (raiseIrq s v).holder = s.holder := rfl
@[simp] theorem raiseIrq_benchLast (s : State) (v : Nat) : (raiseIrq s v).benchLast = s.benchLast := rfl
@[simp] theorem raiseIrq_slots (s : State) (v : Nat) : (raiseIrq s v).slots = s.slots := rfl

/-! ### modFab -/

@[simp] theorem modFab_pending (s : State) (f : Fabric → Fabric) : (modFab s f).pending = s.pending := rfl
@[simp] theorem modFab_time (s : State) (f : Fabric → Fabric) : (modFab s f).time = s.time := rfl
@[simp] theorem modFab_out (s : State) (f : Fabric → Fabric) : (modFab s f).out = s.out := rfl
@[simp] theorem modFab_freeCount (s : State) (f : Fabric → Fabric) : (modFab s f).freeCount = s.freeCount := rfl
@[simp] theorem modFab_host (s : State) (f : Fabric → Fabric) : (modFab s f).host = s.host := rfl
@[simp] theorem modFab_mbx (s : State) (f : Fabric → Fabric) : (modFab s f).mbx = s.mbx := rfl
@[simp] theorem modFab_ownOrder (s : State) (f : Fabric → Fabric) : (modFab s f).ownOrder = s.ownOrder := rfl
@[simp] theorem modFab_evt (s : State) (f : Fabric → Fabric) : (modFab s f).evt = s.evt := rfl
@[simp] theorem modFab_trc (s : State) (f : Fabric → Fabric) : (modFab s f).trc = s.trc := rfl
@[simp] theorem modFab_fab (s : State) (f : Fabric → Fabric) :
    (modFab s f).fab = f s.fab := rfl
@[simp] theorem modFab_ports (s : State) (f : Fabric → Fabric) : (modFab s f).ports = s.ports := rfl
@[simp] theorem modFab_lanes (s : State) (f : Fabric → Fabric) : (modFab s f).lanes = s.lanes := rfl
@[simp] theorem modFab_spokes (s : State) (f : Fabric → Fabric) : (modFab s f).spokes = s.spokes := rfl
@[simp] theorem modFab_timeRec (s : State) (f : Fabric → Fabric) : (modFab s f).timeRec = s.timeRec := rfl
@[simp] theorem modFab_hbm (s : State) (f : Fabric → Fabric) : (modFab s f).hbm = s.hbm := rfl
@[simp] theorem modFab_pwr (s : State) (f : Fabric → Fabric) : (modFab s f).pwr = s.pwr := rfl
@[simp] theorem modFab_sec (s : State) (f : Fabric → Fabric) : (modFab s f).sec = s.sec := rfl
@[simp] theorem modFab_incidents (s : State) (f : Fabric → Fabric) : (modFab s f).incidents = s.incidents := rfl
@[simp] theorem modFab_droppedReports (s : State) (f : Fabric → Fabric) : (modFab s f).droppedReports = s.droppedReports := rfl
@[simp] theorem modFab_holder (s : State) (f : Fabric → Fabric) : (modFab s f).holder = s.holder := rfl
@[simp] theorem modFab_benchLast (s : State) (f : Fabric → Fabric) : (modFab s f).benchLast = s.benchLast := rfl
@[simp] theorem modFab_slots (s : State) (f : Fabric → Fabric) : (modFab s f).slots = s.slots := rfl

/-! ### modPwr -/

@[simp] theorem modPwr_pending (s : State) (f : Power → Power) : (modPwr s f).pending = s.pending := rfl
@[simp] theorem modPwr_time (s : State) (f : Power → Power) : (modPwr s f).time = s.time := rfl
@[simp] theorem modPwr_out (s : State) (f : Power → Power) : (modPwr s f).out = s.out := rfl
@[simp] theorem modPwr_freeCount (s : State) (f : Power → Power) : (modPwr s f).freeCount = s.freeCount := rfl
@[simp] theorem modPwr_host (s : State) (f : Power → Power) : (modPwr s f).host = s.host := rfl
@[simp] theorem modPwr_mbx (s : State) (f : Power → Power) : (modPwr s f).mbx = s.mbx := rfl
@[simp] theorem modPwr_ownOrder (s : State) (f : Power → Power) : (modPwr s f).ownOrder = s.ownOrder := rfl
@[simp] theorem modPwr_evt (s : State) (f : Power → Power) : (modPwr s f).evt = s.evt := rfl
@[simp] theorem modPwr_trc (s : State) (f : Power → Power) : (modPwr s f).trc = s.trc := rfl
@[simp] theorem modPwr_fab (s : State) (f : Power → Power) : (modPwr s f).fab = s.fab := rfl
@[simp] theorem modPwr_ports (s : State) (f : Power → Power) : (modPwr s f).ports = s.ports := rfl
@[simp] theorem modPwr_lanes (s : State) (f : Power → Power) : (modPwr s f).lanes = s.lanes := rfl
@[simp] theorem modPwr_spokes (s : State) (f : Power → Power) : (modPwr s f).spokes = s.spokes := rfl
@[simp] theorem modPwr_timeRec (s : State) (f : Power → Power) : (modPwr s f).timeRec = s.timeRec := rfl
@[simp] theorem modPwr_hbm (s : State) (f : Power → Power) : (modPwr s f).hbm = s.hbm := rfl
@[simp] theorem modPwr_pwr (s : State) (f : Power → Power) :
    (modPwr s f).pwr = f s.pwr := rfl
@[simp] theorem modPwr_sec (s : State) (f : Power → Power) : (modPwr s f).sec = s.sec := rfl
@[simp] theorem modPwr_incidents (s : State) (f : Power → Power) : (modPwr s f).incidents = s.incidents := rfl
@[simp] theorem modPwr_droppedReports (s : State) (f : Power → Power) : (modPwr s f).droppedReports = s.droppedReports := rfl
@[simp] theorem modPwr_holder (s : State) (f : Power → Power) : (modPwr s f).holder = s.holder := rfl
@[simp] theorem modPwr_benchLast (s : State) (f : Power → Power) : (modPwr s f).benchLast = s.benchLast := rfl
@[simp] theorem modPwr_slots (s : State) (f : Power → Power) : (modPwr s f).slots = s.slots := rfl

/-! ### modMem -/

@[simp] theorem modMem_pending (s : State) (f : List (Nat × Byte) → List (Nat × Byte)) : (modMem s f).pending = s.pending := rfl
@[simp] theorem modMem_time (s : State) (f : List (Nat × Byte) → List (Nat × Byte)) : (modMem s f).time = s.time := rfl
@[simp] theorem modMem_out (s : State) (f : List (Nat × Byte) → List (Nat × Byte)) : (modMem s f).out = s.out := rfl
@[simp] theorem modMem_freeCount (s : State) (f : List (Nat × Byte) → List (Nat × Byte)) : (modMem s f).freeCount = s.freeCount := rfl
@[simp] theorem modMem_host (s : State) (f : List (Nat × Byte) → List (Nat × Byte)) : (modMem s f).host = s.host := rfl
@[simp] theorem modMem_mbx (s : State) (f : List (Nat × Byte) → List (Nat × Byte)) : (modMem s f).mbx = s.mbx := rfl
@[simp] theorem modMem_ownOrder (s : State) (f : List (Nat × Byte) → List (Nat × Byte)) : (modMem s f).ownOrder = s.ownOrder := rfl
@[simp] theorem modMem_evt (s : State) (f : List (Nat × Byte) → List (Nat × Byte)) : (modMem s f).evt = s.evt := rfl
@[simp] theorem modMem_trc (s : State) (f : List (Nat × Byte) → List (Nat × Byte)) : (modMem s f).trc = s.trc := rfl
@[simp] theorem modMem_fab (s : State) (f : List (Nat × Byte) → List (Nat × Byte)) : (modMem s f).fab = s.fab := rfl
@[simp] theorem modMem_ports (s : State) (f : List (Nat × Byte) → List (Nat × Byte)) : (modMem s f).ports = s.ports := rfl
@[simp] theorem modMem_lanes (s : State) (f : List (Nat × Byte) → List (Nat × Byte)) : (modMem s f).lanes = s.lanes := rfl
@[simp] theorem modMem_spokes (s : State) (f : List (Nat × Byte) → List (Nat × Byte)) : (modMem s f).spokes = s.spokes := rfl
@[simp] theorem modMem_timeRec (s : State) (f : List (Nat × Byte) → List (Nat × Byte)) : (modMem s f).timeRec = s.timeRec := rfl
@[simp] theorem modMem_hbm (s : State) (f : List (Nat × Byte) → List (Nat × Byte)) :
    (modMem s f).hbm = { s.hbm with mem := f s.hbm.mem } := rfl
@[simp] theorem modMem_pwr (s : State) (f : List (Nat × Byte) → List (Nat × Byte)) : (modMem s f).pwr = s.pwr := rfl
@[simp] theorem modMem_sec (s : State) (f : List (Nat × Byte) → List (Nat × Byte)) : (modMem s f).sec = s.sec := rfl
@[simp] theorem modMem_incidents (s : State) (f : List (Nat × Byte) → List (Nat × Byte)) : (modMem s f).incidents = s.incidents := rfl
@[simp] theorem modMem_droppedReports (s : State) (f : List (Nat × Byte) → List (Nat × Byte)) : (modMem s f).droppedReports = s.droppedReports := rfl
@[simp] theorem modMem_holder (s : State) (f : List (Nat × Byte) → List (Nat × Byte)) : (modMem s f).holder = s.holder := rfl
@[simp] theorem modMem_benchLast (s : State) (f : List (Nat × Byte) → List (Nat × Byte)) : (modMem s f).benchLast = s.benchLast := rfl
@[simp] theorem modMem_slots (s : State) (f : List (Nat × Byte) → List (Nat × Byte)) : (modMem s f).slots = s.slots := rfl

/-! ### modBench -/

@[simp] theorem modBench_pending (s : State) (i : Nat) (f : Bench → Bench) : (modBench s i f).pending = s.pending := rfl
@[simp] theorem modBench_time (s : State) (i : Nat) (f : Bench → Bench) : (modBench s i f).time = s.time := rfl
@[simp] theorem modBench_out (s : State) (i : Nat) (f : Bench → Bench) : (modBench s i f).out = s.out := rfl
@[simp] theorem modBench_freeCount (s : State) (i : Nat) (f : Bench → Bench) : (modBench s i f).freeCount = s.freeCount := rfl
@[simp] theorem modBench_host (s : State) (i : Nat) (f : Bench → Bench) : (modBench s i f).host = s.host := rfl
@[simp] theorem modBench_mbx (s : State) (i : Nat) (f : Bench → Bench) : (modBench s i f).mbx = s.mbx := rfl
@[simp] theorem modBench_ownOrder (s : State) (i : Nat) (f : Bench → Bench) : (modBench s i f).ownOrder = s.ownOrder := rfl
@[simp] theorem modBench_evt (s : State) (i : Nat) (f : Bench → Bench) : (modBench s i f).evt = s.evt := rfl
@[simp] theorem modBench_trc (s : State) (i : Nat) (f : Bench → Bench) : (modBench s i f).trc = s.trc := rfl
@[simp] theorem modBench_fab (s : State) (i : Nat) (f : Bench → Bench) : (modBench s i f).fab = s.fab := rfl
@[simp] theorem modBench_ports (s : State) (i : Nat) (f : Bench → Bench) : (modBench s i f).ports = s.ports := rfl
@[simp] theorem modBench_lanes (s : State) (i : Nat) (f : Bench → Bench) : (modBench s i f).lanes = s.lanes := rfl
@[simp] theorem modBench_spokes (s : State) (i : Nat) (f : Bench → Bench) : (modBench s i f).spokes = s.spokes := rfl
@[simp] theorem modBench_timeRec (s : State) (i : Nat) (f : Bench → Bench) : (modBench s i f).timeRec = s.timeRec := rfl
@[simp] theorem modBench_hbm (s : State) (i : Nat) (f : Bench → Bench) : (modBench s i f).hbm = s.hbm := rfl
@[simp] theorem modBench_pwr (s : State) (i : Nat) (f : Bench → Bench) : (modBench s i f).pwr = s.pwr := rfl
@[simp] theorem modBench_sec (s : State) (i : Nat) (f : Bench → Bench) : (modBench s i f).sec = s.sec := rfl
@[simp] theorem modBench_incidents (s : State) (i : Nat) (f : Bench → Bench) : (modBench s i f).incidents = s.incidents := rfl
@[simp] theorem modBench_droppedReports (s : State) (i : Nat) (f : Bench → Bench) : (modBench s i f).droppedReports = s.droppedReports := rfl
@[simp] theorem modBench_holder (s : State) (i : Nat) (f : Bench → Bench) : (modBench s i f).holder = s.holder := rfl
@[simp] theorem modBench_benchLast (s : State) (i : Nat) (f : Bench → Bench) : (modBench s i f).benchLast = s.benchLast := rfl
@[simp] theorem modBench_slots (s : State) (i : Nat) (f : Bench → Bench) :
    (modBench s i f).slots = tset s.slots i { getSlot s i with bench := f (getSlot s i).bench } := rfl

/-! ### atCycle -/

@[simp] theorem atCycle_pending (s : State) (i c : Nat) : (atCycle s i c).pending = s.pending := rfl
@[simp] theorem atCycle_time (s : State) (i c : Nat) :
    (atCycle s i c).time = timeMask (max s.time (cycleTime s (getSlot s i).bench c)) := rfl
@[simp] theorem atCycle_out (s : State) (i c : Nat) : (atCycle s i c).out = s.out := rfl
@[simp] theorem atCycle_freeCount (s : State) (i c : Nat) : (atCycle s i c).freeCount = s.freeCount := rfl
@[simp] theorem atCycle_host (s : State) (i c : Nat) : (atCycle s i c).host = s.host := rfl
@[simp] theorem atCycle_mbx (s : State) (i c : Nat) : (atCycle s i c).mbx = s.mbx := rfl
@[simp] theorem atCycle_ownOrder (s : State) (i c : Nat) : (atCycle s i c).ownOrder = s.ownOrder := rfl
@[simp] theorem atCycle_evt (s : State) (i c : Nat) : (atCycle s i c).evt = s.evt := rfl
@[simp] theorem atCycle_trc (s : State) (i c : Nat) : (atCycle s i c).trc = s.trc := rfl
@[simp] theorem atCycle_fab (s : State) (i c : Nat) : (atCycle s i c).fab = s.fab := rfl
@[simp] theorem atCycle_ports (s : State) (i c : Nat) : (atCycle s i c).ports = s.ports := rfl
@[simp] theorem atCycle_lanes (s : State) (i c : Nat) : (atCycle s i c).lanes = s.lanes := rfl
@[simp] theorem atCycle_spokes (s : State) (i c : Nat) : (atCycle s i c).spokes = s.spokes := rfl
@[simp] theorem atCycle_timeRec (s : State) (i c : Nat) : (atCycle s i c).timeRec = s.timeRec := rfl
@[simp] theorem atCycle_hbm (s : State) (i c : Nat) : (atCycle s i c).hbm = s.hbm := rfl
@[simp] theorem atCycle_pwr (s : State) (i c : Nat) : (atCycle s i c).pwr = s.pwr := rfl
@[simp] theorem atCycle_sec (s : State) (i c : Nat) : (atCycle s i c).sec = s.sec := rfl
@[simp] theorem atCycle_incidents (s : State) (i c : Nat) : (atCycle s i c).incidents = s.incidents := rfl
@[simp] theorem atCycle_droppedReports (s : State) (i c : Nat) : (atCycle s i c).droppedReports = s.droppedReports := rfl
@[simp] theorem atCycle_holder (s : State) (i c : Nat) : (atCycle s i c).holder = s.holder := rfl
@[simp] theorem atCycle_benchLast (s : State) (i c : Nat) : (atCycle s i c).benchLast = s.benchLast := rfl
@[simp] theorem atCycle_slots (s : State) (i c : Nat) : (atCycle s i c).slots = s.slots := rfl

/-! ### modTan -/

@[simp] theorem modTan_pending (s : State) (i : Nat) (f : Tandem → Tandem) : (modTan s i f).pending = s.pending := rfl
@[simp] theorem modTan_time (s : State) (i : Nat) (f : Tandem → Tandem) : (modTan s i f).time = s.time := rfl
@[simp] theorem modTan_out (s : State) (i : Nat) (f : Tandem → Tandem) : (modTan s i f).out = s.out := rfl
@[simp] theorem modTan_freeCount (s : State) (i : Nat) (f : Tandem → Tandem) : (modTan s i f).freeCount = s.freeCount := rfl
@[simp] theorem modTan_host (s : State) (i : Nat) (f : Tandem → Tandem) : (modTan s i f).host = s.host := rfl
@[simp] theorem modTan_mbx (s : State) (i : Nat) (f : Tandem → Tandem) : (modTan s i f).mbx = s.mbx := rfl
@[simp] theorem modTan_ownOrder (s : State) (i : Nat) (f : Tandem → Tandem) : (modTan s i f).ownOrder = s.ownOrder := rfl
@[simp] theorem modTan_evt (s : State) (i : Nat) (f : Tandem → Tandem) : (modTan s i f).evt = s.evt := rfl
@[simp] theorem modTan_trc (s : State) (i : Nat) (f : Tandem → Tandem) : (modTan s i f).trc = s.trc := rfl
@[simp] theorem modTan_fab (s : State) (i : Nat) (f : Tandem → Tandem) : (modTan s i f).fab = s.fab := rfl
@[simp] theorem modTan_ports (s : State) (i : Nat) (f : Tandem → Tandem) : (modTan s i f).ports = s.ports := rfl
@[simp] theorem modTan_lanes (s : State) (i : Nat) (f : Tandem → Tandem) : (modTan s i f).lanes = s.lanes := rfl
@[simp] theorem modTan_spokes (s : State) (i : Nat) (f : Tandem → Tandem) : (modTan s i f).spokes = s.spokes := rfl
@[simp] theorem modTan_timeRec (s : State) (i : Nat) (f : Tandem → Tandem) : (modTan s i f).timeRec = s.timeRec := rfl
@[simp] theorem modTan_hbm (s : State) (i : Nat) (f : Tandem → Tandem) : (modTan s i f).hbm = s.hbm := rfl
@[simp] theorem modTan_pwr (s : State) (i : Nat) (f : Tandem → Tandem) : (modTan s i f).pwr = s.pwr := rfl
@[simp] theorem modTan_sec (s : State) (i : Nat) (f : Tandem → Tandem) : (modTan s i f).sec = s.sec := rfl
@[simp] theorem modTan_incidents (s : State) (i : Nat) (f : Tandem → Tandem) : (modTan s i f).incidents = s.incidents := rfl
@[simp] theorem modTan_droppedReports (s : State) (i : Nat) (f : Tandem → Tandem) : (modTan s i f).droppedReports = s.droppedReports := rfl
@[simp] theorem modTan_holder (s : State) (i : Nat) (f : Tandem → Tandem) : (modTan s i f).holder = s.holder := rfl
@[simp] theorem modTan_benchLast (s : State) (i : Nat) (f : Tandem → Tandem) : (modTan s i f).benchLast = s.benchLast := rfl
@[simp] theorem modTan_slots (s : State) (i : Nat) (f : Tandem → Tandem) :
    (modTan s i f).slots = tset s.slots i { getSlot s i with tan := f (getSlot s i).tan } := rfl

/-! ### modStep -/

@[simp] theorem modStep_pending (s : State) (i : Nat) (f : StepRec → StepRec) : (modStep s i f).pending = s.pending := rfl
@[simp] theorem modStep_time (s : State) (i : Nat) (f : StepRec → StepRec) : (modStep s i f).time = s.time := rfl
@[simp] theorem modStep_out (s : State) (i : Nat) (f : StepRec → StepRec) : (modStep s i f).out = s.out := rfl
@[simp] theorem modStep_freeCount (s : State) (i : Nat) (f : StepRec → StepRec) : (modStep s i f).freeCount = s.freeCount := rfl
@[simp] theorem modStep_host (s : State) (i : Nat) (f : StepRec → StepRec) : (modStep s i f).host = s.host := rfl
@[simp] theorem modStep_mbx (s : State) (i : Nat) (f : StepRec → StepRec) : (modStep s i f).mbx = s.mbx := rfl
@[simp] theorem modStep_ownOrder (s : State) (i : Nat) (f : StepRec → StepRec) : (modStep s i f).ownOrder = s.ownOrder := rfl
@[simp] theorem modStep_evt (s : State) (i : Nat) (f : StepRec → StepRec) : (modStep s i f).evt = s.evt := rfl
@[simp] theorem modStep_trc (s : State) (i : Nat) (f : StepRec → StepRec) : (modStep s i f).trc = s.trc := rfl
@[simp] theorem modStep_fab (s : State) (i : Nat) (f : StepRec → StepRec) : (modStep s i f).fab = s.fab := rfl
@[simp] theorem modStep_ports (s : State) (i : Nat) (f : StepRec → StepRec) : (modStep s i f).ports = s.ports := rfl
@[simp] theorem modStep_lanes (s : State) (i : Nat) (f : StepRec → StepRec) : (modStep s i f).lanes = s.lanes := rfl
@[simp] theorem modStep_spokes (s : State) (i : Nat) (f : StepRec → StepRec) : (modStep s i f).spokes = s.spokes := rfl
@[simp] theorem modStep_timeRec (s : State) (i : Nat) (f : StepRec → StepRec) : (modStep s i f).timeRec = s.timeRec := rfl
@[simp] theorem modStep_hbm (s : State) (i : Nat) (f : StepRec → StepRec) : (modStep s i f).hbm = s.hbm := rfl
@[simp] theorem modStep_pwr (s : State) (i : Nat) (f : StepRec → StepRec) : (modStep s i f).pwr = s.pwr := rfl
@[simp] theorem modStep_sec (s : State) (i : Nat) (f : StepRec → StepRec) : (modStep s i f).sec = s.sec := rfl
@[simp] theorem modStep_incidents (s : State) (i : Nat) (f : StepRec → StepRec) : (modStep s i f).incidents = s.incidents := rfl
@[simp] theorem modStep_droppedReports (s : State) (i : Nat) (f : StepRec → StepRec) : (modStep s i f).droppedReports = s.droppedReports := rfl
@[simp] theorem modStep_holder (s : State) (i : Nat) (f : StepRec → StepRec) : (modStep s i f).holder = s.holder := rfl
@[simp] theorem modStep_benchLast (s : State) (i : Nat) (f : StepRec → StepRec) : (modStep s i f).benchLast = s.benchLast := rfl
@[simp] theorem modStep_slots (s : State) (i : Nat) (f : StepRec → StepRec) :
    (modStep s i f).slots = tset s.slots i { getSlot s i with step := f (getSlot s i).step } := rfl

/-! ### modShard -/

@[simp] theorem modShard_pending (s : State) (i : Nat) (f : Shard → Shard) : (modShard s i f).pending = s.pending := rfl
@[simp] theorem modShard_time (s : State) (i : Nat) (f : Shard → Shard) : (modShard s i f).time = s.time := rfl
@[simp] theorem modShard_out (s : State) (i : Nat) (f : Shard → Shard) : (modShard s i f).out = s.out := rfl
@[simp] theorem modShard_freeCount (s : State) (i : Nat) (f : Shard → Shard) : (modShard s i f).freeCount = s.freeCount := rfl
@[simp] theorem modShard_host (s : State) (i : Nat) (f : Shard → Shard) : (modShard s i f).host = s.host := rfl
@[simp] theorem modShard_mbx (s : State) (i : Nat) (f : Shard → Shard) : (modShard s i f).mbx = s.mbx := rfl
@[simp] theorem modShard_ownOrder (s : State) (i : Nat) (f : Shard → Shard) : (modShard s i f).ownOrder = s.ownOrder := rfl
@[simp] theorem modShard_evt (s : State) (i : Nat) (f : Shard → Shard) : (modShard s i f).evt = s.evt := rfl
@[simp] theorem modShard_trc (s : State) (i : Nat) (f : Shard → Shard) : (modShard s i f).trc = s.trc := rfl
@[simp] theorem modShard_fab (s : State) (i : Nat) (f : Shard → Shard) : (modShard s i f).fab = s.fab := rfl
@[simp] theorem modShard_ports (s : State) (i : Nat) (f : Shard → Shard) : (modShard s i f).ports = s.ports := rfl
@[simp] theorem modShard_lanes (s : State) (i : Nat) (f : Shard → Shard) : (modShard s i f).lanes = s.lanes := rfl
@[simp] theorem modShard_spokes (s : State) (i : Nat) (f : Shard → Shard) : (modShard s i f).spokes = s.spokes := rfl
@[simp] theorem modShard_timeRec (s : State) (i : Nat) (f : Shard → Shard) : (modShard s i f).timeRec = s.timeRec := rfl
@[simp] theorem modShard_hbm (s : State) (i : Nat) (f : Shard → Shard) : (modShard s i f).hbm = s.hbm := rfl
@[simp] theorem modShard_pwr (s : State) (i : Nat) (f : Shard → Shard) : (modShard s i f).pwr = s.pwr := rfl
@[simp] theorem modShard_sec (s : State) (i : Nat) (f : Shard → Shard) : (modShard s i f).sec = s.sec := rfl
@[simp] theorem modShard_incidents (s : State) (i : Nat) (f : Shard → Shard) : (modShard s i f).incidents = s.incidents := rfl
@[simp] theorem modShard_droppedReports (s : State) (i : Nat) (f : Shard → Shard) : (modShard s i f).droppedReports = s.droppedReports := rfl
@[simp] theorem modShard_holder (s : State) (i : Nat) (f : Shard → Shard) : (modShard s i f).holder = s.holder := rfl
@[simp] theorem modShard_benchLast (s : State) (i : Nat) (f : Shard → Shard) : (modShard s i f).benchLast = s.benchLast := rfl
@[simp] theorem modShard_slots (s : State) (i : Nat) (f : Shard → Shard) :
    (modShard s i f).slots = tset s.slots i { getSlot s i with shard := f (getSlot s i).shard } := rfl

/-! ### modHealth -/

@[simp] theorem modHealth_pending (s : State) (i : Nat) (f : Health → Health) : (modHealth s i f).pending = s.pending := rfl
@[simp] theorem modHealth_time (s : State) (i : Nat) (f : Health → Health) : (modHealth s i f).time = s.time := rfl
@[simp] theorem modHealth_out (s : State) (i : Nat) (f : Health → Health) : (modHealth s i f).out = s.out := rfl
@[simp] theorem modHealth_freeCount (s : State) (i : Nat) (f : Health → Health) : (modHealth s i f).freeCount = s.freeCount := rfl
@[simp] theorem modHealth_host (s : State) (i : Nat) (f : Health → Health) : (modHealth s i f).host = s.host := rfl
@[simp] theorem modHealth_mbx (s : State) (i : Nat) (f : Health → Health) : (modHealth s i f).mbx = s.mbx := rfl
@[simp] theorem modHealth_ownOrder (s : State) (i : Nat) (f : Health → Health) : (modHealth s i f).ownOrder = s.ownOrder := rfl
@[simp] theorem modHealth_evt (s : State) (i : Nat) (f : Health → Health) : (modHealth s i f).evt = s.evt := rfl
@[simp] theorem modHealth_trc (s : State) (i : Nat) (f : Health → Health) : (modHealth s i f).trc = s.trc := rfl
@[simp] theorem modHealth_fab (s : State) (i : Nat) (f : Health → Health) : (modHealth s i f).fab = s.fab := rfl
@[simp] theorem modHealth_ports (s : State) (i : Nat) (f : Health → Health) : (modHealth s i f).ports = s.ports := rfl
@[simp] theorem modHealth_lanes (s : State) (i : Nat) (f : Health → Health) : (modHealth s i f).lanes = s.lanes := rfl
@[simp] theorem modHealth_spokes (s : State) (i : Nat) (f : Health → Health) : (modHealth s i f).spokes = s.spokes := rfl
@[simp] theorem modHealth_timeRec (s : State) (i : Nat) (f : Health → Health) : (modHealth s i f).timeRec = s.timeRec := rfl
@[simp] theorem modHealth_hbm (s : State) (i : Nat) (f : Health → Health) : (modHealth s i f).hbm = s.hbm := rfl
@[simp] theorem modHealth_pwr (s : State) (i : Nat) (f : Health → Health) : (modHealth s i f).pwr = s.pwr := rfl
@[simp] theorem modHealth_sec (s : State) (i : Nat) (f : Health → Health) : (modHealth s i f).sec = s.sec := rfl
@[simp] theorem modHealth_incidents (s : State) (i : Nat) (f : Health → Health) : (modHealth s i f).incidents = s.incidents := rfl
@[simp] theorem modHealth_droppedReports (s : State) (i : Nat) (f : Health → Health) : (modHealth s i f).droppedReports = s.droppedReports := rfl
@[simp] theorem modHealth_holder (s : State) (i : Nat) (f : Health → Health) : (modHealth s i f).holder = s.holder := rfl
@[simp] theorem modHealth_benchLast (s : State) (i : Nat) (f : Health → Health) : (modHealth s i f).benchLast = s.benchLast := rfl
@[simp] theorem modHealth_slots (s : State) (i : Nat) (f : Health → Health) :
    (modHealth s i f).slots = tset s.slots i { getSlot s i with health := f (getSlot s i).health } := rfl

/-! ### A piece read after a change -/

@[simp] theorem getSlot_modSlot (s : State) (i : Nat) (f : Slot → Slot) : getSlot (modSlot s i f) i = f (getSlot s i) := tget_tset ..

theorem getSlot_modSlot_ne (s : State) (f : Slot → Slot) {i k : Nat} (h : k ≠ i) : getSlot (modSlot s i f) k = getSlot s k := tget_tset_ne h

@[simp] theorem getPort_modPort (s : State) (i : Nat) (f : Port → Port) : getPort (modPort s i f) i = f (getPort s i) := tget_tset ..

theorem getPort_modPort_ne (s : State) (f : Port → Port) {i k : Nat} (h : k ≠ i) : getPort (modPort s i f) k = getPort s k := tget_tset_ne h

@[simp] theorem getLane_modLane (s : State) (i : Nat) (f : Lane → Lane) : getLane (modLane s i f) i = f (getLane s i) := tget_tset ..

theorem getLane_modLane_ne (s : State) (f : Lane → Lane) {i k : Nat} (h : k ≠ i) : getLane (modLane s i f) k = getLane s k := tget_tset_ne h

@[simp] theorem getSpoke_modSpoke (s : State) (i : Nat) (f : Spoke → Spoke) : getSpoke (modSpoke s i f) i = f (getSpoke s i) := tget_tset ..

theorem getSpoke_modSpoke_ne (s : State) (f : Spoke → Spoke) {i k : Nat} (h : k ≠ i) : getSpoke (modSpoke s i f) k = getSpoke s k := tget_tset_ne h

@[simp] theorem getMbx_modMbx (s : State) (i : Nat) (f : Mailbox → Mailbox) : getMbx (modMbx s i f) i = f (getMbx s i) := tget_tset ..

theorem getMbx_modMbx_ne (s : State) (f : Mailbox → Mailbox) {i k : Nat} (h : k ≠ i) : getMbx (modMbx s i f) k = getMbx s k := tget_tset_ne h

@[simp] theorem getChan_modChan (s : State) (i : Nat) (f : Chan → Chan) : getChan (modChan s i f) i = f (getChan s i) := tget_tset ..

theorem getChan_modChan_ne (s : State) (f : Chan → Chan) {i k : Nat} (h : k ≠ i) : getChan (modChan s i f) k = getChan s k := tget_tset_ne h

@[simp] theorem getDomain_modDomain (s : State) (i : Nat) (f : Domain → Domain) : getDomain (modDomain s i f) i = f (getDomain s i) := tget_tset ..

theorem getDomain_modDomain_ne (s : State) (f : Domain → Domain) {i k : Nat} (h : k ≠ i) : getDomain (modDomain s i f) k = getDomain s k := tget_tset_ne h

@[simp] theorem getSlot_setSlot (s : State) (i : Nat) (v : Slot) : getSlot (setSlot s i v) i = v := tget_tset ..

theorem getSlot_setSlot_ne (s : State) (v : Slot) {i k : Nat} (h : k ≠ i) : getSlot (setSlot s i v) k = getSlot s k := tget_tset_ne h

@[simp] theorem getSlot_modBench (s : State) (i : Nat) (f : Bench → Bench) :
    getSlot (modBench s i f) i = { getSlot s i with bench := f (getSlot s i).bench } := tget_tset ..

theorem getSlot_modBench_ne (s : State) (f : Bench → Bench) {i k : Nat} (h : k ≠ i) : getSlot (modBench s i f) k = getSlot s k :=
  tget_tset_ne h

@[simp] theorem getSlot_modTan (s : State) (i : Nat) (f : Tandem → Tandem) :
    getSlot (modTan s i f) i = { getSlot s i with tan := f (getSlot s i).tan } := tget_tset ..

@[simp] theorem getSlot_modStep (s : State) (i : Nat) (f : StepRec → StepRec) :
    getSlot (modStep s i f) i = { getSlot s i with step := f (getSlot s i).step } := tget_tset ..

@[simp] theorem getSlot_atCycle (s : State) (i c k : Nat) : getSlot (atCycle s i c) k = getSlot s k := rfl

@[simp] theorem getSlot_timeTo (s : State) (t k : Nat) : getSlot (timeTo s t) k = getSlot s k := rfl

@[simp] theorem getSlot_emit (s : State) (e : Emit) (k : Nat) : getSlot (emit s e) k = getSlot s k := rfl

end Sys2Proof.Laws
end

