-- ==== Sys2Proof/Laws/Abort.lean ====
section
/-! SUPPORT. What aborting a step and a SCHEDULE_FAULT leave behind. -/

namespace Sys2Proof.Laws

open Sys2Proof Sys2Proof.Machine

/-- A piece outside the mask of a function is as before. -/
theorem same_of_kept {W : Nat} {s0 s : State} (h : Kept W s0 s) (p : Piece) (hp : W.testBit (pieceNum p) = false := by decide) :
    p.same s0 s := h.2.2.2.2 p hp

/-- Starting a restore leaves what the step had pending. -/
theorem startRestore_pending (s : State) (i : Nat) :
    (getSlot (startRestore s i) i).tan.pending = (getSlot s i).tan.pending := by
  have hl : ∀ t : State, (getSlot (loseSlot t i) i).tan.pending = (getSlot t i).tan.pending := by
    intro t
    unfold loseSlot
    extract_lets sl t1
    have e1 : (getSlot t1 i).tan.pending = (getSlot t i).tan.pending := by simp [t1]
    split
    · exact e1
    · have := same_of_kept (kept_postEvent (W := 132) (by decide) (x1 := evSlotLost) (x2 := i) (x3 := leBytes 8 sl.step.num) (kept_refl _ t1)) .slotTan
      rw [this i, e1]
  unfold startRestore
  extract_lets sl
  split
  · simp
  · split
    · simp
    · split
      · exact hl s
      · split
        · exact hl s
        · have e : ∀ (t : State) p n m l, (getSlot (sendRestoreReqs t i p n m l) i).tan = (getSlot t i).tan := by
            intro t p n m l
            have k : Kept 1024 t (sendRestoreReqs t i p n m l) := kept_sendRestoreReqs (by decide) (kept_refl _ t)
            exact (same_of_kept k .slotTan) i
          rw [e]
          exact (congrArg (fun sl : Slot => sl.tan.pending) (getSlot_modSlot s i _)).trans rfl

/-- What entering ROLLING_BACK makes of a slot. -/
theorem enterRollback_slot (s : State) (i cause origin : Nat) :
    (getSlot (enterRollback s i cause origin) i).step = (rollbackSlot cause origin (getSlot s i)).step
      ∧ (getSlot (enterRollback s i cause origin) i).tokens = [] ∧ (getSlot (enterRollback s i cause origin) i).servable = []
      ∧ (getSlot (enterRollback s i cause origin) i).ctxs = []
      ∧ (getSlot (enterRollback s i cause origin) i).tan.pending = []
      ∧ (getSlot (enterRollback s i cause origin) i).bench = benchAbort (getSlot s i).bench
      ∧ (getSlot (enterRollback s i cause origin) i).buckets = tmap (getSlot s i).buckets (fun _ b => abandonBucket b)
      ∧ ((getSlot s i).bench.pass = false → (enterRollback s i cause origin).holder ≠ some i) := by
  unfold enterRollback
  extract_lets sl s1 s2 s3 s4 s5 s6 s7 s8 s9 s10
  have k1 : Kept 2533429411186308 s s5 := 
    kept_releaseHeld (by decide) (kept_dropSlotWaiters (by decide) (kept_abandonFetch (by decide) (kept_releaseParked (by decide)
      (kept_unlinkSlotFrames (by decide) (kept_refl _ s)))))
  have k2 : Kept 2533429411186308 s s6 := kept_leaveBench (by decide) k1
  have k3 : Kept 2533291970664068 s7 s10 :=
    kept_foldl (kept_postEvent (by decide) (kept_foldl (kept_refl _ s7) (fun s a h => kept_slotLinkCtrl (by decide) h)))
      (fun s a h => kept_postEvent (by decide) h)
  have k4 : Kept 2533291970664068 s7 (startRestore s10 i) := kept_startRestore (by decide) k3
  have e7 : getSlot s7 i = rollbackSlot cause origin (getSlot s6 i) := getSlot_modSlot ..
  have a1 : (getSlot s6 i).step = (getSlot s i).step := (same_of_kept k2 .slotStep) i
  have a2 : (getSlot s6 i).bench = (getSlot s i).bench := (same_of_kept k2 .slotBench) i
  have a3 : (getSlot s6 i).buckets = (getSlot s i).buckets := (same_of_kept k2 .slotBuckets) i
  have b5 : (getSlot s5 i).bench = (getSlot s i).bench := (same_of_kept k1 .slotBench) i
  refine ⟨?_, ?_, ?_, ?_, ?_, ?_, ?_, ?_⟩
  · rw [(same_of_kept k4 .slotStep) i, e7]; simp [rollbackSlot, a1]
  · rw [(same_of_kept k4 .slotTokens) i, e7]; rfl
  · rw [(same_of_kept k4 .slotServable) i, e7]; rfl
  · rw [(same_of_kept k4 .slotCtxs) i, e7]; rfl
  · rw [startRestore_pending]
    have k5 : Kept 2533291970664068 s7 s10 := k3
    have k6 : (getSlot s10 i).tan.pending = (getSlot s7 i).tan.pending := by
      have k7 : Kept 2533274790794884 s7 s10 :=
        kept_foldl (kept_postEvent (by decide) (kept_foldl (kept_refl _ s7) (fun s a h => kept_slotLinkCtrl (by decide) h)))
          (fun s a h => kept_postEvent (by decide) h)
      rw [(same_of_kept k7 .slotTan) i]
    rw [k6, e7]; rfl
  · rw [(same_of_kept k4 .slotBench) i, e7]; simp [rollbackSlot, a2]
  · rw [(same_of_kept k4 .slotBuckets) i, e7]; simp [rollbackSlot, a3]
  · intro hp
    have : (startRestore s10 i).holder = s7.holder := same_of_kept k4 .holder
    rw [this]
    have e6 : s7.holder = s6.holder := by simp [s7]
    rw [e6]
    clear_value s5
    simp only [s6, leaveBench, b5, hp]
    by_cases hh : s5.holder = some i <;> simp [hh]

/-- What aborting a DRY_FIT step makes of it. -/
theorem raiseAbort_aborts (s : State) (i cause : Nat) (rs : List Accusation) (hd : (getSlot s i).step.st = .dryFit) :
    StepAborted s (raiseAbort s i cause rs) i cause (selfId s) := by
  have e : raiseAbort s i cause rs = reportAll (enterRollback (spokeSendAll s (controlLinks (getSlot s i)) kAbort
      (abortBody (getSlot s i) (getSlot s i).step.attempt (selfId s) cause)) i cause
        (selfId (spokeSendAll s (controlLinks (getSlot s i)) kAbort
      (abortBody (getSlot s i) (getSlot s i).step.attempt (selfId s) cause)))) i (getSlot s i).step.num (getSlot s i).step.attempt cause true rs := by
    unfold raiseAbort; simp [hd]
  rw [e]
  generalize hs1 : spokeSendAll s (controlLinks (getSlot s i)) kAbort (abortBody (getSlot s i) (getSlot s i).step.attempt (selfId s) cause) = s1
  have k1 : Kept 4100 s s1 := hs1 ▸ kept_spokeSendAll (by decide) (kept_refl _ s)
  have hid : selfId s1 = selfId s := by unfold selfId; rw [show s1.host = s.host from same_of_kept k1 .host]
  rw [hid]
  have r := enterRollback_slot s1 i cause (selfId s)
  generalize enterRollback s1 i cause (selfId s) = s2 at r ⊢
  have k2 : Kept 2251799814078596 s2 (reportAll s2 i (getSlot s i).step.num (getSlot s i).step.attempt cause true rs) :=
    kept_reportAll (by decide) (kept_refl _ s2)
  have hb : (getSlot s1 i).bench = (getSlot s i).bench := (same_of_kept k1 .slotBench) i
  obtain ⟨r1, r2, r3, r4, r5, r6, r7, r8⟩ := r
  refine ⟨?_, ?_, ?_, ?_, ?_, ?_, ?_⟩
  · rw [(same_of_kept k2 .slotStep) i, r1]; simp [rollbackSlot, show (getSlot s1 i).step = (getSlot s i).step from (same_of_kept k1 .slotStep) i]
  · rw [(same_of_kept k2 .slotTokens) i, r2]
  · rw [(same_of_kept k2 .slotServable) i, r3]
  · rw [(same_of_kept k2 .slotCtxs) i, r4]
  · rw [(same_of_kept k2 .slotTan) i, r5]
  · rw [(same_of_kept k2 .slotBuckets) i, r7]
    intro e he
    simp only [tmap, List.mem_map] at he
    obtain ⟨a, _, rfl⟩ := he
    rfl
  · intro hp
    refine ⟨?_, ?_⟩
    · rw [(same_of_kept k2 .slotBench) i, r6, hb]; simp [benchAbort, hp]
    · rw [show (reportAll s2 i _ _ cause true rs).holder = s2.holder from same_of_kept k2 .holder]
      exact r8 (by rw [hb]; exact hp)

/-- What a SCHEDULE_FAULT leaves behind. -/
theorem scheduleFault_taken (s : State) (i : Nat) (x : FaultInfo) : FaultTaken s (scheduleFault s i x) i x := by
  unfold scheduleFault
  extract_lets s1 sl kept s2 r s3 s4
  have g1 : getSlot s1 i = getSlot s i := getSlot_atCycle ..
  have k2 : Kept 16384 s1 s2 := kept_completeEarlier (by decide) (kept_refl _ s1)
  have e2 : (getSlot s2 i).step = (getSlot s i).step := ((same_of_kept k2 .slotStep) i).trans (by rw [g1])
  have b2 : (getSlot s2 i).bench = (getSlot s i).bench := ((same_of_kept k2 .slotBench) i).trans (by rw [g1])
  have k4 : Kept 132 s3 s4 := kept_postEvent (by decide) (kept_refl _ s3)
  have hr : r = faultRecord (getSlot s i) x := by simp [r, sl, g1]
  have f4 : (getSlot s4 i).fault = r := ((same_of_kept k4 .slotFault) i).trans (by simp [s3])
  have hpass : sl.bench.pass = (getSlot s i).bench.pass := by simp [sl, g1]
  refine ⟨?_, ?_⟩
  · rw [← hr, ← f4]
    split
    · exact (same_of_kept (kept_stopPass (W := 2 ^ 57 - 2 - 2 ^ 47) (by decide) (kept_refl _ s4)) .slotFault) i
    · exact (same_of_kept (kept_raiseAbort (W := 2 ^ 57 - 2 - 2 ^ 47) (by decide) (kept_refl _ s4)) .slotFault) i
  · intro hd hp
    rw [hpass, hp]
    have hd4 : (getSlot s4 i).step = (getSlot s i).step := ((same_of_kept k4 .slotStep) i).trans (by simp [s3, e2])
    have r := raiseAbort_aborts s4 i caScheduleFault [accProgram s4 syProgram] (by rw [hd4]; exact hd)
    have b4 : (getSlot s4 i).bench = { (getSlot s i).bench with flight := kept, queue := [], run := .stopped } :=
      ((same_of_kept k4 .slotBench) i).trans (by simp [s3, b2])
    have hid : selfId s4 = selfId s := by
      unfold selfId
      rw [show s4.host = s3.host from same_of_kept k4 .host, show s3.host = s2.host from rfl, show s2.host = s1.host from same_of_kept k2 .host]
      rfl
    obtain ⟨r1, r2, r3, r4, r5, r6, r7⟩ := r
    refine ⟨?_, r2, r3, r4, r5, r6, ?_⟩
    · rw [hd4, hid] at r1; exact r1
    · intro hp2
      have := r7 (by rw [b4]; exact hp2)
      rw [b4] at this
      exact this

end Sys2Proof.Laws
end

