-- ==== Sys2Proof/Laws/Jig.lean ====
section
/-! SUPPORT. What an instruction of the jig does when nothing else of its bench is due. -/

namespace Sys2Proof.Laws

open Sys2Proof Sys2Proof.Machine

/-- Of a bench that runs with nothing queued or in flight, the instruction comes next, or the end of its turn. -/
theorem nextBench_run {t : State} {i : Nat} (hh : t.holder = some i) (h2 : (benchOf t i).run = .running)
    (h3 : (benchOf t i).flight = []) (h4 : (benchOf t i).queue = []) :
    nextBench t i = if (benchOf t i).turnStart + 2 ^ 24 < (benchOf t i).clock then some ((benchOf t i).turnStart + 2 ^ 24, .overrun)
      else some ((benchOf t i).clock, .instr) := by
  simp only [benchOf] at *
  simp only [nextBench, hh, benchEvents, h2, h3, h4]
  by_cases hc : (getSlot t i).bench.turnStart + 2 ^ 24 < (getSlot t i).bench.clock
  · simp [firstEv, evBefore, show (getSlot t i).bench.turnStart + 16777216 < (getSlot t i).bench.clock from hc]
  · simp [firstEv, evBefore, show ¬ (getSlot t i).bench.turnStart + 16777216 < (getSlot t i).bench.clock from hc]

/-- Before an instruction word the instruction comes next. -/
theorem nextBench_at {s i w} (h : JigAt s i w) : nextBench s i = some ((benchOf s i).clock, .instr) := by
  obtain ⟨h1, h2, h3, h4, h5, h6⟩ := h
  rw [nextBench_run h1 h2 h3 h4, if_neg (by omega)]

/-- The word that the jig executes next. -/
theorem jigNext_at {s i w op} (h : JigAt s i w) (ho : jOp w = op) : jigNext s i op = some w := by
  unfold jigNext
  rw [nextBench_at h]
  simp [h.2.2.2.2.2, ho]

/-- A slot that runs with nothing queued or in flight and an instruction word next settles at once. -/
theorem settled_quiet {t : State} {i : Nat} (h2 : (benchOf t i).run = .running) (h3 : (benchOf t i).flight = [])
    (h4 : (benchOf t i).queue = []) (h6 : (jigWord (getSlot t i)).isSome = true) : settled t i = t := by
  have q : quietEvent t i = none := by
    unfold quietEvent
    by_cases hh : t.holder = some i
    · rw [nextBench_run hh h2 h3 h4]
      by_cases hc : (benchOf t i).turnStart + 2 ^ 24 < (benchOf t i).clock
      · rw [if_pos hc]
      · rw [if_neg hc]
        have : (jigWord (getSlot t i)).isNone = false := by cases hj : jigWord (getSlot t i) <;> simp_all
        simp [this]
    · simp [nextBench, hh]
  simp only [benchOf] at *
  simp only [settled, h3, h4, List.length_nil]
  unfold settle
  rw [q]

/-- All that an instruction of the context alone changes. -/
theorem jigDone_state {s : State} {i : Nat} {j : Jig} {pc n : Nat} :
    JigGoesOn s (jigDone (atCycle s i (benchOf s i).clock) i j pc n) i pc n ∧ jigOf (jigDone (atCycle s i (benchOf s i).clock) i j pc n) i = { j with pc := pc } := by
  have e : jigOf (jigDone (atCycle s i (benchOf s i).clock) i j pc n) i = { j with pc := pc } := by
    simp [jigOf, jigDone, getSlot_modBench, getSlot_atCycle]
  refine ⟨⟨rfl, ?_, ?_, ?_, rfl⟩, e⟩
  · intro k hk
    exact getSlot_modBench_ne _ _ hk
  · rw [e]; simp [jigDone, benchOf]
  · rw [e]

/-- An instruction of the context alone that ends without an exception: its next state. -/
theorem jigRow_done {s : State} {slot : SlotId} {w used : W64} {op pc n : Nat} {j : Jig} {f : Slot → W64 → JigEnd}
    (h : JigAt s slot.val w) (hr : (jigOf s slot.val).rep = none) (ho : jOp w = op) (hu : w &&& ~~~used = 0)
    (hf : f (getSlot s slot.val) w = .done j pc n) (hi : InstrAt s slot.val pc) :
    ∃ t, (.next (jigRow op used f slot s) : Out) = .next t ∧ JigGoesOn s t slot.val pc n ∧ jigOf t slot.val = { j with pc := pc } := by
  refine ⟨_, rfl, ?_⟩
  have e : jigRow op used f slot s = jigDone (atCycle s slot.val (benchOf s slot.val).clock) slot.val j pc n := by
    unfold jigRow
    simp only [jigNext_at h ho]
    have : jigRefuses (getSlot (atCycle s slot.val (getSlot s slot.val).bench.clock) slot.val).bench.jig w used = none := by
      simp only [getSlot_atCycle, jigRefuses]
      simp only [jigOf] at hr
      simp [hr, hu]
    rw [this]
    simp only [getSlot_atCycle, hf]
    apply settled_quiet
    · simp [benchOf, jigDone]; exact h.2.1
    · simp [benchOf, jigDone]; exact h.2.2.1
    · simp [benchOf, jigDone]; exact h.2.2.2.1
    · simp [jigDone, jigWord]
      exact hi
  rw [e]
  exact jigDone_state

end Sys2Proof.Laws
end

