-- ==== Sys2Proof/Laws/KeptPush.lean ====
section
/-! SUPPORT. What the definitions of Machine/Push.lean keep (Laws/KeptBase.lean). -/

namespace Sys2Proof.Laws

open Sys2Proof Sys2Proof.Machine

set_option linter.all false
set_option Elab.async false

theorem kept_pushFault {W s0} (hw : 110831318893221766 &&& W = 110831318893221766)  {s : State} {x1} {x2} {x3} (h : Kept W s0 s) : Kept W s0 (pushFault s x1 x2 x3) := by
  unfold pushFault
  repeat (first
    | with_reducible assumption | (with_reducible refine kept_scheduleFault (msub hw) ?_))

theorem kept_pushRow1 {W s0} (hw : 110831318893221766 &&& W = 110831318893221766)  {s : State} {x0} {x1} {x2} {x3} {x4} {x5} {x6} (h : Kept W s0 s) : Kept W s0 (pushRow1 x0 x1 x2 x3 x4 x5 x6 s) := by
  unfold pushRow1
  repeat (first
    | with_reducible assumption | (with_reducible refine kept_atCycle (msub hw) ?_)
    | (with_reducible refine kept_settled (msub hw) ?_) | (with_reducible refine kept_pushFault (msub hw) ?_)
    | (with_reducible refine kept_modBench (msub hw) ?_) | with_reducible apply kept_ite
    | with_reducible apply kept_ite_snd | (with_reducible intro _) | split | (dsimp only; split)
    | (with_reducible refine kept_mk hw ?_ rfl rfl rfl rfl rfl))

theorem kept_effJigPushBench {W s0} (hw : 110831318893221766 &&& W = 110831318893221766)  {s : State} {x0} (h : Kept W s0 s) : Kept W s0 (effJigPushBench x0 s) := by
  unfold effJigPushBench
  repeat (first
    | with_reducible assumption | (with_reducible refine kept_pushRow1 (msub hw) ?_) | (with_reducible intro _))

theorem kept_effJigPushBlk {W s0} (hw : 110831318893221766 &&& W = 110831318893221766)  {s : State} {x0} (h : Kept W s0 s) : Kept W s0 (effJigPushBlk x0 s) := by
  unfold effJigPushBlk
  repeat (first
    | with_reducible assumption | (with_reducible refine kept_pushRow1 (msub hw) ?_) | (with_reducible intro _))

theorem kept_effJigPushMove {W s0} (hw : 110831318893221766 &&& W = 110831318893221766)  {s : State} {x0} (h : Kept W s0 s) : Kept W s0 (effJigPushMove x0 s) := by
  unfold effJigPushMove
  repeat (first
    | with_reducible assumption | (with_reducible refine kept_pushRow1 (msub hw) ?_) | (with_reducible intro _))

theorem kept_effJigPushDrain {W s0} (hw : 110831318893221766 &&& W = 110831318893221766)  {s : State} {x0} (h : Kept W s0 s) : Kept W s0 (effJigPushDrain x0 s) := by
  unfold effJigPushDrain
  repeat (first
    | with_reducible assumption | (with_reducible refine kept_pushRow1 (msub hw) ?_) | (with_reducible intro _))

theorem kept_effJigPushEmit {W s0} (hw : 110831318893221766 &&& W = 110831318893221766)  {s : State} {x0} (h : Kept W s0 s) : Kept W s0 (effJigPushEmit x0 s) := by
  unfold effJigPushEmit
  repeat (first
    | with_reducible assumption | (with_reducible refine kept_pushRow1 (msub hw) ?_) | (with_reducible intro _))

theorem kept_effJigPushCadence {W s0} (hw : 110831318893221766 &&& W = 110831318893221766)  {s : State} {x0} (h : Kept W s0 s) : Kept W s0 (effJigPushCadence x0 s) := by
  unfold effJigPushCadence
  repeat (first
    | with_reducible assumption | (with_reducible refine kept_settled (msub hw) ?_)
    | (with_reducible refine kept_jigFault (msub hw) ?_) | (with_reducible refine kept_atCycle (msub hw) ?_)
    | (with_reducible refine kept_pushRow1 (msub hw) ?_) | with_reducible apply kept_ite
    | with_reducible apply kept_ite_snd | (with_reducible intro _) | split | (dsimp only; split)
    | (with_reducible refine kept_mk hw ?_ rfl rfl rfl rfl rfl))

end Sys2Proof.Laws
end

