-- ==== Sys2Proof/Laws/KeptBench.lean ====
section
/-! SUPPORT. What the definitions of Machine/Bench.lean keep (Laws/KeptBase.lean). -/

namespace Sys2Proof.Laws

open Sys2Proof Sys2Proof.Machine

set_option linter.all false
set_option Elab.async false

theorem kept_issued {W s0} (hw : 72057594037927936 &&& W = 72057594037927936)  {s : State} {x1} {x2} {x3} (h : Kept W s0 s) : Kept W s0 (issued s x1 x2 x3) := by
  unfold issued
  repeat (first
    | with_reducible assumption | (with_reducible refine kept_modBench (msub hw) ?_) | (with_reducible intro _)
    | (with_reducible refine kept_mk hw ?_ rfl rfl rfl rfl rfl))

theorem kept_benchRow {W s0} (hw : 110831318893221766 &&& W = 110831318893221766) {x1} (hf1 : ∀ y0 s, Kept W s0 s → Kept W s0 (x1 y0 s)) {s : State} {x0} {x2} (h : Kept W s0 s) : Kept W s0 (benchRow x0 x1 x2 s) := by
  unfold benchRow
  repeat (first
    | with_reducible assumption | with_reducible apply hf1 | (with_reducible refine kept_atCycle (msub hw) ?_)
    | (with_reducible refine kept_settled (msub hw) ?_) | (with_reducible refine kept_issueFault (msub hw) ?_)
    | (with_reducible refine kept_issued (msub hw) ?_) | with_reducible apply kept_ite
    | with_reducible apply kept_ite_snd | split | (dsimp only; split)
    | (with_reducible refine kept_mk hw ?_ rfl rfl rfl rfl rfl))

theorem kept_finishLanes {W s0} (hw : 72128512537919620 &&& W = 72128512537919620)  {s : State} {x0} {x1} (h : Kept W s0 s) : Kept W s0 (finishLanes x0 x1 s) := by
  unfold finishLanes
  repeat (first
    | with_reducible assumption | (with_reducible refine kept_modBench (msub hw) ?_)
    | (with_reducible refine kept_setFlags (msub hw) ?_) | (with_reducible intro _))

theorem kept_laneRow {W s0} (hw : 110831868649035654 &&& W = 110831868649035654)  {s : State} {x0} {x1} {x2} (h : Kept W s0 s) : Kept W s0 (laneRow x0 x1 x2 s) := by
  unfold laneRow
  repeat (first
    | with_reducible assumption | (with_reducible refine kept_benchRow (msub hw) ?_ ?_)
    | (with_reducible refine kept_finishLanes (msub hw) ?_) | (with_reducible intro _))

theorem kept_castRow {W s0} (hw : 110831868649035654 &&& W = 110831868649035654)  {s : State} {x0} (h : Kept W s0 s) : Kept W s0 (castRow x0 s) := by
  unfold castRow
  repeat (first
    | with_reducible assumption | (with_reducible refine kept_benchRow (msub hw) ?_ ?_)
    | (with_reducible refine kept_finishLanes (msub hw) ?_) | with_reducible apply kept_ite
    | with_reducible apply kept_ite_snd | (with_reducible intro _) | split | (dsimp only; split))

theorem kept_loadRow {W s0} (hw : 110831868649035654 &&& W = 110831868649035654)  {s : State} {x0} {x1} (h : Kept W s0 s) : Kept W s0 (loadRow x0 x1 s) := by
  unfold loadRow
  repeat (first
    | with_reducible assumption | (with_reducible refine kept_benchRow (msub hw) ?_ ?_)
    | (with_reducible refine kept_finishLanes (msub hw) ?_) | (with_reducible intro _)
    | (with_reducible refine kept_mk hw ?_ rfl rfl rfl rfl rfl))

theorem kept_storeRow {W s0} (hw : 110831318893221766 &&& W = 110831318893221766)  {s : State} {x0} {x1} (h : Kept W s0 s) : Kept W s0 (storeRow x0 x1 s) := by
  unfold storeRow
  repeat (first
    | with_reducible assumption | (with_reducible refine kept_benchRow (msub hw) ?_ ?_)
    | (with_reducible refine kept_modBench (msub hw) ?_) | with_reducible apply kept_ite
    | with_reducible apply kept_ite_snd | with_reducible apply kept_foldl | (with_reducible intro _) | split
    | (dsimp only; split))

theorem kept_shselRow {W s0} (hw : 110831318893221766 &&& W = 110831318893221766)  {s : State} {x0} (h : Kept W s0 s) : Kept W s0 (shselRow x0 s) := by
  unfold shselRow
  repeat (first
    | with_reducible assumption | (with_reducible refine kept_benchRow (msub hw) ?_ ?_)
    | (with_reducible refine kept_modBench (msub hw) ?_) | (with_reducible intro _) | split | (dsimp only; split)
    | (with_reducible refine kept_mk hw ?_ rfl rfl rfl rfl rfl))

theorem kept_shchkRow {W s0} (hw : 110831318893221774 &&& W = 110831318893221774)  {s : State} {x0} (h : Kept W s0 s) : Kept W s0 (shchkRow x0 s) := by
  unfold shchkRow
  repeat (first
    | with_reducible assumption | (with_reducible refine kept_benchRow (msub hw) ?_ ?_)
    | (with_reducible refine kept_modSlot ?_ ?_) | (with_reducible refine kept_drawFree (msub hw) ?_)
    | (with_reducible refine kept_drawFree' (msub hw) (by assumption) ?_)
    | (with_reducible refine kept_modBench (msub hw) ?_) | (with_reducible exact sold_refl)
    | with_reducible apply sold_ite | (with_reducible intro _) | with_reducible apply kept_ite
    | with_reducible apply kept_ite_snd | with_reducible apply kept_foldl | split | (dsimp only; split)
    | (with_reducible refine kept_mk hw ?_ rfl rfl rfl rfl rfl) | (with_reducible refine sold_mk hw ?_))

theorem kept_eclrRow {W s0} (hw : 110831318893221766 &&& W = 110831318893221766)  {s : State} {x0} (h : Kept W s0 s) : Kept W s0 (eclrRow x0 s) := by
  unfold eclrRow
  repeat (first
    | with_reducible assumption | (with_reducible refine kept_benchRow (msub hw) ?_ ?_)
    | (with_reducible refine kept_modBench (msub hw) ?_) | (with_reducible intro _)
    | (with_reducible refine kept_mk hw ?_ rfl rfl rfl rfl rfl))

theorem kept_wsetRow {W s0} (hw : 110831318893221766 &&& W = 110831318893221766)  {s : State} {x0} (h : Kept W s0 s) : Kept W s0 (wsetRow x0 s) := by
  unfold wsetRow
  repeat (first
    | with_reducible assumption | (with_reducible refine kept_benchRow (msub hw) ?_ ?_)
    | (with_reducible refine kept_modBench (msub hw) ?_) | (with_reducible intro _)
    | (with_reducible refine kept_mk hw ?_ rfl rfl rfl rfl rfl))

theorem kept_maxexpRow {W s0} (hw : 110831868649035654 &&& W = 110831868649035654)  {s : State} {x0} {x1} (h : Kept W s0 s) : Kept W s0 (maxexpRow x0 x1 s) := by
  unfold maxexpRow
  repeat (first
    | with_reducible assumption | (with_reducible refine kept_benchRow (msub hw) ?_ ?_)
    | (with_reducible refine kept_modBench (msub hw) ?_) | (with_reducible refine kept_setFlags (msub hw) ?_)
    | with_reducible apply kept_ite | with_reducible apply kept_ite_snd | with_reducible apply kept_foldl
    | (with_reducible intro _) | split | (dsimp only; split) | (with_reducible refine kept_mk hw ?_ rfl rfl rfl rfl rfl))

theorem kept_sumRow {W s0} (hw : 110831868649035654 &&& W = 110831868649035654)  {s : State} {x0} {x1} {x2} (h : Kept W s0 s) : Kept W s0 (sumRow x0 x1 x2 s) := by
  unfold sumRow
  repeat (first
    | with_reducible assumption | (with_reducible refine kept_benchRow (msub hw) ?_ ?_)
    | (with_reducible refine kept_modBench (msub hw) ?_) | (with_reducible refine kept_setFlags (msub hw) ?_)
    | with_reducible apply kept_ite | with_reducible apply kept_ite_snd | with_reducible apply kept_foldl
    | (with_reducible intro _) | split | (dsimp only; split) | (with_reducible refine kept_mk hw ?_ rfl rfl rfl rfl rfl))

theorem kept_barrierRow {W s0} (hw : 110831318893221766 &&& W = 110831318893221766)  {s : State} {x0} (h : Kept W s0 s) : Kept W s0 (barrierRow x0 s) := by
  unfold barrierRow
  repeat (first
    | with_reducible assumption | (with_reducible refine kept_benchRow (msub hw) ?_ ?_)
    | (with_reducible refine kept_modBench (msub hw) ?_) | (with_reducible intro _))

theorem kept_effSepFadd {W s0} (hw : 110831868649035654 &&& W = 110831868649035654)  {s : State} {x0} (h : Kept W s0 s) : Kept W s0 (effSepFadd x0 s) := by
  unfold effSepFadd
  repeat (first
    | with_reducible assumption | (with_reducible refine kept_laneRow (msub hw) ?_) | (with_reducible intro _))

theorem kept_effSepFsub {W s0} (hw : 110831868649035654 &&& W = 110831868649035654)  {s : State} {x0} (h : Kept W s0 s) : Kept W s0 (effSepFsub x0 s) := by
  unfold effSepFsub
  repeat (first
    | with_reducible assumption | (with_reducible refine kept_laneRow (msub hw) ?_) | (with_reducible intro _))

theorem kept_effSepFmul {W s0} (hw : 110831868649035654 &&& W = 110831868649035654)  {s : State} {x0} (h : Kept W s0 s) : Kept W s0 (effSepFmul x0 s) := by
  unfold effSepFmul
  repeat (first
    | with_reducible assumption | (with_reducible refine kept_laneRow (msub hw) ?_) | (with_reducible intro _))

theorem kept_effSepFfma {W s0} (hw : 110831868649035654 &&& W = 110831868649035654)  {s : State} {x0} (h : Kept W s0 s) : Kept W s0 (effSepFfma x0 s) := by
  unfold effSepFfma
  repeat (first
    | with_reducible assumption | (with_reducible refine kept_laneRow (msub hw) ?_) | (with_reducible intro _))

theorem kept_effSepFfnma {W s0} (hw : 110831868649035654 &&& W = 110831868649035654)  {s : State} {x0} (h : Kept W s0 s) : Kept W s0 (effSepFfnma x0 s) := by
  unfold effSepFfnma
  repeat (first
    | with_reducible assumption | (with_reducible refine kept_laneRow (msub hw) ?_) | (with_reducible intro _))

theorem kept_effSepFmin {W s0} (hw : 110831868649035654 &&& W = 110831868649035654)  {s : State} {x0} (h : Kept W s0 s) : Kept W s0 (effSepFmin x0 s) := by
  unfold effSepFmin
  repeat (first
    | with_reducible assumption | (with_reducible refine kept_laneRow (msub hw) ?_) | (with_reducible intro _))

theorem kept_effSepFmax {W s0} (hw : 110831868649035654 &&& W = 110831868649035654)  {s : State} {x0} (h : Kept W s0 s) : Kept W s0 (effSepFmax x0 s) := by
  unfold effSepFmax
  repeat (first
    | with_reducible assumption | (with_reducible refine kept_laneRow (msub hw) ?_) | (with_reducible intro _))

theorem kept_effSepFabs {W s0} (hw : 110831868649035654 &&& W = 110831868649035654)  {s : State} {x0} (h : Kept W s0 s) : Kept W s0 (effSepFabs x0 s) := by
  unfold effSepFabs
  repeat (first
    | with_reducible assumption | (with_reducible refine kept_laneRow (msub hw) ?_) | (with_reducible intro _))

theorem kept_effSepFneg {W s0} (hw : 110831868649035654 &&& W = 110831868649035654)  {s : State} {x0} (h : Kept W s0 s) : Kept W s0 (effSepFneg x0 s) := by
  unfold effSepFneg
  repeat (first
    | with_reducible assumption | (with_reducible refine kept_laneRow (msub hw) ?_) | (with_reducible intro _))

theorem kept_effSepFsign {W s0} (hw : 110831868649035654 &&& W = 110831868649035654)  {s : State} {x0} (h : Kept W s0 s) : Kept W s0 (effSepFsign x0 s) := by
  unfold effSepFsign
  repeat (first
    | with_reducible assumption | (with_reducible refine kept_laneRow (msub hw) ?_) | (with_reducible intro _))

theorem kept_effSepFcmp {W s0} (hw : 110831868649035654 &&& W = 110831868649035654)  {s : State} {x0} (h : Kept W s0 s) : Kept W s0 (effSepFcmp x0 s) := by
  unfold effSepFcmp
  repeat (first
    | with_reducible assumption | (with_reducible refine kept_laneRow (msub hw) ?_) | (with_reducible intro _))

theorem kept_effSepSel {W s0} (hw : 110831868649035654 &&& W = 110831868649035654)  {s : State} {x0} (h : Kept W s0 s) : Kept W s0 (effSepSel x0 s) := by
  unfold effSepSel
  repeat (first
    | with_reducible assumption | (with_reducible refine kept_laneRow (msub hw) ?_) | with_reducible apply kept_ite
    | with_reducible apply kept_ite_snd | (with_reducible intro _) | split | (dsimp only; split))

theorem kept_effSepMov {W s0} (hw : 110831868649035654 &&& W = 110831868649035654)  {s : State} {x0} (h : Kept W s0 s) : Kept W s0 (effSepMov x0 s) := by
  unfold effSepMov
  repeat (first
    | with_reducible assumption | (with_reducible refine kept_laneRow (msub hw) ?_) | (with_reducible intro _))

theorem kept_effSepPlog {W s0} (hw : 110831868649035654 &&& W = 110831868649035654)  {s : State} {x0} (h : Kept W s0 s) : Kept W s0 (effSepPlog x0 s) := by
  unfold effSepPlog
  repeat (first
    | with_reducible assumption | (with_reducible refine kept_laneRow (msub hw) ?_) | (with_reducible intro _))

theorem kept_effSepIadd {W s0} (hw : 110831868649035654 &&& W = 110831868649035654)  {s : State} {x0} (h : Kept W s0 s) : Kept W s0 (effSepIadd x0 s) := by
  unfold effSepIadd
  repeat (first
    | with_reducible assumption | (with_reducible refine kept_laneRow (msub hw) ?_) | (with_reducible intro _))

theorem kept_effSepIsub {W s0} (hw : 110831868649035654 &&& W = 110831868649035654)  {s : State} {x0} (h : Kept W s0 s) : Kept W s0 (effSepIsub x0 s) := by
  unfold effSepIsub
  repeat (first
    | with_reducible assumption | (with_reducible refine kept_laneRow (msub hw) ?_) | (with_reducible intro _))

theorem kept_effSepAnd {W s0} (hw : 110831868649035654 &&& W = 110831868649035654)  {s : State} {x0} (h : Kept W s0 s) : Kept W s0 (effSepAnd x0 s) := by
  unfold effSepAnd
  repeat (first
    | with_reducible assumption | (with_reducible refine kept_laneRow (msub hw) ?_) | (with_reducible intro _))

theorem kept_effSepOr {W s0} (hw : 110831868649035654 &&& W = 110831868649035654)  {s : State} {x0} (h : Kept W s0 s) : Kept W s0 (effSepOr x0 s) := by
  unfold effSepOr
  repeat (first
    | with_reducible assumption | (with_reducible refine kept_laneRow (msub hw) ?_) | (with_reducible intro _))

theorem kept_effSepXor {W s0} (hw : 110831868649035654 &&& W = 110831868649035654)  {s : State} {x0} (h : Kept W s0 s) : Kept W s0 (effSepXor x0 s) := by
  unfold effSepXor
  repeat (first
    | with_reducible assumption | (with_reducible refine kept_laneRow (msub hw) ?_) | (with_reducible intro _))

theorem kept_effSepShl {W s0} (hw : 110831868649035654 &&& W = 110831868649035654)  {s : State} {x0} (h : Kept W s0 s) : Kept W s0 (effSepShl x0 s) := by
  unfold effSepShl
  repeat (first
    | with_reducible assumption | (with_reducible refine kept_laneRow (msub hw) ?_) | (with_reducible intro _))

theorem kept_effSepShr {W s0} (hw : 110831868649035654 &&& W = 110831868649035654)  {s : State} {x0} (h : Kept W s0 s) : Kept W s0 (effSepShr x0 s) := by
  unfold effSepShr
  repeat (first
    | with_reducible assumption | (with_reducible refine kept_laneRow (msub hw) ?_) | (with_reducible intro _))

theorem kept_effSepSar {W s0} (hw : 110831868649035654 &&& W = 110831868649035654)  {s : State} {x0} (h : Kept W s0 s) : Kept W s0 (effSepSar x0 s) := by
  unfold effSepSar
  repeat (first
    | with_reducible assumption | (with_reducible refine kept_laneRow (msub hw) ?_) | (with_reducible intro _))

theorem kept_effSepBcastI {W s0} (hw : 110831868649035654 &&& W = 110831868649035654)  {s : State} {x0} (h : Kept W s0 s) : Kept W s0 (effSepBcastI x0 s) := by
  unfold effSepBcastI
  repeat (first
    | with_reducible assumption | (with_reducible refine kept_laneRow (msub hw) ?_) | (with_reducible intro _))

theorem kept_effSepCvtTo {W s0} (hw : 110831868649035654 &&& W = 110831868649035654)  {s : State} {x0} (h : Kept W s0 s) : Kept W s0 (effSepCvtTo x0 s) := by
  unfold effSepCvtTo
  repeat (first
    | with_reducible assumption | (with_reducible refine kept_castRow (msub hw) ?_))

theorem kept_effSepCvtFrom {W s0} (hw : 110831868649035654 &&& W = 110831868649035654)  {s : State} {x0} (h : Kept W s0 s) : Kept W s0 (effSepCvtFrom x0 s) := by
  unfold effSepCvtFrom
  repeat (first
    | with_reducible assumption | (with_reducible refine kept_laneRow (msub hw) ?_) | (with_reducible intro _))

theorem kept_effSepCvtF2i {W s0} (hw : 110831868649035654 &&& W = 110831868649035654)  {s : State} {x0} (h : Kept W s0 s) : Kept W s0 (effSepCvtF2i x0 s) := by
  unfold effSepCvtF2i
  repeat (first
    | with_reducible assumption | (with_reducible refine kept_laneRow (msub hw) ?_) | (with_reducible intro _))

theorem kept_effSepCvtI2f {W s0} (hw : 110831868649035654 &&& W = 110831868649035654)  {s : State} {x0} (h : Kept W s0 s) : Kept W s0 (effSepCvtI2f x0 s) := by
  unfold effSepCvtI2f
  repeat (first
    | with_reducible assumption | (with_reducible refine kept_laneRow (msub hw) ?_) | (with_reducible intro _))

theorem kept_effSepDadd {W s0} (hw : 110831868649035654 &&& W = 110831868649035654)  {s : State} {x0} (h : Kept W s0 s) : Kept W s0 (effSepDadd x0 s) := by
  unfold effSepDadd
  repeat (first
    | with_reducible assumption | (with_reducible refine kept_laneRow (msub hw) ?_) | (with_reducible intro _))

theorem kept_effSepDsub {W s0} (hw : 110831868649035654 &&& W = 110831868649035654)  {s : State} {x0} (h : Kept W s0 s) : Kept W s0 (effSepDsub x0 s) := by
  unfold effSepDsub
  repeat (first
    | with_reducible assumption | (with_reducible refine kept_laneRow (msub hw) ?_) | (with_reducible intro _))

theorem kept_effSepDmul {W s0} (hw : 110831868649035654 &&& W = 110831868649035654)  {s : State} {x0} (h : Kept W s0 s) : Kept W s0 (effSepDmul x0 s) := by
  unfold effSepDmul
  repeat (first
    | with_reducible assumption | (with_reducible refine kept_laneRow (msub hw) ?_) | (with_reducible intro _))

theorem kept_effSepDfma {W s0} (hw : 110831868649035654 &&& W = 110831868649035654)  {s : State} {x0} (h : Kept W s0 s) : Kept W s0 (effSepDfma x0 s) := by
  unfold effSepDfma
  repeat (first
    | with_reducible assumption | (with_reducible refine kept_laneRow (msub hw) ?_) | (with_reducible intro _))

theorem kept_effSepDmin {W s0} (hw : 110831868649035654 &&& W = 110831868649035654)  {s : State} {x0} (h : Kept W s0 s) : Kept W s0 (effSepDmin x0 s) := by
  unfold effSepDmin
  repeat (first
    | with_reducible assumption | (with_reducible refine kept_laneRow (msub hw) ?_) | (with_reducible intro _))

theorem kept_effSepDmax {W s0} (hw : 110831868649035654 &&& W = 110831868649035654)  {s : State} {x0} (h : Kept W s0 s) : Kept W s0 (effSepDmax x0 s) := by
  unfold effSepDmax
  repeat (first
    | with_reducible assumption | (with_reducible refine kept_laneRow (msub hw) ?_) | (with_reducible intro _))

theorem kept_effSepDcmp {W s0} (hw : 110831868649035654 &&& W = 110831868649035654)  {s : State} {x0} (h : Kept W s0 s) : Kept W s0 (effSepDcmp x0 s) := by
  unfold effSepDcmp
  repeat (first
    | with_reducible assumption | (with_reducible refine kept_laneRow (msub hw) ?_) | (with_reducible intro _))

theorem kept_effSepCvtS2d {W s0} (hw : 110831868649035654 &&& W = 110831868649035654)  {s : State} {x0} (h : Kept W s0 s) : Kept W s0 (effSepCvtS2d x0 s) := by
  unfold effSepCvtS2d
  repeat (first
    | with_reducible assumption | (with_reducible refine kept_laneRow (msub hw) ?_) | (with_reducible intro _))

theorem kept_effSepCvtD2s {W s0} (hw : 110831868649035654 &&& W = 110831868649035654)  {s : State} {x0} (h : Kept W s0 s) : Kept W s0 (effSepCvtD2s x0 s) := by
  unfold effSepCvtD2s
  repeat (first
    | with_reducible assumption | (with_reducible refine kept_laneRow (msub hw) ?_) | (with_reducible intro _))

theorem kept_effSepShchk {W s0} (hw : 110831318893221774 &&& W = 110831318893221774)  {s : State} {x0} (h : Kept W s0 s) : Kept W s0 (effSepShchk x0 s) := by
  unfold effSepShchk
  repeat (first
    | with_reducible assumption | (with_reducible refine kept_shchkRow (msub hw) ?_))

theorem kept_effSepFdiv {W s0} (hw : 110831868649035654 &&& W = 110831868649035654)  {s : State} {x0} (h : Kept W s0 s) : Kept W s0 (effSepFdiv x0 s) := by
  unfold effSepFdiv
  repeat (first
    | with_reducible assumption | (with_reducible refine kept_laneRow (msub hw) ?_) | (with_reducible intro _))

theorem kept_effSepFsqrt {W s0} (hw : 110831868649035654 &&& W = 110831868649035654)  {s : State} {x0} (h : Kept W s0 s) : Kept W s0 (effSepFsqrt x0 s) := by
  unfold effSepFsqrt
  repeat (first
    | with_reducible assumption | (with_reducible refine kept_laneRow (msub hw) ?_) | (with_reducible intro _))

theorem kept_effSepDdiv {W s0} (hw : 110831868649035654 &&& W = 110831868649035654)  {s : State} {x0} (h : Kept W s0 s) : Kept W s0 (effSepDdiv x0 s) := by
  unfold effSepDdiv
  repeat (first
    | with_reducible assumption | (with_reducible refine kept_laneRow (msub hw) ?_) | (with_reducible intro _))

theorem kept_effSepDsqrt {W s0} (hw : 110831868649035654 &&& W = 110831868649035654)  {s : State} {x0} (h : Kept W s0 s) : Kept W s0 (effSepDsqrt x0 s) := by
  unfold effSepDsqrt
  repeat (first
    | with_reducible assumption | (with_reducible refine kept_laneRow (msub hw) ?_) | (with_reducible intro _))

theorem kept_effSepRcpS {W s0} (hw : 110831868649035654 &&& W = 110831868649035654)  {s : State} {x0} (h : Kept W s0 s) : Kept W s0 (effSepRcpS x0 s) := by
  unfold effSepRcpS
  repeat (first
    | with_reducible assumption | (with_reducible refine kept_laneRow (msub hw) ?_) | (with_reducible intro _))

theorem kept_effSepRcpN {W s0} (hw : 110831868649035654 &&& W = 110831868649035654)  {s : State} {x0} (h : Kept W s0 s) : Kept W s0 (effSepRcpN x0 s) := by
  unfold effSepRcpN
  repeat (first
    | with_reducible assumption | (with_reducible refine kept_laneRow (msub hw) ?_) | (with_reducible intro _))

theorem kept_effSepRsqS {W s0} (hw : 110831868649035654 &&& W = 110831868649035654)  {s : State} {x0} (h : Kept W s0 s) : Kept W s0 (effSepRsqS x0 s) := by
  unfold effSepRsqS
  repeat (first
    | with_reducible assumption | (with_reducible refine kept_laneRow (msub hw) ?_) | (with_reducible intro _))

theorem kept_effSepRsqN {W s0} (hw : 110831868649035654 &&& W = 110831868649035654)  {s : State} {x0} (h : Kept W s0 s) : Kept W s0 (effSepRsqN x0 s) := by
  unfold effSepRsqN
  repeat (first
    | with_reducible assumption | (with_reducible refine kept_laneRow (msub hw) ?_) | (with_reducible intro _))

theorem kept_effSepLoad {W s0} (hw : 110831868649035654 &&& W = 110831868649035654)  {s : State} {x0} (h : Kept W s0 s) : Kept W s0 (effSepLoad x0 s) := by
  unfold effSepLoad
  repeat (first
    | with_reducible assumption | (with_reducible refine kept_loadRow (msub hw) ?_))

theorem kept_effSepLoadD {W s0} (hw : 110831868649035654 &&& W = 110831868649035654)  {s : State} {x0} (h : Kept W s0 s) : Kept W s0 (effSepLoadD x0 s) := by
  unfold effSepLoadD
  repeat (first
    | with_reducible assumption | (with_reducible refine kept_loadRow (msub hw) ?_))

theorem kept_effSepStore {W s0} (hw : 110831318893221766 &&& W = 110831318893221766)  {s : State} {x0} (h : Kept W s0 s) : Kept W s0 (effSepStore x0 s) := by
  unfold effSepStore
  repeat (first
    | with_reducible assumption | (with_reducible refine kept_storeRow (msub hw) ?_))

theorem kept_effSepStoreD {W s0} (hw : 110831318893221766 &&& W = 110831318893221766)  {s : State} {x0} (h : Kept W s0 s) : Kept W s0 (effSepStoreD x0 s) := by
  unfold effSepStoreD
  repeat (first
    | with_reducible assumption | (with_reducible refine kept_storeRow (msub hw) ?_))

theorem kept_effSepShsel {W s0} (hw : 110831318893221766 &&& W = 110831318893221766)  {s : State} {x0} (h : Kept W s0 s) : Kept W s0 (effSepShsel x0 s) := by
  unfold effSepShsel
  repeat (first
    | with_reducible assumption | (with_reducible refine kept_shselRow (msub hw) ?_))

theorem kept_effSepEclr {W s0} (hw : 110831318893221766 &&& W = 110831318893221766)  {s : State} {x0} (h : Kept W s0 s) : Kept W s0 (effSepEclr x0 s) := by
  unfold effSepEclr
  repeat (first
    | with_reducible assumption | (with_reducible refine kept_eclrRow (msub hw) ?_))

theorem kept_effSepWset {W s0} (hw : 110831318893221766 &&& W = 110831318893221766)  {s : State} {x0} (h : Kept W s0 s) : Kept W s0 (effSepWset x0 s) := by
  unfold effSepWset
  repeat (first
    | with_reducible assumption | (with_reducible refine kept_wsetRow (msub hw) ?_))

theorem kept_effSepMaxexp {W s0} (hw : 110831868649035654 &&& W = 110831868649035654)  {s : State} {x0} (h : Kept W s0 s) : Kept W s0 (effSepMaxexp x0 s) := by
  unfold effSepMaxexp
  repeat (first
    | with_reducible assumption | (with_reducible refine kept_maxexpRow (msub hw) ?_))

theorem kept_effSepMaxexpAll {W s0} (hw : 110831868649035654 &&& W = 110831868649035654)  {s : State} {x0} (h : Kept W s0 s) : Kept W s0 (effSepMaxexpAll x0 s) := by
  unfold effSepMaxexpAll
  repeat (first
    | with_reducible assumption | (with_reducible refine kept_maxexpRow (msub hw) ?_))

theorem kept_effSepSum {W s0} (hw : 110831868649035654 &&& W = 110831868649035654)  {s : State} {x0} (h : Kept W s0 s) : Kept W s0 (effSepSum x0 s) := by
  unfold effSepSum
  repeat (first
    | with_reducible assumption | (with_reducible refine kept_sumRow (msub hw) ?_))

theorem kept_effSepSumAll {W s0} (hw : 110831868649035654 &&& W = 110831868649035654)  {s : State} {x0} (h : Kept W s0 s) : Kept W s0 (effSepSumAll x0 s) := by
  unfold effSepSumAll
  repeat (first
    | with_reducible assumption | (with_reducible refine kept_sumRow (msub hw) ?_))

theorem kept_effSepNorm {W s0} (hw : 110831868649035654 &&& W = 110831868649035654)  {s : State} {x0} (h : Kept W s0 s) : Kept W s0 (effSepNorm x0 s) := by
  unfold effSepNorm
  repeat (first
    | with_reducible assumption | (with_reducible refine kept_sumRow (msub hw) ?_))

theorem kept_effSepNormAll {W s0} (hw : 110831868649035654 &&& W = 110831868649035654)  {s : State} {x0} (h : Kept W s0 s) : Kept W s0 (effSepNormAll x0 s) := by
  unfold effSepNormAll
  repeat (first
    | with_reducible assumption | (with_reducible refine kept_sumRow (msub hw) ?_))

theorem kept_effSepDot {W s0} (hw : 110831868649035654 &&& W = 110831868649035654)  {s : State} {x0} (h : Kept W s0 s) : Kept W s0 (effSepDot x0 s) := by
  unfold effSepDot
  repeat (first
    | with_reducible assumption | (with_reducible refine kept_sumRow (msub hw) ?_))

theorem kept_effSepDotAll {W s0} (hw : 110831868649035654 &&& W = 110831868649035654)  {s : State} {x0} (h : Kept W s0 s) : Kept W s0 (effSepDotAll x0 s) := by
  unfold effSepDotAll
  repeat (first
    | with_reducible assumption | (with_reducible refine kept_sumRow (msub hw) ?_))

theorem kept_effSepBarrierStep {W s0} (hw : 110831318893221766 &&& W = 110831318893221766)  {s : State} {x0} (h : Kept W s0 s) : Kept W s0 (effSepBarrierStep x0 s) := by
  unfold effSepBarrierStep
  repeat (first
    | with_reducible assumption | (with_reducible refine kept_barrierRow (msub hw) ?_))

end Sys2Proof.Laws
end

