-- ==== Sys2Proof/Laws/KeptEngines.lean ====
section
/-! SUPPORT. What the definitions of Machine/Engines.lean keep (Laws/KeptBase.lean). -/

namespace Sys2Proof.Laws

open Sys2Proof Sys2Proof.Machine

set_option linter.all false
set_option Elab.async false

theorem kept_engineAudit {W s0} (hw : 110831318893221766 &&& W = 110831318893221766) {s s' : State} {x1} {x2} {x3} {x4} {x5} {x6} {x7} {x8} (e : engineAudit s x1 x2 x3 x4 x5 x6 x7 x8 = some s') (h : Kept W s0 s) : Kept W s0 s' := by
  unfold engineAudit at e
  try dsimp only at e
  repeat' (split at e)
  all_goals first
    | (cases e; done)
    | (simp only [Option.map_eq_some_iff] at e; obtain ⟨_, _, rfl⟩ := e; repeat (first
    | with_reducible assumption | (with_reducible refine kept_issueFault (msub hw) ?_) | with_reducible apply kept_ite
    | with_reducible apply kept_ite_snd | (with_reducible intro _) | split | (dsimp only; split)
    | (with_reducible refine kept_mk hw ?_ rfl rfl rfl rfl rfl)))
    | (cases e; repeat (first
    | with_reducible assumption | (with_reducible refine kept_issueFault (msub hw) ?_) | with_reducible apply kept_ite
    | with_reducible apply kept_ite_snd | (with_reducible intro _) | split | (dsimp only; split)
    | (with_reducible refine kept_mk hw ?_ rfl rfl rfl rfl rfl)))

theorem kept_effMoveIn {W s0} (hw : 110831318893221766 &&& W = 110831318893221766)  {s : State} {x0} (h : Kept W s0 s) : Kept W s0 (effMoveIn x0 s) := by
  unfold effMoveIn
  repeat (first
    | with_reducible assumption | (with_reducible refine kept_atCycle (msub hw) ?_)
    | (with_reducible refine kept_engineAudit (msub hw) (by assumption) ?_)
    | (with_reducible refine kept_settled (msub hw) ?_) | (with_reducible refine kept_modBench (msub hw) ?_)
    | (with_reducible intro _) | split | (dsimp only; split) | (with_reducible refine kept_mk hw ?_ rfl rfl rfl rfl rfl))

theorem kept_noteWrite {W s0} (hw : 25769803776 &&& W = 25769803776)  {s : State} {x1} {x2} {x3} {x4} {x5} {x6} (h : Kept W s0 s) : Kept W s0 (noteWrite s x1 x2 x3 x4 x5 x6) := by
  unfold noteWrite
  repeat (first
    | with_reducible assumption | (with_reducible refine kept_modSlot ?_ ?_)
    | (with_reducible refine kept_modTan (msub hw) ?_) | (with_reducible exact sold_refl) | with_reducible apply sold_ite
    | (with_reducible intro _) | with_reducible apply kept_ite | with_reducible apply kept_ite_snd | split
    | (dsimp only; split) | (with_reducible refine kept_mk hw ?_ rfl rfl rfl rfl rfl)
    | (with_reducible refine sold_mk hw ?_))

theorem kept_effMoveOut {W s0} (hw : 110831318893221766 &&& W = 110831318893221766)  {s : State} {x0} (h : Kept W s0 s) : Kept W s0 (effMoveOut x0 s) := by
  unfold effMoveOut
  repeat (first
    | with_reducible assumption | (with_reducible refine kept_atCycle (msub hw) ?_)
    | (with_reducible refine kept_engineAudit (msub hw) (by assumption) ?_)
    | (with_reducible refine kept_settled (msub hw) ?_) | (with_reducible refine kept_noteWrite (msub hw) ?_)
    | (with_reducible refine kept_modBench (msub hw) ?_) | with_reducible apply kept_foldl | (with_reducible intro _)
    | split | (dsimp only; split) | (with_reducible refine kept_mk hw ?_ rfl rfl rfl rfl rfl))

theorem kept_effDrain {W s0} (hw : 110831318893221766 &&& W = 110831318893221766)  {s : State} {x0} (h : Kept W s0 s) : Kept W s0 (effDrain x0 s) := by
  unfold effDrain
  repeat (first
    | with_reducible assumption | (with_reducible refine kept_atCycle (msub hw) ?_)
    | (with_reducible refine kept_engineAudit (msub hw) (by assumption) ?_)
    | (with_reducible refine kept_settled (msub hw) ?_) | (with_reducible refine kept_modBench (msub hw) ?_)
    | (with_reducible intro _) | split | (dsimp only; split) | (with_reducible refine kept_mk hw ?_ rfl rfl rfl rfl rfl))

theorem kept_effEmitState {W s0} (hw : 110831318893221766 &&& W = 110831318893221766)  {s : State} {x0} (h : Kept W s0 s) : Kept W s0 (effEmitState x0 s) := by
  unfold effEmitState
  repeat (first
    | with_reducible assumption | (with_reducible refine kept_atCycle (msub hw) ?_)
    | (with_reducible refine kept_engineAudit (msub hw) (by assumption) ?_)
    | (with_reducible refine kept_settled (msub hw) ?_) | (with_reducible refine kept_modBench (msub hw) ?_)
    | (with_reducible intro _) | split | (dsimp only; split) | (with_reducible refine kept_mk hw ?_ rfl rfl rfl rfl rfl))

theorem kept_effEmitServe {W s0} (hw : 110831318893221766 &&& W = 110831318893221766)  {s : State} {x0} (h : Kept W s0 s) : Kept W s0 (effEmitServe x0 s) := by
  unfold effEmitServe
  repeat (first
    | with_reducible assumption | (with_reducible refine kept_atCycle (msub hw) ?_)
    | (with_reducible refine kept_engineAudit (msub hw) (by assumption) ?_)
    | (with_reducible refine kept_settled (msub hw) ?_) | (with_reducible refine kept_modBench (msub hw) ?_)
    | (with_reducible intro _) | split | (dsimp only; split) | (with_reducible refine kept_mk hw ?_ rfl rfl rfl rfl rfl))

theorem kept_memLate {W s0} (hw : 110708173590910860 &&& W = 110708173590910860)  {s : State} {x1} {x2} (h : Kept W s0 s) : Kept W s0 (memLate s x1 x2) := by
  unfold memLate
  repeat (first
    | with_reducible assumption | (with_reducible refine kept_drawFree (msub hw) ?_)
    | (with_reducible refine kept_drawFree' (msub hw) (by assumption) ?_)
    | (with_reducible refine kept_modChan (msub hw) ?_) | (with_reducible refine kept_modSlot ?_ ?_)
    | (with_reducible refine kept_stopPass (msub hw) ?_) | (with_reducible refine kept_raiseAbort (msub hw) ?_)
    | (with_reducible exact sold_refl) | with_reducible apply sold_ite | (with_reducible intro _)
    | with_reducible apply kept_ite | with_reducible apply kept_ite_snd | split | (dsimp only; split)
    | (with_reducible refine kept_mk hw ?_ rfl rfl rfl rfl rfl) | (with_reducible refine sold_mk hw ?_))

theorem kept_dueFlight {W s0} (hw : 72057594037927938 &&& W = 72057594037927938)  {s : State} {x1} {x2} (h : Kept W s0 s) : Kept W s0 (dueFlight s x1 x2) := by
  unfold dueFlight
  repeat (first
    | with_reducible assumption | (with_reducible refine kept_atCycle (msub hw) ?_)
    | (with_reducible refine kept_modBench (msub hw) ?_) | (with_reducible intro _))

theorem kept_effMoveInDone {W s0} (hw : 110848911079266190 &&& W = 110848911079266190)  {s : State} {x0} {x1} {x2} (h : Kept W s0 s) : Kept W s0 (effMoveInDone x0 x1 x2 s) := by
  unfold effMoveInDone
  repeat (first
    | with_reducible assumption | (with_reducible refine kept_dueFlight (msub hw) ?_)
    | (with_reducible refine kept_settled (msub hw) ?_) | (with_reducible refine kept_memLate (msub hw) ?_)
    | with_reducible apply kept_ite | with_reducible apply kept_ite_snd | split | (dsimp only; split)
    | (with_reducible refine kept_mk hw ?_ rfl rfl rfl rfl rfl))

theorem kept_effMoveOutDone {W s0} (hw : 110848911079266190 &&& W = 110848911079266190)  {s : State} {x0} {x1} {x2} (h : Kept W s0 s) : Kept W s0 (effMoveOutDone x0 x1 x2 s) := by
  unfold effMoveOutDone
  repeat (first
    | with_reducible assumption | (with_reducible refine kept_dueFlight (msub hw) ?_)
    | (with_reducible refine kept_settled (msub hw) ?_) | (with_reducible refine kept_memLate (msub hw) ?_)
    | (with_reducible refine kept_writeStaged (msub hw) ?_) | with_reducible apply kept_ite
    | with_reducible apply kept_ite_snd | split | (dsimp only; split)
    | (with_reducible refine kept_mk hw ?_ rfl rfl rfl rfl rfl))

theorem kept_effChunkServable {W s0} (hw : 110831318893221766 &&& W = 110831318893221766)  {s : State} {x0} (h : Kept W s0 s) : Kept W s0 (effChunkServable x0 s) := by
  unfold effChunkServable
  repeat (first
    | with_reducible assumption | (with_reducible refine kept_dueFlight (msub hw) ?_)
    | (with_reducible refine kept_settled (msub hw) ?_) | (with_reducible refine kept_makeServable (msub hw) ?_)
    | with_reducible apply kept_foldl | (with_reducible intro _) | split | (dsimp only; split)
    | (with_reducible refine kept_mk hw ?_ rfl rfl rfl rfl rfl))

theorem kept_countDrain {W s0} (hw : 34359738368 &&& W = 34359738368)  {s : State} {x1} {x2} (h : Kept W s0 s) : Kept W s0 (countDrain s x1 x2) := by
  unfold countDrain
  repeat (first
    | with_reducible assumption | (with_reducible refine kept_settleRounded (msub hw) ?_)
    | (with_reducible refine kept_modChunk (msub hw) ?_) | (with_reducible intro _) | split | (dsimp only; split)
    | (with_reducible refine kept_mk hw ?_ rfl rfl rfl rfl rfl))

theorem kept_effDrainRead {W s0} (hw : 110831318893221766 &&& W = 110831318893221766)  {s : State} {x0} (h : Kept W s0 s) : Kept W s0 (effDrainRead x0 s) := by
  unfold effDrainRead
  repeat (first
    | with_reducible assumption | (with_reducible refine kept_dueFlight (msub hw) ?_)
    | (with_reducible refine kept_settled (msub hw) ?_) | (with_reducible refine kept_countDrain (msub hw) ?_)
    | with_reducible apply kept_foldl | (with_reducible intro _) | split | (dsimp only; split)
    | (with_reducible refine kept_mk hw ?_ rfl rfl rfl rfl rfl))

theorem kept_launchRow {W s0} (hw : 110867053557995398 &&& W = 110867053557995398)  {s : State} {x0} {x1} {x2} (h : Kept W s0 s) : Kept W s0 (launchRow x0 x1 x2 s) := by
  unfold launchRow
  repeat (first
    | with_reducible assumption | (with_reducible refine kept_settled (msub hw) ?_)
    | (with_reducible refine kept_launchFlight (msub hw) ?_) | (with_reducible refine kept_dueFlight (msub hw) ?_)
    | with_reducible apply kept_ite | with_reducible apply kept_ite_snd | split | (dsimp only; split)
    | (with_reducible refine kept_mk hw ?_ rfl rfl rfl rfl rfl))

theorem kept_effFusedCollectiveLaunch {W s0} (hw : 110867053557995398 &&& W = 110867053557995398)  {s : State} {x0} (h : Kept W s0 s) : Kept W s0 (effFusedCollectiveLaunch x0 s) := by
  unfold effFusedCollectiveLaunch
  repeat (first
    | with_reducible assumption | (with_reducible refine kept_launchRow (msub hw) ?_) | (with_reducible intro _))

theorem kept_effCadBarrier {W s0} (hw : 110867053557995398 &&& W = 110867053557995398)  {s : State} {x0} (h : Kept W s0 s) : Kept W s0 (effCadBarrier x0 s) := by
  unfold effCadBarrier
  repeat (first
    | with_reducible assumption | (with_reducible refine kept_launchRow (msub hw) ?_))

theorem kept_effMaxI64 {W s0} (hw : 110867053557995398 &&& W = 110867053557995398)  {s : State} {x0} (h : Kept W s0 s) : Kept W s0 (effMaxI64 x0 s) := by
  unfold effMaxI64
  repeat (first
    | with_reducible assumption | (with_reducible refine kept_launchRow (msub hw) ?_))

theorem kept_effMinI64 {W s0} (hw : 110867053557995398 &&& W = 110867053557995398)  {s : State} {x0} (h : Kept W s0 s) : Kept W s0 (effMinI64 x0 s) := by
  unfold effMinI64
  repeat (first
    | with_reducible assumption | (with_reducible refine kept_launchRow (msub hw) ?_))

theorem kept_effSumI64 {W s0} (hw : 110867053557995398 &&& W = 110867053557995398)  {s : State} {x0} (h : Kept W s0 s) : Kept W s0 (effSumI64 x0 s) := by
  unfold effSumI64
  repeat (first
    | with_reducible assumption | (with_reducible refine kept_launchRow (msub hw) ?_))

theorem kept_effAndU64 {W s0} (hw : 110867053557995398 &&& W = 110867053557995398)  {s : State} {x0} (h : Kept W s0 s) : Kept W s0 (effAndU64 x0 s) := by
  unfold effAndU64
  repeat (first
    | with_reducible assumption | (with_reducible refine kept_launchRow (msub hw) ?_))

theorem kept_effOrU64 {W s0} (hw : 110867053557995398 &&& W = 110867053557995398)  {s : State} {x0} (h : Kept W s0 s) : Kept W s0 (effOrU64 x0 s) := by
  unfold effOrU64
  repeat (first
    | with_reducible assumption | (with_reducible refine kept_launchRow (msub hw) ?_))

theorem kept_effCadMaxexp {W s0} (hw : 110867053557995398 &&& W = 110867053557995398)  {s : State} {x0} (h : Kept W s0 s) : Kept W s0 (effCadMaxexp x0 s) := by
  unfold effCadMaxexp
  repeat (first
    | with_reducible assumption | (with_reducible refine kept_launchRow (msub hw) ?_))

theorem kept_effSumF32 {W s0} (hw : 110867053557995398 &&& W = 110867053557995398)  {s : State} {x0} (h : Kept W s0 s) : Kept W s0 (effSumF32 x0 s) := by
  unfold effSumF32
  repeat (first
    | with_reducible assumption | (with_reducible refine kept_launchRow (msub hw) ?_))

end Sys2Proof.Laws
end

