-- ==== Sys2Proof/Laws/KeptSerial.lean ====
section
/-! SUPPORT. What the definitions of Machine/Serial.lean keep (Laws/KeptBase.lean). -/

namespace Sys2Proof.Laws

open Sys2Proof Sys2Proof.Machine

set_option linter.all false
set_option Elab.async false

theorem kept_startTraining {W s0} (hw : 2052 &&& W = 2052)  {s : State} {x1} (h : Kept W s0 s) : Kept W s0 (startTraining s x1) := by
  unfold startTraining
  repeat (first
    | with_reducible assumption | (with_reducible refine kept_modLane (msub hw) ?_)
    | (with_reducible refine kept_emit (msub hw) ?_) | (with_reducible intro _)
    | (with_reducible refine kept_mk hw ?_ rfl rfl rfl rfl rfl))

theorem kept_effSignalDetected {W s0} (hw : 2052 &&& W = 2052)  {s : State} {x0} (h : Kept W s0 s) : Kept W s0 (effSignalDetected x0 s) := by
  unfold effSignalDetected
  repeat (first
    | with_reducible assumption | (with_reducible refine kept_startTraining (msub hw) ?_) | with_reducible apply kept_ite
    | with_reducible apply kept_ite_snd | split | (dsimp only; split)
    | (with_reducible refine kept_mk hw ?_ rfl rfl rfl rfl rfl))

theorem kept_effTrainingFrame {W s0} (hw : 2060 &&& W = 2060)  {s : State} {x0} {x1} {x2} (h : Kept W s0 s) : Kept W s0 (effTrainingFrame x0 x1 x2 s) := by
  unfold effTrainingFrame
  repeat (first
    | with_reducible assumption | (with_reducible refine kept_drawFree (msub hw) ?_)
    | (with_reducible refine kept_drawFree' (msub hw) (by assumption) ?_)
    | (with_reducible refine kept_modLane (msub hw) ?_) | (with_reducible refine kept_emit (msub hw) ?_)
    | with_reducible apply kept_ite | with_reducible apply kept_ite_snd | (with_reducible intro _) | split
    | (dsimp only; split) | (with_reducible refine kept_mk hw ?_ rfl rfl rfl rfl rfl))

theorem kept_effTrainingComplete {W s0} (hw : 2048 &&& W = 2048)  {s : State} {x0} (h : Kept W s0 s) : Kept W s0 (effTrainingComplete x0 s) := by
  unfold effTrainingComplete
  repeat (first
    | with_reducible assumption | (with_reducible refine kept_modLane (msub hw) ?_) | with_reducible apply kept_ite
    | with_reducible apply kept_ite_snd | (with_reducible intro _) | split | (dsimp only; split)
    | (with_reducible refine kept_mk hw ?_ rfl rfl rfl rfl rfl))

theorem kept_lanesDown {W s0} (hw : 2048 &&& W = 2048)  {s : State} {x1} (h : Kept W s0 s) : Kept W s0 (lanesDown s x1) := by
  unfold lanesDown
  repeat (first
    | with_reducible assumption | (with_reducible refine kept_modLane (msub hw) ?_) | with_reducible apply kept_ite
    | with_reducible apply kept_ite_snd | with_reducible apply kept_foldl | (with_reducible intro _) | split
    | (dsimp only; split) | (with_reducible refine kept_mk hw ?_ rfl rfl rfl rfl rfl))

theorem kept_effTrainingTimeout {W s0} (hw : 3206 &&& W = 3206)  {s : State} {x0} (h : Kept W s0 s) : Kept W s0 (effTrainingTimeout x0 s) := by
  unfold effTrainingTimeout
  repeat (first
    | with_reducible assumption | (with_reducible refine kept_timeTo (msub hw) ?_)
    | (with_reducible refine kept_modLane (msub hw) ?_) | (with_reducible refine kept_modPort (msub hw) ?_)
    | (with_reducible refine kept_lanesDown (msub hw) ?_) | (with_reducible refine kept_postEvent (msub hw) ?_)
    | (with_reducible refine kept_startTraining (msub hw) ?_) | with_reducible apply kept_ite
    | with_reducible apply kept_ite_snd | (with_reducible intro _) | split | (dsimp only; split)
    | (with_reducible refine kept_mk hw ?_ rfl rfl rfl rfl rfl))

theorem kept_effCodewordLock {W s0} (hw : 2048 &&& W = 2048)  {s : State} {x0} {x1} {x2} (h : Kept W s0 s) : Kept W s0 (effCodewordLock x0 x1 x2 s) := by
  unfold effCodewordLock
  repeat (first
    | with_reducible assumption | (with_reducible refine kept_modLane (msub hw) ?_) | with_reducible apply kept_ite
    | with_reducible apply kept_ite_snd | (with_reducible intro _) | split | (dsimp only; split)
    | (with_reducible refine kept_mk hw ?_ rfl rfl rfl rfl rfl))

theorem kept_effPortDeskewed {W s0} (hw : 3072 &&& W = 3072)  {s : State} {x0} (h : Kept W s0 s) : Kept W s0 (effPortDeskewed x0 s) := by
  unfold effPortDeskewed
  repeat (first
    | with_reducible assumption | (with_reducible refine kept_modLane (msub hw) ?_)
    | (with_reducible refine kept_sendHello (msub hw) ?_) | (with_reducible refine kept_modPort (msub hw) ?_)
    | with_reducible apply kept_ite | with_reducible apply kept_ite_snd | with_reducible apply kept_foldl
    | (with_reducible intro _) | split | (dsimp only; split) | (with_reducible refine kept_mk hw ?_ rfl rfl rfl rfl rfl))

theorem kept_lanePortDown {W s0} (hw : 112379156110384772 &&& W = 112379156110384772)  {s : State} {x1} (h : Kept W s0 s) : Kept W s0 (lanePortDown s x1) := by
  unfold lanePortDown
  repeat (first
    | with_reducible assumption | (with_reducible refine kept_lanesDown (msub hw) ?_)
    | (with_reducible refine kept_portDown (msub hw) ?_) | (with_reducible refine kept_modPort (msub hw) ?_)
    | (with_reducible intro _) | (with_reducible refine kept_mk hw ?_ rfl rfl rfl rfl rfl))

theorem kept_effLaneFault {W s0} (hw : 112379156110384772 &&& W = 112379156110384772)  {s : State} {x0} (h : Kept W s0 s) : Kept W s0 (effLaneFault x0 s) := by
  unfold effLaneFault
  repeat (first
    | with_reducible assumption | (with_reducible refine kept_lanePortDown (msub hw) ?_) | with_reducible apply kept_ite
    | with_reducible apply kept_ite_snd | split | (dsimp only; split)
    | (with_reducible refine kept_mk hw ?_ rfl rfl rfl rfl rfl))

theorem kept_effIdleEntry {W s0} (hw : 1030 &&& W = 1030)  {s : State} {x0} (h : Kept W s0 s) : Kept W s0 (effIdleEntry x0 s) := by
  unfold effIdleEntry
  repeat (first
    | with_reducible assumption | (with_reducible refine kept_timeTo (msub hw) ?_)
    | (with_reducible refine kept_emit (msub hw) ?_) | (with_reducible refine kept_modPort (msub hw) ?_)
    | with_reducible apply kept_ite | with_reducible apply kept_ite_snd | (with_reducible intro _) | split
    | (dsimp only; split) | (with_reducible refine kept_mk hw ?_ rfl rfl rfl rfl rfl))

theorem kept_effIdleExit {W s0} (hw : 1028 &&& W = 1028)  {s : State} {x0} (h : Kept W s0 s) : Kept W s0 (effIdleExit x0 s) := by
  unfold effIdleExit
  repeat (first
    | with_reducible assumption | (with_reducible refine kept_emit (msub hw) ?_)
    | (with_reducible refine kept_modPort (msub hw) ?_) | with_reducible apply kept_ite
    | with_reducible apply kept_ite_snd | (with_reducible intro _) | split | (dsimp only; split)
    | (with_reducible refine kept_mk hw ?_ rfl rfl rfl rfl rfl))

theorem kept_effEiCodewordsReceived {W s0} (hw : 3072 &&& W = 3072)  {s : State} {x0} (h : Kept W s0 s) : Kept W s0 (effEiCodewordsReceived x0 s) := by
  unfold effEiCodewordsReceived
  repeat (first
    | with_reducible assumption | (with_reducible refine kept_modLane (msub hw) ?_)
    | (with_reducible refine kept_modPort (msub hw) ?_) | with_reducible apply kept_ite
    | with_reducible apply kept_ite_snd | (with_reducible intro _) | split | (dsimp only; split)
    | (with_reducible refine kept_mk hw ?_ rfl rfl rfl rfl rfl))

theorem kept_effExitBurstReceived {W s0} (hw : 112379156110384772 &&& W = 112379156110384772)  {s : State} {x0} {x1} (h : Kept W s0 s) : Kept W s0 (effExitBurstReceived x0 x1 s) := by
  unfold effExitBurstReceived
  repeat (first
    | with_reducible assumption | (with_reducible refine kept_modLane (msub hw) ?_)
    | (with_reducible refine kept_modPort (msub hw) ?_) | (with_reducible refine kept_lanePortDown (msub hw) ?_)
    | with_reducible apply kept_ite | with_reducible apply kept_ite_snd | (with_reducible intro _) | split
    | (dsimp only; split) | (with_reducible refine kept_mk hw ?_ rfl rfl rfl rfl rfl))

theorem kept_effSpokeAlign {W s0} (hw : 4100 &&& W = 4100)  {s : State} {x0} (h : Kept W s0 s) : Kept W s0 (effSpokeAlign x0 s) := by
  unfold effSpokeAlign
  repeat (first
    | with_reducible assumption | (with_reducible refine kept_modSpoke (msub hw) ?_)
    | (with_reducible refine kept_spokeSend (msub hw) ?_) | with_reducible apply kept_ite
    | with_reducible apply kept_ite_snd | (with_reducible intro _) | split | (dsimp only; split)
    | (with_reducible refine kept_mk hw ?_ rfl rfl rfl rfl rfl))

theorem kept_spokeDown {W s0} (hw : 110690306250126980 &&& W = 110690306250126980)  {s : State} {x1} (h : Kept W s0 s) : Kept W s0 (spokeDown s x1) := by
  unfold spokeDown
  repeat (first
    | with_reducible assumption | (with_reducible refine kept_modSpoke (msub hw) ?_)
    | (with_reducible refine kept_failLinkOps (msub hw) ?_) | (with_reducible refine kept_postEvent (msub hw) ?_)
    | (with_reducible refine kept_loseDecision (msub hw) ?_) | with_reducible apply kept_ite
    | with_reducible apply kept_ite_snd | with_reducible apply kept_foldl | (with_reducible intro _) | split
    | (dsimp only; split) | (with_reducible refine kept_mk hw ?_ rfl rfl rfl rfl rfl))

theorem kept_effSpokeLinkDown {W s0} (hw : 110690306250126980 &&& W = 110690306250126980)  {s : State} {x0} (h : Kept W s0 s) : Kept W s0 (effSpokeLinkDown x0 s) := by
  unfold effSpokeLinkDown
  repeat (first
    | with_reducible assumption | (with_reducible refine kept_spokeDown (msub hw) ?_))

theorem kept_effSpokeHello {W s0} (hw : 110690306250126980 &&& W = 110690306250126980)  {s : State} {x0} (h : Kept W s0 s) : Kept W s0 (effSpokeHello x0 s) := by
  unfold effSpokeHello
  repeat (first
    | with_reducible assumption | (with_reducible refine kept_spokeTake (msub hw) ?_)
    | (with_reducible refine kept_spokeTake' (msub hw) (by assumption) ?_)
    | (with_reducible refine kept_spokeDown (msub hw) ?_) | (with_reducible refine kept_spokeSend (msub hw) ?_)
    | (with_reducible refine kept_modSpoke (msub hw) ?_) | with_reducible apply kept_ite
    | with_reducible apply kept_ite_snd | (with_reducible intro _) | split | (dsimp only; split)
    | (with_reducible refine kept_mk hw ?_ rfl rfl rfl rfl rfl))

theorem kept_tickTime {W s0} (hw : 8194 &&& W = 8194)  {s : State}  (h : Kept W s0 s) : Kept W s0 (tickTime s) := by
  unfold tickTime
  repeat (first
    | with_reducible assumption | with_reducible apply kept_ite | with_reducible apply kept_ite_snd | split
    | (dsimp only; split) | (with_reducible refine kept_mk hw ?_ rfl rfl rfl rfl rfl))

theorem kept_effTimeExchange {W s0} (hw : 12294 &&& W = 12294)  {s : State}  (h : Kept W s0 s) : Kept W s0 (effTimeExchange s) := by
  unfold effTimeExchange
  repeat (first
    | with_reducible assumption | (with_reducible refine kept_timeTo (msub hw) ?_)
    | (with_reducible refine kept_spokeSend (msub hw) ?_) | with_reducible apply kept_ite
    | with_reducible apply kept_ite_snd | split | (dsimp only; split)
    | (with_reducible refine kept_mk hw ?_ rfl rfl rfl rfl rfl))

theorem kept_badTime {W s0} (hw : 4096 &&& W = 4096)  {s : State} {x1} (h : Kept W s0 s) : Kept W s0 (badTime s x1) := by
  unfold badTime
  repeat (first
    | with_reducible assumption | (with_reducible refine kept_modSpoke (msub hw) ?_) | (with_reducible intro _)
    | (with_reducible refine kept_mk hw ?_ rfl rfl rfl rfl rfl))

theorem kept_effTimeReq {W s0} (hw : 4100 &&& W = 4100)  {s : State} {x0} (h : Kept W s0 s) : Kept W s0 (effTimeReq x0 s) := by
  unfold effTimeReq
  repeat (first
    | with_reducible assumption | (with_reducible refine kept_badTime (msub hw) ?_)
    | (with_reducible refine kept_spokeTake (msub hw) ?_)
    | (with_reducible refine kept_spokeTake' (msub hw) (by assumption) ?_)
    | (with_reducible refine kept_spokeSend (msub hw) ?_) | with_reducible apply kept_ite
    | with_reducible apply kept_ite_snd | split | (dsimp only; split))

theorem kept_removeOffset {W s0} (hw : 8194 &&& W = 8194)  {s : State} {x1} (h : Kept W s0 s) : Kept W s0 (removeOffset s x1) := by
  unfold removeOffset
  repeat (first
    | with_reducible assumption | with_reducible apply kept_ite | with_reducible apply kept_ite_snd
    | (with_reducible intro _) | split | (dsimp only; split) | (with_reducible refine kept_mk hw ?_ rfl rfl rfl rfl rfl))

theorem kept_effTimeResp {W s0} (hw : 12422 &&& W = 12422)  {s : State} {x0} {x1} (h : Kept W s0 s) : Kept W s0 (effTimeResp x0 x1 s) := by
  unfold effTimeResp
  repeat (first
    | with_reducible assumption | (with_reducible refine kept_badTime (msub hw) ?_)
    | (with_reducible refine kept_spokeTake (msub hw) ?_)
    | (with_reducible refine kept_spokeTake' (msub hw) (by assumption) ?_)
    | (with_reducible refine kept_timeTo (msub hw) ?_) | (with_reducible refine kept_removeOffset (msub hw) ?_)
    | (with_reducible refine kept_postEvent (msub hw) ?_) | with_reducible apply kept_ite
    | with_reducible apply kept_ite_snd | split | (dsimp only; split)
    | (with_reducible refine kept_mk hw ?_ rfl rfl rfl rfl rfl))

end Sys2Proof.Laws
end

