-- ==== Sys2Proof/Laws/KeptHbm.lean ====
section
/-! SUPPORT. What the definitions of Machine/Hbm.lean keep (Laws/KeptBase.lean). -/

namespace Sys2Proof.Laws

open Sys2Proof Sys2Proof.Machine

set_option linter.all false
set_option Elab.async false

theorem kept_markDirty {W s0} (hw : 17179869184 &&& W = 17179869184)  {s : State} {x1} {x2} (h : Kept W s0 s) : Kept W s0 (markDirty s x1 x2) := by
  unfold markDirty
  repeat (first
    | with_reducible assumption | (with_reducible refine kept_modTan (msub hw) ?_) | with_reducible apply kept_ite
    | with_reducible apply kept_ite_snd | (with_reducible intro _) | split | (dsimp only; split)
    | (with_reducible refine kept_mk hw ?_ rfl rfl rfl rfl rfl))

theorem kept_damaged {W s0} (hw : 110690306250118788 &&& W = 110690306250118788)  {s : State} {x1} {x2} (h : Kept W s0 s) : Kept W s0 (damaged s x1 x2) := by
  unfold damaged
  repeat (first
    | with_reducible assumption | (with_reducible refine kept_raiseAbort (msub hw) ?_)
    | (with_reducible refine kept_startRestore (msub hw) ?_) | with_reducible apply kept_ite
    | with_reducible apply kept_ite_snd | split | (dsimp only; split))

theorem kept_primaryBad {W s0} (hw : 110690306250118788 &&& W = 110690306250118788)  {s : State} {x1} {x2} {x3} (h : Kept W s0 s) : Kept W s0 (primaryBad s x1 x2 x3) := by
  unfold primaryBad
  repeat (first
    | with_reducible assumption | (with_reducible refine kept_damaged (msub hw) ?_)
    | (with_reducible refine kept_markDirty (msub hw) ?_) | split | (dsimp only; split)
    | (with_reducible refine kept_mk hw ?_ rfl rfl rfl rfl rfl))

theorem kept_mirrorBad {W s0} (hw : 2251816993948804 &&& W = 2251816993948804)  {s : State} {x1} (h : Kept W s0 s) : Kept W s0 (mirrorBad s x1) := by
  unfold mirrorBad
  repeat (first
    | with_reducible assumption | (with_reducible refine kept_breakMirror (msub hw) ?_) | with_reducible apply kept_ite
    | with_reducible apply kept_ite_snd | split | (dsimp only; split))

theorem kept_stateSectorBad {W s0} (hw : 110690306250118788 &&& W = 110690306250118788)  {s : State} {x1} {x2} (h : Kept W s0 s) : Kept W s0 (stateSectorBad s x1 x2) := by
  unfold stateSectorBad
  repeat (first
    | with_reducible assumption | (with_reducible refine kept_primaryBad (msub hw) ?_)
    | (with_reducible refine kept_damaged (msub hw) ?_) | (with_reducible refine kept_mirrorBad (msub hw) ?_) | split
    | (dsimp only; split) | (with_reducible refine kept_mk hw ?_ rfl rfl rfl rfl rfl))

theorem kept_versionBad {W s0} (hw : 4503599627370496 &&& W = 4503599627370496)  {s : State} {x1} {x2} (h : Kept W s0 s) : Kept W s0 (versionBad s x1 x2) := by
  unfold versionBad
  repeat (first
    | with_reducible assumption | (with_reducible refine kept_modSlot ?_ ?_) | (with_reducible exact sold_refl)
    | with_reducible apply sold_ite | (with_reducible intro _)
    | (with_reducible refine kept_mk hw ?_ rfl rfl rfl rfl rfl) | (with_reducible refine sold_mk hw ?_))

theorem kept_logEntryLost {W s0} (hw : 9895604649984 &&& W = 9895604649984)  {s : State} {x1} {x2} (h : Kept W s0 s) : Kept W s0 (logEntryLost s x1 x2) := by
  unfold logEntryLost
  repeat (first
    | with_reducible assumption | (with_reducible refine kept_modSlot ?_ ?_) | (with_reducible exact sold_refl)
    | with_reducible apply sold_ite | (with_reducible intro _) | with_reducible apply kept_ite
    | with_reducible apply kept_ite_snd | split | (dsimp only; split)
    | (with_reducible refine kept_mk hw ?_ rfl rfl rfl rfl rfl) | (with_reducible refine sold_mk hw ?_))

theorem kept_traceEntryLost {W s0} (hw : 256 &&& W = 256)  {s : State} {x1} (h : Kept W s0 s) : Kept W s0 (traceEntryLost s x1) := by
  unfold traceEntryLost
  repeat (first
    | with_reducible assumption | with_reducible apply kept_ite | with_reducible apply kept_ite_snd | split
    | (dsimp only; split) | (with_reducible refine kept_mk hw ?_ rfl rfl rfl rfl rfl))

theorem kept_serviceSectorBad {W s0} (hw : 115203801482139532 &&& W = 115203801482139532)  {s : State}  (h : Kept W s0 s) : Kept W s0 (serviceSectorBad s) := by
  unfold serviceSectorBad
  repeat (first
    | with_reducible assumption | (with_reducible refine kept_drawFree (msub hw) ?_)
    | (with_reducible refine kept_drawFree' (msub hw) (by assumption) ?_)
    | (with_reducible refine kept_damaged (msub hw) ?_) | (with_reducible refine kept_versionBad (msub hw) ?_)
    | (with_reducible refine kept_abortEveryStep (msub hw) ?_) | (with_reducible refine kept_postEvent (msub hw) ?_)
    | (with_reducible refine kept_logEntryLost (msub hw) ?_) | (with_reducible refine kept_traceEntryLost (msub hw) ?_)
    | (with_reducible refine kept_mirrorBad (msub hw) ?_) | split | (dsimp only; split)
    | (with_reducible refine kept_mk hw ?_ rfl rfl rfl rfl rfl))

theorem kept_countUncorrectable {W s0} (hw : 16384 &&& W = 16384)  {s : State} {x1} (h : Kept W s0 s) : Kept W s0 (countUncorrectable s x1) := by
  unfold countUncorrectable
  repeat (first
    | with_reducible assumption | (with_reducible refine kept_modChan (msub hw) ?_) | with_reducible apply kept_ite
    | with_reducible apply kept_ite_snd | (with_reducible intro _) | split | (dsimp only; split)
    | (with_reducible refine kept_mk hw ?_ rfl rfl rfl rfl rfl))

theorem kept_effHbmUncorrectable {W s0} (hw : 115203801482155916 &&& W = 115203801482155916)  {s : State} {x0} {x1} (h : Kept W s0 s) : Kept W s0 (effHbmUncorrectable x0 x1 s) := by
  unfold effHbmUncorrectable
  repeat (first
    | with_reducible assumption | (with_reducible refine kept_countUncorrectable (msub hw) ?_)
    | (with_reducible refine kept_stateSectorBad (msub hw) ?_)
    | (with_reducible refine kept_serviceSectorBad (msub hw) ?_) | with_reducible apply kept_ite
    | with_reducible apply kept_ite_snd | split | (dsimp only; split)
    | (with_reducible refine kept_mk hw ?_ rfl rfl rfl rfl rfl))

theorem kept_effPatrolScrub {W s0} (hw : 16384 &&& W = 16384)  {s : State} {x0} {x1} {x2} (h : Kept W s0 s) : Kept W s0 (effPatrolScrub x0 x1 x2 s) := by
  unfold effPatrolScrub
  repeat (first
    | with_reducible assumption | (with_reducible refine kept_modChan (msub hw) ?_) | with_reducible apply kept_ite
    | with_reducible apply kept_ite_snd | (with_reducible intro _) | split | (dsimp only; split)
    | (with_reducible refine kept_mk hw ?_ rfl rfl rfl rfl rfl))

theorem kept_restripe {W s0} (hw : 2251816993965188 &&& W = 2251816993965188)  {s : State} {x1} (h : Kept W s0 s) : Kept W s0 (restripe s x1) := by
  unfold restripe
  repeat (first
    | with_reducible assumption | (with_reducible refine kept_modMem (msub hw) ?_)
    | (with_reducible refine kept_markDirty (msub hw) ?_) | (with_reducible refine kept_modTan (msub hw) ?_)
    | (with_reducible refine kept_mirrorBad (msub hw) ?_) | with_reducible apply kept_ite
    | with_reducible apply kept_ite_snd | with_reducible apply kept_foldl | (with_reducible intro _) | split
    | (dsimp only; split) | (with_reducible refine kept_mk hw ?_ rfl rfl rfl rfl rfl))

theorem kept_modShard {W s0} (hw : 268435456 &&& W = 268435456)  {s : State} {x1} {x2} (h : Kept W s0 s) : Kept W s0 (modShard s x1 x2) := by
  unfold modShard
  repeat (first
    | with_reducible assumption | (with_reducible refine kept_modSlot ?_ ?_) | (with_reducible exact sold_refl)
    | with_reducible apply sold_ite | (with_reducible intro _)
    | (with_reducible refine kept_mk hw ?_ rfl rfl rfl rfl rfl) | (with_reducible refine sold_mk hw ?_))

theorem kept_zeroGranule {W s0} (hw : 16384 &&& W = 16384)  {s : State} {x1} {x2} (h : Kept W s0 s) : Kept W s0 (zeroGranule s x1 x2) := by
  unfold zeroGranule
  repeat (first
    | with_reducible assumption | (with_reducible refine kept_frameWrite (msub hw) ?_) | with_reducible apply kept_foldl
    | (with_reducible intro _))

theorem kept_takeGranule {W s0} (hw : 2251817262400644 &&& W = 2251817262400644)  {s : State} {x1} {x2} (h : Kept W s0 s) : Kept W s0 (takeGranule s x1 x2) := by
  unfold takeGranule
  repeat (first
    | with_reducible assumption | (with_reducible refine kept_zeroGranule (msub hw) ?_)
    | (with_reducible refine kept_modShard (msub hw) ?_) | (with_reducible refine kept_mirrorBad (msub hw) ?_)
    | with_reducible apply kept_ite | with_reducible apply kept_ite_snd | (with_reducible intro _) | split
    | (dsimp only; split) | (with_reducible refine kept_mk hw ?_ rfl rfl rfl rfl rfl))

theorem kept_takeGranules {W s0} (hw : 2251817262400644 &&& W = 2251817262400644) {s : State} {x1} {x2} (h : Kept W s0 s) : Kept W s0 (takeGranules s x1 x2) := by
  induction x2 generalizing s x1 with
  | zero =>
    unfold takeGranules
    repeat (first
    | with_reducible assumption | (with_reducible refine kept_takeGranule (msub hw) ?_) | (with_reducible intro _)
    | split | (dsimp only; split) | (with_reducible refine kept_mk hw ?_ rfl rfl rfl rfl rfl))
  | succ n ih =>
    unfold takeGranules
    repeat (first
    | with_reducible assumption | with_reducible apply ih | (with_reducible refine kept_takeGranule (msub hw) ?_)
    | (with_reducible intro _) | split | (dsimp only; split) | (with_reducible refine kept_mk hw ?_ rfl rfl rfl rfl rfl))

theorem kept_moveGranule {W s0} (hw : 268451840 &&& W = 268451840) {s : State} {x1 x2 x3} (h : Kept W s0 s) : Kept W s0 (moveGranule s x1 x2 x3) := by
  have shard : ∀ (t : State) (f : Slot → Shard), Kept W s0 t → (f slotInit = slotInit.shard) →
      Kept W s0 { t with slots := tmap t.slots (fun _ sl => { sl with shard := f sl }) } := by
    intro t f ht hi
    refine ⟨ht.1, ht.2.1, ht.2.2.1, ht.2.2.2.1, fun p hp => ?_⟩
    have hs := ht.2.2.2.2 p hp
    have e : ∀ k, getSlot { t with slots := tmap t.slots (fun _ sl => { sl with shard := f sl }) } k
        = { getSlot t k with shard := f (getSlot t k) } := by
      intro k
      simp only [getSlot, tget, tmap]
      induction t.slots with
      | nil => simp [tget?, hi]
      | cons x l ih => simp only [List.map_cons, tget?]; split <;> simp_all
    cases p
    all_goals first
      | exact hs
      | (intro k; rw [e k]; exact hs k)
      | (have := bit_sub hw (k := 28) rfl; simp_all [pieceNum])
  unfold moveGranule
  dsimp only
  refine shard _ _ (kept_zeroGranule (msub hw) (kept_foldl h (fun _ _ h => kept_frameWrite (msub hw) h))) ?_
  rfl

theorem kept_shrinkTile {W s0} (hw : 2251817262400644 &&& W = 2251817262400644)  {s : State} {x1} {x2} (h : Kept W s0 s) : Kept W s0 (shrinkTile s x1 x2) := by
  unfold shrinkTile
  repeat (first
    | with_reducible assumption | (with_reducible refine kept_takeGranules (msub hw) ?_)
    | (with_reducible refine kept_moveGranule (msub hw) ?_) | with_reducible apply kept_foldl | (with_reducible intro _))

theorem kept_effChannelMapout {W s0} (hw : 110690306518603412 &&& W = 110690306518603412)  {s : State} {x0} {x1} (h : Kept W s0 s) : Kept W s0 (effChannelMapout x0 x1 s) := by
  unfold effChannelMapout
  repeat (first
    | with_reducible assumption | (with_reducible refine kept_becomeFatal (msub hw) ?_)
    | (with_reducible refine kept_withBenchClock (msub hw) ?_ ?_) | (with_reducible refine kept_modChan (msub hw) ?_)
    | (with_reducible refine kept_abortEveryStep (msub hw) ?_) | (with_reducible refine kept_restripe (msub hw) ?_)
    | (with_reducible refine kept_shrinkTile (msub hw) ?_) | with_reducible apply kept_ite
    | with_reducible apply kept_ite_snd | with_reducible apply kept_foldl | (with_reducible intro _) | split
    | (dsimp only; split) | (with_reducible refine kept_mk hw ?_ rfl rfl rfl rfl rfl))

theorem kept_effMemMapout {W s0} (hw : 17179886740 &&& W = 17179886740)  {s : State} {x0} (h : Kept W s0 s) : Kept W s0 (effMemMapout x0 s) := by
  unfold effMemMapout
  repeat (first
    | with_reducible assumption | (with_reducible refine kept_postEvent (msub hw) ?_)
    | (with_reducible refine kept_requestResync (msub hw) ?_) | (with_reducible refine kept_startRestore (msub hw) ?_)
    | with_reducible apply kept_ite | with_reducible apply kept_ite_snd | with_reducible apply kept_foldl
    | (with_reducible intro _) | split | (dsimp only; split) | (with_reducible refine kept_mk hw ?_ rfl rfl rfl rfl rfl))

end Sys2Proof.Laws
end

