-- ==== Sys2Proof/Laws/KeptPower.lean ====
section
/-! SUPPORT. What the definitions of Machine/Power.lean keep (Laws/KeptBase.lean). -/

namespace Sys2Proof.Laws

open Sys2Proof Sys2Proof.Machine

set_option linter.all false
set_option Elab.async false

theorem kept_modPwr {W s0} (hw : 32768 &&& W = 32768)  {s : State} {x1} (h : Kept W s0 s) : Kept W s0 (modPwr s x1) := by
  unfold modPwr
  repeat (first
    | with_reducible assumption | (with_reducible refine kept_mk hw ?_ rfl rfl rfl rfl rfl))

theorem kept_powerEvent {W s0} (hw : 132 &&& W = 132)  {s : State} {x1} {x2} {x3} (h : Kept W s0 s) : Kept W s0 (powerEvent s x1 x2 x3) := by
  unfold powerEvent
  repeat (first
    | with_reducible assumption | (with_reducible refine kept_postEvent (msub hw) ?_))

theorem kept_enterRide {W s0} (hw : 32768 &&& W = 32768)  {s : State}  (h : Kept W s0 s) : Kept W s0 (enterRide s) := by
  unfold enterRide
  repeat (first
    | with_reducible assumption | (with_reducible refine kept_modPwr (msub hw) ?_) | (with_reducible intro _)
    | (with_reducible refine kept_mk hw ?_ rfl rfl rfl rfl rfl))

theorem kept_effInputDropout {W s0} (hw : 32768 &&& W = 32768)  {s : State}  (h : Kept W s0 s) : Kept W s0 (effInputDropout s) := by
  unfold effInputDropout
  repeat (first
    | with_reducible assumption | (with_reducible refine kept_enterRide (msub hw) ?_) | with_reducible apply kept_ite
    | with_reducible apply kept_ite_snd | split | (dsimp only; split))

theorem kept_effInputRecover {W s0} (hw : 32900 &&& W = 32900)  {s : State}  (h : Kept W s0 s) : Kept W s0 (effInputRecover s) := by
  unfold effInputRecover
  repeat (first
    | with_reducible assumption | (with_reducible refine kept_modPwr (msub hw) ?_)
    | (with_reducible refine kept_powerEvent (msub hw) ?_) | with_reducible apply kept_ite
    | with_reducible apply kept_ite_snd | (with_reducible intro _) | split | (dsimp only; split)
    | (with_reducible refine kept_mk hw ?_ rfl rfl rfl rfl rfl))

theorem kept_effSurgeOpen {W s0} (hw : 32768 &&& W = 32768)  {s : State}  (h : Kept W s0 s) : Kept W s0 (effSurgeOpen s) := by
  unfold effSurgeOpen
  repeat (first
    | with_reducible assumption | (with_reducible refine kept_modPwr (msub hw) ?_)
    | (with_reducible refine kept_enterRide (msub hw) ?_) | with_reducible apply kept_ite
    | with_reducible apply kept_ite_snd | (with_reducible intro _) | split | (dsimp only; split)
    | (with_reducible refine kept_mk hw ?_ rfl rfl rfl rfl rfl))

theorem kept_effSurgeClose {W s0} (hw : 32900 &&& W = 32900)  {s : State}  (h : Kept W s0 s) : Kept W s0 (effSurgeClose s) := by
  unfold effSurgeClose
  repeat (first
    | with_reducible assumption | (with_reducible refine kept_modPwr (msub hw) ?_)
    | (with_reducible refine kept_powerEvent (msub hw) ?_) | with_reducible apply kept_ite
    | with_reducible apply kept_ite_snd | (with_reducible intro _) | split | (dsimp only; split)
    | (with_reducible refine kept_mk hw ?_ rfl rfl rfl rfl rfl))

theorem kept_abortLocal {W s0} (hw : 110690306250114692 &&& W = 110690306250114692)  {s : State} {x1} {x2} {x3} (h : Kept W s0 s) : Kept W s0 (abortLocal s x1 x2 x3) := by
  unfold abortLocal
  repeat (first
    | with_reducible assumption | (with_reducible refine kept_reportAll (msub hw) ?_)
    | (with_reducible refine kept_enterRollback (msub hw) ?_) | with_reducible apply kept_ite
    | with_reducible apply kept_ite_snd | split | (dsimp only; split))

theorem kept_effLastGasp {W s0} (hw : 110690306250151566 &&& W = 110690306250151566)  {s : State} {x0} (h : Kept W s0 s) : Kept W s0 (effLastGasp x0 s) := by
  unfold effLastGasp
  repeat (first
    | with_reducible assumption | (with_reducible refine kept_timeTo (msub hw) ?_)
    | (with_reducible refine kept_drawFree (msub hw) ?_)
    | (with_reducible refine kept_drawFree' (msub hw) (by assumption) ?_)
    | (with_reducible refine kept_modPwr (msub hw) ?_) | (with_reducible refine kept_sendLeave (msub hw) ?_)
    | (with_reducible refine kept_abortLocal (msub hw) ?_) | (with_reducible refine kept_powerEvent (msub hw) ?_)
    | with_reducible apply kept_ite | with_reducible apply kept_ite_snd | with_reducible apply kept_foldl
    | (with_reducible intro _) | split | (dsimp only; split) | (with_reducible refine kept_mk hw ?_ rfl rfl rfl rfl rfl))

theorem kept_resetDevice {W s0} (hw : 144115188075855858 &&& W = 144115188075855858) {s : State} {x0} (h : Kept W s0 s) : Kept W s0 (resetDevice x0 s) := by
  refine ⟨h.1, fun _ => wf_reset, h.2.2.1, h.2.2.2.1, fun q hq => ?_⟩
  have := h.2.2.2.2 q hq
  cases q
  all_goals first
    | exact this
    | exact absurd (bit_sub hw rfl) (by simpa only [pieceNum, Bool.not_eq_true] using hq)

theorem kept_softReset {W s0} (hw : 144115188075855862 &&& W = 144115188075855862)  {s : State}  (h : Kept W s0 s) : Kept W s0 (softReset s) := by
  unfold softReset
  repeat (first
    | with_reducible assumption | (with_reducible refine kept_resetDevice (msub hw) ?_)
    | (with_reducible refine kept_sendLeave (msub hw) ?_) | with_reducible apply kept_ite
    | with_reducible apply kept_ite_snd | split | (dsimp only; split))

theorem kept_effPinReset {W s0} (hw : 144115188075855862 &&& W = 144115188075855862)  {s : State}  (h : Kept W s0 s) : Kept W s0 (effPinReset s) := by
  unfold effPinReset
  repeat (first
    | with_reducible assumption | (with_reducible refine kept_softReset (msub hw) ?_) | with_reducible apply kept_ite
    | with_reducible apply kept_ite_snd | split | (dsimp only; split))

theorem kept_effLastGaspComplete {W s0} (hw : 144115188075855858 &&& W = 144115188075855858)  {s : State}  (h : Kept W s0 s) : Kept W s0 (effLastGaspComplete s) := by
  unfold effLastGaspComplete
  repeat (first
    | with_reducible assumption | (with_reducible refine kept_resetDevice (msub hw) ?_)
    | (with_reducible refine kept_modPwr (msub hw) ?_) | with_reducible apply kept_ite
    | with_reducible apply kept_ite_snd | (with_reducible intro _) | split | (dsimp only; split)
    | (with_reducible refine kept_mk hw ?_ rfl rfl rfl rfl rfl))

theorem kept_effPowerOn {W s0} (hw : 144115188075855858 &&& W = 144115188075855858)  {s : State}  (h : Kept W s0 s) : Kept W s0 (effPowerOn s) := by
  unfold effPowerOn
  repeat (first
    | with_reducible assumption | (with_reducible refine kept_resetDevice (msub hw) ?_) | with_reducible apply kept_ite
    | with_reducible apply kept_ite_snd | split | (dsimp only; split))

theorem kept_setDepths {W s0} (hw : 72057594037960836 &&& W = 72057594037960836)  {s : State} {x1} {x2} {x3} (h : Kept W s0 s) : Kept W s0 (setDepths s x1 x2 x3) := by
  unfold setDepths
  repeat (first
    | with_reducible assumption | (with_reducible refine kept_withBenchClock (msub hw) ?_ ?_)
    | (with_reducible refine kept_modPwr (msub hw) ?_) | (with_reducible refine kept_powerEvent (msub hw) ?_)
    | with_reducible apply kept_ite | with_reducible apply kept_ite_snd | (with_reducible intro _) | split
    | (dsimp only; split) | (with_reducible refine kept_mk hw ?_ rfl rfl rfl rfl rfl))

theorem kept_effGovernorInterval {W s0} (hw : 72057594037960838 &&& W = 72057594037960838)  {s : State} {x0} {x1} (h : Kept W s0 s) : Kept W s0 (effGovernorInterval x0 x1 s) := by
  unfold effGovernorInterval
  repeat (first
    | with_reducible assumption | (with_reducible refine kept_timeTo (msub hw) ?_)
    | (with_reducible refine kept_setDepths (msub hw) ?_) | (with_reducible refine kept_modPwr (msub hw) ?_)
    | (with_reducible refine kept_powerEvent (msub hw) ?_) | with_reducible apply kept_ite
    | with_reducible apply kept_ite_snd | (with_reducible intro _) | split | (dsimp only; split)
    | (with_reducible refine kept_mk hw ?_ rfl rfl rfl rfl rfl))

theorem kept_effLeverLift {W s0} (hw : 72057594037960838 &&& W = 72057594037960838)  {s : State}  (h : Kept W s0 s) : Kept W s0 (effLeverLift s) := by
  unfold effLeverLift
  repeat (first
    | with_reducible assumption | (with_reducible refine kept_timeTo (msub hw) ?_)
    | (with_reducible refine kept_modPwr (msub hw) ?_) | (with_reducible refine kept_setDepths (msub hw) ?_)
    | with_reducible apply kept_ite | with_reducible apply kept_ite_snd | (with_reducible intro _) | split
    | (dsimp only; split) | (with_reducible refine kept_mk hw ?_ rfl rfl rfl rfl rfl))

theorem kept_allPortsDown {W s0} (hw : 112379156110384772 &&& W = 112379156110384772)  {s : State}  (h : Kept W s0 s) : Kept W s0 (allPortsDown s) := by
  unfold allPortsDown
  repeat (first
    | with_reducible assumption | (with_reducible refine kept_lanePortDown (msub hw) ?_)
    | with_reducible apply kept_foldl | (with_reducible intro _))

theorem kept_thermalTrip {W s0} (hw : 112379156110417556 &&& W = 112379156110417556)  {s : State}  (h : Kept W s0 s) : Kept W s0 (thermalTrip s) := by
  unfold thermalTrip
  repeat (first
    | with_reducible assumption | (with_reducible refine kept_modPwr (msub hw) ?_)
    | (with_reducible refine kept_allPortsDown (msub hw) ?_) | (with_reducible refine kept_becomeFatal (msub hw) ?_)
    | (with_reducible intro _) | (with_reducible refine kept_mk hw ?_ rfl rfl rfl rfl rfl))

theorem kept_effThermalSample {W s0} (hw : 112379156110417558 &&& W = 112379156110417558)  {s : State} {x0} {x1} {x2} {x3} (h : Kept W s0 s) : Kept W s0 (effThermalSample x0 x1 x2 x3 s) := by
  unfold effThermalSample
  repeat (first
    | with_reducible assumption | (with_reducible refine kept_timeTo (msub hw) ?_)
    | (with_reducible refine kept_modPwr (msub hw) ?_) | (with_reducible refine kept_powerEvent (msub hw) ?_)
    | (with_reducible refine kept_setDepths (msub hw) ?_) | (with_reducible refine kept_thermalTrip (msub hw) ?_)
    | with_reducible apply kept_ite | with_reducible apply kept_ite_snd | (with_reducible intro _) | split
    | (dsimp only; split) | (with_reducible refine kept_mk hw ?_ rfl rfl rfl rfl rfl))

theorem kept_effDomainSleep {W s0} (hw : 32768 &&& W = 32768)  {s : State} {x0} (h : Kept W s0 s) : Kept W s0 (effDomainSleep x0 s) := by
  unfold effDomainSleep
  repeat (first
    | with_reducible assumption | (with_reducible refine kept_modPwr (msub hw) ?_) | with_reducible apply kept_ite
    | with_reducible apply kept_ite_snd | (with_reducible intro _) | split | (dsimp only; split)
    | (with_reducible refine kept_mk hw ?_ rfl rfl rfl rfl rfl))

theorem kept_effDomainWake {W s0} (hw : 32768 &&& W = 32768)  {s : State} {x0} (h : Kept W s0 s) : Kept W s0 (effDomainWake x0 s) := by
  unfold effDomainWake
  repeat (first
    | with_reducible assumption | (with_reducible refine kept_wakeDomain (msub hw) ?_) | with_reducible apply kept_ite
    | with_reducible apply kept_ite_snd | split | (dsimp only; split))

theorem kept_effDomainAwake {W s0} (hw : 32768 &&& W = 32768)  {s : State} {x0} (h : Kept W s0 s) : Kept W s0 (effDomainAwake x0 s) := by
  unfold effDomainAwake
  repeat (first
    | with_reducible assumption | (with_reducible refine kept_modDomain (msub hw) ?_)
    | (with_reducible refine kept_modPwr (msub hw) ?_) | with_reducible apply kept_ite
    | with_reducible apply kept_ite_snd | (with_reducible intro _) | split | (dsimp only; split)
    | (with_reducible refine kept_mk hw ?_ rfl rfl rfl rfl rfl))

theorem kept_effDomainFault {W s0} (hw : 2251799814115478 &&& W = 2251799814115478)  {s : State} {x0} (h : Kept W s0 s) : Kept W s0 (effDomainFault x0 s) := by
  unfold effDomainFault
  repeat (first
    | with_reducible assumption | (with_reducible refine kept_timeTo (msub hw) ?_)
    | (with_reducible refine kept_modDomain (msub hw) ?_) | (with_reducible refine kept_becomeFatal (msub hw) ?_)
    | (with_reducible refine kept_powerEvent (msub hw) ?_) | with_reducible apply kept_ite
    | with_reducible apply kept_ite_snd | (with_reducible intro _) | split | (dsimp only; split)
    | (with_reducible refine kept_mk hw ?_ rfl rfl rfl rfl rfl))

theorem kept_effDroopTrip {W s0} (hw : 72057594037960704 &&& W = 72057594037960704)  {s : State} {x0} (h : Kept W s0 s) : Kept W s0 (effDroopTrip x0 s) := by
  unfold effDroopTrip
  repeat (first
    | with_reducible assumption | (with_reducible refine kept_withBenchClock (msub hw) ?_ ?_)
    | (with_reducible refine kept_modDomain (msub hw) ?_) | with_reducible apply kept_ite
    | with_reducible apply kept_ite_snd | (with_reducible intro _) | split | (dsimp only; split)
    | (with_reducible refine kept_mk hw ?_ rfl rfl rfl rfl rfl))

theorem kept_effDroopRecover {W s0} (hw : 72057594037960704 &&& W = 72057594037960704)  {s : State} {x0} (h : Kept W s0 s) : Kept W s0 (effDroopRecover x0 s) := by
  unfold effDroopRecover
  repeat (first
    | with_reducible assumption | (with_reducible refine kept_withBenchClock (msub hw) ?_ ?_)
    | (with_reducible refine kept_modDomain (msub hw) ?_) | with_reducible apply kept_ite
    | with_reducible apply kept_ite_snd | (with_reducible intro _) | split | (dsimp only; split)
    | (with_reducible refine kept_mk hw ?_ rfl rfl rfl rfl rfl))

theorem kept_effVoltageStep {W s0} (hw : 32778 &&& W = 32778)  {s : State} {x0} (h : Kept W s0 s) : Kept W s0 (effVoltageStep x0 s) := by
  unfold effVoltageStep
  repeat (first
    | with_reducible assumption | (with_reducible refine kept_drawFree (msub hw) ?_)
    | (with_reducible refine kept_drawFree' (msub hw) (by assumption) ?_)
    | (with_reducible refine kept_timeTo (msub hw) ?_) | (with_reducible refine kept_modDomain (msub hw) ?_)
    | with_reducible apply kept_ite | with_reducible apply kept_ite_snd | (with_reducible intro _) | split
    | (dsimp only; split) | (with_reducible refine kept_mk hw ?_ rfl rfl rfl rfl rfl))

theorem kept_effRef25Loss {W s0} (hw : 2251799814115476 &&& W = 2251799814115476)  {s : State}  (h : Kept W s0 s) : Kept W s0 (effRef25Loss s) := by
  unfold effRef25Loss
  repeat (first
    | with_reducible assumption | (with_reducible refine kept_becomeFatal (msub hw) ?_)
    | (with_reducible refine kept_powerEvent (msub hw) ?_) | (with_reducible refine kept_modPwr (msub hw) ?_)
    | with_reducible apply kept_ite | with_reducible apply kept_ite_snd | (with_reducible intro _) | split
    | (dsimp only; split) | (with_reducible refine kept_mk hw ?_ rfl rfl rfl rfl rfl))

theorem kept_effRef156Loss {W s0} (hw : 112379156110417540 &&& W = 112379156110417540)  {s : State}  (h : Kept W s0 s) : Kept W s0 (effRef156Loss s) := by
  unfold effRef156Loss
  repeat (first
    | with_reducible assumption | (with_reducible refine kept_powerEvent (msub hw) ?_)
    | (with_reducible refine kept_allPortsDown (msub hw) ?_) | (with_reducible refine kept_modPwr (msub hw) ?_)
    | with_reducible apply kept_ite | with_reducible apply kept_ite_snd | (with_reducible intro _) | split
    | (dsimp only; split) | (with_reducible refine kept_mk hw ?_ rfl rfl rfl rfl rfl))

theorem kept_effRef156Return {W s0} (hw : 32768 &&& W = 32768)  {s : State}  (h : Kept W s0 s) : Kept W s0 (effRef156Return s) := by
  unfold effRef156Return
  repeat (first
    | with_reducible assumption | (with_reducible refine kept_modPwr (msub hw) ?_) | (with_reducible intro _)
    | (with_reducible refine kept_mk hw ?_ rfl rfl rfl rfl rfl))

theorem kept_effKeeperWatchdog {W s0} (hw : 110690306250151572 &&& W = 110690306250151572)  {s : State}  (h : Kept W s0 s) : Kept W s0 (effKeeperWatchdog s) := by
  unfold effKeeperWatchdog
  repeat (first
    | with_reducible assumption | (with_reducible refine kept_becomeFatal (msub hw) ?_)
    | (with_reducible refine kept_modHealth (msub hw) ?_) | (with_reducible refine kept_abortEveryStep (msub hw) ?_)
    | with_reducible apply kept_ite | with_reducible apply kept_ite_snd | with_reducible apply kept_foldl
    | (with_reducible intro _) | split | (dsimp only; split) | (with_reducible refine kept_mk hw ?_ rfl rfl rfl rfl rfl))

theorem kept_answerCommitted {W s0} (hw : 100 &&& W = 100)  {s : State} {x1} (h : Kept W s0 s) : Kept W s0 (answerCommitted s x1) := by
  unfold answerCommitted
  repeat (first
    | with_reducible assumption | (with_reducible refine kept_modMbx (msub hw) ?_)
    | (with_reducible refine kept_raiseIrq (msub hw) ?_) | with_reducible apply kept_ite
    | with_reducible apply kept_ite_snd | (with_reducible intro _) | split | (dsimp only; split)
    | (with_reducible refine kept_mk hw ?_ rfl rfl rfl rfl rfl))

theorem kept_effTakeover {W s0} (hw : 2251799814115572 &&& W = 2251799814115572)  {s : State}  (h : Kept W s0 s) : Kept W s0 (effTakeover s) := by
  unfold effTakeover
  repeat (first
    | with_reducible assumption | (with_reducible refine kept_becomeFatal (msub hw) ?_)
    | (with_reducible refine kept_postEvent (msub hw) ?_) | (with_reducible refine kept_answerCommitted (msub hw) ?_)
    | with_reducible apply kept_ite | with_reducible apply kept_ite_snd | with_reducible apply kept_foldl
    | (with_reducible intro _) | split | (dsimp only; split) | (with_reducible refine kept_mk hw ?_ rfl rfl rfl rfl rfl))

end Sys2Proof.Laws
end

