-- ==== Sys2Proof/Laws/KeptHostWin.lean ====
section
/-! SUPPORT. What the definitions of Machine/HostWin.lean keep (Laws/KeptBase.lean). -/

namespace Sys2Proof.Laws

open Sys2Proof Sys2Proof.Machine

set_option linter.all false
set_option Elab.async false

theorem kept_complete {W s0} (hw : 20 &&& W = 20)  {s : State} {x1} {x2} {x3} (h : Kept W s0 s) : Kept W s0 (complete s x1 x2 x3) := by
  unfold complete
  repeat (first
    | with_reducible assumption | (with_reducible refine kept_emit (msub hw) ?_) | with_reducible apply kept_ite
    | with_reducible apply kept_ite_snd | split | (dsimp only; split)
    | (with_reducible refine kept_mk hw ?_ rfl rfl rfl rfl rfl))

theorem kept_rcClear {W s0} (hw : 33200 &&& W = 33200)  {s : State} {x1} {x2} (h : Kept W s0 s) : Kept W s0 (rcClear s x1 x2) := by
  unfold rcClear
  repeat (first
    | with_reducible assumption | (with_reducible refine kept_modPwr (msub hw) ?_)
    | (with_reducible refine kept_modMbx (msub hw) ?_) | with_reducible apply kept_ite
    | with_reducible apply kept_ite_snd | (with_reducible intro _) | split | (dsimp only; split)
    | (with_reducible refine kept_mk hw ?_ rfl rfl rfl rfl rfl))

theorem kept_serveRead {W s0} (hw : 33204 &&& W = 33204)  {s : State} {x0} (h : Kept W s0 s) : Kept W s0 (serveRead x0 s) := by
  unfold serveRead
  repeat (first
    | with_reducible assumption | (with_reducible refine kept_complete (msub hw) ?_)
    | (with_reducible refine kept_rcClear (msub hw) ?_) | with_reducible apply kept_ite
    | with_reducible apply kept_ite_snd | split | (dsimp only; split)
    | (with_reducible refine kept_mk hw ?_ rfl rfl rfl rfl rfl))

theorem kept_effHostRead {W s0} (hw : 33204 &&& W = 33204)  {s : State} {x0} (h : Kept W s0 s) : Kept W s0 (effHostRead x0 s) := by
  unfold effHostRead
  repeat (first
    | with_reducible assumption | (with_reducible refine kept_serveRead (msub hw) ?_) | with_reducible apply kept_ite
    | with_reducible apply kept_ite_snd | split | (dsimp only; split))

theorem kept_readClearing {W s0} (hw : 33204 &&& W = 33204)  {s : State} {x0} {x1} (h : Kept W s0 s) : Kept W s0 (readClearing x0 x1 s) := by
  unfold readClearing
  repeat (first
    | with_reducible assumption | (with_reducible refine kept_serveRead (msub hw) ?_) | with_reducible apply kept_ite
    | with_reducible apply kept_ite_snd | split | (dsimp only; split))

theorem kept_effHtlErrRead {W s0} (hw : 33204 &&& W = 33204)  {s : State} {x0} (h : Kept W s0 s) : Kept W s0 (effHtlErrRead x0 s) := by
  unfold effHtlErrRead
  repeat (first
    | with_reducible assumption | (with_reducible refine kept_readClearing (msub hw) ?_))

theorem kept_effInputPeakRead {W s0} (hw : 33204 &&& W = 33204)  {s : State} {x0} (h : Kept W s0 s) : Kept W s0 (effInputPeakRead x0 s) := by
  unfold effInputPeakRead
  repeat (first
    | with_reducible assumption | (with_reducible refine kept_readClearing (msub hw) ?_))

theorem kept_effMbxDiscardedRead {W s0} (hw : 33204 &&& W = 33204)  {s : State} {x0} (h : Kept W s0 s) : Kept W s0 (effMbxDiscardedRead x0 s) := by
  unfold effMbxDiscardedRead
  repeat (first
    | with_reducible assumption | (with_reducible refine kept_readClearing (msub hw) ?_))

theorem kept_effEventLostRead {W s0} (hw : 33204 &&& W = 33204)  {s : State} {x0} (h : Kept W s0 s) : Kept W s0 (effEventLostRead x0 s) := by
  unfold effEventLostRead
  repeat (first
    | with_reducible assumption | (with_reducible refine kept_readClearing (msub hw) ?_))

theorem kept_effTraceLostRead {W s0} (hw : 33204 &&& W = 33204)  {s : State} {x0} (h : Kept W s0 s) : Kept W s0 (effTraceLostRead x0 s) := by
  unfold effTraceLostRead
  repeat (first
    | with_reducible assumption | (with_reducible refine kept_readClearing (msub hw) ?_))

theorem kept_effTraceWindowRead {W s0} (hw : 20 &&& W = 20)  {s : State} {x0} (h : Kept W s0 s) : Kept W s0 (effTraceWindowRead x0 s) := by
  unfold effTraceWindowRead
  repeat (first
    | with_reducible assumption | (with_reducible refine kept_complete (msub hw) ?_) | with_reducible apply kept_ite
    | with_reducible apply kept_ite_snd | split | (dsimp only; split))

theorem kept_writeBootLen {W s0} (hw : 16 &&& W = 16)  {s : State} {x1} (h : Kept W s0 s) : Kept W s0 (writeBootLen s x1) := by
  unfold writeBootLen
  repeat (first
    | with_reducible assumption | (with_reducible refine kept_mk hw ?_ rfl rfl rfl rfl rfl))

theorem kept_writeReg {W s0} (hw : 272 &&& W = 272)  {s : State} {x1} {x2} (h : Kept W s0 s) : Kept W s0 (writeReg s x1 x2) := by
  unfold writeReg
  repeat (first
    | with_reducible assumption | (with_reducible refine kept_writeBootLen (msub hw) ?_) | with_reducible apply kept_ite
    | with_reducible apply kept_ite_snd | split | (dsimp only; split)
    | (with_reducible refine kept_mk hw ?_ rfl rfl rfl rfl rfl))

theorem kept_writeMbxCtl {W s0} (hw : 96 &&& W = 96)  {s : State} {x1} {x2} (h : Kept W s0 s) : Kept W s0 (writeMbxCtl s x1 x2) := by
  unfold writeMbxCtl
  repeat (first
    | with_reducible assumption | (with_reducible refine kept_modMbx (msub hw) ?_) | with_reducible apply kept_ite
    | with_reducible apply kept_ite_snd | (with_reducible intro _) | split | (dsimp only; split)
    | (with_reducible refine kept_mk hw ?_ rfl rfl rfl rfl rfl))

theorem kept_writeMbx {W s0} (hw : 224 &&& W = 224) {s s' : State} {x1} {x2} {x3} {x4} (e : writeMbx s x1 x2 x3 x4 = some s') (h : Kept W s0 s) : Kept W s0 s' := by
  unfold writeMbx at e
  try dsimp only at e
  repeat' (split at e)
  all_goals first
    | (cases e; done)
    | (simp only [Option.map_eq_some_iff] at e; obtain ⟨_, _, rfl⟩ := e; repeat (first
    | with_reducible assumption | (with_reducible refine kept_modMbx (msub hw) ?_)
    | (with_reducible refine kept_writeMbxCtl (msub hw) ?_) | with_reducible apply kept_ite
    | with_reducible apply kept_ite_snd | (with_reducible intro _) | split | (dsimp only; split)
    | (with_reducible refine kept_mk hw ?_ rfl rfl rfl rfl rfl)))
    | (cases e; repeat (first
    | with_reducible assumption | (with_reducible refine kept_modMbx (msub hw) ?_)
    | (with_reducible refine kept_writeMbxCtl (msub hw) ?_) | with_reducible apply kept_ite
    | with_reducible apply kept_ite_snd | (with_reducible intro _) | split | (dsimp only; split)
    | (with_reducible refine kept_mk hw ?_ rfl rfl rfl rfl rfl)))

theorem kept_serveWrite {W s0} (hw : 500 &&& W = 500)  {s : State} {x0} (h : Kept W s0 s) : Kept W s0 (serveWrite x0 s) := by
  unfold serveWrite
  repeat (first
    | with_reducible assumption | (with_reducible refine kept_complete (msub hw) ?_)
    | (with_reducible refine kept_writeMbx (msub hw) (by assumption) ?_)
    | (with_reducible refine kept_writeReg (msub hw) ?_) | with_reducible apply kept_ite
    | with_reducible apply kept_ite_snd | split | (dsimp only; split)
    | (with_reducible refine kept_mk hw ?_ rfl rfl rfl rfl rfl))

theorem kept_effRegisterWrite {W s0} (hw : 500 &&& W = 500)  {s : State} {x0} (h : Kept W s0 s) : Kept W s0 (effRegisterWrite x0 s) := by
  unfold effRegisterWrite
  repeat (first
    | with_reducible assumption | (with_reducible refine kept_serveWrite (msub hw) ?_) | with_reducible apply kept_ite
    | with_reducible apply kept_ite_snd | split | (dsimp only; split))

theorem kept_effDeviceReset {W s0} (hw : 144115188075855862 &&& W = 144115188075855862)  {s : State} {x0} (h : Kept W s0 s) : Kept W s0 (effDeviceReset x0 s) := by
  unfold effDeviceReset
  repeat (first
    | with_reducible assumption | (with_reducible refine kept_complete (msub hw) ?_)
    | (with_reducible refine kept_softReset (msub hw) ?_) | with_reducible apply kept_ite
    | with_reducible apply kept_ite_snd | split | (dsimp only; split))

theorem kept_bootRead {W s0} (hw : 20 &&& W = 20)  {s : State}  (h : Kept W s0 s) : Kept W s0 (bootRead s) := by
  unfold bootRead
  repeat (first
    | with_reducible assumption | (with_reducible refine kept_emit (msub hw) ?_) | with_reducible apply kept_ite
    | with_reducible apply kept_ite_snd | split | (dsimp only; split)
    | (with_reducible refine kept_mk hw ?_ rfl rfl rfl rfl rfl))

theorem kept_effBootGo {W s0} (hw : 20 &&& W = 20)  {s : State} {x0} (h : Kept W s0 s) : Kept W s0 (effBootGo x0 s) := by
  unfold effBootGo
  repeat (first
    | with_reducible assumption | (with_reducible refine kept_bootRead (msub hw) ?_)
    | (with_reducible refine kept_complete (msub hw) ?_) | (with_reducible refine kept_writeBootLen (msub hw) ?_)
    | with_reducible apply kept_ite | with_reducible apply kept_ite_snd | split | (dsimp only; split))

theorem kept_effEventRingEnable {W s0} (hw : 148 &&& W = 148)  {s : State} {x0} (h : Kept W s0 s) : Kept W s0 (effEventRingEnable x0 s) := by
  unfold effEventRingEnable
  repeat (first
    | with_reducible assumption | (with_reducible refine kept_complete (msub hw) ?_) | with_reducible apply kept_ite
    | with_reducible apply kept_ite_snd | split | (dsimp only; split)
    | (with_reducible refine kept_mk hw ?_ rfl rfl rfl rfl rfl))

theorem kept_effEventRingTailWrite {W s0} (hw : 148 &&& W = 148)  {s : State} {x0} (h : Kept W s0 s) : Kept W s0 (effEventRingTailWrite x0 s) := by
  unfold effEventRingTailWrite
  repeat (first
    | with_reducible assumption | (with_reducible refine kept_evtOverflow (msub hw) ?_)
    | (with_reducible refine kept_complete (msub hw) ?_) | with_reducible apply kept_ite
    | with_reducible apply kept_ite_snd | split | (dsimp only; split)
    | (with_reducible refine kept_mk hw ?_ rfl rfl rfl rfl rfl))

theorem kept_effLgaspClear {W s0} (hw : 276 &&& W = 276)  {s : State} {x0} (h : Kept W s0 s) : Kept W s0 (effLgaspClear x0 s) := by
  unfold effLgaspClear
  repeat (first
    | with_reducible assumption | (with_reducible refine kept_complete (msub hw) ?_) | with_reducible apply kept_ite
    | with_reducible apply kept_ite_snd | split | (dsimp only; split)
    | (with_reducible refine kept_mk hw ?_ rfl rfl rfl rfl rfl))

theorem kept_tagWaiting {W s0} (hw : 132 &&& W = 132) {s : State} {x1} (h : Kept W s0 s) : Kept W s0 (tagWaiting s x1) := by
  induction x1 generalizing s with
  | zero =>
    unfold tagWaiting
    repeat (first
    | with_reducible assumption | (with_reducible refine kept_emit (msub hw) ?_) | (with_reducible intro _) | split
    | (dsimp only; split) | (with_reducible refine kept_mk hw ?_ rfl rfl rfl rfl rfl))
  | succ n ih =>
    unfold tagWaiting
    repeat (first
    | with_reducible assumption | with_reducible apply ih | (with_reducible refine kept_emit (msub hw) ?_)
    | (with_reducible intro _) | split | (dsimp only; split) | (with_reducible refine kept_mk hw ?_ rfl rfl rfl rfl rfl))

theorem kept_headInterrupt {W s0} (hw : 132 &&& W = 132)  {s : State}  (h : Kept W s0 s) : Kept W s0 (headInterrupt s) := by
  unfold headInterrupt
  repeat (first
    | with_reducible assumption | (with_reducible refine kept_raiseIrq (msub hw) ?_) | with_reducible apply kept_ite
    | with_reducible apply kept_ite_snd | split | (dsimp only; split)
    | (with_reducible refine kept_mk hw ?_ rfl rfl rfl rfl rfl))

theorem kept_effHtlCompletion {W s0} (hw : 132 &&& W = 132)  {s : State} {x0} (h : Kept W s0 s) : Kept W s0 (effHtlCompletion x0 s) := by
  unfold effHtlCompletion
  repeat (first
    | with_reducible assumption | (with_reducible refine kept_tagWaiting (msub hw) ?_)
    | (with_reducible refine kept_headInterrupt (msub hw) ?_) | with_reducible apply kept_ite
    | with_reducible apply kept_ite_snd | (with_reducible intro _) | split | (dsimp only; split)
    | (with_reducible refine kept_mk hw ?_ rfl rfl rfl rfl rfl))

theorem kept_effEventHoldoffExpiry {W s0} (hw : 134 &&& W = 134)  {s : State}  (h : Kept W s0 s) : Kept W s0 (effEventHoldoffExpiry s) := by
  unfold effEventHoldoffExpiry
  repeat (first
    | with_reducible assumption | (with_reducible refine kept_timeTo (msub hw) ?_)
    | (with_reducible refine kept_raiseIrq (msub hw) ?_) | with_reducible apply kept_ite
    | with_reducible apply kept_ite_snd | split | (dsimp only; split)
    | (with_reducible refine kept_mk hw ?_ rfl rfl rfl rfl rfl))

theorem kept_reissue {W s0} (hw : 132 &&& W = 132)  {s : State}  (h : Kept W s0 s) : Kept W s0 (reissue s) := by
  unfold reissue
  repeat (first
    | with_reducible assumption | (with_reducible refine kept_emit (msub hw) ?_) | with_reducible apply kept_ite
    | with_reducible apply kept_ite_snd | with_reducible apply kept_foldl | (with_reducible intro _) | split
    | (dsimp only; split) | (with_reducible refine kept_mk hw ?_ rfl rfl rfl rfl rfl))

theorem kept_effUcieModuleDown {W s0} (hw : 148 &&& W = 148)  {s : State} {x0} (h : Kept W s0 s) : Kept W s0 (effUcieModuleDown x0 s) := by
  unfold effUcieModuleDown
  repeat (first
    | with_reducible assumption | (with_reducible refine kept_reissue (msub hw) ?_) | with_reducible apply kept_ite
    | with_reducible apply kept_ite_snd | (with_reducible intro _) | split | (dsimp only; split)
    | (with_reducible refine kept_mk hw ?_ rfl rfl rfl rfl rfl))

theorem kept_effUcieModuleUp {W s0} (hw : 148 &&& W = 148)  {s : State} {x0} (h : Kept W s0 s) : Kept W s0 (effUcieModuleUp x0 s) := by
  unfold effUcieModuleUp
  repeat (first
    | with_reducible assumption | (with_reducible refine kept_reissue (msub hw) ?_) | with_reducible apply kept_ite
    | with_reducible apply kept_ite_snd | (with_reducible intro _) | split | (dsimp only; split)
    | (with_reducible refine kept_mk hw ?_ rfl rfl rfl rfl rfl))

theorem kept_answerSide {W s0} (hw : 20 &&& W = 20)  {s : State} {x1} {x2} {x3} (h : Kept W s0 s) : Kept W s0 (answerSide s x1 x2 x3) := by
  unfold answerSide
  repeat (first
    | with_reducible assumption | (with_reducible refine kept_emit (msub hw) ?_) | with_reducible apply kept_ite
    | with_reducible apply kept_ite_snd | split | (dsimp only; split)
    | (with_reducible refine kept_mk hw ?_ rfl rfl rfl rfl rfl))

theorem kept_sideWrite {W s0} (hw : 144115188075855862 &&& W = 144115188075855862)  {s : State} {x1} {x2} {x3} {x4} (h : Kept W s0 s) : Kept W s0 (sideWrite s x1 x2 x3 x4) := by
  unfold sideWrite
  repeat (first
    | with_reducible assumption | (with_reducible refine kept_answerSide (msub hw) ?_)
    | (with_reducible refine kept_softReset (msub hw) ?_) | (with_reducible refine kept_bootRead (msub hw) ?_)
    | (with_reducible refine kept_writeBootLen (msub hw) ?_) | (with_reducible refine kept_writeReg (msub hw) ?_)
    | with_reducible apply kept_ite | with_reducible apply kept_ite_snd | split | (dsimp only; split)
    | (with_reducible refine kept_mk hw ?_ rfl rfl rfl rfl rfl))

theorem kept_effSidebandAccess {W s0} (hw : 144115188075855862 &&& W = 144115188075855862)  {s : State} {x0} (h : Kept W s0 s) : Kept W s0 (effSidebandAccess x0 s) := by
  unfold effSidebandAccess
  repeat (first
    | with_reducible assumption | (with_reducible refine kept_answerSide (msub hw) ?_)
    | (with_reducible refine kept_rcClear (msub hw) ?_) | (with_reducible refine kept_sideWrite (msub hw) ?_)
    | with_reducible apply kept_ite | with_reducible apply kept_ite_snd | split | (dsimp only; split)
    | (with_reducible refine kept_mk hw ?_ rfl rfl rfl rfl rfl))

end Sys2Proof.Laws
end

