-- ==== Sys2Proof/Laws/KeptAperture.lean ====
section
/-! SUPPORT. What the definitions of Machine/Aperture.lean keep (Laws/KeptBase.lean). -/

namespace Sys2Proof.Laws

open Sys2Proof Sys2Proof.Machine

set_option linter.all false
set_option Elab.async false

theorem kept_hostWritten {W s0} (hw : 17179869184 &&& W = 17179869184)  {s : State} {x1} (h : Kept W s0 s) : Kept W s0 (hostWritten s x1) := by
  unfold hostWritten
  repeat (first
    | with_reducible assumption | (with_reducible refine kept_modTan (msub hw) ?_) | (with_reducible intro _)
    | (with_reducible refine kept_mk hw ?_ rfl rfl rfl rfl rfl))

theorem kept_rawRead {W s0} (hw : 8 &&& W = 8)  {s : State} {x1} {x2} {x3} (h : Kept W s0 s) : Kept W s0 (rawRead s x1 x2 x3).2 := by
  unfold rawRead
  repeat (first
    | with_reducible assumption | (with_reducible refine kept_drawFree (msub hw) ?_)
    | (with_reducible refine kept_drawFree' (msub hw) (by assumption) ?_) | with_reducible apply kept_ite
    | with_reducible apply kept_ite_snd | (with_reducible intro _) | split | (dsimp only; split))

theorem kept_rawRead' {W s0} (hw : 8 &&& W = 8)  {s s' : State} {y} {x1} {x2} {x3} (e : rawRead s x1 x2 x3 = (y, s')) (h : Kept W s0 s) : Kept W s0 s' := by
  have k : Kept W s0 (rawRead s x1 x2 x3).2 := kept_rawRead hw h
  rw [e] at k
  exact k

/-- An answer of the aperture whose state, if it has one, is kept. -/
def KeptAp (W : Nat) (s0 : State) (x : ApRes) : Prop := ∀ t, x = .done t → Kept W s0 t

theorem kept_apRead {W s0} (hw : 8 &&& W = 8) {s : State} {x1 x2} (h : Kept W s0 s) : Kept W s0 (apRead s x1 x2).2 := by
  unfold apRead
  repeat (first | with_reducible assumption | with_reducible apply kept_rawRead (msub hw) | with_reducible apply kept_ite_snd | split | (dsimp only; split))

theorem keptAp_apRead {W s0} (hw : 8 &&& W = 8) {s : State} {x1 x2} : KeptAp W s0 (apRead s x1 x2).1 := by
  intro t e
  unfold apRead rawRead recordRead objectRead at e
  dsimp only at e
  repeat' (split at e)
  all_goals (first | (exact ApRes.noConfusion e) | (dsimp only at e; repeat' (split at e)))
  all_goals (exact ApRes.noConfusion e)

theorem kept_apComplete {W s0} (hw : 20 &&& W = 20) {s : State} {x0 x1} (h : Kept W s0 s) (hx : KeptAp W s0 x1) : Kept W s0 (apComplete x0 x1 s) := by
  unfold apComplete
  split
  · exact kept_complete (msub hw) h
  · exact kept_complete (msub hw) h
  · exact kept_complete (msub hw) h
  · exact kept_complete (msub hw) (hx _ rfl)

theorem keptAp_refused {W s0} : KeptAp W s0 .refused := fun _ e => ApRes.noConfusion e

theorem keptAp_done {W s0} {s : State} (h : Kept W s0 s) : KeptAp W s0 (.done s) := fun _ e => by cases e; exact h

theorem keptAp_recordWrite {W s0} (hw : 17179885568 &&& W = 17179885568) {s : State} {x1 x2 x3 x4} (h : Kept W s0 s) : KeptAp W s0 (recordWrite s x1 x2 x3 x4) := by
  unfold recordWrite
  dsimp only
  split
  · exact keptAp_refused
  · split
    · exact keptAp_done h
    · split
      · exact keptAp_done h
      · exact keptAp_done (kept_hostWritten (msub hw) (kept_frameWrite (msub hw) h))

theorem keptAp_ememWrite {W s0} (hw : 17448304640 &&& W = 17448304640) {s : State} {x1 x2 x3 x4} (h : Kept W s0 s) : KeptAp W s0 (ememWrite s x1 x2 x3 x4) := by
  unfold ememWrite
  split
  · exact keptAp_refused
  · dsimp only
    exact keptAp_done (kept_ite (kept_hostWritten (msub hw) (kept_modShard (msub hw) h)) (kept_modShard (msub hw) h))

theorem keptAp_objectWrite {W s0} (hw : 268435456 &&& W = 268435456) {s : State} {x1 x2 x3 x4} (h : Kept W s0 s) : KeptAp W s0 (objectWrite s x1 x2 x3 x4) := by
  unfold objectWrite
  split
  · exact keptAp_refused
  · split
    · exact keptAp_refused
    · exact keptAp_done (kept_modShard (msub hw) h)

theorem keptAp_apWrite {W s0} (hw : 17448321024 &&& W = 17448321024) {s : State} {x1 x2} (h : Kept W s0 s) : KeptAp W s0 (apWrite s x1 x2) := by
  unfold apWrite
  dsimp only
  split
  · split
    · exact keptAp_done (kept_pieceWrite (msub hw) h)
    · exact keptAp_refused
  · split
    · exact keptAp_refused
    · split
      · exact keptAp_recordWrite (msub hw) h
      · exact keptAp_ememWrite (msub hw) h
      · exact keptAp_objectWrite (msub hw) h
      · exact keptAp_refused

theorem keptAp_apAdd {W s0} (hw : 268435456 &&& W = 268435456) {s : State} {x1 x2 x3} (h : Kept W s0 s) : KeptAp W s0 (apAdd s x1 x2 x3) := by
  intro t e
  unfold apAdd at e
  dsimp only at e
  repeat' (split at e)
  all_goals first
    | exact ApRes.noConfusion e
    | (cases e; exact kept_modShard (msub hw) h)

theorem kept_effApertureRead {W s0} (hw : 28 &&& W = 28) {s : State} {x0} (h : Kept W s0 s) : Kept W s0 (effApertureRead x0 s) := by
  unfold effApertureRead
  repeat (first | with_reducible assumption | with_reducible apply kept_complete (msub hw) | split)
  exact kept_apComplete (msub hw) (kept_apRead (msub hw) h) (keptAp_apRead (msub hw))

theorem kept_effApertureWrite {W s0} (hw : 17448321044 &&& W = 17448321044) {s : State} {x0} (h : Kept W s0 s) : Kept W s0 (effApertureWrite x0 s) := by
  unfold effApertureWrite
  repeat (first | with_reducible assumption | with_reducible apply kept_complete (msub hw) | split)
  exact kept_apComplete (msub hw) h (keptAp_apWrite (msub hw) h)

theorem kept_effApertureAdd {W s0} (hw : 268435476 &&& W = 268435476) {s : State} {x0} (h : Kept W s0 s) : Kept W s0 (effApertureAdd x0 s) := by
  unfold effApertureAdd
  repeat (first | with_reducible assumption | with_reducible apply kept_complete (msub hw) | split)
  exact kept_apComplete (msub hw) h (keptAp_apAdd (msub hw) h)

end Sys2Proof.Laws
end

