-- ==== Sys2Proof/Laws/KeptMailbox.lean ====
section
/-! SUPPORT. What the definitions of Machine/Mailbox.lean keep (Laws/KeptBase.lean). -/

namespace Sys2Proof.Laws

open Sys2Proof Sys2Proof.Machine

set_option linter.all false
set_option Elab.async false

theorem kept_refuseMbx {W s0} (hw : 100 &&& W = 100)  {s : State} {x1} {x2} (h : Kept W s0 s) : Kept W s0 (refuseMbx s x1 x2) := by
  unfold refuseMbx
  repeat (first
    | with_reducible assumption | (with_reducible refine kept_answerMbx (msub hw) ?_))

theorem kept_holdMbx {W s0} (hw : 32 &&& W = 32)  {s : State} {x1} (h : Kept W s0 s) : Kept W s0 (holdMbx s x1) := by
  unfold holdMbx
  repeat (first
    | with_reducible assumption | (with_reducible refine kept_modMbx (msub hw) ?_) | (with_reducible intro _)
    | (with_reducible refine kept_mk hw ?_ rfl rfl rfl rfl rfl))

theorem kept_runCommand {W s0} (hw : 100 &&& W = 100) {x2} (hf2 : ∀ y0 y1 s, Kept W s0 s → Kept W s0 (x2 y0 y1 s)) {s : State} {x0} {x1} (h : Kept W s0 s) : Kept W s0 (runCommand x0 x1 x2 s) := by
  unfold runCommand
  repeat (first
    | with_reducible assumption | with_reducible apply hf2 | (with_reducible refine kept_refuseMbx (msub hw) ?_)
    | with_reducible apply kept_ite | with_reducible apply kept_ite_snd | split | (dsimp only; split)
    | (with_reducible refine kept_mk hw ?_ rfl rfl rfl rfl rfl))

theorem kept_bufFetch {W s0} (hw : 4 &&& W = 4)  {s : State} {x1} {x2} {x3} (h : Kept W s0 s) : Kept W s0 (bufFetch s x1 x2 x3) := by
  unfold bufFetch
  repeat (first
    | with_reducible assumption | (with_reducible refine kept_emit (msub hw) ?_) | with_reducible apply kept_ite
    | with_reducible apply kept_ite_snd | split | (dsimp only; split))

theorem kept_bufStore {W s0} (hw : 4 &&& W = 4)  {s : State} {x1} {x2} {x3} (h : Kept W s0 s) : Kept W s0 (bufStore s x1 x2 x3) := by
  unfold bufStore
  repeat (first
    | with_reducible assumption | (with_reducible refine kept_emit (msub hw) ?_) | with_reducible apply kept_ite
    | with_reducible apply kept_ite_snd | split | (dsimp only; split))

theorem kept_withRead {W s0} (hw : 100 &&& W = 100) {x5} (hf5 : ∀ y0 s, Kept W s0 s → Kept W s0 (x5 y0 s)) {s : State} {x0} {x1} {x2} {x3} {x4} (h : Kept W s0 s) : Kept W s0 (withRead x0 x1 x2 x3 x4 x5 s) := by
  unfold withRead
  repeat (first
    | with_reducible assumption | with_reducible apply hf5 | (with_reducible refine kept_bufFetch (msub hw) ?_)
    | (with_reducible refine kept_refuseMbx (msub hw) ?_) | with_reducible apply kept_ite
    | with_reducible apply kept_ite_snd | split | (dsimp only; split)
    | (with_reducible refine kept_mk hw ?_ rfl rfl rfl rfl rfl))

theorem kept_answerWith {W s0} (hw : 100 &&& W = 100)  {s : State} {x0} {x1} {x2} {x3} {x4} {x5} (h : Kept W s0 s) : Kept W s0 (answerWith x0 x1 x2 x3 x4 x5 s) := by
  unfold answerWith
  repeat (first
    | with_reducible assumption | (with_reducible refine kept_answerMbx (msub hw) ?_)
    | (with_reducible refine kept_bufStore (msub hw) ?_) | (with_reducible refine kept_refuseMbx (msub hw) ?_)
    | with_reducible apply kept_ite | with_reducible apply kept_ite_snd | split | (dsimp only; split))

theorem kept_effBadCommand {W s0} (hw : 100 &&& W = 100)  {s : State}  (h : Kept W s0 s) : Kept W s0 (effBadCommand s) := by
  unfold effBadCommand
  repeat (first
    | with_reducible assumption | (with_reducible refine kept_runCommand (msub hw) ?_ ?_)
    | (with_reducible refine kept_refuseMbx (msub hw) ?_) | (with_reducible intro _))

theorem kept_effDeviceInfoIdentity {W s0} (hw : 100 &&& W = 100)  {s : State}  (h : Kept W s0 s) : Kept W s0 (effDeviceInfoIdentity s) := by
  unfold effDeviceInfoIdentity
  repeat (first
    | with_reducible assumption | (with_reducible refine kept_runCommand (msub hw) ?_ ?_)
    | (with_reducible refine kept_answerMbx (msub hw) ?_) | (with_reducible refine kept_refuseMbx (msub hw) ?_)
    | with_reducible apply kept_ite | with_reducible apply kept_ite_snd | (with_reducible intro _) | split
    | (dsimp only; split))

theorem kept_countLine {W s0} (hw : 8 &&& W = 8)  {s : State} {x0} (h : Kept W s0 s) : Kept W s0 (countLine x0 s).2 := by
  unfold countLine
  repeat (first
    | with_reducible assumption | (with_reducible refine kept_drawFree (msub hw) ?_)
    | (with_reducible refine kept_drawFree' (msub hw) (by assumption) ?_))

theorem kept_countLine' {W s0} (hw : 8 &&& W = 8)  {s s' : State} {y} {x0} (e : countLine x0 s = (y, s')) (h : Kept W s0 s) : Kept W s0 s' := by
  have k : Kept W s0 (countLine x0 s).2 := kept_countLine hw h
  rw [e] at k
  exact k

theorem kept_readChan {W s0} (hw : 16392 &&& W = 16392)  {s : State} {x1} (h : Kept W s0 s) : Kept W s0 (readChan s x1) := by
  unfold readChan
  repeat (first
    | with_reducible assumption | (with_reducible refine kept_countLine (msub hw) ?_)
    | (with_reducible refine kept_countLine' (msub hw) (by assumption) ?_)
    | (with_reducible refine kept_modChan (msub hw) ?_) | with_reducible apply kept_ite
    | with_reducible apply kept_ite_snd | (with_reducible intro _) | split | (dsimp only; split)
    | (with_reducible refine kept_mk hw ?_ rfl rfl rfl rfl rfl))

theorem kept_effDeviceInfoChannels {W s0} (hw : 16492 &&& W = 16492)  {s : State} {x0} (h : Kept W s0 s) : Kept W s0 (effDeviceInfoChannels x0 s) := by
  unfold effDeviceInfoChannels
  repeat (first
    | with_reducible assumption | (with_reducible refine kept_runCommand (msub hw) ?_ ?_)
    | (with_reducible refine kept_readChan (msub hw) ?_) | (with_reducible refine kept_answerMbx (msub hw) ?_)
    | (with_reducible refine kept_bufStore (msub hw) ?_) | (with_reducible refine kept_refuseMbx (msub hw) ?_)
    | with_reducible apply kept_ite | with_reducible apply kept_ite_snd | with_reducible apply kept_foldl
    | (with_reducible intro _) | split | (dsimp only; split))

theorem kept_runTraceSet {W s0} (hw : 356 &&& W = 356)  {s : State} {x0} {x1} {x2} (h : Kept W s0 s) : Kept W s0 (runTraceSet x0 x1 x2 s) := by
  unfold runTraceSet
  repeat (first
    | with_reducible assumption | (with_reducible refine kept_refuseMbx (msub hw) ?_)
    | (with_reducible refine kept_answerMbx (msub hw) ?_) | with_reducible apply kept_ite
    | with_reducible apply kept_ite_snd | (with_reducible intro _) | split | (dsimp only; split)
    | (with_reducible refine kept_mk hw ?_ rfl rfl rfl rfl rfl))

theorem kept_effTraceSet {W s0} (hw : 356 &&& W = 356)  {s : State} {x0} (h : Kept W s0 s) : Kept W s0 (effTraceSet x0 s) := by
  unfold effTraceSet
  repeat (first
    | with_reducible assumption | (with_reducible refine kept_runCommand (msub hw) ?_ ?_)
    | (with_reducible refine kept_refuseMbx (msub hw) ?_) | (with_reducible refine kept_runTraceSet (msub hw) ?_)
    | (with_reducible refine kept_withRead (msub hw) ?_ ?_) | with_reducible apply kept_ite
    | with_reducible apply kept_ite_snd | (with_reducible intro _) | split | (dsimp only; split)
    | (with_reducible refine kept_mk hw ?_ rfl rfl rfl rfl rfl))

theorem kept_effPowerPolicyRead {W s0} (hw : 100 &&& W = 100)  {s : State}  (h : Kept W s0 s) : Kept W s0 (effPowerPolicyRead s) := by
  unfold effPowerPolicyRead
  repeat (first
    | with_reducible assumption | (with_reducible refine kept_runCommand (msub hw) ?_ ?_)
    | (with_reducible refine kept_answerMbx (msub hw) ?_) | (with_reducible intro _))

theorem kept_effPowerPolicySet {W s0} (hw : 32868 &&& W = 32868)  {s : State}  (h : Kept W s0 s) : Kept W s0 (effPowerPolicySet s) := by
  unfold effPowerPolicySet
  repeat (first
    | with_reducible assumption | (with_reducible refine kept_runCommand (msub hw) ?_ ?_)
    | (with_reducible refine kept_refuseMbx (msub hw) ?_) | (with_reducible refine kept_modPwr (msub hw) ?_)
    | (with_reducible refine kept_answerMbx (msub hw) ?_) | with_reducible apply kept_ite
    | with_reducible apply kept_ite_snd | (with_reducible intro _) | split | (dsimp only; split)
    | (with_reducible refine kept_mk hw ?_ rfl rfl rfl rfl rfl))

end Sys2Proof.Laws
end

