-- ==== Sys2Proof/Laws/KeptPlacement.lean ====
section
/-! SUPPORT. What the definitions of Machine/Placement.lean keep (Laws/KeptBase.lean). -/

namespace Sys2Proof.Laws

open Sys2Proof Sys2Proof.Machine

set_option linter.all false
set_option Elab.async false

theorem sold_placedSlot {W} (hw : 17448304640 &&& W = 17448304640) {a sl : Slot} {s x y} (h : SOld W a sl) : SOld W a (placedSlot s sl x y) := by
  unfold placedSlot
  repeat (first
    | (with_reducible assumption) | (with_reducible exact sold_refl)
    | with_reducible apply sold_ite | split | (dsimp only; split) | (with_reducible refine sold_mk hw ?_))

theorem sold_boundSlot {W} (hw : 17179869184 &&& W = 17179869184) {a sl : Slot} {x y z} (h : SOld W a sl) : SOld W a (boundSlot sl x y z) := by
  unfold boundSlot
  repeat (first
    | (with_reducible assumption) | (with_reducible exact sold_refl)
    | with_reducible apply sold_ite | split | (dsimp only; split) | (with_reducible refine sold_mk hw ?_))

theorem kept_grantTile {W s0} (hw : 268451840 &&& W = 268451840)  {s : State} {x1} {x2} (h : Kept W s0 s) : Kept W s0 (grantTile s x1 x2) := by
  unfold grantTile
  repeat (first
    | with_reducible assumption | (with_reducible refine kept_zeroGranule (msub hw) ?_)
    | (with_reducible refine kept_modShard (msub hw) ?_) | with_reducible apply kept_foldl | (with_reducible intro _)
    | (with_reducible refine kept_mk hw ?_ rfl rfl rfl rfl rfl))

/-- A slot compared with one in a state that has the same slots. -/
theorem sold_of_same {W : Nat} {s t : State} {i : Nat} {v : Slot} (k : Kept 16384 s t) (hv : SOld W (getSlot s i) v) :
    SOld W (getSlot t i) v := by
  intro p hp
  have g := k.2.2.2.2 p
  have hv := hv p hp
  cases p
  all_goals first
    | trivial
    | exact Eq.trans hv ((g rfl) i).symm

theorem kept_placeSlot {W s0} (hw : 268451840 &&& W = 268451840) {s : State} {x1 x2} (h : Kept W s0 s)
    (hn : SOld W (getSlot s x1) x2) : Kept W s0 (placeSlot s x1 x2) := by
  have z : ∀ {W s0} (hw : 16384 &&& W = 16384) {s : State} (_ : Kept W s0 s) (old : Slot), Kept W s0 ((List.range 128).foldl (fun s t =>
      (tget [] old.shard.grPrimary t ++ tget [] old.shard.grMirror t).foldl (fun s g => zeroGranule s t g) s) s) :=
    fun hw _ h old => kept_foldl h (fun _ _ h => kept_foldl h (fun _ _ h => kept_zeroGranule (msub hw) h))
  unfold placeSlot
  dsimp only
  refine kept_modShard (msub hw) (kept_foldl (kept_foldl (kept_setSlot (z (msub hw) h _) ?_) ?_) ?_)
  · exact sold_of_same (z rfl (kept_refl _ s) _) hn
  · intro _ _ h; exact kept_grantTile (msub hw) h
  · intro _ _ h; exact kept_chunkWrite (msub hw) h

theorem kept_runShardPlace {W s0} (hw : 17448321124 &&& W = 17448321124) {s : State} {x0 x1 x2} (h : Kept W s0 s) :
    Kept W s0 (runShardPlace x0 x1 x2 s) := by
  unfold runShardPlace
  dsimp only
  repeat (first | with_reducible exact kept_refuseMbx (msub hw) h | split)
  exact kept_answerMbx (msub hw) (kept_placeSlot (msub hw) h (sold_placedSlot (msub hw) sold_refl))

theorem kept_effShardPlace {W s0} (hw : 17448321124 &&& W = 17448321124)  {s : State} {x0} (h : Kept W s0 s) : Kept W s0 (effShardPlace x0 s) := by
  unfold effShardPlace
  repeat (first
    | with_reducible assumption | (with_reducible refine kept_runCommand (msub hw) ?_ ?_)
    | (with_reducible refine kept_refuseMbx (msub hw) ?_) | (with_reducible refine kept_withRead (msub hw) ?_ ?_)
    | (with_reducible refine kept_runShardPlace (msub hw) ?_) | with_reducible apply kept_ite
    | with_reducible apply kept_ite_snd | (with_reducible intro _) | split | (dsimp only; split)
    | (with_reducible refine kept_mk hw ?_ rfl rfl rfl rfl rfl))

theorem kept_dropPass {W s0} (hw : 72339086196081664 &&& W = 72339086196081664)  {s : State} {x1} (h : Kept W s0 s) : Kept W s0 (dropPass s x1) := by
  unfold dropPass
  repeat (first
    | with_reducible assumption | (with_reducible refine kept_releaseHeld (msub hw) ?_)
    | (with_reducible refine kept_modSlot ?_ ?_) | (with_reducible exact sold_refl) | with_reducible apply sold_ite
    | (with_reducible intro _) | with_reducible apply kept_ite | with_reducible apply kept_ite_snd | split
    | (dsimp only; split) | (with_reducible refine kept_mk hw ?_ rfl rfl rfl rfl rfl)
    | (with_reducible refine sold_mk hw ?_))

theorem kept_bindPartner {W s0} (hw : 17179869184 &&& W = 17179869184)  {s : State} {x1} {x2} {x3} (h : Kept W s0 s) : Kept W s0 (bindPartner s x1 x2 x3) := by
  unfold bindPartner
  repeat (first
    | with_reducible assumption | (with_reducible refine kept_startResync (msub hw) ?_) | with_reducible apply kept_ite
    | with_reducible apply kept_ite_snd | split | (dsimp only; split)
    | (with_reducible refine kept_mk hw ?_ rfl rfl rfl rfl rfl))

theorem kept_bindMirror {W s0} (hw : 17179870340 &&& W = 17179870340)  {s : State} {x1} {x2} {x3} (h : Kept W s0 s) : Kept W s0 (bindMirror s x1 x2 x3) := by
  unfold bindMirror
  repeat (first
    | with_reducible assumption | (with_reducible refine kept_mirrorSynced (msub hw) ?_)
    | (with_reducible refine kept_requestResync (msub hw) ?_) | with_reducible apply kept_ite
    | with_reducible apply kept_ite_snd | split | (dsimp only; split)
    | (with_reducible refine kept_mk hw ?_ rfl rfl rfl rfl rfl))

theorem kept_runBind {W s0} (hw : 72339086464533732 &&& W = 72339086464533732) {s : State} {x0 x1 x2 x3} (h : Kept W s0 s) :
    Kept W s0 (runBind x0 x1 x2 x3 s) := by
  have p : ∀ {t}, Kept W s0 t → Kept W s0 (placeSlot t (slotOfMbx x0) (boundSlot (getSlot t (slotOfMbx x0)) x1 x2 x3)) :=
    fun ht => kept_placeSlot (msub hw) ht (sold_boundSlot (msub hw) sold_refl)
  unfold runBind
  dsimp only
  split
  · exact kept_refuseMbx (msub hw) h
  split
  · exact kept_refuseMbx (msub hw) h
  exact kept_answerMbx (msub hw) (kept_bindMirror (msub hw) (kept_bindPartner (msub hw)
    (p (kept_ite h (kept_dropPass (msub hw) h)))))

theorem kept_effTandemBind {W s0} (hw : 72339086464533732 &&& W = 72339086464533732)  {s : State}  (h : Kept W s0 s) : Kept W s0 (effTandemBind s) := by
  unfold effTandemBind
  repeat (first
    | with_reducible assumption | (with_reducible refine kept_runCommand (msub hw) ?_ ?_)
    | (with_reducible refine kept_refuseMbx (msub hw) ?_) | (with_reducible refine kept_runBind (msub hw) ?_)
    | with_reducible apply kept_ite | with_reducible apply kept_ite_snd | (with_reducible intro _) | split
    | (dsimp only; split))

theorem kept_effTandemUnbind {W s0} (hw : 72339086464533732 &&& W = 72339086464533732)  {s : State}  (h : Kept W s0 s) : Kept W s0 (effTandemUnbind s) := by
  unfold effTandemUnbind
  repeat (first
    | with_reducible assumption | (with_reducible refine kept_runCommand (msub hw) ?_ ?_)
    | (with_reducible refine kept_refuseMbx (msub hw) ?_) | (with_reducible refine kept_runBind (msub hw) ?_)
    | with_reducible apply kept_ite | with_reducible apply kept_ite_snd | (with_reducible intro _) | split
    | (dsimp only; split))

theorem kept_requestSpare {W s0} (hw : 1024 &&& W = 1024)  {s : State} {x1} {x2} (h : Kept W s0 s) : Kept W s0 (requestSpare s x1 x2) := by
  unfold requestSpare
  repeat (first
    | with_reducible assumption | (with_reducible refine kept_slotLinkCtrl (msub hw) ?_) | split | (dsimp only; split)
    | (with_reducible refine kept_mk hw ?_ rfl rfl rfl rfl rfl))

theorem kept_admitSpare {W s0} (hw : 17179870340 &&& W = 17179870340)  {s : State} {x1} {x2} {x3} (h : Kept W s0 s) : Kept W s0 (admitSpare s x1 x2 x3) := by
  unfold admitSpare
  repeat (first
    | with_reducible assumption | (with_reducible refine kept_postEvent (msub hw) ?_)
    | (with_reducible refine kept_requestSpare (msub hw) ?_) | (with_reducible refine kept_modTan (msub hw) ?_)
    | with_reducible apply kept_ite | with_reducible apply kept_ite_snd | (with_reducible intro _) | split
    | (dsimp only; split) | (with_reducible refine kept_mk hw ?_ rfl rfl rfl rfl rfl))

theorem kept_effSpareAdmit {W s0} (hw : 17179870436 &&& W = 17179870436)  {s : State}  (h : Kept W s0 s) : Kept W s0 (effSpareAdmit s) := by
  unfold effSpareAdmit
  repeat (first
    | with_reducible assumption | (with_reducible refine kept_runCommand (msub hw) ?_ ?_)
    | (with_reducible refine kept_refuseMbx (msub hw) ?_) | (with_reducible refine kept_answerMbx (msub hw) ?_)
    | (with_reducible refine kept_admitSpare (msub hw) ?_) | with_reducible apply kept_ite
    | with_reducible apply kept_ite_snd | (with_reducible intro _) | split | (dsimp only; split))

end Sys2Proof.Laws
end

