-- ==== Sys2Proof/Laws/KeptJobCmds.lean ====
section
/-! SUPPORT. What the definitions of Machine/JobCmds.lean keep (Laws/KeptBase.lean). -/

namespace Sys2Proof.Laws

open Sys2Proof Sys2Proof.Machine

set_option linter.all false
set_option Elab.async false

theorem sold_loadVersion {W} (hw : 22517998170406912 &&& W = 22517998170406912) {a sl : Slot} {x y z} (h : SOld W a sl) : SOld W a (loadVersion sl x y z) := by
  unfold loadVersion
  repeat (first
    | (with_reducible assumption) | (with_reducible exact sold_refl)
    | with_reducible apply sold_ite | split | (dsimp only; split) | (with_reducible refine sold_mk hw ?_))

theorem kept_runJobOpen {W s0} (hw : 143833713097049188 &&& W = 143833713097049188) {s : State} {x0 x1 x2} (h : Kept W s0 s) :
    Kept W s0 (runJobOpen x0 x1 x2 s) := by
  have o : ∀ sl : Slot, SOld W sl (openedSlot sl x2) := by
    intro sl p hp
    cases p
    all_goals first
      | trivial
      | exact absurd (bit_sub hw rfl) (by simpa only [pieceNum, Bool.not_eq_true] using hp)
  unfold runJobOpen
  dsimp only
  repeat (first | with_reducible exact kept_refuseMbx (msub hw) h | with_reducible exact kept_holdMbx (msub hw) h | split)
  exact kept_answerMbx (msub hw) (kept_announceAll (msub hw) (kept_setSlot h (o _)))

theorem kept_startJobOpen {W s0} (hw : 143833713097049188 &&& W = 143833713097049188)  {s : State} {x0} {x1} {x2} (h : Kept W s0 s) : Kept W s0 (startJobOpen x0 x1 x2 s) := by
  unfold startJobOpen
  repeat (first
    | with_reducible assumption | (with_reducible refine kept_refuseMbx (msub hw) ?_)
    | (with_reducible refine kept_withRead (msub hw) ?_ ?_) | (with_reducible refine kept_runJobOpen (msub hw) ?_)
    | with_reducible apply kept_ite | with_reducible apply kept_ite_snd | (with_reducible intro _) | split
    | (dsimp only; split) | (with_reducible refine kept_mk hw ?_ rfl rfl rfl rfl rfl))

theorem kept_effJobOpen {W s0} (hw : 143833713097049188 &&& W = 143833713097049188)  {s : State} {x0} (h : Kept W s0 s) : Kept W s0 (effJobOpen x0 s) := by
  unfold effJobOpen
  repeat (first
    | with_reducible assumption | (with_reducible refine kept_runCommand (msub hw) ?_ ?_)
    | (with_reducible refine kept_startJobOpen (msub hw) ?_) | (with_reducible intro _))

theorem kept_runJobClose {W s0} (hw : 110690308601026276 &&& W = 110690308601026276)  {s : State} {x0} (h : Kept W s0 s) : Kept W s0 (runJobClose x0 s) := by
  unfold runJobClose
  repeat (first
    | with_reducible assumption | (with_reducible refine kept_holdMbx (msub hw) ?_)
    | (with_reducible refine kept_answerMbx (msub hw) ?_) | (with_reducible refine kept_announceAll (msub hw) ?_)
    | (with_reducible refine kept_drainSlot (msub hw) ?_) | with_reducible apply kept_ite
    | with_reducible apply kept_ite_snd | split | (dsimp only; split))

theorem kept_effJobClose {W s0} (hw : 110690308601026276 &&& W = 110690308601026276)  {s : State}  (h : Kept W s0 s) : Kept W s0 (effJobClose s) := by
  unfold effJobClose
  repeat (first
    | with_reducible assumption | (with_reducible refine kept_runCommand (msub hw) ?_ ?_)
    | (with_reducible refine kept_runJobClose (msub hw) ?_) | (with_reducible intro _))

theorem kept_runProgramLoad {W s0} (hw : 22517998170407012 &&& W = 22517998170407012)  {s : State} {x0} {x1} {x2} (h : Kept W s0 s) : Kept W s0 (runProgramLoad x0 x1 x2 s) := by
  unfold runProgramLoad
  repeat (first
    | with_reducible assumption | (with_reducible refine kept_refuseMbx (msub hw) ?_)
    | (with_reducible refine kept_answerMbx (msub hw) ?_) | (with_reducible refine kept_modSlot ?_ ?_)
    | (with_reducible exact sold_refl) | (with_reducible refine sold_loadVersion (msub hw) ?_)
    | with_reducible apply sold_ite | (with_reducible intro _) | with_reducible apply kept_ite
    | with_reducible apply kept_ite_snd | split | (dsimp only; split)
    | (with_reducible refine kept_mk hw ?_ rfl rfl rfl rfl rfl) | (with_reducible refine sold_mk hw ?_))

theorem kept_effProgramLoad {W s0} (hw : 22517998170407012 &&& W = 22517998170407012)  {s : State} {x0} (h : Kept W s0 s) : Kept W s0 (effProgramLoad x0 s) := by
  unfold effProgramLoad
  repeat (first
    | with_reducible assumption | (with_reducible refine kept_runCommand (msub hw) ?_ ?_)
    | (with_reducible refine kept_refuseMbx (msub hw) ?_) | (with_reducible refine kept_withRead (msub hw) ?_ ?_)
    | (with_reducible refine kept_runProgramLoad (msub hw) ?_) | with_reducible apply kept_ite
    | with_reducible apply kept_ite_snd | (with_reducible intro _) | split | (dsimp only; split)
    | (with_reducible refine kept_mk hw ?_ rfl rfl rfl rfl rfl))

theorem kept_effProgramSelect {W s0} (hw : 4503599627370596 &&& W = 4503599627370596)  {s : State}  (h : Kept W s0 s) : Kept W s0 (effProgramSelect s) := by
  unfold effProgramSelect
  repeat (first
    | with_reducible assumption | (with_reducible refine kept_runCommand (msub hw) ?_ ?_)
    | (with_reducible refine kept_refuseMbx (msub hw) ?_) | (with_reducible refine kept_answerMbx (msub hw) ?_)
    | (with_reducible refine kept_modSlot ?_ ?_) | (with_reducible exact sold_refl) | with_reducible apply sold_ite
    | (with_reducible intro _) | with_reducible apply kept_ite | with_reducible apply kept_ite_snd | split
    | (dsimp only; split) | (with_reducible refine kept_mk hw ?_ rfl rfl rfl rfl rfl)
    | (with_reducible refine sold_mk hw ?_))

end Sys2Proof.Laws
end

