-- ==== Sys2Proof/Laws/KeptGroupCmds.lean ====
section
/-! SUPPORT. What the definitions of Machine/GroupCmds.lean keep (Laws/KeptBase.lean). -/

namespace Sys2Proof.Laws

open Sys2Proof Sys2Proof.Machine

set_option linter.all false
set_option Elab.async false

theorem kept_answerGroup {W s0} (hw : 100 &&& W = 100)  {s : State} {x1} {x2} {x3} (h : Kept W s0 s) : Kept W s0 (answerGroup s x1 x2 x3) := by
  unfold answerGroup
  repeat (first
    | with_reducible assumption | (with_reducible refine kept_answerMbx (msub hw) ?_))

theorem kept_runGroupDefine {W s0} (hw : 536871012 &&& W = 536871012)  {s : State} {x0} {x1} {x2} (h : Kept W s0 s) : Kept W s0 (runGroupDefine x0 x1 x2 s) := by
  unfold runGroupDefine
  repeat (first
    | with_reducible assumption | (with_reducible refine kept_refuseMbx (msub hw) ?_)
    | (with_reducible refine kept_answerGroup (msub hw) ?_) | (with_reducible refine kept_modSlot ?_ ?_)
    | (with_reducible exact sold_refl) | with_reducible apply sold_ite | (with_reducible intro _)
    | with_reducible apply kept_ite | with_reducible apply kept_ite_snd | split | (dsimp only; split)
    | (with_reducible refine kept_mk hw ?_ rfl rfl rfl rfl rfl) | (with_reducible refine sold_mk hw ?_))

theorem kept_startGroup {W s0} (hw : 100 &&& W = 100) {x0} (hf0 : ∀ y0 y1 y2 s, Kept W s0 s → Kept W s0 (x0 y0 y1 y2 s)) {s : State} {x1} {x2} {x3} (h : Kept W s0 s) : Kept W s0 (startGroup x0 x1 x2 x3 s) := by
  unfold startGroup
  repeat (first
    | with_reducible assumption | with_reducible apply hf0 | (with_reducible refine kept_refuseMbx (msub hw) ?_)
    | (with_reducible refine kept_withRead (msub hw) ?_ ?_) | with_reducible apply kept_ite
    | with_reducible apply kept_ite_snd | (with_reducible intro _) | split | (dsimp only; split)
    | (with_reducible refine kept_mk hw ?_ rfl rfl rfl rfl rfl))

theorem kept_effGroupDefine {W s0} (hw : 536871012 &&& W = 536871012)  {s : State} {x0} (h : Kept W s0 s) : Kept W s0 (effGroupDefine x0 s) := by
  unfold effGroupDefine
  repeat (first
    | with_reducible assumption | (with_reducible refine kept_runCommand (msub hw) ?_ ?_)
    | (with_reducible refine kept_startGroup (msub hw) ?_ ?_) | (with_reducible refine kept_runGroupDefine (msub hw) ?_)
    | (with_reducible intro _))

theorem kept_runGroupRegen {W s0} (hw : 536871012 &&& W = 536871012)  {s : State} {x0} {x1} {x2} (h : Kept W s0 s) : Kept W s0 (runGroupRegen x0 x1 x2 s) := by
  unfold runGroupRegen
  repeat (first
    | with_reducible assumption | (with_reducible refine kept_modSlot ?_ ?_)
    | (with_reducible refine kept_refuseMbx (msub hw) ?_) | (with_reducible refine kept_answerGroup (msub hw) ?_)
    | (with_reducible exact sold_refl) | with_reducible apply sold_ite | (with_reducible intro _)
    | with_reducible apply kept_ite | with_reducible apply kept_ite_snd | split | (dsimp only; split)
    | (with_reducible refine kept_mk hw ?_ rfl rfl rfl rfl rfl) | (with_reducible refine sold_mk hw ?_))

theorem kept_effGroupRegen {W s0} (hw : 536871012 &&& W = 536871012)  {s : State} {x0} (h : Kept W s0 s) : Kept W s0 (effGroupRegen x0 s) := by
  unfold effGroupRegen
  repeat (first
    | with_reducible assumption | (with_reducible refine kept_runCommand (msub hw) ?_ ?_)
    | (with_reducible refine kept_startGroup (msub hw) ?_ ?_) | (with_reducible refine kept_runGroupRegen (msub hw) ?_)
    | (with_reducible intro _))

end Sys2Proof.Laws
end

