-- ==== Sys2Proof/Laws/KeptStepCmds.lean ====
section
/-! SUPPORT. What the definitions of Machine/StepCmds.lean keep (Laws/KeptBase.lean). -/

namespace Sys2Proof.Laws

open Sys2Proof Sys2Proof.Machine

set_option linter.all false
set_option Elab.async false

theorem sold_currentSlot {W} (hw : 52178833708679168 &&& W = 52178833708679168) {a sl : Slot} {x y z u} (h : SOld W a sl) : SOld W a (currentSlot sl x y z u) := by
  unfold currentSlot
  repeat (first
    | (with_reducible assumption) | (with_reducible exact sold_refl)
    | with_reducible apply sold_ite | split | (dsimp only; split) | (with_reducible refine sold_mk hw ?_))

theorem kept_resyncHostWrites {W s0} (hw : 17179869184 &&& W = 17179869184)  {s : State} {x1} (h : Kept W s0 s) : Kept W s0 (resyncHostWrites s x1) := by
  unfold resyncHostWrites
  repeat (first
    | with_reducible assumption | (with_reducible refine kept_modTan (msub hw) ?_)
    | (with_reducible refine kept_startResync (msub hw) ?_) | with_reducible apply kept_ite
    | with_reducible apply kept_ite_snd | (with_reducible intro _) | split | (dsimp only; split)
    | (with_reducible refine kept_mk hw ?_ rfl rfl rfl rfl rfl))

theorem kept_makeCurrent {W s0} (hw : 124237117099267972 &&& W = 124237117099267972)  {s : State} {x1} {x2} {x3} {x4} (h : Kept W s0 s) : Kept W s0 (makeCurrent s x1 x2 x3 x4) := by
  unfold makeCurrent
  repeat (first
    | with_reducible assumption | (with_reducible refine kept_modSlot ?_ ?_)
    | (with_reducible refine kept_abandonFetch (msub hw) ?_) | (with_reducible refine kept_staleRequests (msub hw) ?_)
    | (with_reducible refine kept_wakeBench (msub hw) ?_) | (with_reducible refine kept_armHeld (msub hw) ?_)
    | (with_reducible refine kept_releaseCadHeld (msub hw) ?_)
    | (with_reducible refine kept_resyncHostWrites (msub hw) ?_) | (with_reducible exact sold_refl)
    | (with_reducible refine sold_currentSlot (msub hw) ?_) | with_reducible apply sold_ite | (with_reducible intro _)
    | with_reducible apply kept_ite | with_reducible apply kept_ite_snd | split | (dsimp only; split)
    | (with_reducible refine sold_mk hw ?_))


theorem kept_armNext {W s0} (hw : 110726040378021508 &&& W = 110726040378021508) {i d} {x : Nat × Option Nat × State} (h : Kept W s0 x.2.2) : Kept W s0 (armNext i x d).2.2 := by
  unfold armNext
  split
  · exact h
  · split
    · exact h
    · exact kept_postToken (msub hw) (kept_armBucket (msub hw) h)

theorem kept_armEach {W s0} (hw : 110726040378021508 &&& W = 110726040378021508) {s : State} {x0 x1 x2} (h : Kept W s0 s) : Kept W s0 (armEach x0 x1 x2 s).2.2 := by
  unfold armEach
  have : ∀ (l : List (BitVec 256)) (x : Nat × Option Nat × State), Kept W s0 x.2.2 → Kept W s0 (l.foldl (armNext x0) x).2.2 := by
    intro l
    induction l with
    | nil => intro x h; exact h
    | cons a l ih => intro x h; exact ih _ (kept_armNext (msub hw) h)
  exact this x2 _ h

theorem kept_armEach' {W s0} (hw : 110726040378021508 &&& W = 110726040378021508) {s s' : State} {y y'} {x0 x1 x2} (e : armEach x0 x1 x2 s = (y, y', s')) (h : Kept W s0 s) :
    Kept W s0 s' := by
  have k : Kept W s0 (armEach x0 x1 x2 s).2.2 := kept_armEach (msub hw) h
  rw [e] at k
  exact k

theorem kept_refuseArm {W s0} (hw : 100 &&& W = 100)  {s : State} {x1} {x2} (h : Kept W s0 s) : Kept W s0 (refuseArm s x1 x2) := by
  unfold refuseArm
  repeat (first
    | with_reducible assumption | (with_reducible refine kept_answerMbx (msub hw) ?_))

theorem kept_finishArm {W s0} (hw : 110726040378021604 &&& W = 110726040378021604)  {s : State} {x0} {x1} {x2} (h : Kept W s0 s) : Kept W s0 (finishArm x0 x1 x2 s) := by
  unfold finishArm
  repeat (first
    | with_reducible assumption | (with_reducible refine kept_armEach (msub hw) ?_)
    | (with_reducible refine kept_armEach' (msub hw) (by assumption) ?_)
    | (with_reducible refine kept_answerMbx (msub hw) ?_) | (with_reducible refine kept_modStep (msub hw) ?_)
    | with_reducible apply kept_ite | with_reducible apply kept_ite_snd | (with_reducible intro _) | split
    | (dsimp only; split) | (with_reducible refine kept_mk hw ?_ rfl rfl rfl rfl rfl))

theorem kept_runStepArm {W s0} (hw : 124237117099268068 &&& W = 124237117099268068)  {s : State} {x0} {x1} {x2} (h : Kept W s0 s) : Kept W s0 (runStepArm x0 x1 x2 s) := by
  unfold runStepArm
  repeat (first
    | with_reducible assumption | (with_reducible refine kept_refuseArm (msub hw) ?_)
    | (with_reducible refine kept_finishArm (msub hw) ?_) | (with_reducible refine kept_makeCurrent (msub hw) ?_)
    | with_reducible apply kept_ite | with_reducible apply kept_ite_snd | split | (dsimp only; split)
    | (with_reducible refine kept_mk hw ?_ rfl rfl rfl rfl rfl))

theorem kept_startStepArm {W s0} (hw : 124237117099268068 &&& W = 124237117099268068)  {s : State} {x0} {x1} {x2} (h : Kept W s0 s) : Kept W s0 (startStepArm x0 x1 x2 s) := by
  unfold startStepArm
  repeat (first
    | with_reducible assumption | (with_reducible refine kept_refuseArm (msub hw) ?_)
    | (with_reducible refine kept_runStepArm (msub hw) ?_) | (with_reducible refine kept_bufFetch (msub hw) ?_)
    | with_reducible apply kept_ite | with_reducible apply kept_ite_snd | split | (dsimp only; split))

theorem kept_effStepArm {W s0} (hw : 124237117099268068 &&& W = 124237117099268068)  {s : State} {x0} (h : Kept W s0 s) : Kept W s0 (effStepArm x0 s) := by
  unfold effStepArm
  repeat (first
    | with_reducible assumption | (with_reducible refine kept_runCommand (msub hw) ?_ ?_)
    | (with_reducible refine kept_startStepArm (msub hw) ?_) | (with_reducible intro _))

theorem kept_runStepStatus {W s0} (hw : 1649267441764 &&& W = 1649267441764)  {s : State} {x0} {x1} {x2} {x3} (h : Kept W s0 s) : Kept W s0 (runStepStatus x0 x1 x2 x3 s) := by
  unfold runStepStatus
  repeat (first
    | with_reducible assumption | (with_reducible refine kept_refuseMbx (msub hw) ?_)
    | (with_reducible refine kept_modSlot ?_ ?_) | (with_reducible refine kept_answerMbx (msub hw) ?_)
    | (with_reducible refine kept_bufStore (msub hw) ?_) | (with_reducible exact sold_refl)
    | with_reducible apply sold_ite | (with_reducible intro _) | with_reducible apply kept_ite
    | with_reducible apply kept_ite_snd | split | (dsimp only; split)
    | (with_reducible refine kept_mk hw ?_ rfl rfl rfl rfl rfl) | (with_reducible refine sold_mk hw ?_))

theorem kept_effStepStatus {W s0} (hw : 1649267441764 &&& W = 1649267441764)  {s : State} {x0} (h : Kept W s0 s) : Kept W s0 (effStepStatus x0 s) := by
  unfold effStepStatus
  repeat (first
    | with_reducible assumption | (with_reducible refine kept_runCommand (msub hw) ?_ ?_)
    | (with_reducible refine kept_refuseMbx (msub hw) ?_) | (with_reducible refine kept_runStepStatus (msub hw) ?_)
    | with_reducible apply kept_ite | with_reducible apply kept_ite_snd | (with_reducible intro _) | split
    | (dsimp only; split))

theorem kept_effStepStatusClearFlags {W s0} (hw : 1649267441764 &&& W = 1649267441764)  {s : State} {x0} (h : Kept W s0 s) : Kept W s0 (effStepStatusClearFlags x0 s) := by
  unfold effStepStatusClearFlags
  repeat (first
    | with_reducible assumption | (with_reducible refine kept_runCommand (msub hw) ?_ ?_)
    | (with_reducible refine kept_refuseMbx (msub hw) ?_) | (with_reducible refine kept_runStepStatus (msub hw) ?_)
    | with_reducible apply kept_ite | with_reducible apply kept_ite_snd | (with_reducible intro _) | split
    | (dsimp only; split))

theorem kept_effRollback {W s0} (hw : 110690306250118884 &&& W = 110690306250118884)  {s : State}  (h : Kept W s0 s) : Kept W s0 (effRollback s) := by
  unfold effRollback
  repeat (first
    | with_reducible assumption | (with_reducible refine kept_runCommand (msub hw) ?_ ?_)
    | (with_reducible refine kept_refuseMbx (msub hw) ?_) | (with_reducible refine kept_answerMbx (msub hw) ?_)
    | (with_reducible refine kept_raiseAbort (msub hw) ?_) | with_reducible apply kept_ite
    | with_reducible apply kept_ite_snd | (with_reducible intro _) | split | (dsimp only; split)
    | (with_reducible refine kept_mk hw ?_ rfl rfl rfl rfl rfl))

theorem kept_runResolve {W s0} (hw : 100 &&& W = 100) {x0} (hf0 : ∀ s y1, Kept W s0 s → Kept W s0 (x0 s y1)) {s : State} {x1} {x2} (h : Kept W s0 s) : Kept W s0 (runResolve x0 x1 x2 s) := by
  unfold runResolve
  repeat (first
    | with_reducible assumption | with_reducible apply hf0 | (with_reducible refine kept_refuseMbx (msub hw) ?_)
    | (with_reducible refine kept_answerMbx (msub hw) ?_) | with_reducible apply kept_ite
    | with_reducible apply kept_ite_snd | split | (dsimp only; split)
    | (with_reducible refine kept_mk hw ?_ rfl rfl rfl rfl rfl))

theorem kept_effRollbackResolveGlued {W s0} (hw : 4503625665627364 &&& W = 4503625665627364)  {s : State}  (h : Kept W s0 s) : Kept W s0 (effRollbackResolveGlued s) := by
  unfold effRollbackResolveGlued
  repeat (first
    | with_reducible assumption | (with_reducible refine kept_runCommand (msub hw) ?_ ?_)
    | (with_reducible refine kept_runResolve (msub hw) ?_ ?_) | (with_reducible refine kept_glueUp (msub hw) ?_)
    | (with_reducible intro _))

theorem kept_effRollbackResolveAborted {W s0} (hw : 110690306250114788 &&& W = 110690306250114788)  {s : State}  (h : Kept W s0 s) : Kept W s0 (effRollbackResolveAborted s) := by
  unfold effRollbackResolveAborted
  repeat (first
    | with_reducible assumption | (with_reducible refine kept_runCommand (msub hw) ?_ ?_)
    | (with_reducible refine kept_runResolve (msub hw) ?_ ?_) | (with_reducible refine kept_enterRollback (msub hw) ?_)
    | (with_reducible intro _))

theorem kept_effHealthRead {W s0} (hw : 100 &&& W = 100)  {s : State} {x0} (h : Kept W s0 s) : Kept W s0 (effHealthRead x0 s) := by
  unfold effHealthRead
  repeat (first
    | with_reducible assumption | (with_reducible refine kept_runCommand (msub hw) ?_ ?_)
    | (with_reducible refine kept_answerWith (msub hw) ?_) | (with_reducible intro _))

theorem kept_effBrakeSet {W s0} (hw : 2251799813685476 &&& W = 2251799813685476)  {s : State}  (h : Kept W s0 s) : Kept W s0 (effBrakeSet s) := by
  unfold effBrakeSet
  repeat (first
    | with_reducible assumption | (with_reducible refine kept_runCommand (msub hw) ?_ ?_)
    | (with_reducible refine kept_refuseMbx (msub hw) ?_) | (with_reducible refine kept_modHealth (msub hw) ?_)
    | (with_reducible refine kept_considerHeld (msub hw) ?_) | (with_reducible refine kept_answerMbx (msub hw) ?_)
    | with_reducible apply kept_ite | with_reducible apply kept_ite_snd | (with_reducible intro _) | split
    | (dsimp only; split))

theorem kept_effRehearsalSet {W s0} (hw : 2251799813685348 &&& W = 2251799813685348)  {s : State}  (h : Kept W s0 s) : Kept W s0 (effRehearsalSet s) := by
  unfold effRehearsalSet
  repeat (first
    | with_reducible assumption | (with_reducible refine kept_runCommand (msub hw) ?_ ?_)
    | (with_reducible refine kept_refuseMbx (msub hw) ?_) | (with_reducible refine kept_modHealth (msub hw) ?_)
    | (with_reducible refine kept_answerMbx (msub hw) ?_) | with_reducible apply kept_ite
    | with_reducible apply kept_ite_snd | (with_reducible intro _) | split | (dsimp only; split)
    | (with_reducible refine kept_mk hw ?_ rfl rfl rfl rfl rfl))

end Sys2Proof.Laws
end

