-- ==== Sys2Proof/Laws/KeptLinkConfig.lean ====
section
/-! SUPPORT. What the definitions of Machine/LinkConfig.lean keep (Laws/KeptBase.lean). -/

namespace Sys2Proof.Laws

open Sys2Proof Sys2Proof.Machine

set_option linter.all false
set_option Elab.async false

theorem kept_setPort {W s0} (hw : 112379156110384772 &&& W = 112379156110384772)  {s : State} {x1} {x2} (h : Kept W s0 s) : Kept W s0 (setPort s x1 x2) := by
  unfold setPort
  repeat (first
    | with_reducible assumption | (with_reducible refine kept_lanesDown (msub hw) ?_)
    | (with_reducible refine kept_portDown (msub hw) ?_) | (with_reducible refine kept_modLane (msub hw) ?_)
    | (with_reducible refine kept_modPort (msub hw) ?_) | with_reducible apply kept_ite
    | with_reducible apply kept_ite_snd | with_reducible apply kept_foldl | (with_reducible intro _) | split
    | (dsimp only; split) | (with_reducible refine kept_mk hw ?_ rfl rfl rfl rfl rfl))

theorem kept_loopPort {W s0} (hw : 112379156110384772 &&& W = 112379156110384772)  {s : State} {x1} (h : Kept W s0 s) : Kept W s0 (loopPort s x1) := by
  unfold loopPort
  repeat (first
    | with_reducible assumption | (with_reducible refine kept_lanesDown (msub hw) ?_)
    | (with_reducible refine kept_portDown (msub hw) ?_) | split | (dsimp only; split)
    | (with_reducible refine kept_mk hw ?_ rfl rfl rfl rfl rfl))

theorem kept_countLane {W s0} (hw : 2056 &&& W = 2056)  {s : State} {x1} (h : Kept W s0 s) : Kept W s0 (countLane s x1) := by
  unfold countLane
  repeat (first
    | with_reducible assumption | (with_reducible refine kept_countLine (msub hw) ?_)
    | (with_reducible refine kept_countLine' (msub hw) (by assumption) ?_)
    | (with_reducible refine kept_modLane (msub hw) ?_) | with_reducible apply kept_ite
    | with_reducible apply kept_ite_snd | (with_reducible intro _) | split | (dsimp only; split)
    | (with_reducible refine kept_mk hw ?_ rfl rfl rfl rfl rfl))

theorem kept_countSpoke {W s0} (hw : 4104 &&& W = 4104)  {s : State} {x1} (h : Kept W s0 s) : Kept W s0 (countSpoke s x1) := by
  unfold countSpoke
  repeat (first
    | with_reducible assumption | (with_reducible refine kept_countLine (msub hw) ?_)
    | (with_reducible refine kept_countLine' (msub hw) (by assumption) ?_)
    | (with_reducible refine kept_modSpoke (msub hw) ?_) | with_reducible apply kept_ite
    | with_reducible apply kept_ite_snd | (with_reducible intro _) | split | (dsimp only; split)
    | (with_reducible refine kept_mk hw ?_ rfl rfl rfl rfl rfl))

theorem kept_readForm {W s0} (hw : 6152 &&& W = 6152) {s s' : State} {y} {x0} {x1} (e : readForm x0 x1 s = some (s', y)) (h : Kept W s0 s) : Kept W s0 s' := by
  unfold readForm at e
  try dsimp only at e
  repeat' (split at e)
  all_goals first
    | (cases e; done)
    | (simp only [Option.map_eq_some_iff] at e; obtain ⟨_, _, rfl⟩ := e; repeat (first
    | with_reducible assumption | (with_reducible refine kept_countLane (msub hw) ?_)
    | (with_reducible refine kept_countSpoke (msub hw) ?_) | with_reducible apply kept_ite
    | with_reducible apply kept_ite_snd | (with_reducible intro _) | split | (dsimp only; split)))
    | (cases e; repeat (first
    | with_reducible assumption | (with_reducible refine kept_countLane (msub hw) ?_)
    | (with_reducible refine kept_countSpoke (msub hw) ?_) | with_reducible apply kept_ite
    | with_reducible apply kept_ite_snd | (with_reducible intro _) | split | (dsimp only; split)))

theorem kept_clearForm {W s0} (hw : 15872 &&& W = 15872)  {s : State} {x0} {x1} (h : Kept W s0 s) : Kept W s0 (clearForm x0 x1 s) := by
  unfold clearForm
  repeat (first
    | with_reducible assumption | (with_reducible refine kept_modPort (msub hw) ?_)
    | (with_reducible refine kept_modLane (msub hw) ?_) | (with_reducible refine kept_modSpoke (msub hw) ?_)
    | with_reducible apply kept_ite | with_reducible apply kept_ite_snd | (with_reducible intro _) | split
    | (dsimp only; split) | (with_reducible refine kept_mk hw ?_ rfl rfl rfl rfl rfl))

/-- A form's result whose state, if it has one, is kept. -/
def KeptCfg (W : Nat) (s0 : State) (x : CfgRes) : Prop := ∀ t, x = .ok t → Kept W s0 t

theorem keptCfg_ok {W s0} {s : State} (h : Kept W s0 s) : KeptCfg W s0 (.ok s) := fun _ e => by cases e; exact h

theorem keptCfg_error {W s0} {n} : KeptCfg W s0 (.error n) := fun _ e => by cases e

theorem kept_answerCfg {W s0} (hw : 100 &&& W = 100) {s : State} {x0 x2} (h : Kept W s0 s) (hx : KeptCfg W s0 x2) : Kept W s0 (answerCfg x0 s x2) := by
  unfold answerCfg
  split
  · exact kept_refuseMbx (msub hw) h
  · exact kept_answerMbx (msub hw) (hx _ rfl)

theorem keptCfg_configDevice {W s0} (hw : 8722 &&& W = 8722) {s : State} {b} (h : Kept W s0 s) : KeptCfg W s0 (configDevice b s) := by
  have hc : ∀ c : Bool, Kept W s0 (if c = true then { s with fab := carveFabric s.fab (leAt b 2 1) (devicePools b) } else s) :=
    fun c => kept_ite (kept_mk hw h rfl rfl rfl rfl rfl) h
  unfold configDevice
  dsimp only
  repeat (first | with_reducible exact keptCfg_error | split)
  all_goals (refine keptCfg_ok ?_)
  all_goals first
    | with_reducible exact h
    | (with_reducible exact kept_mk hw (hc _) rfl rfl rfl rfl rfl)
    | (with_reducible exact kept_mk hw h rfl rfl rfl rfl rfl)

theorem keptCfg_configPort {W s0} (hw : 112379156110384772 &&& W = 112379156110384772) {s : State} {n b} (h : Kept W s0 s) : KeptCfg W s0 (configPort n b s) := by
  unfold configPort
  dsimp only
  repeat (first | with_reducible exact keptCfg_error | split)
  exact keptCfg_ok (kept_setPort (msub hw) h)

theorem keptCfg_configLane {W s0} (hw : 112379156110384772 &&& W = 112379156110384772) {s : State} {n b} (h : Kept W s0 s) : KeptCfg W s0 (configLane n b s) := by
  unfold configLane
  dsimp only
  repeat (first | with_reducible exact keptCfg_error | with_reducible exact keptCfg_ok (kept_modLane (msub hw) h) | with_reducible exact keptCfg_ok (kept_modLane (msub hw) (kept_loopPort (msub hw) h)) | split)

theorem kept_writeForm {W s0} (hw : 100 &&& W = 100) {x4} (hx : ∀ b s, Kept W s0 s → KeptCfg W s0 (x4 b s)) {s : State} {x0 x1 x2 x3}
    (h : Kept W s0 s) : Kept W s0 (writeForm x0 x1 x2 x3 x4 s) := by
  unfold writeForm
  exact kept_withRead (msub hw) (fun b s h => kept_answerCfg (msub hw) h (hx b s h)) h

theorem kept_effLinkConfigDevice {W s0} (hw : 8822 &&& W = 8822) {s : State} {x0} (h : Kept W s0 s) : Kept W s0 (effLinkConfigDevice x0 s) := by
  unfold effLinkConfigDevice
  refine kept_runCommand (msub hw) (fun m c s h => ?_) h
  repeat (first | with_reducible exact kept_refuseMbx (msub hw) h | with_reducible exact kept_answerMbx (msub hw) h | with_reducible exact kept_writeForm (msub hw) (fun _ _ h => keptCfg_configDevice (msub hw) h) h | split)

theorem kept_effLinkConfigPort {W s0} (hw : 112379156110384868 &&& W = 112379156110384868) {s : State} {x0} (h : Kept W s0 s) : Kept W s0 (effLinkConfigPort x0 s) := by
  unfold effLinkConfigPort
  refine kept_runCommand (msub hw) (fun m c s h => ?_) h
  repeat (first | with_reducible exact kept_refuseMbx (msub hw) h | with_reducible exact kept_answerMbx (msub hw) h | with_reducible exact kept_writeForm (msub hw) (fun _ _ h => keptCfg_configPort (msub hw) h) h | split)

theorem kept_effLinkConfigLane {W s0} (hw : 112379156110384868 &&& W = 112379156110384868) {s : State} {x0} (h : Kept W s0 s) : Kept W s0 (effLinkConfigLane x0 s) := by
  unfold effLinkConfigLane
  refine kept_runCommand (msub hw) (fun m c s h => ?_) h
  repeat (first | with_reducible exact kept_refuseMbx (msub hw) h | with_reducible exact kept_answerMbx (msub hw) h | with_reducible exact kept_writeForm (msub hw) (fun _ _ h => keptCfg_configLane (msub hw) h) h | split)

theorem kept_runReadForm {W s0} (hw : 6252 &&& W = 6252) {x3} (hf : ∀ s, Kept W s0 s → Kept W s0 (x3 s)) {s : State} {x0 x1 x2} (h : Kept W s0 s) :
    Kept W s0 (runReadForm x0 x1 x2 x3 s) := by
  unfold runReadForm
  split
  · exact kept_refuseMbx (msub hw) h
  · split
    · exact kept_refuseMbx (msub hw) h
    · rename_i e
      exact kept_answerMbx (msub hw) (kept_bufStore (msub hw) (hf _ (kept_readForm (msub hw) e h)))

theorem kept_effLinkConfigRead {W s0} (hw : 6252 &&& W = 6252) {s : State} {x0} (h : Kept W s0 s) : Kept W s0 (effLinkConfigRead x0 s) := by
  unfold effLinkConfigRead
  refine kept_runCommand (msub hw) (fun m c s h => ?_) h
  split
  · exact kept_refuseMbx (msub hw) h
  · exact kept_runReadForm (msub hw) (fun _ h => h) h

theorem kept_effLinkConfigClear {W s0} (hw : 15980 &&& W = 15980) {s : State} {x0} (h : Kept W s0 s) : Kept W s0 (effLinkConfigClear x0 s) := by
  unfold effLinkConfigClear
  refine kept_runCommand (msub hw) (fun m c s h => ?_) h
  split
  · exact kept_refuseMbx (msub hw) h
  · exact kept_runReadForm (msub hw) (fun _ h => kept_clearForm (msub hw) h) h

end Sys2Proof.Laws
end

