-- ==== Sys2Proof/Laws/KeptSecure.lean ====
section
/-! SUPPORT. What the definitions of Machine/Secure.lean keep (Laws/KeptBase.lean). -/

namespace Sys2Proof.Laws

open Sys2Proof Sys2Proof.Machine

set_option linter.all false
set_option Elab.async false

theorem kept_effBootVerify {W s0} (hw : 98320 &&& W = 98320)  {s : State} {x0} (h : Kept W s0 s) : Kept W s0 (effBootVerify x0 s) := by
  unfold effBootVerify
  repeat (first
    | with_reducible assumption | (with_reducible refine kept_modPwr (msub hw) ?_) | with_reducible apply kept_ite
    | with_reducible apply kept_ite_snd | (with_reducible intro _) | split | (dsimp only; split)
    | (with_reducible refine kept_mk hw ?_ rfl rfl rfl rfl rfl))

theorem kept_applyForm {W s0} (hw : 112379156110392982 &&& W = 112379156110392982) {s : State} {x1} (h : Kept W s0 s) : Kept W s0 (applyForm s x1) := by
  have k : KeptCfg W s0 (if x1.1 = 1 then configDevice (fitBytes 24 x1.2.2) s
      else if x1.1 = 2 then configPort x1.2.1 (fitBytes 64 x1.2.2) s else .ok s) := by
    split
    · exact keptCfg_configDevice (msub hw) h
    · split
      · exact keptCfg_configPort (msub hw) h
      · exact keptCfg_ok h
  unfold applyForm
  dsimp only
  split
  · rename_i e; exact k _ e
  · exact h

theorem kept_wakePortGroups {W s0} (hw : 32768 &&& W = 32768) {s : State} (h : Kept W s0 s) : Kept W s0 (wakePortGroups s) := by
  unfold wakePortGroups
  refine kept_foldl h ?_
  intro s e h
  exact kept_ite (kept_modPwr (msub hw) h) h

theorem kept_enterLinks {W s0} (hw : 112379156110425750 &&& W = 112379156110425750)  {s : State}  (h : Kept W s0 s) : Kept W s0 (enterLinks s) := by
  unfold enterLinks
  repeat (first
    | with_reducible assumption | (with_reducible refine kept_modPwr (msub hw) ?_)
    | (with_reducible refine kept_wakePortGroups (msub hw) ?_) | (with_reducible refine kept_applyForm (msub hw) ?_)
    | with_reducible apply kept_foldl | (with_reducible intro _)
    | (with_reducible refine kept_mk hw ?_ rfl rfl rfl rfl rfl))

theorem kept_showGaspRecord {W s0} (hw : 33156 &&& W = 33156)  {s : State}  (h : Kept W s0 s) : Kept W s0 (showGaspRecord s) := by
  unfold showGaspRecord
  repeat (first
    | with_reducible assumption | (with_reducible refine kept_modPwr (msub hw) ?_)
    | (with_reducible refine kept_powerEvent (msub hw) ?_) | (with_reducible intro _) | split | (dsimp only; split)
    | (with_reducible refine kept_mk hw ?_ rfl rfl rfl rfl rfl))

theorem kept_effStartupPhaseDone {W s0} (hw : 112379156110491542 &&& W = 112379156110491542)  {s : State}  (h : Kept W s0 s) : Kept W s0 (effStartupPhaseDone s) := by
  unfold effStartupPhaseDone
  repeat (first
    | with_reducible assumption | (with_reducible refine kept_modPwr (msub hw) ?_)
    | (with_reducible refine kept_showGaspRecord (msub hw) ?_) | (with_reducible refine kept_enterLinks (msub hw) ?_)
    | (with_reducible intro _) | split | (dsimp only; split) | (with_reducible refine kept_mk hw ?_ rfl rfl rfl rfl rfl))

theorem kept_effReadyEntry {W s0} (hw : 32768 &&& W = 32768)  {s : State}  (h : Kept W s0 s) : Kept W s0 (effReadyEntry s) := by
  unfold effReadyEntry
  repeat (first
    | with_reducible assumption | (with_reducible refine kept_modPwr (msub hw) ?_) | with_reducible apply kept_ite
    | with_reducible apply kept_ite_snd | (with_reducible intro _) | split | (dsimp only; split)
    | (with_reducible refine kept_mk hw ?_ rfl rfl rfl rfl rfl))

/-- A bit that is set stays set where more are set. -/
theorem and_or_keep {r x y : BitVec 4} (h : x &&& r = r) : (x ||| y) &&& r = r := by
  revert h; revert r x y; decide +revert

theorem kept_effFuseRequest {W s0} (hw : 65536 &&& W = 65536) {s : State} (h : Kept W s0 s) : Kept W s0 (effFuseRequest s) := by
  have sec : W.testBit (pieceNum .sec) = true := bit_sub hw rfl
  have same : ∀ {x : Security}, ∀ p : Piece, W.testBit (pieceNum p) = false → p.same s0 { s with sec := x } := by
    intro x p hp
    have := h.2.2.2.2 p hp
    cases p <;> first | exact this | (rw [sec] at hp; exact Bool.noConfusion hp)
  unfold effFuseRequest
  split
  · exact h
  split
  · exact h
  dsimp only
  split
  · exact ⟨h.1, h.2.1, Nat.le_trans h.2.2.1 (Nat.le_max_left _ _), and_or_keep h.2.2.2.1, same⟩
  · exact ⟨h.1, h.2.1, h.2.2.1, h.2.2.2.1, same⟩

theorem kept_runAttest {W s0} (hw : 65636 &&& W = 65636)  {s : State} {x0} {x1} {x2} (h : Kept W s0 s) : Kept W s0 (runAttest x0 x1 x2 s) := by
  unfold runAttest
  repeat (first
    | with_reducible assumption | (with_reducible refine kept_refuseMbx (msub hw) ?_)
    | (with_reducible refine kept_holdMbx (msub hw) ?_) | (with_reducible refine kept_answerMbx (msub hw) ?_)
    | (with_reducible refine kept_bufStore (msub hw) ?_) | with_reducible apply kept_ite
    | with_reducible apply kept_ite_snd | split | (dsimp only; split)
    | (with_reducible refine kept_mk hw ?_ rfl rfl rfl rfl rfl))

theorem kept_effAttest {W s0} (hw : 65636 &&& W = 65636)  {s : State} {x0} (h : Kept W s0 s) : Kept W s0 (effAttest x0 s) := by
  unfold effAttest
  repeat (first
    | with_reducible assumption | (with_reducible refine kept_runCommand (msub hw) ?_ ?_)
    | (with_reducible refine kept_runAttest (msub hw) ?_) | (with_reducible intro _))

theorem kept_resumeHeld {W s0} (hw : 144115188075796196 &&& W = 144115188075796196)  {s : State} {x0} {x1} {x2} (h : Kept W s0 s) : Kept W s0 (resumeHeld x0 x1 x2 s) := by
  unfold resumeHeld
  repeat (first
    | with_reducible assumption | (with_reducible refine kept_refuseMbx (msub hw) ?_)
    | (with_reducible refine kept_startJobOpen (msub hw) ?_) | (with_reducible refine kept_runJobClose (msub hw) ?_)
    | (with_reducible refine kept_runAttest (msub hw) ?_) | with_reducible apply kept_ite
    | with_reducible apply kept_ite_snd | split | (dsimp only; split))

theorem kept_effHeldCommandResume {W s0} (hw : 144115188075796196 &&& W = 144115188075796196)  {s : State} {x0} {x1} (h : Kept W s0 s) : Kept W s0 (effHeldCommandResume x0 x1 s) := by
  unfold effHeldCommandResume
  repeat (first
    | with_reducible assumption | (with_reducible refine kept_resumeHeld (msub hw) ?_) | with_reducible apply kept_ite
    | with_reducible apply kept_ite_snd | split | (dsimp only; split))

theorem kept_refuseHeldAttest {W s0} (hw : 100 &&& W = 100)  {s : State} {x1} (h : Kept W s0 s) : Kept W s0 (refuseHeldAttest s x1) := by
  unfold refuseHeldAttest
  repeat (first
    | with_reducible assumption | (with_reducible refine kept_answerMbx (msub hw) ?_) | with_reducible apply kept_ite
    | with_reducible apply kept_ite_snd | split | (dsimp only; split))

theorem kept_effLeafCommit {W s0} (hw : 65540 &&& W = 65540)  {s : State}  (h : Kept W s0 s) : Kept W s0 (effLeafCommit s) := by
  unfold effLeafCommit
  repeat (first
    | with_reducible assumption | (with_reducible refine kept_emit (msub hw) ?_) | with_reducible apply kept_ite
    | with_reducible apply kept_ite_snd | split | (dsimp only; split)
    | (with_reducible refine kept_mk hw ?_ rfl rfl rfl rfl rfl))

theorem kept_effLeafCommitDone {W s0} (hw : 65636 &&& W = 65636)  {s : State} {x0} {x1} (h : Kept W s0 s) : Kept W s0 (effLeafCommitDone x0 x1 s) := by
  unfold effLeafCommitDone
  repeat (first
    | with_reducible assumption | (with_reducible refine kept_refuseHeldAttest (msub hw) ?_)
    | with_reducible apply kept_ite | with_reducible apply kept_ite_snd | split | (dsimp only; split)
    | (with_reducible refine kept_mk hw ?_ rfl rfl rfl rfl rfl))

theorem kept_effFlashResponseTimeout {W s0} (hw : 65638 &&& W = 65638)  {s : State}  (h : Kept W s0 s) : Kept W s0 (effFlashResponseTimeout s) := by
  unfold effFlashResponseTimeout
  repeat (first
    | with_reducible assumption | (with_reducible refine kept_timeTo (msub hw) ?_)
    | (with_reducible refine kept_refuseHeldAttest (msub hw) ?_) | with_reducible apply kept_ite
    | with_reducible apply kept_ite_snd | split | (dsimp only; split)
    | (with_reducible refine kept_mk hw ?_ rfl rfl rfl rfl rfl))

theorem kept_effMgmtRead {W s0} (hw : 4 &&& W = 4)  {s : State} {x0} (h : Kept W s0 s) : Kept W s0 (effMgmtRead x0 s) := by
  unfold effMgmtRead
  repeat (first
    | with_reducible assumption | (with_reducible refine kept_emit (msub hw) ?_) | with_reducible apply kept_ite
    | with_reducible apply kept_ite_snd | split | (dsimp only; split))

theorem kept_effJtagAccess {W s0} (hw : 12 &&& W = 12)  {s : State} {x0} (h : Kept W s0 s) : Kept W s0 (effJtagAccess x0 s) := by
  unfold effJtagAccess
  repeat (first
    | with_reducible assumption | (with_reducible refine kept_emit (msub hw) ?_)
    | (with_reducible refine kept_drawFree (msub hw) ?_)
    | (with_reducible refine kept_drawFree' (msub hw) (by assumption) ?_) | with_reducible apply kept_ite
    | with_reducible apply kept_ite_snd | split | (dsimp only; split))

end Sys2Proof.Laws
end

