-- ==== Sys2Proof/Laws/KeptStep.lean ====
section
/-! SUPPORT. What the definitions of Machine/Step.lean keep (Laws/KeptBase.lean). -/

namespace Sys2Proof.Laws

open Sys2Proof Sys2Proof.Machine

set_option linter.all false
set_option Elab.async false

theorem kept_idleTick {W s0} (hw : 8194 &&& W = 8194)  {s : State}  (h : Kept W s0 s) : Kept W s0 (idleTick s) := by
  unfold idleTick
  repeat (first
    | with_reducible assumption | (with_reducible refine kept_tickTime (msub hw) ?_))

end Sys2Proof.Laws
end

