-- ==== Sys2Proof/WellFormed.lean ====
section
/-! DEFINITION. The commands whose operands the spec's media can carry: an HTL payload of at most 256 bytes (R434), a frame
payload of at most 16,384 bytes (R351, R354), a spoke body of at most 516 bytes (R398), an instant of 72 bits (R405), a host
buffer of fewer than 2^32 bytes, for its length has four bytes (R453), a boot image of at most 16 MiB (R512). A meaning is total on any command; these bounds say
which ones a device can meet. -/

namespace Sys2Proof

/-- R434: 0 to 256 bytes follow an HTL header. -/
def HtlReq.wf (q : HtlReq) : Bool := q.payload.length ≤ 256

/-- R351: a ULP payload is at most 16 KiB. -/
def RxFrame.wf (f : RxFrame) : Bool := f.payload.length ≤ 16384

/-- R398: the longest spoke body is a LEAVE with 64 entries. -/
def SpokeRx.wf (q : SpokeRx) : Bool := q.body.length ≤ 516

/-- What a command reads from its buffer is at most 2^32 bytes, for its length has four bytes (R453). -/
def HostBuf.wf (b : HostBuf) : Bool := b.bytes.length < 2 ^ 32

/-- Whether the operands of a command fit the media that carry it. -/
def Instr.wf : Instr → Bool
  | .hostRead req => req.wf
  | .registerWrite req => req.wf
  | .apertureRead req => req.wf
  | .apertureWrite req => req.wf
  | .apertureAdd req => req.wf
  | .deviceReset req => req.wf
  | .bootGo req => req.wf
  | .eventRingEnable req => req.wf
  | .eventRingTailWrite req => req.wf
  | .htlErrRead req => req.wf
  | .inputPeakRead req => req.wf
  | .mbxDiscardedRead req => req.wf
  | .eventLostRead req => req.wf
  | .traceLostRead req => req.wf
  | .lgaspClear req => req.wf
  | .traceWindowRead req => req.wf
  | .htlCompletion req => req.wf
  | .eventHoldoffExpiry => true
  | .ucieModuleDown _ => true
  | .sidebandAccess req => req.wf
  | .deviceInfoIdentity => true
  | .deviceInfoChannels buf => buf.wf
  | .jobOpen buf => buf.wf
  | .jobClose => true
  | .shardPlace buf => buf.wf
  | .tandemBind => true
  | .tandemUnbind => true
  | .spareAdmit => true
  | .groupDefine buf => buf.wf
  | .groupRegen buf => buf.wf
  | .programLoad buf => buf.wf
  | .programSelect => true
  | .stepArm buf => buf.wf
  | .stepStatus buf => buf.wf
  | .stepStatusClearFlags buf => buf.wf
  | .rollback => true
  | .rollbackResolveGlued => true
  | .rollbackResolveAborted => true
  | .healthRead buf => buf.wf
  | .brakeSet => true
  | .rehearsalSet => true
  | .traceSet buf => buf.wf
  | .linkConfigDevice buf => buf.wf
  | .linkConfigPort buf => buf.wf
  | .linkConfigLane buf => buf.wf
  | .linkConfigRead buf => buf.wf
  | .linkConfigClear buf => buf.wf
  | .powerPolicyRead => true
  | .powerPolicySet => true
  | .attest buf => buf.wf
  | .badCommand => true
  | .heldCommandResume _ buf => buf.wf
  | .keeperWatchdog => true
  | .takeover => true
  | .jigAdd _ => true
  | .jigSub _ => true
  | .jigAnd _ => true
  | .jigOr _ => true
  | .jigXor _ => true
  | .jigSll _ => true
  | .jigSrl _ => true
  | .jigSra _ => true
  | .jigMul _ => true
  | .jigMulhu _ => true
  | .jigSlt _ => true
  | .jigSltu _ => true
  | .jigMin _ => true
  | .jigMax _ => true
  | .jigAddi _ => true
  | .jigAndi _ => true
  | .jigOri _ => true
  | .jigXori _ => true
  | .jigSlli _ => true
  | .jigSrli _ => true
  | .jigSrai _ => true
  | .jigLui _ => true
  | .jigSlti _ => true
  | .jigAset _ => true
  | .jigAadd _ => true
  | .jigArd _ => true
  | .jigSrd _ => true
  | .jigLset _ => true
  | .jigLrd _ => true
  | .jigBeq _ => true
  | .jigBne _ => true
  | .jigBlt _ => true
  | .jigBge _ => true
  | .jigBltu _ => true
  | .jigBgeu _ => true
  | .jigJmp _ => true
  | .jigLoop _ => true
  | .jigLdc _ => true
  | .jigRdspr _ => true
  | .jigRdcad _ => true
  | .jigPace _ => true
  | .jigRep _ => true
  | .jigPushBench _ => true
  | .jigPushBlk _ => true
  | .jigPushMove _ => true
  | .jigPushDrain _ => true
  | .jigPushEmit _ => true
  | .jigPushCadence _ => true
  | .jigAwait _ => true
  | .jigAwaitY _ => true
  | .jigYield _ => true
  | .jigArm _ => true
  | .jigEnd _ => true
  | .jigNop _ => true
  | .jigIllegalOpcode _ => true
  | .sepFadd _ => true
  | .sepFsub _ => true
  | .sepFmul _ => true
  | .sepFfma _ => true
  | .sepFfnma _ => true
  | .sepFmin _ => true
  | .sepFmax _ => true
  | .sepFabs _ => true
  | .sepFneg _ => true
  | .sepFsign _ => true
  | .sepFcmp _ => true
  | .sepSel _ => true
  | .sepMov _ => true
  | .sepPlog _ => true
  | .sepIadd _ => true
  | .sepIsub _ => true
  | .sepAnd _ => true
  | .sepOr _ => true
  | .sepXor _ => true
  | .sepShl _ => true
  | .sepShr _ => true
  | .sepSar _ => true
  | .sepBcastI _ => true
  | .sepCvtTo _ => true
  | .sepCvtFrom _ => true
  | .sepCvtF2i _ => true
  | .sepCvtI2f _ => true
  | .sepDadd _ => true
  | .sepDsub _ => true
  | .sepDmul _ => true
  | .sepDfma _ => true
  | .sepDmin _ => true
  | .sepDmax _ => true
  | .sepDcmp _ => true
  | .sepCvtS2d _ => true
  | .sepCvtD2s _ => true
  | .sepShchk _ => true
  | .sepFdiv _ => true
  | .sepFsqrt _ => true
  | .sepDdiv _ => true
  | .sepDsqrt _ => true
  | .sepRcpS _ => true
  | .sepRcpN _ => true
  | .sepRsqS _ => true
  | .sepRsqN _ => true
  | .sepLoad _ => true
  | .sepLoadD _ => true
  | .sepStore _ => true
  | .sepStoreD _ => true
  | .sepShsel _ => true
  | .sepEclr _ => true
  | .sepWset _ => true
  | .sepMaxexp _ => true
  | .sepMaxexpAll _ => true
  | .sepSum _ => true
  | .sepSumAll _ => true
  | .sepNorm _ => true
  | .sepNormAll _ => true
  | .sepDot _ => true
  | .sepDotAll _ => true
  | .sepBarrierStep _ => true
  | .fusedCollectiveLaunch _ => true
  | .moveIn _ => true
  | .moveOut _ => true
  | .drain _ => true
  | .emitState _ => true
  | .emitServe _ => true
  | .moveInDone _ _ _ => true
  | .moveOutDone _ _ _ => true
  | .chunkServable _ => true
  | .cadBarrier _ => true
  | .maxI64 _ => true
  | .minI64 _ => true
  | .sumI64 _ => true
  | .andU64 _ => true
  | .orU64 _ => true
  | .cadMaxexp _ => true
  | .sumF32 _ => true
  | .cadenceUp rx => rx.wf
  | .cadenceDown rx => rx.wf
  | .cadenceFail rx => rx.wf
  | .cadenceDeadline _ => true
  | .cadenceHeldExpiry _ => true
  | .segmentBegin _ => true
  | .turnOverrun _ => true
  | .contribute rx => rx.wf
  | .accumulate rx => rx.wf
  | .windowProposal rx => rx.wf
  | .placementComplete _ _ _ => true
  | .partialSend _ _ _ => true
  | .partialResend _ _ _ => true
  | .chunkRound _ _ _ => true
  | .bucketDeadline _ _ => true
  | .gather rx => rx.wf
  | .deviceGather rx => rx.wf
  | .gatherResend _ => true
  | .deliver rx => rx.wf
  | .castComplete _ => true
  | .gatherDeadline _ => true
  | .stepDone rx => rx.wf
  | .statePending rx => rx.wf
  | .stateEmem rx => rx.wf
  | .stateShip rx => rx.wf
  | .stateRestore rx => rx.wf
  | .stateResync rx => rx.wf
  | .stateResyncEmem rx => rx.wf
  | .partnerReport rx => rx.wf
  | .segmentReport rx => rx.wf
  | .partnerReportSend _ => true
  | .restoreReq rx => rx.wf
  | .restoreRowSend _ => true
  | .resyncReq rx => rx.wf
  | .resyncRowSend _ => true
  | .restoreRefuse rx => rx.wf
  | .stepSeal _ => true
  | .readySeq rx => rx.wf
  | .glueSeq rx => rx.wf
  | .abortSeq rx => rx.wf
  | .rollbackCleared _ => true
  | .leaveSeq rx => rx.wf
  | .stepDeadline _ => true
  | .rootDeadline _ => true
  | .slotDrainDone _ => true
  | .slotDrainTimeout _ => true
  | .incidentClose => true
  | .incidentSeq rx => rx.wf
  | .incidentRetransmit _ => true
  | .linkctlAck rx => rx.wf
  | .scoreDecay _ => true
  | .brakeWindow _ => true
  | .accuseWindow _ => true
  | .rehearsalInject _ => true
  | .rehearsalSkip _ => true
  | .linkDropEnd _ _ => true
  | .frameSend _ => true
  | .creditSend _ => true
  | .credit rx => rx.wf
  | .nack rx => rx.wf
  | .hello rx => rx.wf
  | .creditInit rx => rx.wf
  | .jobAnnounce rx => rx.wf
  | .jobWithdraw rx => rx.wf
  | .corruptFrame rx => rx.wf
  | .replayTimeout _ => true
  | .linkFrameReplay _ => true
  | .bareCredit _ => true
  | .portDown _ => true
  | .kAdapt _ => true
  | .poolWaitRetry => true
  | .bufferRelease _ _ => true
  | .bufferUnlink _ _ => true
  | .sliceMapout _ => true
  | .dieLinkFail _ => true
  | .trainingFrame _ _ _ => true
  | .trainingComplete _ => true
  | .trainingTimeout _ => true
  | .codewordLock _ _ _ => true
  | .portDeskewed _ => true
  | .laneFault _ => true
  | .idleEntry _ => true
  | .idleExit _ => true
  | .spokeAlign _ => true
  | .spokeHello rx => rx.wf
  | .spokeLinkDown _ => true
  | .timeExchange => true
  | .timeReq rx => rx.wf
  | .timeResp rx t4 => rx.wf && t4 < 2 ^ 72
  | .hbmUncorrectable _ _ => true
  | .channelMapout _ _ => true
  | .patrolScrub _ _ _ => true
  | .inputDropout => true
  | .inputRecover => true
  | .surgeOpen => true
  | .surgeClose => true
  | .lastGasp _ => true
  | .lastGaspComplete => true
  | .governorInterval _ _ => true
  | .leverLift => true
  | .domainSleep _ => true
  | .domainWake _ => true
  | .domainAwake _ => true
  | .domainFault _ => true
  | .droopTrip _ => true
  | .droopRecover _ => true
  | .voltageStep _ => true
  | .ref25Loss => true
  | .ref156Loss => true
  | .ref156Return => true
  | .thermalSample _ _ _ _ => true
  | .pinReset => true
  | .powerOn => true
  | .startupPhaseDone => true
  | .bootVerify image => image.length ≤ 16 * 1024 * 1024
  | .readyEntry => true
  | .fuseRequest => true
  | .leafCommit => true
  | .leafCommitDone _ _ => true
  | .mgmtRead _ => true
  | .jtagAccess _ => true
  | .flashResponseTimeout => true
  | .memMapout _ => true
  | .signalDetected _ => true
  | .ucieModuleUp _ => true
  | .eiCodewordsReceived _ => true
  | .exitBurstReceived _ _ => true
  | .drainRead _ => true

end Sys2Proof
end

