-- ==== Sys2Proof/Tests/Slice0.lean ====
section
/-! SUPPORT. Tests of single steps, each with the place that its expected result comes from, and for each statement a witness that
its hypotheses can be met: wit_<statement> shows states and operands that meet them, clause by clause. -/

namespace Sys2Proof.Tests

-- The tests are checked one after another: all at once they would need more threads than the check has memory for.
set_option Elab.async false

open Sys2Proof Sys2Proof.Machine

/-! ### Helpers -/

/-- The state that a command leaves. -/
def after (o : Out) : State :=
  match o with
  | .next t => t
  | .fault _ => State.reset
  | .refused _ => State.reset

/-- The state right after reset with slot 0 changed. -/
def slot0 (f : Slot → Slot) : State := modSlot State.reset 0 f

/-- A slot that is OPEN for job 7 with step 5 in DRY_FIT. -/
def openSlot (sl : Slot) : Slot :=
  { sl with st := .open_, ob := { sl.ob with jobId := 7 }, step := { sl.step with st := .dryFit, num := 5 } }

/-- The state right after reset with slot 0 OPEN for job 7, step 5 in DRY_FIT, changed further. -/
def dryFit (f : Slot → Slot) : State := slot0 (fun sl => f (openSlot sl))

/-! ### Commands that no medium carries -/

/-- An HTL packet of n bytes. -/
def htl (n : Nat) : HtlReq := ⟨0, 0, List.replicate n 0⟩
/-- A ULP frame of n bytes. -/
def ulp (n : Nat) : RxFrame := ⟨0, 0, List.replicate n 0, 0, false, false⟩
/-- A spoke sequence of n bytes. -/
def seqOf (n : Nat) : SpokeRx := ⟨0, 0, 0, List.replicate n 0, true⟩

theorem wf_htl : (Instr.hostRead (htl 256)).wf = true ∧ (Instr.hostRead (htl 257)).wf = false := by
  have h : ∀ n, (Instr.hostRead (htl n)).wf = decide (n ≤ 256) := fun n => by
    show HtlReq.wf (htl n) = _
    simp [HtlReq.wf, htl]
  exact ⟨(h _).trans (by decide), (h _).trans (by decide)⟩
theorem wf_frame : (Instr.contribute (ulp 16384)).wf = true ∧ (Instr.contribute (ulp 16385)).wf = false := by
  have h : ∀ n, (Instr.contribute (ulp n)).wf = decide (n ≤ 16384) := fun n => by
    show RxFrame.wf (ulp n) = _
    simp [RxFrame.wf, ulp]
  exact ⟨(h _).trans (by decide), (h _).trans (by decide)⟩
theorem wf_seq : (Instr.leaveSeq (seqOf 516)).wf = true ∧ (Instr.leaveSeq (seqOf 517)).wf = false := by
  have h : ∀ n, (Instr.leaveSeq (seqOf n)).wf = decide (n ≤ 516) := fun n => by
    show SpokeRx.wf (seqOf n) = _
    simp [SpokeRx.wf, seqOf]
  exact ⟨(h _).trans (by decide), (h _).trans (by decide)⟩
theorem wf_instant : (Instr.timeResp (seqOf 21) (2 ^ 72 - 1)).wf = true ∧ (Instr.timeResp (seqOf 21) (2 ^ 72)).wf = false := by
  decide
theorem wf_buf : (Instr.stepArm ⟨true, List.replicate (2 ^ 32 - 1) 0⟩).wf = true
    ∧ (Instr.stepArm ⟨true, List.replicate (2 ^ 32) 0⟩).wf = false := by
  have h : ∀ n, (Instr.stepArm ⟨true, List.replicate n 0⟩).wf = decide (n < 2 ^ 32) := fun n => by
    show HostBuf.wf ⟨true, List.replicate n 0⟩ = _
    simp [HostBuf.wf]
  exact ⟨(h _).trans (by decide), (h _).trans (by decide)⟩
theorem wf_image : (Instr.bootVerify (List.replicate (2 ^ 24) 0)).wf = true
    ∧ (Instr.bootVerify (List.replicate (2 ^ 24 + 1) 0)).wf = false := by
  have h : ∀ n, (Instr.bootVerify (List.replicate n 0)).wf = decide (n ≤ 2 ^ 24) := fun n => by
    show decide ((List.replicate n (0 : Byte)).length ≤ 16 * 1024 * 1024) = _
    simp
  exact ⟨(h _).trans (by decide), (h _).trans (by decide)⟩

/-! ### A device in a job -/

/-- Group 1 of two devices, 3 (this one, at position 0) and 4: member port 0, trunk port 8, parent link 2, and the children of a
mask; GEN 9, CAD_DEPTH 1, CAD_DEADLINE 50 µs. -/
def ver (root : Bool) (kids : Nat) : GroupVer :=
  ⟨BitVec.ofNat 1024 (0x320000100200010000000200000000000000090000000100000000000000000000000000000000000000000000000000000000000000000000000000000000000000000000000000000000000000000000000000000001
      + b2n root * 0x800000000000000000000000000000000000000000000000000000000000000000000000000000000000000000000000000000000000000000000000000000000000000000000000000000000000000000000
      + kids * 0x1000000000000000000000000000000000000000000000000000000000000000000000000000000000000000000000000000000000000000000000000000000000000000000000000000000000000000000000),
    [BitVec.ofNat 64 (3 * 2 ^ 16), BitVec.ofNat 64 (4 * 2 ^ 16), BitVec.ofNat 64 (1 + 8 * 2 ^ 3 + 4 * 2 ^ 16)]⟩

/-- The slot of such a job, whose shard has two extents, of device 3 and of device 4. -/
def jobSlot (root : Bool) (kids : Nat) (sl : Slot) : Slot :=
  let sl := openSlot sl
  { sl with
    ob := { sl.ob with
      w := 2, controlGroup := 1, benchWeight := 1, sramLines := 4096, rxQuota := [8192, 8192, 8192, 8192]
      txQuota := [8192, 8192, 8192, 8192, 8192], gatherDeadline := 500, fetchEntries := 64, castCache := 64, stepDeadline := 100 }
    groups := [(1, ⟨some (ver root kids), none, some (ver root kids), 0⟩)]
    shard := { sl.shard with placed := true, l := 2 * 1048576, map := [0x10003, 0x10004] }
    tan := { sl.tan with partner := some 4, mirrorOf := some 4 }
    running := some 1
    progs := [⟨1, .inUse, [0x55, 0x55], [1, 1], [], none, 0, false⟩]
    bench := { sl.bench with run := .running } }

/-- A port that is up: a member of endpoint 0x00990000, or a trunk to device 4. -/
def upPort (trunk : Bool) : Port :=
  { portInit with
    cfg := { portInit.cfg with enable := true, trunk := trunk, rxCredits := [256, 256, 256, 256, 256] }
    up := true, helloSent := true, helloRx := true, creditInitRx := true
    peer := if trunk then 0x00040000 else 0x00990000
    tx := { portInit.tx with hop := [256, 256, 256, 256, 256] } }

/-- Device 3 with ports 0 and 8 up, spoke links 1 and 2 up, every domain awake, and slot 0 in that job, changed further. -/
def world (root : Bool) (kids : Nat) (f : Slot → Slot) : State :=
  let s := slot0 (fun sl => f (jobSlot root kids sl))
  { s with
    host := { s.host with deviceId := 3, deviceIdValid := true }
    ports := [(0, upPort false), (8, upPort true)]
    spokes := [(1, { spokeInit with st := 2 }), (2, { spokeInit with st := 2 })]
    pwr := { s.pwr with awake := 2 ^ 50 - 1, ref156 := true, phase := 8 }
    holder := some 0 }

/-- Slot 0 of that job holds the bench and stands before word 0 of a program with marks; the jig changed. -/
def progState (code : List W64) (marks : List Nat) (f : Jig → Jig) : State :=
  world true 0 (fun sl => { sl with
    progs := [⟨1, .inUse, code, marks, [9], none, 0, false⟩], bench := { benchInit with jig := f jigInit, run := .running } })

/-- The same before an instruction word whose next word has a mark. -/
def jigState (w w1 : W64) (mark1 : Nat) (f : Jig → Jig) : State := progState [w, w1, 0x55] [1, mark1, 1] f

/-- A word of the jig with an opcode and nothing else. -/
def opWord (op : Nat) : W64 := BitVec.ofNat 64 op

/-- A descriptor of bucket 6: one chunk from element 0, group 1, a mode, EMAX and a deadline of 100 µs. -/
def desc (mode emax : Nat) : BitVec 256 :=
  BitVec.ofNat 256 (6 + 1 * 2 ^ 64 + 1 * 2 ^ 96 + mode * 2 ^ 110 + emax * 2 ^ 112 + 100 * 2 ^ 160)

/-- Bucket 6 of a descriptor with one chunk, its window known, its deadline not yet over. -/
def bucketOf (d : BitVec 256) (c : Chunk) : Bucket := { bucketInit with desc := d, emax := some 0, chunks := [(0, c)], abandoned := false }

/-- A sound frame on a port. -/
def frame (port : PortId) (h : Hdr) (payload : Bytes) : RxFrame :=
  ⟨port, hdrEncode { h with len := payload.length }, payload, fcsOf payload, false, false⟩

/-- The header of a class frame of step 5 of the job, from the member at port 0 or over the trunk at port 8. -/
def classHdr (trunk : Bool) (typ cls : Nat) : Hdr :=
  { hdrZero with
    typ := typ, cls := cls, src := if trunk then 0x00040000 else 0x00030000, dst := if trunk then 0x00030008 else 0x00030000, job := 7, step := 5 }

/-! ### The jig -/

theorem wit_RegisterAndImmediateInstructions :
    (∀ row ∈ regRows, let w := opWord row.op + 0x007FFF00
      let s := jigState w 0x55 1 id
      JigAt s 0 w ∧ (jigOf s 0).rep = none ∧ jOp w = row.op ∧ w &&& ~~~useR = 0 ∧ InstrAt s 0 1)
    ∧ ∀ row ∈ immRows, let w := opWord row.op + 0x0000003F00000000
      let s := jigState w 0x55 1 id
      JigAt s 0 w ∧ (jigOf s 0).rep = none ∧ jOp w = row.op ∧ w &&& ~~~row.used = 0 ∧ row.takes (immOf w) = true ∧ InstrAt s 0 1 := by
  unfold JigAt InstrAt; decide

theorem wit_BranchesGoWhereTheirConditionSays :
    (∀ row ∈ branchRows, let w := opWord row.op + 0x0000000200000100
      let s := jigState w 0x55 1 id
      JigAt s 0 w ∧ (jigOf s 0).rep = none ∧ jOp w = row.op ∧ w &&& ~~~useB = 0 ∧ (jigOf s 0).pc + jOff w = 2 ∧ InstrAt s 0 1 ∧ InstrAt s 0 2)
    ∧ (let w : W64 := 0x000000020000002E
       let s := jigState w 0x55 1 id
       JigAt s 0 w ∧ (jigOf s 0).rep = none ∧ w &&& ~~~0xFFFFFFFF000000FF#64 = 0 ∧ (2 : Int) = (jigOf s 0).pc + jOff w ∧ InstrAt s 0 2) := by
  unfold JigAt InstrAt; decide

/-- L[3] at zero, at one, at two and at its largest. -/
theorem wit_LoopCountsDown :
    (∀ n ∈ [0, 1, 2, 0xFFFFFFFF], let w : W64 := 0x00000002000C002F
       let s := jigState w 0x55 1 (fun j => { j with l := j.l.setIfInBounds 3 (BitVec.ofNat 32 n) })
       JigAt s 0 w ∧ (jigOf s 0).rep = none ∧ jOp w = 0x2F ∧ w &&& ~~~0xFFFFFFFF000C00FF#64 = 0 ∧ jL (jigOf s 0) (jLC w) = BitVec.ofNat 32 n
         ∧ (2 : Int) = (jigOf s 0).pc + jOff w ∧ InstrAt s 0 1 ∧ InstrAt s 0 2) := by
  unfold JigAt InstrAt; decide

theorem wit_ReadAddressLoopAndPaceInstructions :
    (∀ row ∈ readRows, let w := opWord row.op
      let s := jigState w 0x55 1 (fun j => { j with results := [(0, 4)] })
      JigAt s 0 w ∧ (jigOf s 0).rep = none ∧ jOp w = row.op ∧ w &&& ~~~row.used = 0 ∧ (row.val s 0 w).isSome = true ∧ InstrAt s 0 1)
    ∧ (∀ e ∈ [(0x0000000007FFE020, 0x0000000007FFE0FF), (0xFFFFFFFF07800021, 0xFFFFFFFF078000FF),
          (0x800000000183E024, 0xFFFFFFFF0783E0FF), (0xFFFFFFFF0003E033, useRaImm.toNat), (0x000000000FFFFF40, 0x000000000FFFFFFF),
          (0x55, 0xFF)],
      let w := BitVec.ofNat 64 e.1
      let s := jigState w 0x55 1 id
      JigAt s 0 w ∧ (jigOf s 0).rep = none ∧ w &&& ~~~(BitVec.ofNat 64 e.2) = 0 ∧ InstrAt s 0 1)
    ∧ jAN 0x800000000183E024#64 = 3 ∧ bitsOf (0x000000000FFFFF40#64).toNat 20 8 = 255 := by
  unfold JigAt InstrAt; decide


/-- What a push asks for. -/
def askList (x : PushEnd) : List Ask :=
  match x with
  | .asks as => as
  | .fault _ _ => []

/-- A push at cycle 10 of the segment that another instruction follows, its second word, and a block of one IADD at word 3. -/
def pushState (row : PushRow) (rep : Option (Nat × Nat)) : W64 × W64 × State :=
  let w := opWord row.op + 0x14000 + (if row.op = 0x45 then 0x800000000000 else 0) + (if row.op = 0x43 then 0xA00000000000 else 0)
  let w1 := if row.op = 0x42 then 0x0000000100000003 else if row.op = 0x46 then 0x00010001 else 0x0F
  (w, if row.words = 2 then w1 else 0,
    progState [w, if row.words = 2 then w1 else 0x55, 0x55, 0, 0x0F] [1, if row.words = 2 then 0 else 1, 1, 2, 2] (fun j => { j with rep := rep }))

theorem wit_PushesQueueTheirIssues :
    ∀ row ∈ pushRows, ∀ rep ∈ [none, some (2, 16)], (row.op = 0x46 → rep = none) →
      let e := pushState row rep
      let s := e.2.2
      let as := askList (row.asks (getSlot s 0) e.1 e.2.1)
      JigAt s 0 e.1 ∧ jOp e.1 = row.op ∧ (row.op = 0x46 → (jigOf s 0).rep = none)
        ∧ (row.words = 2 → fetchWord (getSlot s 0) 1 0 = some e.2.1) ∧ (row.words = 1 → e.2.1 = 0)
        ∧ row.asks (getSlot s 0) e.1 e.2.1 = .asks as ∧ as ≠ [] ∧ pushTarget (jigOf s 0) e.1 < 2 ^ 24 ∧ (∀ a ∈ as, a.off < 2 ^ 24)
        ∧ tagBusy (jigOf s 0).busy (as.filterMap (fun a => issueTag a.op)) = false
        ∧ pushRefused (benchOf s 0) row.q (issuesOf s 0 row.q as) = none ∧ InstrAt s 0 row.words := by
  unfold JigAt InstrAt; decide +kernel

theorem wit_SegmentsBeginAndEnd :
    (∀ e ∈ [(0x0000000000040150#64, some (Token.cadence 4)), (0x0000000000040151#64, some (Token.cadence 4)), (0x52#64, none), (0x54#64, none)],
      let s := progState [e.1] [1] (fun j => { j with results := [(4, 1)] })
      JigAt s 0 e.1 ∧ (jigOf s 0).rep = none ∧ (∀ x ∈ (benchOf s 0).past, x.cycle ≠ (benchOf s 0).clock) ∧ (benchOf s 0).pass = false
        ∧ (e.2.isSome = true → e.1 &&& ~~~0x00000000FFFF7FFF#64 = 0 ∧ tokenOf (jigOf s 0) e.1 = e.2
          ∧ (e.2.map (tokenUnknown (getSlot s 0))) = some false))
    ∧ (let s := world true 0 (fun sl => { sl with bench := { sl.bench with run := .holding, waitFor := some (.armed 2) }, tokens := [.armed 2] })
       s.holder = some 0 ∧ (benchOf s 0).run = .holding ∧ waitOver (getSlot s 0) = true)
    ∧ (let s := { world true 0 (fun sl => { sl with bench := benchInit }) with holder := none }
       s.holder = none ∧ readyAfter s s.benchLast = some 0 ∧ (getSlot s 0).tan.passWaiting = false ∧ canStart s (getSlot s 0) = true) := by
  unfold JigAt; decide

/-- ARM from G4 to G7, which hold a descriptor. -/
def armState (d : BitVec 256) : State :=
  jigState 0x0453 0x55 1 (fun j => { j with
    g := (((j.g.setIfInBounds 4 (d.extractLsb' 0 64)).setIfInBounds 5 (d.extractLsb' 64 64)).setIfInBounds 6 (d.extractLsb' 128 64)).setIfInBounds 7
      (d.extractLsb' 192 64) })

theorem wit_ArmInstructionArmsABucket :
    (∀ e ∈ [(desc 2 (2 ^ 16 - 100), none), (desc 0 1, some 0x27)], let s := armState e.1
      let d : BitVec 256 := BitVec.ofNat 256 ((jG (jigOf s 0) 4).toNat + (jG (jigOf s 0) 5).toNat * 2 ^ 64
        + (jG (jigOf s 0) 6).toNat * 2 ^ 128 + (jG (jigOf s 0) 7).toNat * 2 ^ 192)
      JigAt s 0 0x0453 ∧ (jigOf s 0).rep = none ∧ jOp 0x0453 = 0x53 ∧ 0x0453 &&& ~~~0x0000000000001FFF#64 = 0 ∧ (benchOf s 0).pass = false
        ∧ jRD 0x0453 = 4 ∧ d = e.1 ∧ armStatus (atCycle s 0 0) 0 d = e.2)
    ∧ bdMode (desc 2 (2 ^ 16 - 100)) = 2 := by
  unfold JigAt; decide +kernel

theorem wit_JigExceptionsAndTurnOverrun_rep :
    (let s := jigState 0x55 0x55 1 (fun j => { j with rep := some (2, 1) })
     JigAt s 0 0x55 ∧ (jigOf s 0).rep.isSome = true) := by
  unfold JigAt; decide

theorem wit_JigExceptionsAndTurnOverrun_unused :
    (∀ e ∈ [(0x155, 0xFF), (0x0000800000000001, useR.toNat), (0x8000000000000054, 0xFF)],
      let w := BitVec.ofNat 64 e.1
      let s := jigState w 0x55 1 id
      JigAt s 0 w ∧ (jigOf s 0).rep = none ∧ w &&& ~~~(BitVec.ofNat 64 e.2) ≠ 0) := by
  unfold JigAt; decide

theorem wit_JigExceptionsAndTurnOverrun_loop :
    (let s := jigState 0x2F 0x55 1 id
     JigAt s 0 0x2F ∧ 0x2F &&& ~~~0xFFFFFFFF000C00FF#64 = 0 ∧ jL (jigOf s 0) (jLC 0x2F) = 0) := by
  unfold JigAt; decide

theorem wit_JigExceptionsAndTurnOverrun_ldc :
    (let w : W64 := 0x0000000100000030
     let s := jigState w 0x55 1 id
     JigAt s 0 w ∧ jOp w = 0x30 ∧ w &&& ~~~useI = 0 ∧ (constsOf s 0).length ≤ poolIndex s 0 w) := by
  unfold JigAt; decide

theorem wit_JigExceptionsAndTurnOverrun_rdcad :
    (let w : W64 := 0x000000FF00000032
     let s := jigState w 0x55 1 id
     JigAt s 0 w ∧ jOp w = 0x32 ∧ w &&& ~~~useI = 0 ∧ poolIndex s 0 w = 255 ∧ tget? (jigOf s 0).results (poolIndex s 0 w) = none) := by
  unfold JigAt; decide

theorem wit_JigExceptionsAndTurnOverrun_branch :
    (let w : W64 := 0xFFFFFFFF00000028
     let s := jigState w 0x55 1 id
     JigAt s 0 w ∧ jOp w = 0x28 ∧ w &&& ~~~useB = 0 ∧ (jigOf s 0).pc + jOff w = -1) := by
  unfold JigAt; decide

theorem wit_JigExceptionsAndTurnOverrun_illegal :
    (∀ op ∈ [0x00, 0x0F, 0x19, 0x1F, 0x26, 0x27, 0x34, 0x3F, 0x47, 0x4F, 0x56, 0xFF],
      JigAt (jigState (opWord op) 0x55 1 id) 0 (opWord op) ∧ jOp (opWord op) = op) := by
  unfold JigAt; decide

theorem wit_JigExceptionsAndTurnOverrun_overrun :
    nextBench (world true 0 (fun sl => { sl with bench := { sl.bench with clock := 2 ^ 24 + 1 } })) 0 = some (2 ^ 24, .overrun) := by
  decide

/-! ### The bench -/

/-- Register V0 and V1, predicate P0, staging rows 0 and 1 and every accumulator written and ready. -/
def readyBench : Bench :=
  { benchInit with
    run := .running, clock := 200, v := [(0, ⟨lconst 0x3F800000, 0⟩), (1, ⟨lconst 0x40000000, 0⟩)], p := [(0, ⟨lconst true, 0⟩)]
    srows := [(0, ⟨List.replicate 4 (lconst 7), 0, 0, .none⟩), (1, ⟨List.replicate 4 (lconst 8), 0, 0, .none⟩)]
    e := Vector.replicate 4 { eAccInit with written := true }, w := Vector.replicate 4 { wAccInit with written := true } }

/-- The issue of a Septone command at cycle 100. -/
def sepIssue (w : W64) (scalar : Option W64) : Issue := ⟨.bench, 100, 0, 2, 0, 0, .bench w scalar⟩

/-- Slot 0 of the job before an issue, its bench changed. -/
def issueState (x : Issue) (f : Bench → Bench) : State := world true 0 (fun sl => { sl with bench := f { readyBench with queue := [x] } })

/-- The row of R184 of a command. -/
def sepRow (w : W64) : Sep := (sepOf w).getD ⟨0, .none, .none, .none, .none, false, .zero, .zero⟩

/-- A state in which a Septone command is the next issue. -/
def sepState (w : W64) (scalar : Option W64) : State := issueState (sepIssue w scalar) id

theorem regsOk_ready (w : W64) (sc : Option W64) : RegsOk (benchOf (sepState w sc) 0) := by
  have h : ∀ n, vData (benchOf (sepState w sc) 0) n = vData readyBench n ∧ pData (benchOf (sepState w sc) 0) n = pData readyBench n := fun _ => ⟨rfl, rfl⟩
  refine ⟨fun n => ?_, fun n => ?_⟩
  · rw [(h n).1]
    match n with
    | 0 => unfold LanesOk; decide
    | 1 => unfold LanesOk; decide
    | n + 2 => exact ⟨List.Pairwise.nil, by simp [vData, readyBench, tget?, lconst]⟩
  · rw [(h n).2]
    match n with
    | 0 => unfold LanesOk; decide
    | n + 1 => exact ⟨List.Pairwise.nil, by simp [pData, readyBench, tget?, lconst]⟩

theorem wit_LaneCommandsWriteEachLane :
    (∀ row ∈ plainRows ++ fp32Rows ++ fp64Rows ++ seedRows, let w := opWord row.op + 0x800000000
      SepAt (sepState w none) 0 (sepIssue w none) w none (sepRow w) ∧ cOp w = row.op)
    ∧ (∀ row ∈ plainRows, let w := opWord row.op
      SepAt (sepState w (some 3)) 0 (sepIssue w (some 3)) w (some 3) (sepRow w) ∧ cOp w = row.op)
    ∧ SepAt (sepState 0x17 none) 0 (sepIssue 0x17 none) 0x17 none (sepRow 0x17)
    ∧ (let w : W64 := 0x4000000020
       SepAt (sepState w none) 0 (sepIssue w none) w none (sepRow w) ∧ cOp w = 0x20 ∧ cRM w = 4) := by
  unfold SepAt; decide

theorem wit_StagingCommandsMoveEachLane :
    ∀ op ∈ [0x60, 0x61, 0x62, 0x63, 0x64], let w := opWord op
      SepAt (sepState w none) 0 (sepIssue w none) w none (sepRow w) ∧ cOp w = op
        ∧ (sRow (benchOf (sepState w none) 0) (swRow w)).parts.length = 4
        ∧ (sRow (benchOf (sepState w none) 0) ((swRow w + 1) % 64)).parts.length = 4 := by
  unfold SepAt; decide

theorem wit_AccumulatorAndShadowCommands :
    (∀ op ∈ [0x70, 0x72, 0x73, 0x74, 0x75, 0x76, 0x77, 0x78, 0x79, 0x7A, 0x39], let w := opWord op + 0x300
      SepAt (sepState w none) 0 (sepIssue w none) w none (sepRow w) ∧ cD w < 4 ∧ cOp w = op)
    ∧ (let w : W64 := 0x71
       SepAt (sepState w (some 5)) 0 (sepIssue w (some 5)) w (some 5) (sepRow w) ∧ cD w < 4 ∧ cOp w = 0x71) := by
  unfold SepAt; decide

theorem wit_AuditAndEngineChecksRaiseScheduleFault_audit :
    (∀ row ∈ plainRows ++ fp32Rows ++ fp64Rows ++ seedRows, let w := opWord row.op
      let s := issueState (sepIssue w none) (fun b => { b with v := [], p := [] })
      nextIssue s 0 = some (sepIssue w none) ∧ sepOf w = some (sepRow w) ∧ cOp w = row.op
        ∧ (audit (benchOf s 0) 100 (sepReads (sepRow w) w false) (sepWrites (sepRow w) w)).map Prod.fst = some 0x01)
    ∧ (let w : W64 := 0x10000D
       let s := issueState (sepIssue w none) (fun b => { b with v := [(0, ⟨lconst 1, 101⟩), (1, ⟨lconst 2, 100⟩)] })
       nextIssue s 0 = some (sepIssue w none) ∧ sepOf w = some (sepRow w)
         ∧ (audit (benchOf s 0) 100 (sepReads (sepRow w) w false) (sepWrites (sepRow w) w)).map Prod.fst = some 0x02) := by
  decide

/-! ### Engines and cadence -/

/-- An issue of an engine at cycle 100. -/
def engIssue (q : QId) (op : IssueOp) : Issue := ⟨q, 100, 0, 2, 0, 0, op⟩

/-- A job whose one chunk is rounded, before an issue. -/
def engState (q : QId) (op : IssueOp) (f : Bench → Bench) : State :=
  modSlot (issueState (engIssue q op) f) 0 (fun sl => { sl with
    shard := { sl.shard with l := 1024 }, tan := { sl.tan with mirrorOf := none }
    buckets := [(6, bucketOf (desc 2 0) { chunkInit .rounded with results := List.replicate 1024 5 })] })

theorem wit_EngineCommandsIssue :
    (∀ e ∈ [(QId.move, IssueOp.moveIn 0 0 0 5), (.drain, .drain 0 5), (.move, .moveOut 0 0 0 1), (.emit, .emitState 0 0 1),
        (.emit, .emitServe 0)], let s := engState e.1 e.2 id
      nextIssue s 0 = some (engIssue e.1 e.2) ∧ rowRange (atCycle s 0 100) (getSlot s 0) .primary 0 0 = false)
    ∧ (let s := engState .move (.moveIn 0 0 0 5) id
       audit (benchOf s 0) 100 [] [.s 5] = none ∧ pendingWrite (benchOf s 0) (fun b q k => b == areaOf 0 && q == 0 && k == 0) = false)
    ∧ (let s := engState .drain (.drain 0 5) id
       let s' := atCycle s 0 100
       audit (benchOf s 0) 100 [] [.s 5] = none ∧ liveTiles s' (getSlot s 0) .primary 0 = [35]
         ∧ (tileResults s' (getSlot s 0) 0 35).isSome = true)
    ∧ (let s := engState .move (.moveOut 0 0 0 1) id
       audit (benchOf s 0) 100 [.s 1] [] = none ∧ (getSlot s 0).servable = []) := by
  decide +kernel

theorem wit_AuditAndEngineChecksRaiseScheduleFault_engines :
    (∀ e ∈ [(QId.move, IssueOp.moveIn 0 0 1 5), (.move, .moveOut 0 0 1 1), (.emit, .emitServe 1)], let s := engState e.1 e.2 id
      nextIssue s 0 = some (engIssue e.1 e.2) ∧ rowRange (atCycle s 0 100) (getSlot s 0) .primary 0 1 = true)
    ∧ (let s := engState .move (.moveIn 0 0 0 5) (fun b => { b with srows := [(5, ⟨List.replicate 4 (lconst 1), 101, 0, .none⟩)] })
       nextIssue s 0 = some (engIssue .move (.moveIn 0 0 0 5)) ∧ rowRange (atCycle s 0 100) (getSlot s 0) .primary 0 0 = false
         ∧ (audit (benchOf s 0) 100 [] [.s 5]).isSome = true)
    ∧ (let s := engState .move (.moveIn 0 0 0 5) (fun b => { b with flight := [⟨101, 60, .moveOut 0 0 0 []⟩] })
       nextIssue s 0 = some (engIssue .move (.moveIn 0 0 0 5)) ∧ audit (benchOf s 0) 100 [] [.s 5] = none
         ∧ pendingWrite (benchOf s 0) (fun b q k => b == areaOf 0 && q == 0 && k == 0) = true
         ∧ (liveTiles (atCycle s 0 100) (getSlot s 0) .primary 0).head? = some 35)
    ∧ (let s := modSlot (engState .drain (.drain 0 5) id) 0 (fun sl => { sl with buckets := [] })
       nextIssue s 0 = some (engIssue .drain (.drain 0 5)) ∧ audit (benchOf s 0) 100 [] [.s 5] = none
         ∧ (liveTiles (atCycle s 0 100) (getSlot s 0) .primary 0).find? (fun t => (tileResults (atCycle s 0 100) (getSlot s 0) 0 t).isNone)
           = some 35) := by
  decide +kernel

/-- Slot 0 of the job with an effect in flight, due at cycle 150. -/
def flightState (op : FlightOp) : State :=
  modSlot (engState .move (.moveIn 0 0 0 5) id) 0 (fun sl => { sl with bench := { readyBench with flight := [⟨150, 60, op⟩] } })

theorem wit_EngineEffectsFallDue :
    (∀ op ∈ [FlightOp.moveIn, .moveOut 0 0 0 [lconst 1, lconst 2, lconst 3, lconst 4], .serve 0, .drain 0],
      let s := flightState op
      nextFlight s 0 = some ⟨150, 60, op⟩ ∧ (getSlot s 0).step.st = .dryFit ∧ (benchOf s 0).pass = false)
    ∧ (let s := flightState (.drain 0)
       let due := dueFlight s 0 ⟨150, 60, .drain 0⟩
       liveTiles due (getSlot due 0) .primary 0 = [35] ∧ chunksOfRow due 0 0 = [0] ∧ chunkAt (getSlot s 0) 0 = some (6, 0)) := by
  decide +kernel

/-- A launch of the group's next operation, due at cycle 150, on a device that is the root of the tree or a leaf of it. -/
def launchState (root : Bool) (fused : Bool) (opc : Nat) : State × Flight :=
  let f : Flight := ⟨150, 60, .launch fused opc 1 4 (partWord 9) none 0 2 0⟩
  (world root 0 (fun sl => { sl with bench := { readyBench with flight := [f] } }), f)

theorem wit_CadenceOperationsLaunch :
    ∀ e ∈ [(true, true, 4), (true, false, 1), (false, false, 7), (false, true, 9)], let s := (launchState e.1 e.2.1 e.2.2).1
      let v := ver e.1 0
      nextFlight s 0 = some (launchState e.1 e.2.1 e.2.2).2 ∧ tget? (getSlot s 0).groups 1 = some ⟨some v, none, some v, 0⟩
        ∧ cadGroup (getSlot s 0) 1 = some v ∧ geGroupId v = 1 ∧ geRelay v = false ∧ findCtx (getSlot s 0) 1 false 0 = none ∧ cadKids v = []
        ∧ geCadRoot v = e.1 ∧ 0 < usNs (geCadDeadline v) ∧ (getSpoke s (geCadParent v)).st = 2 := by
  decide +kernel

/-- A leaf or inner device of group 1 with operation 0, SUM_I64, open; and a message about it on a link. -/
def ctxState (kids : Nat) (done : Bool) : State × CadCtx :=
  let x := { newCtx (ver false kids) false 0 4 0 with launched := true, tag := some 4, own := some (partWord 9), upSent := done }
  (world false kids (fun sl => { sl with ctxs := [x] }), x)

/-- A message of a type about that operation. -/
def ctxRx (kids : Nat) (link : LinkId) (typ : Nat) : SpokeRx :=
  ⟨link, BitVec.ofNat 8 (cadSymbol 4), 7,
    cadBody (ctxMsg (getSlot (ctxState kids false).1 0) (ver false kids) (ctxState kids false).2 typ 0 (leBytes 8 5) 5 0), true⟩

set_option synthInstance.maxSize 1000 in
theorem wit_CadenceMessagesAndTimers_messages :
    ∀ e ∈ [(2, 1, 1), (6, 1, 1), (0, 2, 2), (2, 1, 3), (2, 2, 3)],
      let s := (ctxState e.1 (e.2.2 == 2)).1
      let rx := ctxRx e.1 (if e.2.1 = 1 then 1 else 2) e.2.2
      let m := cadMsgOf rx.body
      let x := (ctxState e.1 (e.2.2 == 2)).2
      let v := ver false e.1
      CadCurrent s rx 0 e.2.2 m v ∧ OpenCtx s 0 m x
        ∧ (e.2.2 = 1 → rx.link.val ∈ cadKids v ∧ x.ups = [] ∧ x.launched = true ∧ x.upSent = false ∧ geCadRoot v = false
          ∧ (getSpoke s (geCadParent v)).st = 2 ∧ x.own = some (partWord 9) ∧ m.opc = 4)
        ∧ (e.2.2 = 2 → geCadRoot v = false ∧ geCadParent v = rx.link.val ∧ cadKids v = [] ∧ m.window = false ∧ s.time < x.start + x.deadline
          ∧ m.opc ≠ 0x08 ∧ x.upSent = true)
        ∧ (e.2.2 = 3 → rx.link.val ∈ cadLinks v) := by
  unfold CadCurrent OpenCtx SeqTaken; decide +kernel

theorem wit_CadenceMessagesAndTimers_timers :
    (let s := (ctxState 0 false).1
     let x := (ctxState 0 false).2
     firstDue (getSlot s 0) = some x ∧ cadGroup (getSlot s 0) x.group = some (ver false 0) ∧ geRelay (ver false 0) = false
       ∧ (getSlot s 0).step.st = .dryFit)
    ∧ (getSlot (dryFit (fun sl => { sl with cadHeld := [⟨1, [], 40⟩, ⟨1, [], 41⟩] })) 0).cadHeld = [⟨1, [], 40⟩, ⟨1, [], 41⟩] := by
  decide +kernel

/-! ### Reductions -/

/-- Device 3 with bucket 6, one chunk of a descriptor in a state. -/
def redState (d : BitVec 256) (f : Bucket → Bucket) (c : Chunk) : State := world true 0 (fun sl => { sl with buckets := [(6, f (bucketOf d c))] })

/-- A contribution of a T1 image of zeros. -/
def contribRx : RxFrame := frame 0 { classHdr false 1 1 with group := 1, bucket := 6, format := 9 } (List.replicate 144 0)

set_option maxRecDepth 20000 in
theorem wit_ContributionsAndPartialsAreAdded_place :
    let s := redState (desc 2 0) id (chunkInit .open_)
    let a := admitFrame tContribute s contribRx
    let h := hdrDecode contribRx.hdr
    let sl := getSlot a.2 0
    a.1 = some (h, 0) ∧ stalledBy sl 0 h.bucket = false ∧ armedBucket sl h.bucket = some (bucketOf (desc 2 0) (chunkInit .open_))
      ∧ tget? (bucketOf (desc 2 0) (chunkInit .open_)).chunks h.chunk = some (chunkInit .open_) ∧ contribHead sl h 0 = none
      ∧ bdMode (desc 2 0) ≠ 1 ∧ contribTail sl h 0 (unitsOf contribRx.payload.length) = .place := by
  decide +kernel

set_option maxRecDepth 20000 in
theorem wit_ContributionsAndPartialsAreAdded_park :
    let f (b : Bucket) : Bucket := { b with emax := none }
    let s := modSlot (redState (desc 1 0) f (chunkInit .armed)) 0 (fun sl => { sl with
      groups := [(1, ⟨none, none, some { ver true 0 with entry := (ver true 0).entry ||| 2 }, 0⟩)] })
    let a := admitFrame tContribute s contribRx
    let h := hdrDecode contribRx.hdr
    let sl := getSlot a.2 0
    a.1 = some (h, 0) ∧ stalledBy sl 0 h.bucket = false ∧ armedBucket sl h.bucket = some (f (bucketOf (desc 1 0) (chunkInit .armed)))
      ∧ contribHead sl h 0 = none ∧ bdMode (desc 1 0) = 1
      ∧ contribTail (getSlot (recordHeld a.2 0 0 h) 0) h 0 (unitsOf contribRx.payload.length) = .park
      ∧ bucketPorts sl (f (bucketOf (desc 1 0) (chunkInit .armed))) = [0, 1] := by
  decide +kernel

set_option maxRecDepth 20000 in
theorem wit_ContributionsAndPartialsAreAdded_drop :
    let s := redState (desc 2 0) id (chunkInit .rounded)
    let a := admitFrame tContribute s contribRx
    let h := hdrDecode contribRx.hdr
    a.1 = some (h, 0) ∧ (contribHead (getSlot a.2 0) h 0).isSome = true ∧ (getPort a.2 0).cfg.trunk = false := by
  decide +kernel

/-- A whole partial of zeros from device 4. -/
def partialRx : RxFrame :=
  frame 8 { classHdr true 2 2 with group := 1, bucket := 6, format := 10 } (((partialPieces []).map Prod.snd).headD [])

set_option maxRecDepth 20000 in
theorem wit_ContributionsAndPartialsAreAdded_partial :
    let s := redState (desc 2 0) id (chunkInit .open_)
    let a := admitFrame tAccumulate s partialRx
    let h := hdrDecode partialRx.hdr
    let sl := getSlot a.2 0
    a.1 = some (h, 0) ∧ partialCheck sl h 8 = none
      ∧ getChunk sl h.bucket h.chunk = some (bucketOf (desc 2 0) (chunkInit .open_), chunkInit .open_) ∧ hAccPart h = 0
      ∧ (partialGrids sl.ob.flush 0 h partialRx.payload).grids.length = 1024 := by
  decide +kernel

/-- A member's proposal. -/
def windowRx : RxFrame := frame 0 { classHdr false 5 0 with group := 1, bucket := 6, window := 0xFFF0 } []

theorem wit_ProposalsCompletionAndDeadlines_proposal :
    let f (b : Bucket) : Bucket := { b with emax := none }
    let s := modSlot (redState (desc 0 0) f (chunkInit .armed)) 0 (fun sl => { sl with
      groups := [(1, ⟨none, none, some { ver true 0 with entry := (ver true 0).entry ||| 2 }, 0⟩)] })
    let a := admitFrame tWindow s windowRx
    let h := hdrDecode windowRx.hdr
    a.1 = some (h, 0) ∧ proposalCheck (getSlot a.2 0) h 0 = none
      ∧ armedBucket (getSlot a.2 0) h.bucket = some (f (bucketOf (desc 0 0) (chunkInit .armed)))
      ∧ bucketPorts (getSlot a.2 0) (f (bucketOf (desc 0 0) (chunkInit .armed))) = [0, 1] := by
  decide +kernel

theorem wit_ProposalsCompletionAndDeadlines_rest :
    (let c := { chunkInit .open_ with bitmap := 1, ua := true, ub := true }
     let s := redState (desc 2 0) id c
     getChunk (getSlot s 0) 6 0 = some (bucketOf (desc 2 0) c, c) ∧ chunkFull (getSlot s 0) (bucketOf (desc 2 0) c) c = true)
    ∧ (let b := bucketOf (desc 2 0) (chunkInit .open_)
       let s := redState (desc 2 0) id (chunkInit .open_)
       armedBucket (getSlot s 0) 6 = some b ∧ (getSlot s 0).step.st = .dryFit
         ∧ ∀ p ∈ bucketPorts (getSlot s 0) b, stalledBy (getSlot s 0) p 6 = false)
    ∧ (armedBucket (getSlot (redState (desc 2 0) id (chunkInit .complete)) 0) 6).isSome = true := by
  decide +kernel

/-- A descriptor of bucket 6 whose one chunk is the first of device 4. -/
def farDesc : BitVec 256 := desc 2 0 + 0x100000 * 0x10000

theorem wit_PartialsAreSentAndChunksRounded_send :
    let c := chunkInit .complete
    let b := bucketOf farDesc c
    let s := redState farDesc id c
    let sl := getSlot s 0
    let pt := partialOf sl b 0 c
    getChunk sl 6 0 = some (b, c) ∧ bdChunkIndex farDesc 0 = 1024 ∧ partialPort sl b 1024 = some 8 ∧ isOwner s sl b = false
      ∧ ((requestAll s (tileOfChunk 1024) 0 2 (ownerEncoder (tileOfChunk 1024)) pt.2.1).1.isSome = true) ∧ pt.2.2.2 = []
      ∧ (getPort s 8).up = true ∧ (getPort s 8).dropSlots = [] ∧ (getPort s 8).tx.queues.length = 5 := by
  decide +kernel

theorem wit_PartialsAreSentAndChunksRounded_wait :
    let c := chunkInit .complete
    let b := bucketOf farDesc c
    let s := modSlot (redState farDesc id c) 0 (fun sl => { sl with ob := { sl.ob with txQuota := [0, 0, 0, 0, 0] } })
    let sl := getSlot s 0
    getChunk sl 6 0 = some (b, c) ∧ partialPort sl b 1024 = some 8 ∧ isOwner s sl b = false
      ∧ (requestAll s (tileOfChunk 1024) 0 2 (ownerEncoder (tileOfChunk 1024)) (partialOf sl b 0 c).2.1).1.isNone = true := by
  decide +kernel

theorem wit_PartialsAreSentAndChunksRounded_resend :
    let c := { chunkInit .sending with parts := [0], resend := [(0, 90)] }
    let b := bucketOf farDesc c
    let s := redState farDesc id c
    let sl := getSlot s 0
    let pt := partialOf sl b 0 c
    getChunk sl 6 0 = some (b, c) ∧ partialPort sl b 1024 = some 8 ∧ isOwner s sl b = false ∧ sl.step.st = .dryFit
      ∧ (match pt.2.1.find? (fun e => e.1 == 0) with
        | none => false
        | some e => match (poolRequest (timeTo s 90) (tileOfChunk 1024) 0 2 e.2.length (ownerEncoder (tileOfChunk 1024))).1 with
          | .ok _ => true
          | .quota => false
          | .empty => false) = true := by
  decide +kernel

theorem wit_PartialsAreSentAndChunksRounded_round :
    let c := chunkInit .complete
    let b := bucketOf (desc 2 0) c
    let s := redState (desc 2 0) id c
    getChunk (getSlot s 0) 6 0 = some (b, c) ∧ isOwner s (getSlot s 0) b = true ∧ LineOk c ∧ (b.chunks.map Prod.fst).Nodup
      ∧ b.abandoned = false ∧ b.tokenPosted = false := by
  unfold LineOk; decide +kernel

/-! ### Ports and links -/

/-- The job's world with one port changed. -/
def portState (p : Nat) (f : Port → Port) : State := modPort (world true 0 id) p f

set_option maxRecDepth 20000 in
theorem wit_FramesAreAdmittedOrDiscarded :
    (let a := admitFrame tContribute (world true 0 id) contribRx
     a.1 = some (hdrDecode contribRx.hdr, 0))
    ∧ (let s := world true 0 id
       let bad := { contribRx with hdrBad := true }
       let late := frame 0 { classHdr false 1 1 with seq := 5 } []
       let dup := frame 0 { classHdr false 1 1 with seq := 0xFFFFFFFF } []
       (getPort s 0).up = true ∧ bad.hdrBad = true ∧ (getPort s 0).rx.recInWindow ≠ 16
         ∧ hcrcOk late.hdr = true ∧ (hdrDecode late.hdr).cls ≠ 7 ∧ seqCheck 0 (hdrDecode late.hdr).seq = .above
         ∧ hcrcOk dup.hdr = true ∧ (hdrDecode dup.hdr).cls ≠ 7 ∧ seqCheck 0 (hdrDecode dup.hdr).seq = .below)
    ∧ (let s := portState 0 (fun q => { q with rx := { q.rx with inRecovery := true } })
       (getPort s 0).up = true ∧ (getPort s 0).rx.inRecovery = true) := by
  decide +kernel

/-- A frame of class C1 on its way over the trunk, with a SEQ. -/
def sent (seq at_ : Nat) : TxFrame :=
  ⟨{ classHdr true 0x4 3 with seq := seq, src := 0x00030008, dst := 0x00040000 }, [], 0, [], 0, 0, at_, 0, false⟩

/-- A NACK that waits to be sent, or that was sent. -/
def linkFrame (lseq at_ : Nat) : TxFrame :=
  ⟨{ classHdr true 0xD 7 with seq := lseq, job := 0, step := 0 }, [1, 0, 0, 0, 5, 0, 0, 0, 0, 0, 0, 0, 0, 0, 0, 0], 0, [], 0, 0, at_, 0, false⟩

theorem wit_PortsSendFrames :
    (let q := getPort (portState 8 (fun q => { q with tx := { q.tx with linkWait := [linkFrame 0 0] } })) 8
     q.helloSent = true ∧ q.idleTx = false ∧ q.tx.linkWait = [linkFrame 0 0])
    ∧ (let f := sent 0 0
       let s := portState 8 (fun q => { q with tx := { q.tx with queues := [[], [], [], [f], []], cur := 2, deficit := [1, 1, 1, 1, 1] } })
       let q := getPort s 8
       q.helloSent = true ∧ q.idleTx = false ∧ q.tx.linkWait = [] ∧ q.up = true ∧ q.tx.replayAt = none ∧ (q.tx.cur + 1) % 5 = 3
         ∧ headFrame q 3 = some f ∧ creditsCover s 8 3 f = true ∧ unitsOf f.payload.length ≤ natAt q.tx.deficit 3 ∧ f.h.cls = 3
         ∧ f ∈ q.tx.queues.getD 3 []) := by
  decide +kernel

theorem wit_CreditsAndLinkReplays :
    let s := portState 0 (fun q => { q with
      rx := { q.rx with ackOwed := true, linkAckOwed := true, owedHop := [0, 1, 65535, 0, 65536], expSeq := 7 }
      tx := { q.tx with linkUnacked := [linkFrame 3 90] } })
    let q := getPort s 0
    q.up = true ∧ q.helloSent = true ∧ s.pwr.gaspActive = false ∧ q.rx.ackOwed = true ∧ q.rx.owedWin = [] ∧ q.rx.inUse.length = 5
      ∧ q.rx.owedHop.length = 5 ∧ q.rx.linkAckOwed = true ∧ q.tx.linkUnacked = [linkFrame 3 90] := by
  decide +kernel

/-- A link frame of the far endpoint of a port. -/
def linkRx (port : PortId) (h : Hdr) (payload : Bytes) : RxFrame :=
  frame port { h with cls := 7, src := if port = 8 then 0x00040000 else 0x00030000, dst := 0x00030000 + port.val } payload

/-- A CREDIT for frames below 5, with one unit of each class. -/
def creditRx : RxFrame := linkRx 8 { hdrZero with typ := 0xC } ([5, 0, 0, 0] ++ [1, 0, 1, 0, 1, 0, 0, 0, 1, 0] ++ [0, 0])
/-- A NACK of frame 5 with a code and AVAIL 9. -/
def nackRx (code : Byte) : RxFrame := linkRx 8 { hdrZero with typ := 0xD } [code, 0, 0, 0, 5, 0, 0, 0, 9, 0, 0, 0, 0, 0, 0, 0]

theorem wit_CreditsAndNacksAreTaken :
    let s := portState 8 (fun q => { q with tx := { q.tx with unacked := [sent 5 0] } })
    (let a := admitLink tCredit s creditRx
     a.1 = some (hdrDecode creditRx.hdr) ∧ leAt creditRx.payload 10 2 = 0
       ∧ creditRx.payload.length = 16 + 8 * leAt creditRx.payload 14 2)
    ∧ ∀ code ∈ [0x01, 0x03, 0x07, 0x0B, 0x0C, 0x10],
        let a := admitLink tNack s (nackRx (BitVec.ofNat 8 code))
        let q := getPort a.2 8
        a.1 = some (hdrDecode (nackRx (BitVec.ofNat 8 code)).hdr) ∧ leAt (nackRx (BitVec.ofNat 8 code)).payload 0 1 = code
          ∧ leAt (nackRx (BitVec.ofNat 8 code)).payload 4 4 = 5 ∧ leAt (nackRx (BitVec.ofNat 8 code)).payload 1 1 ≠ 1
          ∧ q.tx.unacked.find? (fun g => g.h.seq == 5 && !g.nacked) = some (sent 5 0) ∧ q.tx.replayAt = none
          ∧ q.tx.unacked.find? (fun g => g.h.seq == 5) = some (sent 5 0)
          ∧ (sent 5 0).replays < 8 ∧ (sent 5 0).h.cls < q.tx.queues.length ∧ (sent 5 0).h.cls < q.tx.hop.length := by
  decide +kernel

/-- A LINK_CTRL frame of a kind for job 7 in generation 2. -/
def ctrlRx (kind : Nat) (payload : Bytes) : RxFrame :=
  linkRx 8 { hdrZero with typ := 0xE, ts := kind, job := if 3 ≤ kind then 7 else 0, gen := if 3 ≤ kind then 2 else 0 } payload

theorem wit_LinkControlFramesAreTaken :
    (let s := portState 8 (fun q => { q with up := false, helloRx := false })
     let rx := ctrlRx 1 [0, 0, 4, 0, 1, 0, 0, 0]
     let a := takeLinkCtrl 1 rx s
     hLinkKind (hdrDecode rx.hdr) = 1 ∧ helloRestart rx s = s ∧ a.1 = some (hdrDecode rx.hdr) ∧ ReadyToComeUp (getPort a.2 8))
    ∧ (let s := portState 8 (fun q => { q with up := false, creditInitRx := false })
       let rx := ctrlRx 2 [1, 0, 2, 0, 3, 0, 4, 0, 5, 0]
       let a := takeLinkCtrl 2 rx s
       a.1 = some (hdrDecode rx.hdr) ∧ ReadyToComeUp (getPort a.2 8))
    ∧ (takeLinkCtrl 3 (ctrlRx 3 []) (world true 0 id)).1 = some (hdrDecode (ctrlRx 3 []).hdr)
    ∧ (takeLinkCtrl 4 (ctrlRx 4 []) (world true 0 id)).1 = some (hdrDecode (ctrlRx 4 []).hdr) := by
  unfold ReadyToComeUp; decide +kernel

theorem wit_ReplaysPortsGoingDownAndCongestion :
    (let s := portState 8 (fun q => { q with tx := { q.tx with unacked := [sent 5 90] }, dropSlots := [(0, 70)] })
     let q := getPort s 8
     q.tx.unacked = [sent 5 90] ∧ q.up = true ∧ (sent 5 90).nacked = false ∧ q.tx.replayAt = none ∧ (sent 5 90).replays < 8
       ∧ slotsOfPort s 8 = [0] ∧ (getSlot s 0).step.st = .dryFit ∧ q.ks.length = 5 ∧ s.time < 2 ^ 63
       ∧ q.dropSlots.find? (fun e => e.1 == 0) = some (0, 70))
    ∧ (getPort (portState 8 (fun q => { q with up := false })) 8).up = false := by
  decide +kernel

/-! ### The host window -/

/-- A request of a type on module 0 with TAG 3, for some bytes from an offset, with an AOP. -/
def htlReq (typ off n aop : Nat) (payload : Bytes) : HtlReq :=
  ⟨0, BitVec.ofNat 128 (typ + aop * 2 ^ 4 + 3 * 2 ^ 8 + (n / 4 - 1) * 2 ^ 18 + off * 2 ^ 32), payload⟩

/-- A read of n bytes. -/
def readReq (off n : Nat) : HtlReq := htlReq 1 off n 0 []
/-- A write of a number of n bytes. -/
def writeReq (off n x : Nat) : HtlReq := htlReq 2 off n 0 (leBytes n x)

/-- Right after reset with both modules up and every domain awake, changed further. -/
def hostState (f : State → State) : State :=
  f { State.reset with host := { State.reset.host with ucieUp := [true, true] }, pwr := { State.reset.pwr with awake := 2 ^ 50 - 1 } }

theorem wit_HostReadsAreAnsweredAndClear_reads :
    let s := hostState id
    (∀ e ∈ [(0x0, 4), (0x10, 8), (0x200024, 4)], let q := readReq e.1 e.2
      htlType q = 1 ∧ htlSound q = true ∧ moduleUp s q.mdl.val = true ∧ inTraceWindow (htlOff q) = false ∧ inAperture (htlOff q) = false
        ∧ rcOf (htlOff q) (htlBytes q) = none ∧ mbxPage (htlOff q) = none ∧ regAligned (htlOff q) (htlBytes q) = true
        ∧ (reg64 s (htlOff q / 8 * 8)).isSome = true)
    ∧ (∀ e ∈ [(0x100000, 64, 0, 0), (0x14003C, 4, 0, 64), (0x100040, 64, 0x40, 0), (0x14007C, 4, 0x40, 64)], let q := readReq e.1 e.2.1
      htlSound q = true ∧ rcOf (htlOff q) (htlBytes q) = none
        ∧ (∃ o, o < 128 ∧ mbxPage (htlOff q) = some (e.2.2.2, o) ∧ slotAccess e.2.2.1 o (htlBytes q) = true))
    ∧ (let q := readReq 0x100080 4
       htlSound q = true ∧ mbxPage (htlOff q) = some (0, 0x80) ∧ rcOf 0x100080 4 = none ∧ regAligned 0x80 (htlBytes q) = true
         ∧ (mbxReg s 0 0x80).isSome = true)
    ∧ windowRead s 0xF00000 4 = none ∧ rcOf 0xF00000 4 = none
    ∧ (let q := readReq 0x2FFFFC 4
       htlSound q = true ∧ inTraceWindow (htlOff q) = true ∧ htlOff q % 128 + htlBytes q ≤ 128 ∧ htlOff q % 4 = 0)
    ∧ (s.pwr.awake.testBit 1 = true ∧ (reg64 s 0x10).isSome = true ∧ (reg64 s 0x1F000).isNone = true ∧ rcOf 0x1F000 8 = none
        ∧ regAligned 0x1F000 8 = true) := by
  decide +kernel

theorem wit_HostReadsAreAnsweredAndClear_clears :
    ∀ e ∈ [(0x40, 8), (0x40, 4), (0x44, 4), (0x10008, 8), (0x1000C, 4), (0x100080, 8), (0x140080, 8), (0x100084, 4), (0x140084, 4),
        (0x1000E0, 4), (0x1000E0, 8), (0x200010, 4), (0x200010, 8)],
      HostAsks (hostState id) (readReq e.1 e.2) 1 ∧ htlOff (readReq e.1 e.2) = e.1 ∧ htlBytes (readReq e.1 e.2) = e.2 := by
  unfold HostAsks; decide +kernel

theorem wit_HostWritesTakeEffect_registers :
    let s := hostState id
    (∀ e ∈ [(0x200, 8, 0), (0x300, 8, 2 ^ 64 - 1), (0x308, 8, 2 ^ 24), (0x200018, 4, 9), (0x200018, 8, 9), (0x100000, 64, 0),
        (0x14003C, 4, 0), (0x100080, 4, 1), (0x140080, 8, 3), (0x1000C0, 8, 4096), (0x10, 4, 0)],
      let q := writeReq e.1 e.2.1 e.2.2
      HostAsks s q 2 ∧ htlOff q = e.1 ∧ htlBytes q = e.2.1 ∧ writtenNumber q = e.2.2)
    ∧ mbxPage 0x100000 = some (0, 0) ∧ slotAccess 0 0 64 = true ∧ mbxPage 0x14003C = some (64, 0x3C) ∧ slotAccess 0 0x3C 4 = true
    ∧ (2 ^ 24).testBit 32 = false ∧ (getMbx s 0).own = false ∧ (getMbx (modMbx s 0 (fun b => { b with own := true })) 0).own = true
    ∧ mbxPage 0x10 = none ∧ inTraceWindow 0x10 = false ∧ inAperture 0x10 = false ∧ regWritable 0x10 = false := by
  unfold HostAsks; decide +kernel

theorem wit_HostWritesTakeEffect_starts :
    let s := hostState (fun s => { s with
      pwr := { s.pwr with phase := 3, bootSel := true }, evt := { s.evt with en := true, sizeLog2 := 6, overflowOwed := true } })
    (∀ e ∈ [(0x308, 8, 2 ^ 32 + 100), (0x1000C8, 8, 2 ^ 8 + 6), (0x1000C8, 8, 2 ^ 8 + 16), (0x1000D8, 4, 0), (0x1000D8, 8, 0),
        (0x200020, 4, 1), (0x200020, 8, 1), (0x100, 4, 0xA5C3), (0x100, 8, 0xA5C3), (0x100, 4, 0)],
      let q := writeReq e.1 e.2.1 e.2.2
      HostAsks s q 2 ∧ htlOff q = e.1 ∧ htlBytes q = e.2.1 ∧ writtenNumber q = e.2.2)
    ∧ (2 ^ 32 + 100).testBit 32 = true ∧ s.pwr.phase = 3 ∧ s.pwr.bootSel = true ∧ s.host.bootReading = false
    ∧ (2 ^ 8 + 6).testBit 8 = true ∧ (2 ^ 8 + 6) % 32 = 6 ∧ (2 ^ 8 + 16) % 32 = 16 ∧ State.reset.evt.en = false ∧ State.reset.pwr.phase ≠ 3
    ∧ State.reset.evt.overflowOwed = false ∧ s.evt.overflowOwed = true ∧ evtRoom { s.evt with tail := 0 } = true
    ∧ s.pwr.gaspActive = false ∧ openCount s = 0 := by
  unfold HostAsks; decide +kernel

/-- An event record's write on module 0 with a TAG. -/
def evtWrite (tag : Nat) : EvtWrite := { tag := some tag, mdl := 0, addr := 0, data := [], done := false }

theorem wit_EventRecordsReachTheHost :
    let s := hostState (fun s => { s with evt := { s.evt with
      en := true, flight := [evtWrite 3, evtWrite 4], lastIrq := some 5, headMoved := true, holdoff := 100 } })
    let q := htlReq 4 0 4 0 []
    moduleUp s q.mdl.val = true ∧ moduleUp s 1 = true ∧ htlType q = 4 ∧ s.evt.flight = [evtWrite 3, evtWrite 4]
      ∧ (evtWrite 3).tag = some (htlTag q) ∧ (evtWrite 3).done = false ∧ (evtWrite 3).mdl = q.mdl.val
      ∧ (∀ v ∈ [evtWrite 4], v.tag ≠ (evtWrite 3).tag ∧ v.tag ≠ none ∧ v.done = false)
      ∧ State.reset.evt.lastIrq = none ∧ s.evt.lastIrq = some 5 ∧ s.time < 5 + s.evt.holdoff.toNat ∧ s.evt.headMoved = true
      ∧ s.host.ucieUp.length = 2 ∧ State.reset.host.ucieUp = [false, false] ∧ s.pwr.awake.testBit 1 = true := by
  decide +kernel

/-- The host asks for memory with slot 0 in its job, which it has selected with a view and a base. -/
def apState (view base : Nat) (f : Slot → Slot) : State :=
  let s := world true 0 f
  { s with host := { s.host with ucieUp := [true, true], apView := BitVec.ofNat 4 view, apBase := BitVec.ofNat 48 base } }

theorem wit_ApertureAccesses :
    (∀ q ∈ [readReq 0x1000000 256, writeReq 0x4FFFFFC 4 7, htlReq 3 0x1000000 8 1 (leBytes 8 7), htlReq 3 0x1000000 8 2 (leBytes 8 7)],
      htlSound q = true ∧ inAperture (htlOff q) = true ∧ moduleUp (apState 1 0 id) q.mdl.val = true)
    ∧ openCount (apState 0 0 id) ≠ 0 ∧ (getSlot (hostState id) 0).st ≠ .open_ ∧ (getSlot (apState 1 0 id) 0).st = .open_
    ∧ stepArmed (getSlot (apState 1 0 id) 0) = true
    ∧ (let s := hostState (fun s => { s with hbm := { s.hbm with bad := [4096] } })
       s.host.apView.toNat = 0 ∧ openCount s = 0 ∧ (getChan s (s.host.apBase.toNat % 1024)).st = 0
         ∧ 0 + 256 ≤ stateEnd s (s.host.apBase.toNat % 1024 / 8)
         ∧ (∀ b ∈ s.hbm.bad, b + 32 ≤ memKey (s.host.apBase.toNat % 1024) 0 ∨ memKey (s.host.apBase.toNat % 1024) 0 + 256 ≤ b))
    ∧ (∀ r, r < 4 → bitsOf (apState 5 ((5 + r) * 2 ^ 40) id).host.apBase.toNat 40 8 = 5 + r
        ∧ (apState 5 ((5 + r) * 2 ^ 40) id).host.apBase.toNat % 2 ^ 40 = 0)
    ∧ (∀ r, r < 4 → 8 ≤ regionSize (getSlot (apState 5 (5 * 2 ^ 40) (fun sl => { sl with shard := { sl.shard with
        hostReg := [1, 1, 1, 1] } })) 0).shard r)
    ∧ regionUnordered (getSlot (apState 5 (5 * 2 ^ 40) id) 0).shard 0 = false := by
  decide +kernel

/-! ### Power -/

/-- Right after reset with the always-on block changed. -/
def pwrState (f : Power → Power) : State := { State.reset with pwr := f State.reset.pwr }

theorem wit_SupplyLossIsRiddenThrough :
    (let p := (pwrState (fun p => { p with inputState := 0 })).pwr
     p.inputState = 0 ∧ p.switchOpen = false)
    ∧ (let s := pwrState (fun p => { p with inputState := 1, rideStart := 0 })
       s.pwr.inputState ≠ 0 ∧ s.pwr.inputState = 1 ∧ s.pwr.switchOpen = false ∧ s.time < s.pwr.rideStart + 2000000)
    ∧ (let s := { pwrState (fun p => { p with inputState := 1, rideStart := 0 }) with time := 2000000 }
       s.pwr.rideStart + 2000000 ≤ s.time)
    ∧ (let s := { pwrState (fun p => { p with inputState := 1, rideStart := 0, switchOpen := true }) with time := 1999999 }
       s.pwr.switchOpen = true ∧ s.pwr.inputState = 1 ∧ s.time < s.pwr.rideStart + 2000000)
    ∧ (pwrState (fun p => { p with inputState := 2 })).pwr.inputState = 2 := by
  decide

theorem wit_ResetsKeeperAndReferences :
    (State.reset.pwr.gaspActive = false ∧ State.reset.pwr.phase ≠ 0)
    ∧ (pwrState (fun p => { p with gaspActive := true })).pwr.gaspActive = true
    ∧ (pwrState (fun p => { p with phase := 0 })).pwr.phase = 0
    ∧ (let s := pwrState (fun p => { p with phase := 8 })
       gorirgenRuns s = true ∧ s.pwr.gaspActive = false ∧ s.host.keeperDown = false ∧ s.host.standbyActive = false ∧ s.host.fatal = false)
    ∧ (let s := pwrState (fun p => { p with phase := 8, ref25 := true, ref156 := true })
       let s := { s with host := { s.host with standbyActive := true } }
       gorirgenRuns s = true ∧ s.host.standbyActive = true ∧ s.host.fatal = false ∧ s.pwr.ref25 = true ∧ s.pwr.ref156 = true) := by
  decide

/-- An image whose digests agree with the measurement: only its hash of an empty body is there. -/
def agreeing : Bytes := List.replicate 28 0 ++ sha384 []

/-- Before a takeover, with an image. -/
def takeState (image : Bytes) (m1 : BitVec 384) : State :=
  { State.reset with host := { State.reset.host with keeperDown := true }, sec := { State.reset.sec with image := image, meas := [0, m1, 0, 0] } }

theorem wit_ResetsKeeperAndReferences_takeover :
    (takeState agreeing (shaDigest agreeing)).host.keeperDown = true ∧ (takeState agreeing (shaDigest agreeing)).pwr.gaspActive = false
      ∧ imageAgrees (takeState agreeing (shaDigest agreeing)).sec = true
      ∧ imageAgrees (takeState agreeing 0).sec = false := by
  decide +kernel

theorem wit_PowerManagementAndTemperature :
    (max (thermalLevel 949 950 1000 1050 1100) (thermalLevel 0 850 950 1000 1050) < 4
      ∧ max (thermalLevel 949 950 1000 1050 1100) (thermalLevel 1050 850 950 1000 1050) = 4 ∧ State.reset.host.fatal = false)
    ∧ (let p := (pwrState (fun p => { p with inputState := 1, powDepth := 1, belowRun := 3, nextCaps := some (1000, 2000, 4) })).pwr
       p.inputState = 1 ∧ 0 < p.powDepth ∧ 3 ≤ p.belowRun ∧ p.nextCaps = some (1000, 2000, 4))
    ∧ (let p := (pwrState (fun p => { p with thDepth := 21 })).pwr
       0 < p.thDepth ∧ p.throttling = false ∧ p.nextCaps = none)
    ∧ (let s := pwrState (fun p => { p with awake := 2 ^ 50 - 1, sleepMask := 2 ^ 50 - 4, phase := 8 })
       isAwake s 2 = true ∧ s.pwr.sleepMask.testBit 2 = true ∧ domainQuiet s 2 = true ∧ isAwake s 49 = true
         ∧ s.pwr.sleepMask.testBit 49 = true ∧ domainQuiet s 49 = true ∧ domainQuiet s 0 = false)
    ∧ (let s := { world true 0 id with pwr := { State.reset.pwr with awake := 3, phase := 8 } }
       isAwake s 2 = false ∧ (getDomain s 2).waking = false ∧ wakesRun s = true ∧ domainQuiet s 2 = false
         ∧ isAwake s 49 = false ∧ (getDomain s 49).waking = false ∧ (getDomain s 49).droop = false
         ∧ 130 ≤ (getDomain s 49).setpoint ∧ (getDomain s 49).setpoint ≤ 180)
    ∧ (∀ n, n < 3 →
       let s := modDomain State.reset 5 (fun x => { x with waking := true, attempts := n, droop := true, lift := true })
       (getDomain s 5).waking = true ∧ s.time ≤ (getDomain s 5).wakeStart + 50000 ∧ ((getDomain s 5).attempts < 2 ↔ n ≠ 2)
         ∧ (getDomain s 5).droop = true ∧ (getDomain s 5).lift = true ∧ s.host.fatal = false) := by
  unfold isAwake; decide +kernel

/-! ### Start-up and security -/

/-- An image of 4096 bytes without a body, signed by root key 0. -/
def image : Bytes :=
  leBytes 2 1 ++ List.replicate 26 0 ++ sha384 [] ++ List.replicate 4020 0

set_option synthInstance.maxSize 1000 in
theorem wit_StartUpAndBoot :
    (∀ n ∈ [1, 2, 3, 4, 5, 6, 7, 8], (pwrState (fun p => { p with phase := BitVec.ofNat 4 n })).pwr.phase.toNat = n)
    ∧ (pwrState (fun p => { p with phase := 4, flashRecord := some 7 })).pwr.flashRecord = some 7 ∧ State.reset.pwr.flashRecord = none
    ∧ State.reset.pwr.bootSel = false
    ∧ bootCodeOf State.reset [0x02, 0x00] = 1
    ∧ (1 : Nat) > leAt image 12 4 ∧ leAt image 16 1 < 4
    ∧ (1 : BitVec 4).getLsbD (leAt image 16 1) = true
    ∧ (let s := { pwrState (fun p => { p with phase := 6 }) with timeRec := { timeRecInit with st := 3 } }
       s.pwr.phase = 6 ∧ s.timeRec.st = 3)
    ∧ (let s := { pwrState (fun p => { p with phase := 7 }) with timeRec := { timeRecInit with st := 1 } }
       s.pwr.phase = 7 ∧ s.timeRec.st = 1)
    ∧ (let x : Security := { State.reset.sec with svn := 3, keyIndex := 1, fuseRequest := some (3, 1) }
       x.fuseRequest = some (3, 1) ∧ 3 ≤ x.svn ∧ 1 < 2 ^ x.keyIndex.toNat ∧ ¬ 4 ≤ x.svn) := by
  decide +kernel

theorem image_checks : (bootChecks State.reset.sec image).map Prod.fst = [1, 2, 3, 4, 5, 6, 7, 8, 9] := rfl

/-- The image boots when the fuses hold its key and the signatures verify, which Config leaves free. -/
theorem wit_StartUpAndBoot_boots (h4 : (shaDigest (bytesAt image 76 156) == Config.keyHash 0) = true)
    (h6 : Config.ecdsaVerify (bytesAt image 76 97) (signedDigest image) (bytesAt image 232 96) = true)
    (h7 : Config.lmsVerify (bytesAt image 176 56) (signedDigest image) (bytesAt image 328 1932) = true) :
    bootCodeOf State.reset image = 0 := by
  have hk : leAt image 16 1 = 0 := by decide +kernel
  have h1 : (leAt image 0 2 == 1 && zeroAt image 2 2 && zeroAt image 17 3 && zeroAt image 173 3 && zeroAt image 2260 1836) = true := by
    decide +kernel
  have h2 : (decide (4096 + bodyLength image ≤ 2 ^ 24) && decide (leAt image 20 4 + leAt image 24 4 ≤ bodyLength image)) = true := by
    decide +kernel
  have h3 : (decide (0 < 4) && !bitOf State.reset.sec.revoked.toNat 0) = true := by decide +kernel
  have h5 : (sha384 (bodyOf image) == bytesAt image 28 48) = true := by decide +kernel
  have h8 : decide (State.reset.sec.minSvn ≤ leAt image 12 4) = true := by decide +kernel
  have h9 : (image.length == 4096 + bodyLength image) = true := by decide +kernel
  have hb : State.reset.pwr.bootSel = false := rfl
  unfold bootCodeOf bootChecks
  simp only [hk, hb, Bool.false_and, if_false, Bool.false_eq_true, List.find?_cons, h1, h2, h3, h4, h5, h6, h7, h8, h9, Bool.not_true,
    List.find?_nil, Option.map_none, Option.getD_none]

/-- A device that is READY. -/
def ready : State := pwrState (fun p => { p with phase := 8 })

/-- The command bytes of a mailbox: opcode, token 9, and numbers at offsets. -/
def cmdBytes (op : Nat) (args : List (Nat × Nat × Nat)) : Bytes :=
  args.foldl (fun b a => splice b a.1 (leBytes a.2.1 a.2.2)) (leBytes 1 op ++ [0, 0, 0, 9, 0, 0, 0] ++ List.replicate 56 0)

/-- A state in which mailbox m has a command and is alone in the order. -/
def ordered (s : State) (m : Nat) (c : Bytes) : State :=
  { modMbx s m (fun b => { b with cmd := BitVec.ofNat 512 (leNat c), own := true, st := .queued }) with ownOrder := [m] }

/-- A good buffer of n bytes of zeros. -/
def bufOf (n : Nat) : HostBuf := ⟨true, List.replicate n 0⟩

theorem wit_KeysHeldCommandsAndManagement :
    (let c := cmdBytes 0x14 [(8, 4, 77), (40, 8, 4096), (48, 4, 65536)]
     let s := ordered ready 0 c
     Commanded s 0 c 0x14 ∧ unusedArgsZero c [(8, 44)] = true ∧ bufSound c 40 (reportLength s) (bufOf 1) = true ∧ s.pwr.gaspActive = false
       ∧ s.sec.nextLeaf.toNat < 2 ^ 20 ∧ s.sec.commitFailed = false ∧ s.sec.counter.toNat ≤ s.sec.nextLeaf.toNat
       ∧ (0 : Nat) < ({ s.sec with counter := 64 }).counter.toNat)
    ∧ (let s := pwrState (fun p => { p with phase := 8 })
       gorirgenRuns s = true ∧ s.pwr.gaspActive = false ∧ s.sec.commitOpen = false ∧ s.sec.counter.toNat - s.sec.nextLeaf.toNat ≤ 16
         ∧ s.sec.counter.toNat < 2 ^ 20)
    ∧ ({ State.reset.sec with commitOpen := true, commitTo := 64 }).commitTo = (64 : W32)
    ∧ (let held (s : State) (m op : Nat) : State := modMbx s m (fun b => { b with st := .held, cmd := BitVec.ofNat 512 op })
       (getMbx (held State.reset 0 0x14) 0).st = .held ∧ opOf (slotBytes (getMbx (held State.reset 0 0x14) 0).cmd) = 0x14
         ∧ (getMbx (held State.reset 64 0x03) 64).st = .held ∧ opOf (slotBytes (getMbx (held State.reset 64 0x03) 64).cmd) = 0x03
         ∧ (getSlot (slot0 (fun sl => { sl with step := { sl.step with st := .sealed } })) 0).step.st = .sealed
         ∧ State.reset.host.keeperDown = false ∧ State.reset.host.fatal = false
         ∧ (getSlot State.reset 63).step.st ≠ .sealed)
    ∧ State.reset.pwr.phase ≠ 0 ∧ (pwrState (fun p => { p with phase := 8 })).pwr.phase ≠ 1
    ∧ 1 < (pwrState (fun p => { p with phase := 8 })).pwr.phase.toNat := by
  unfold Commanded; decide +kernel

/-! ### Mailbox commands -/

theorem wit_MailboxCommandsAreRefused :
    nextMbx ready = none
    ∧ (∃ row ∈ mbxRows,
       (let s := ordered ready 0 (cmdBytes 0x02 [])
        nextMbx s = some 0 ∧ row.accept (slotBytes (getMbx s 0).cmd) = false)
       ∧ (let s := ordered ready 1 (cmdBytes 0x01 [])
          nextMbx s = some 1 ∧ row.accept (slotBytes (getMbx s 1).cmd) = true ∧ gateStatus s 1 0x01 = some 0x02)
       ∧ (let s := ordered ready 0 (cmdBytes 0x01 [(9, 1, 1)])
          row.accept (slotBytes (getMbx s 0).cmd) = true ∧ gateStatus s 0 0x01 = none
            ∧ unusedArgsZero (slotBytes (getMbx s 0).cmd) row.used = false))
    ∧ (ready.host.fatal = false ∧ (getSlot ready 0).st ≠ .open_ ∧ (getSlot (dryFit id) 0).st = .open_) :=
  ⟨by decide +kernel, ⟨_, List.Mem.head _, by decide +kernel⟩, by decide +kernel⟩

set_option synthInstance.maxSize 1000 in
theorem wit_SystemCommands :
    (∀ a ∈ [0, 2], let c := cmdBytes 0x01 [(8, 1, a)]
      Ordered (ordered ready 0 c) 0 c 0x01 [(8, 1)] ∧ leAt c 8 1 = a)
    ∧ (let c := cmdBytes 0x01 [(8, 1, 1), (16, 8, 4096), (24, 4, 32768)]
       Ordered (ordered ready 0 c) 0 c 0x01 [(8, 1), (16, 12)] ∧ leAt c 8 1 = 1 ∧ bufSound c 16 32768 (bufOf 0) = true
         ∧ bufSound c 16 32768 ⟨false, []⟩ = false)
    ∧ (let c := cmdBytes 0x13 []
       Ordered (ordered ready 0 c) 0 c 0x13 [] ∧ leAt c 8 1 % 2 = 0)
    ∧ (let c := cmdBytes 0x13 [(8, 1, 1), (10, 2, 1000), (12, 2, 5000), (14, 2, 200), (16, 8, 2 ^ 50 - 4)]
       Ordered (ordered ready 0 c) 0 c 0x13 [(8, 1), (10, 14)] ∧ leAt c 8 1 = 1 ∧ leAt c 10 2 = 1000 ∧ leAt c 12 2 = 5000
         ∧ leAt c 14 2 = 200 ∧ leAt c 16 8 = 2 ^ 50 - 4 ∧ (2 ^ 50 - 4) % 4 = 0)
    ∧ (let c := cmdBytes 0x13 [(8, 1, 1)]
       Ordered (ordered ready 0 c) 0 c 0x13 [(8, 1), (10, 14)] ∧ leAt c 8 1 = 1 ∧ ¬ 1000 ≤ leAt c 10 2)
    ∧ (∀ size ∈ [0, 20, 34],
       let c := cmdBytes 0x11 [(8, 1, size), (9, 1, 1), (10, 1, 1), (16, 8, 4096), (24, 4, 128)]
       let buf : HostBuf := ⟨true, List.replicate 12 0 ++ [1, 0, 0]⟩
       let f := BitVec.ofNat 256 (leAt (fitBytes 128 buf.bytes) 0 32)
       Ordered (ordered ready 0 c) 0 c 0x11 [(8, 3), (16, 12)] ∧ leAt c 8 1 = size ∧ leAt c 9 1 = 1 ∧ leAt c 10 1 = 1
         ∧ bufSound c 16 128 buf = true ∧ filterBad f = false
         ∧ spaceUsed ready - ringSpace ready.trc.sizeLog2 + ringSpace size ≤ 246 * 2 ^ 30
         ∧ bitsOf (BitVec.ofNat 256 (leAt (fitBytes 128 (bufOf 0).bytes) 0 32)).toNat 96 24 = 0)
    ∧ (let c := cmdBytes 0x11 []
       Ordered (ordered ready 0 c) 0 c 0x11 [(8, 3), (16, 12)] ∧ leAt c 10 1 = 0 ∧ leAt c 16 12 = 0) := by
  unfold Ordered Commanded; decide +kernel

/-- A LINK_CONFIG of a form and index with flags and a buffer of n bytes. -/
def linkCfg (form flags index n : Nat) : Bytes :=
  cmdBytes 0x12 ([(8, 1, form), (9, 1, flags), (10, 2, index)] ++ if n = 0 then [] else [(16, 8, 4096), (24, 4, n)])

/-- The READY device with the fabric carved as a DEVICE block says. -/
def recarved (b : Bytes) : State :=
  let f := ready.fab
  { ready with fab := { f with accArea := leAt b 2 1, pools := devicePools b, stats := tmap f.stats (fun _ q => { q with low := none }) } }

/-- A DEVICE block: device 3, the areas of a carving, and flags. -/
def deviceBlock (area p0 flags : Nat) : HostBuf :=
  ⟨true, leBytes 2 3 ++ leBytes 2 area ++ leBytes 2 p0 ++ leBytes 2 128 ++ leBytes 2 64 ++ leBytes 2 16 ++ leBytes 4 flags ++ leBytes 8 5⟩

/-- A PORT block of an enabled member or trunk port of one lane. -/
def portBlock (trunk : Bool) : HostBuf :=
  ⟨true, [if trunk then 3 else 1, 0, 2, 16, 16, 16, 8, 0] ++ List.replicate 16 0
    ++ (List.replicate 5 (leBytes 8 (1 * 2 ^ 16 + 4096 * 2 ^ 32 + 1 * 2 ^ 48))).flatten⟩

set_option synthInstance.maxSize 1000 in
theorem wit_LinkConfigSetsAndReads_sets :
    (let c := linkCfg 1 0 0 24
     Ordered (ordered ready 0 c) 0 c 0x12 [(8, 4), (16, 12)] ∧ leAt c 8 1 = 1 ∧ leAt c 9 1 = 0 ∧ leAt c 10 2 = 0
       ∧ (∀ e ∈ [(8, 1536, 0), (8, 1536, 3), (4, 1536, 1)], let buf := deviceBlock e.1 e.2.1 e.2.2
          let b := fitBytes 24 buf.bytes
          bufSound c 16 24 buf = true ∧ leAt b 3 1 = 0 ∧ leAt b 12 1 = e.2.2 ∧ leAt b 12 1 ≤ 3 ∧ leAt b 13 1 ≤ 7 ∧ leAt b 14 2 = 0
            ∧ openCount ready = 0 ∧ ready.time ≤ leAt b 16 8 ∧ carveOk (leAt b 2 1) (devicePools b) = true ∧ fabricBusy ready = false
            ∧ reservesFit (recarved b) = true)
       ∧ fabricBusy (ordered { world true 0 id with pwr := ready.pwr } 0 c) = true
       ∧ 4 ≠ (world true 0 id).fab.accArea ∧ 8 = ready.fab.accArea)
    ∧ (let c := linkCfg 4 0 7 0
       Ordered (ordered ready 0 c) 0 c 0x12 [(8, 4), (16, 12)] ∧ leAt c 8 1 = 4 ∧ leAt c 10 2 < 8 ∧ leAt c 16 12 = 0)
    ∧ (let c := linkCfg 2 0 511 64
       let q := fitBytes 64 (portBlock true).bytes
       Ordered (ordered ready 0 c) 0 c 0x12 [(8, 4), (16, 12)] ∧ leAt c 8 1 = 2 ∧ leAt c 10 2 = 511 ∧ bufSound c 16 64 (portBlock true) = true
         ∧ portBlockOk 511 q = true ∧ lanesClash ready 511 (portCfgOf q).width = false ∧ (getPort ready 511).up = false
         ∧ (portCfgOf q).enable = true ∧ portFits (modPort ready 511 (fun p => { p with cfg := portCfgOf q })) 511 = true
         ∧ (getPort (world true 0 id) 0).up = true ∧ relinks (getPort (world true 0 id) 0).cfg (portCfgOf q) = true
         ∧ portBlockOk 0 q = true ∧ lanesClash (world true 0 id) 0 (portCfgOf q).width = false)
    ∧ (let c := linkCfg 3 0 0 3
       let l : HostBuf := ⟨true, [3, 3, 3]⟩
       Ordered (ordered ready 0 c) 0 c 0x12 [(8, 4), (16, 12)] ∧ leAt c 8 1 = 3 ∧ bufSound c 16 3 l = true ∧ leAt (fitBytes 3 l.bytes) 1 1 = 3
         ∧ (getLane ready 0).loopback = 0 ∧ lanePortUp ready 0 = false ∧ lanePortUp (world true 0 id) 0 = true) := by
  unfold Ordered Commanded; decide +kernel

theorem wit_LinkConfigSetsAndReads_reads :
    (∀ flags ∈ [1, 3], ∀ e ∈ [(1, 0, 8208), (2, 511, 224), (3, 511, 32), (4, 7, 64)],
      let c := linkCfg e.1 flags e.2.1 e.2.2
      Ordered (ordered ready 0 c) 0 c 0x12 [(8, 4), (16, 12)] ∧ leAt c 8 1 = e.1 ∧ leAt c 9 1 = flags ∧ leAt c 10 2 = e.2.1
        ∧ bufSound c 16 e.2.2 (bufOf 0) = true)
    ∧ (let c := linkCfg 1 2 0 8208
       Ordered (ordered ready 0 c) 0 c 0x12 [(8, 4), (16, 12)] ∧ leAt c 9 1 = 2) := by
  unfold Ordered Commanded; decide +kernel

/-! ### Jobs -/

/-- A block of n bytes with numbers at offsets. -/
def block (n : Nat) (args : List (Nat × Nat × Nat)) : HostBuf :=
  ⟨true, args.foldl (fun b a => splice b a.1 (leBytes a.2.1 a.2.2)) (List.replicate n 0)⟩

/-- An open block of job 9 with its least fields. -/
def openBlk : HostBuf :=
  block 128 [(0, 2, 9), (3, 1, 2), (6, 1, 1), (7, 1, 1), (17, 1, 1), (24, 4, 1), (28, 4, 1)]

/-- A command of an opcode with arguments and a buffer of n bytes at offset 16. -/
def withBuf (op n : Nat) (args : List (Nat × Nat × Nat)) : Bytes := cmdBytes op (args ++ [(16, 8, 4096), (24, 4, n)])

/-- Slot 0 after reset in a state, beside a job 9 in slot 1 or not, and READY. -/
def jobState (st : SlotSt) (other : Bool) : State :=
  let s := modSlot ready 0 (fun sl => { sl with st := st })
  if other then modSlot s 1 (fun sl => { openSlot sl with ob := { sl.ob with jobId := 9 } }) else s

/-- An image of one word, END of a segment's mark 1, whose checks hold. -/
def progImage : Bytes :=
  let code := leBytes 8 0x55 ++ leBytes 8 1
  (block 64 [(4, 4, 1), (12, 4, 0xFFFFFFFF), (16, 8, (crc64 code).toNat)]).bytes ++ code

set_option synthInstance.maxSize 1000 in
set_option maxRecDepth 20000 in
theorem wit_JobsAndPrograms :
    (∀ flags ∈ [0, 1], let c := withBuf 0x02 128 [(8, 1, 0), (9, 1, flags)]
      Ordered (ordered ready 0 c) 0 c 0x02 [(8, 2), (16, 12)] ∧ leAt c 8 1 = 0 ∧ leAt c 9 1 = flags ∧ bufSound c 16 128 openBlk = true)
    ∧ (let b := fitBytes 128 openBlk.bytes
       openBlockOk b = true ∧ openBlockOk (fitBytes 128 []) = false ∧ openStatus ready (openBlockOf b) = none
         ∧ (getSlot ready 0).st = .free ∧ (getSlot (jobState .open_ false) 0).st = .open_
         ∧ (getSlot (jobState .draining false) 0).st = .draining ∧ (slotOfJob (jobState .free true) (leAt b 0 2)).isSome = true)
    ∧ (let c := cmdBytes 0x03 []
       (∀ st ∈ [StepSt.sealed, .dryFit, .none],
         let s := ordered (world true 0 (fun sl => { sl with step := { sl.step with st := st } })) 1 c
         Ordered s 1 c 0x03 [] ∧ (getSlot s 0).step.st = st))
    ∧ (let c := withBuf 0x09 80 [(8, 4, 2)]
       let buf : HostBuf := ⟨true, progImage⟩
       let b := fitBytes (bufLen c 16) buf.bytes
       let s := ordered (world true 0 (fun sl => { sl with ob := { sl.ob with cacheShare := 1 } })) 1 c
       Ordered s 1 c 0x09 [(8, 4), (16, 12)] ∧ 64 ≤ bufLen c 16 ∧ bufSound c 16 (bufLen c 16) buf = true ∧ imageHeaderOk b = true
         ∧ imageSound b (bufLen c 16) = true ∧ 8 * imageCode b ≤ 4096 * (getSlot s 0).ob.cacheShare
         ∧ 4096 * (getSlot (world true 0 id) 0).ob.cacheShare < 8 * imageCode b
         ∧ (getSlot s 0).progs.find? (fun v => v.num == 2) = none ∧ (getSlot s 0).progs.length < 8)
    ∧ (let buf : HostBuf := ⟨true, progImage.take 72⟩
       imageHeaderOk (fitBytes 80 buf.bytes) = true ∧ imageSound (fitBytes 80 buf.bytes) 80 = false)
    ∧ (let ps : List ProgVer := (List.range 8).map (fun n => ⟨n + 3, .inUse, [], [], [], none, 0, false⟩)
       ps.find? (fun v => v.num == 2) = none ∧ 8 ≤ ps.length ∧ (∀ v ∈ ps, v.st ≠ .ready ∧ v.st ≠ .retired)
         ∧ ((ps.find? (fun v => v.num == 3)).map (fun v => v.st)) = some .inUse)
    ∧ (∀ num ∈ [1, 2], let c := cmdBytes 0x0A [(8, 4, num)]
       let s := ordered (world true 0 id) 1 c
       Ordered s 1 c 0x0A [(8, 4)] ∧ leAt c 8 4 = num
         ∧ ((getSlot s 0).progs.find? (fun v => v.num == num)).isSome = decide (num = 1)) := by
  unfold Ordered Commanded; decide +kernel

/-- The buffer of a group command. -/
def groupBuf (v : GroupVer) : HostBuf := ⟨true, leBytes 128 v.entry.toNat ++ v.list.flatMap (fun w => leBytes 8 w.toNat)⟩

/-- What the buffer of a group command holds. -/
def bufVer (v : GroupVer) : GroupVer :=
  let bytes := fitBytes (128 + 8 * v.list.length) (groupBuf v).bytes
  ⟨BitVec.ofNat 1024 (leAt bytes 0 128), words64 v.list.length (bytes.drop 128)⟩

/-- A removal of group 1. -/
def noVer : GroupVer := ⟨BitVec.ofNat 1024 (2 ^ 512), []⟩

/-- The job with room for groups, with no group or with group 1, and its step armed or not. -/
def groupState (c : Bytes) (some_ armed : Bool) : State :=
  ordered (world true 0 (fun sl => { sl with
    ob := { sl.ob with memberListEntries := 64 }
    groups := if some_ then sl.groups else []
    step := { sl.step with st := if armed then .dryFit else .none } })) 1 c

set_option synthInstance.maxSize 1000 in
set_option maxRecDepth 20000 in
theorem wit_GroupsShardsAndTandems_groups :
    (∀ op ∈ [0x07, 0x08], let c := withBuf op 152 [(8, 2, 1), (12, 4, 3)]
      let s := groupState c (op == 0x08) true
      Ordered s 1 c op [(8, 2), (12, 4), (16, 12)] ∧ leAt c 8 2 = 1 ∧ leAt c 12 4 = 3
        ∧ bufSound c 16 (128 + 8 * leAt c 12 4) (groupBuf (ver true 0)) = true ∧ listOk s (bufVer (ver true 0)) = true
        ∧ (tget groupSetInit (getSlot s 0).groups 1).cur.isSome = (op == 0x08))
    ∧ geGroupId (bufVer (ver true 0)) = 1 ∧ geGroupId (bufVer noVer) = 1 ∧ geGroupId ⟨0, []⟩ ≠ 1
    ∧ listOk (groupState [] false true) ⟨0, []⟩ = false ∧ removalOk (bufVer noVer) = true ∧ removalOk (bufVer (ver true 0)) = false
    ∧ groupEntries (groupState [] false true) < 16384
    ∧ placeRun (groupState [] false true) 0 [] (bufVer (ver true 0)) = some 0
    ∧ (∀ armed ∈ [true, false], let s := groupState [] true armed
       let g := tget groupSetInit (getSlot s 0).groups 1
       stepArmed (getSlot s 0) = armed
         ∧ (placeRun s 0 (tset (getSlot s 0).groups 1 { g with staged := none }) (bufVer (ver true 0))).isSome = true) := by
  unfold Ordered Commanded; decide +kernel

/-- The map of one extent, of device 3. -/
def mapBuf : HostBuf := ⟨true, leBytes 4 0x10003⟩

set_option synthInstance.maxSize 1000 in
theorem wit_GroupsShardsAndTandems_shards :
    (let c := withBuf 0x04 4 [(8, 8, 1024)]
     Ordered (groupState c true false) 1 c 0x04 [(8, 8), (16, 12), (32, 4), (40, 20)] ∧ leAt c 8 8 = 1024 ∧ leAt c 40 8 % 1024 = 0
       ∧ (leAt c 8 8 + 2 ^ 20 - 1) / 2 ^ 20 = 1 ∧ bufSound c 16 4 mapBuf = true ∧ leAt (fitBytes 4 mapBuf.bytes) 0 4 < 2 ^ 17
       ∧ stepArmed (getSlot (groupState c true true) 0) = true
       ∧ (let s := groupState c true false
          let new := placedSlot s (getSlot s 0) c (mapEntries 1 (fitBytes 4 mapBuf.bytes))
          stepArmed (getSlot s 0) = false ∧ granulesFit s 0 new = true
            ∧ spaceUsed s - shardSpace (getSlot s 0).shard + shardSpace new.shard ≤ 246 * 2 ^ 30))
    ∧ (∀ armed ∈ [true, false], let c := cmdBytes 0x05 [(8, 2, 4), (10, 2, 4), (16, 4, 3584)]
       let s := groupState c true armed
       Ordered s 1 c 0x05 [(8, 4), (16, 4)] ∧ leAt c 8 2 ≠ selfId s ∧ leAt c 10 2 ≠ selfId s ∧ stepArmed (getSlot s 0) = armed
         ∧ granulesFit s 0 (boundSlot (getSlot s 0) (some 4) (some 4) 3584) = true ∧ shipRowsOthers s 0 + 3584 ≤ 3584)
    ∧ (let c := cmdBytes 0x05 [(8, 2, 3), (10, 2, 4)]
       let s := groupState c true false
       Ordered s 1 c 0x05 [(8, 4), (16, 4)] ∧ leAt c 8 2 = selfId s)
    ∧ (let c := cmdBytes 0x05 [(12, 1, 1)]
       let s := groupState c true false
       Ordered s 1 c 0x05 [(12, 1)] ∧ leAt c 12 1 = 1 ∧ stepArmed (getSlot s 0) = false
         ∧ granulesFit s 0 (boundSlot (getSlot s 0) none none 0) = true ∧ shipRowsOthers s 0 ≤ 3584)
    ∧ (let c := cmdBytes 0x06 [(8, 2, 5), (10, 2, 4)]
       let s := groupState c true false
       let s0 := ordered (world true 0 (fun sl => { sl with shard := { sl.shard with map := [0x10004, 0x10004] } })) 1 c
       Ordered s 1 c 0x06 [(8, 4)] ∧ leAt c 8 2 ≠ selfId s ∧ leAt c 10 2 ≠ selfId s ∧ ownedChunks (getSlot s 0) (selfId s) ≠ []
         ∧ Ordered s0 1 c 0x06 [(8, 4)] ∧ ownedChunks (getSlot s0 0) (selfId s0) = [])
    ∧ (let c := cmdBytes 0x06 [(8, 2, 5), (10, 2, 3)]
       let s := groupState c true false
       Ordered s 1 c 0x06 [(8, 4)] ∧ leAt c 10 2 = selfId s) := by
  unfold Ordered Commanded; decide +kernel

/-! ### Step commands -/

/-- The job with its step in a state, its program having a mirror entry, before a mailbox command. -/
def stepState (c : Bytes) (st : StepSt) (f : Slot → Slot) : State :=
  ordered (world true 0 (fun sl => f { sl with
    progs := sl.progs.map (fun v => { v with mirror := some 0 }), step := { sl.step with st := st }, groups := sl.groups
    ob := { sl.ob with rxQuota := [8192, 8192, 8192, 8192] } })) 1 c

/-- STEP_ARM of a step, with flags and one descriptor or none. -/
def armCmd (n flags : Nat) (d : Option (BitVec 256)) : Bytes :=
  cmdBytes 0x0B ([(8, 8, n), (16, 1, flags)] ++ match d with
    | none => []
    | some d => [(18, 2, 1), (24, 32, d.toNat)])

set_option synthInstance.maxSize 1000 in
set_option maxRecDepth 20000 in
theorem wit_StepsAreArmedReadAndRolledBack_arm :
    (∀ n ∈ [5, 6], let c := armCmd n 0 none
      ∀ st ∈ [StepSt.none, .dryFit, .sealed, .rollingBack, .glued, .rolledBack],
        let s := stepState c st id
        Ordered s 1 c 0x0B [(8, 56)] ∧ armArgsOk (getSlot s 0).step c = true ∧ leAt c 8 8 = n ∧ bitOf (leAt c 16 1) 1 = false
          ∧ leAt c 18 2 = 0 ∧ (getSlot s 0).step.st = st ∧ (getSlot s 0).step.num = 5 ∧ (getSlot s 0).step.last = false
          ∧ (getSlot s 0).cadHeld = [] ∧ (getSlot s 0).tan.heldStates = []
          ∧ (match armVersion (getSlot s 0) true with
            | none => false
            | some v => slotStatus s { getSlot s 0 with groups := boundGroups (getSlot s 0).groups } (some v) == none) = true)
    ∧ (let c := cmdBytes 0x0B [(17, 1, 1)]
       let s := stepState c .none id
       Ordered s 1 c 0x0B [(8, 56)] ∧ armArgsOk (getSlot s 0).step c = false)
    ∧ (∀ mode ∈ [2, 3], let c := armCmd 5 1 (some (desc mode 0))
       let s := stepState c .dryFit id
       Ordered s 1 c 0x0B [(8, 56)] ∧ armArgsOk (getSlot s 0).step c = true ∧ bitOf (leAt c 16 1) 1 = false ∧ leAt c 18 2 = 1
         ∧ BitVec.ofNat 256 (leAt c 24 32) = desc mode 0 ∧ (armStatus s 0 (desc mode 0)).isSome = (mode == 3)
         ∧ (mode = 2 → bdMode (desc mode 0) = 2)
         ∧ (match armVersion (getSlot s 0) false with
            | none => false
            | some v => slotStatus s (getSlot s 0) (some v) == none) = true) := by
  unfold Ordered Commanded; decide +kernel

set_option synthInstance.maxSize 1000 in
theorem wit_StepsAreArmedReadAndRolledBack_status :
    (∀ a ∈ [0, 1, 2], let c := cmdBytes 0x0C [(8, 8, 4096), (16, 4, 4608 + 64 + 16), (20, 1, a)]
      let s := stepState c .dryFit (fun sl => { sl with buckets := [(6, bucketOf (desc 2 0) (chunkInit .open_))] })
      Ordered s 1 c 0x0C [(8, 13)] ∧ leAt c 20 1 = a ∧ bufSound c 8 4608 (bufOf 0) = true ∧ bufSound c 8 4608 ⟨false, []⟩ = false
        ∧ min (getSlot s 0).buckets.length ((bufLen c 8 - 4608) / 64) = 1)
    ∧ (∀ a ∈ [0, 1, 2, 3], let c := cmdBytes 0x0D [(8, 8, 5), (17, 1, a)]
       ∀ st ∈ [StepSt.dryFit, .sealed, .rollingBack, .glued, .rolledBack],
         let s := stepState c st id
         Ordered s 1 c 0x0D [(8, 10)] ∧ leAt c 17 1 = a ∧ (getSlot s 0).step.st = st ∧ (getSlot s 0).step.num = leAt c 8 8
           ∧ (getSlot s 0).step.attempt = leAt c 16 1)
    ∧ (let c := cmdBytes 0x0D [(8, 8, 4)]
       let s := stepState c .dryFit id
       Ordered s 1 c 0x0D [(8, 10)] ∧ (getSlot s 0).step.num ≠ leAt c 8 8) := by
  unfold Ordered Commanded; decide +kernel

set_option synthInstance.maxSize 1000 in
theorem wit_StepsAreArmedReadAndRolledBack_health :
    (let c := cmdBytes 0x0E [(8, 8, 4096), (16, 4, 65536)]
     let s := stepState c .dryFit id
     Ordered s 1 c 0x0E [(8, 12)] ∧ scoredSubjects s (getSlot s 0) ≠ []
       ∧ bufSound c 8 (16 * (scoredSubjects s (getSlot s 0)).length) (bufOf 0) = true
       ∧ bufSound c 8 (16 * (scoredSubjects s (getSlot s 0)).length) ⟨false, []⟩ = false)
    ∧ (let c := cmdBytes 0x0F [(8, 2, 1), (12, 4, 1000)]
       let s := stepState c .dryFit id
       let h := brakeWanted (getSlot s 0).health c
       Ordered s 1 c 0x0F [(8, 2), (12, 18), (32, 16)] ∧ brakeUnusedZero c = true ∧ brakeInRange h = true
         ∧ h.members.spares ≤ (getSlot s 0).health.members.spares ∧ h.devices.spares ≤ (getSlot s 0).health.devices.spares)
    ∧ (let c := cmdBytes 0x0F [(8, 2, 1), (12, 4, 1001)]
       let s := stepState c .dryFit id
       Ordered s 1 c 0x0F [(8, 2), (12, 18), (32, 16)] ∧ brakeInRange (brakeWanted (getSlot s 0).health c) = false)
    ∧ (∀ i ∈ [86400, 86401], let c := cmdBytes 0x10 [(8, 4, i), (12, 1, 15)]
       Ordered (stepState c .dryFit id) 1 c 0x10 [(8, 5), (16, 8)] ∧ leAt c 8 4 = i ∧ leAt c 12 1 = 15) := by
  unfold Ordered Commanded; decide +kernel

/-! ### Frames whose payload is too long to check byte by byte -/

/-- What admission leaves of a state: the frame's port, header, slot and payload length decide it. -/
def admittedTo (s : State) (p : Nat) (hdr : BitVec 512) (i n : Nat) : State :=
  let h := hdrDecode hdr
  let s1 := modCls s p h.cls (fun k => { k with framesRx := inc32 k.framesRx, marksRx := if h.mark then inc32 k.marksRx else k.marksRx })
  let s2 := spendHop (advanceSeq s1 p) p h.cls (unitsOf n)
  let s3 := if h.cls = 3 then s2 else chargeChain s2 i (portSource s1 p) h.cls (unitsOf n)
  traceFrame s3 ⟨p, false, hdr, 64 + n, none⟩

/-- The checks of a frame but for its FCS and payload. -/
def passes (typ : Nat) (s : State) (p : Nat) (hdr : BitVec 512) (i n : Nat) : Bool :=
  let h := hdrDecode hdr
  let q := getPort s p
  let s1 := modCls s p h.cls (fun k => { k with framesRx := inc32 k.framesRx, marksRx := if h.mark then inc32 k.marksRx else k.marksRx })
  h.typ == typ && q.up && hcrcOk hdr && (seqCheck q.rx.expSeq h.seq == .expected) && (protocolDetail h n).isNone
    && (addrCheck s p h == .good) && creditCheck q h (unitsOf n) && slotOfJob s1 h.job == some i
    && h.gen == (getSlot s1 i).gen && (getSlot s1 i).st != .draining && !portExpelled s1 i p
    && !(windowed h.cls && windowOf (getSlot s1 i) h.cls < tget 0 (getSlot s1 i).winRx (winKey (portSource s1 p) h.cls) + unitsOf n)
    && !(q.dropSlots.any (fun e => e.1 == i))

theorem admitted_of_passes (typ : Nat) (s : State) (rx : RxFrame) (i : Nat) (hb : rx.hdrBad = false) (pb : rx.payBad = false)
    (hf : rx.fcs = fcsOf rx.payload) (hp : passes typ s rx.port.val rx.hdr i rx.payload.length = true)
    (hg : ∀ sl, payloadGood sl (hdrDecode rx.hdr) rx.payload = true) :
    Admitted typ s rx (hdrDecode rx.hdr) i (admittedTo s rx.port.val rx.hdr i rx.payload.length) := by
  simp only [passes, Bool.and_eq_true, Bool.not_eq_true', beq_iff_eq, bne_iff_ne, Option.isNone_iff_eq_none] at hp
  obtain ⟨⟨⟨⟨⟨⟨⟨⟨⟨⟨⟨⟨h1, h2⟩, h3⟩, h4⟩, h5⟩, h6⟩, h7⟩, h8⟩, h9⟩, h10⟩, h11⟩, h12⟩, h13⟩ := hp
  have hh : headCheck s rx = (some (hdrDecode rx.hdr), s) := by
    simp [headCheck, h2, h3, hb, h4, h5, h6]
  have hx : bodyCheck s rx (hdrDecode rx.hdr) = (some i, admittedTo s rx.port.val rx.hdr i rx.payload.length) := by
    simp only [bodyCheck, h7, h8, h11, h12, h13, pb, hf, hg, Bool.not_true, Bool.false_eq_true, if_false, bne_self_eq_false]
    simp only [← h9, bne_self_eq_false, Bool.false_or, beq_eq_false_iff_ne.mpr h10, Bool.false_eq_true, if_false]
    rfl
  simp [Admitted, admitFrame, h1, hh, hx]

/-- A chunk image or row of zeros. -/
def zeros (n : Nat) : Bytes := List.replicate n 0
theorem zeros_length (n : Nat) : (zeros n).length = n := List.length_replicate

/-- A frame from the trunk port with n bytes of zeros. -/
def zeroRx (h : Hdr) (n : Nat) : RxFrame := ⟨8, hdrEncode { h with len := n }, zeros n, fcsOf (zeros n), false, false⟩

theorem zeroRx_admitted (typ : Nat) (s : State) (h : Hdr) (n i : Nat) (ht : typ = 0x4 ∨ typ = 0x6)
    (hp : passes typ s 8 (hdrEncode { h with len := n }) i n = true) :
    Admitted typ s (zeroRx h n) (hdrDecode (hdrEncode { h with len := n })) i (admittedTo s 8 (hdrEncode { h with len := n }) i n) := by
  have hl : (zeroRx h n).payload.length = n := zeros_length n
  have hp' : passes typ s (zeroRx h n).port.val (zeroRx h n).hdr i (zeroRx h n).payload.length = true := by rw [hl]; exact hp
  have hty : (hdrDecode (zeroRx h n).hdr).typ = typ := by
    simp only [passes, Bool.and_eq_true, beq_iff_eq] at hp
    exact hp.1.1.1.1.1.1.1.1.1.1.1.1
  have hg : ∀ sl, payloadGood sl (hdrDecode (zeroRx h n).hdr) (zeroRx h n).payload = true := by
    intro sl
    unfold payloadGood
    rw [hty]
    rcases ht with rfl | rfl <;> simp [tContribute, tAccumulate]
  have := admitted_of_passes typ s (zeroRx h n) i rfl rfl rfl hp' hg
  rw [hl] at this
  exact this

/-! ### Delivery and buffers -/

/-- A GATHER of n chunks from chunk g in format 5 and a mode, from the member or over the trunk. -/
def gatherRx (trunk : Bool) (g n mode : Nat) : RxFrame :=
  frame (if trunk then 8 else 0)
    { classHdr trunk 3 0 with group := 1, format := 5, mode := mode, tag := 9, ts := 1024 * g + n * 2 ^ 44 } []

/-- A fetch entry of a chunk in format 5, mode 0. -/
def fetchOf (g : Nat) (st : FetchSt) (buf : Option Nat) : Fetch :=
  ⟨g, 5, 0, 1, st, 0, 0, buf, 0, [], 0, 0, 0, 0, false, none, 0⟩

/-- The job with fetch entries. -/
def fetchState (l : List Fetch) : State := world true 0 (fun sl => { sl with fetch := l })

set_option maxRecDepth 20000 in
theorem wit_DeliveriesAreServed_gather :
    (∀ trunk ∈ [true, false],
      let rx := gatherRx trunk 0 1 0
      let p := rx.port.val
      let h := hdrDecode rx.hdr
      let a := admitFrame tGather (fetchState []) rx
      let b := admitFrame tGather (fetchState [fetchOf 0 .filled (some 7)]) rx
      let c := admitFrame tGather (fetchState [fetchOf 0 .casting (some 7)]) rx
      a.1 = some (h, 0) ∧ (getPort (fetchState []) p).cfg.trunk = trunk ∧ gatherCheck a.2 (getSlot a.2 0) h p = none ∧ gatherChunks h = [0]
        ∧ findFetch (getSlot a.2 0) 0 h.format h.mode = none ∧ ownerOf (getSlot a.2 0) 0 = some (selfId a.2)
        ∧ b.1 = some (h, 0) ∧ gatherCheck b.2 (getSlot b.2 0) h p = none
        ∧ findFetch (getSlot b.2 0) 0 h.format h.mode = some (fetchOf 0 .filled (some 7)) ∧ TakesFrames b.2 p 0
        ∧ (getSlot b.2 0).health.corruptNext ≠ some p
        ∧ c.1 = some (h, 0) ∧ gatherCheck c.2 (getSlot c.2 0) h p = none
        ∧ findFetch (getSlot c.2 0) 0 h.format h.mode = some (fetchOf 0 .casting (some 7)))
    ∧ (let rx := gatherRx false 1024 1 0
       let h := hdrDecode rx.hdr
       let a := admitFrame tGather (fetchState []) rx
       a.1 = some (h, 0) ∧ gatherCheck a.2 (getSlot a.2 0) h 0 = none ∧ gatherChunks h = [1024]
         ∧ findFetch (getSlot a.2 0) 1024 h.format h.mode = none ∧ ownerOf (getSlot a.2 0) 1024 ≠ some (selfId a.2))
    ∧ (let rx := gatherRx false 0 1 5
       let h := hdrDecode rx.hdr
       let a := admitFrame tGather (fetchState []) rx
       a.1 = some (h, 0) ∧ gatherCheck a.2 (getSlot a.2 0) h 0 = some .badFormat) := by
  unfold TakesFrames; decide +kernel

/-- The header of a DELIVER of chunk 1024 in format 5. -/
def deliverHdr : Hdr := { classHdr true 4 3 with group := 1, format := 5, tag := 9, ts := 1024 }

/-- The job with fetch entries and grants for three units from device 4. -/
def deliverState (l : List Fetch) : State :=
  modPort (fetchState l) 8 (fun q => { q with rx := { q.rx with inUse := [0, 0, 0, 3, 0] } })

theorem deliver_admitted (l : List Fetch) (hp : passes 4 (deliverState l) 8 (hdrEncode { deliverHdr with len := 512 }) 0 512 = true) :
    Admitted tDeliver (deliverState l) (zeroRx deliverHdr 512) (hdrDecode (hdrEncode { deliverHdr with len := 512 })) 0
      (admittedTo (deliverState l) 8 (hdrEncode { deliverHdr with len := 512 }) 0 512) :=
  zeroRx_admitted 4 (deliverState l) deliverHdr 512 0 (.inl rfl) hp

theorem wit_DeliveriesAreServed_deliver :
    ∃ s1 s2 h, Admitted tDeliver (deliverState [fetchOf 1024 .fetching (some 7)]) (zeroRx deliverHdr 512) h 0 s1
      ∧ deliverCheck s1 (getSlot s1 0) h 8 = none
      ∧ Admitted tDeliver (deliverState []) (zeroRx deliverHdr 512) h 0 s2 ∧ deliverCheck s2 (getSlot s2 0) h 8 = some .deliverUnexpected :=
  ⟨_, _, _, deliver_admitted _ (by decide +kernel), by decide +kernel, deliver_admitted _ (by decide +kernel), by decide +kernel⟩

set_option synthInstance.maxSize 1000 in
theorem wit_DeliveriesAreServed_rest :
    (let e := fetchOf 0 .casting (some 7)
     (getSlot (fetchState [e]) 0).fetch.find? (fun e => e.st == .casting) = some e)
    ∧ (let e := { fetchOf 1024 .fetching (some 7) with resendAt := some 70 }
       let s := fetchState [e]
       (getSlot s 0).fetch.find? (fun e => e.resendAt.isSome && e.st == .fetching) = some e
         ∧ fetchParent (getSlot s 0) 1 1024 = some (ver true 0, 4) ∧ trunkPortFor (ver true 0) 4 1024 = some 8 ∧ TakesFrames s 8 0)
    ∧ (let e := fetchOf 0 .waitSource (some 7)
       let s := world true 0 (fun sl => { sl with fetch := [e], servable := [0] })
       firstGatherDue s (getSlot s 0) = some e ∧ (getSlot s 0).step.st = .dryFit)
    ∧ State.reset.fab.waiters = []
    ∧ (let s := { world true 0 id with fab := { State.reset.fab with waiters := [(.report 0, 70)] } }
       s.fab.waiters = [(.report 0, 70)] ∧ (getSlot s 0).pools.length = 5)
    ∧ (let e := fetchOf 0 .waitBuffer none
       let s := { world true 0 (fun sl => { sl with fetch := [e], servable := [0] }) with fab := { State.reset.fab with waiters := [(.fetch 0 0 5 0, 70)] } }
       let sl := getSlot s 0
       s.fab.waiters = [(.fetch 0 e.chunk e.format e.mode, 70)] ∧ findFetch sl e.chunk e.format e.mode = some e
         ∧ cachedUnits sl + poolSize (smallestPool ((chunkImageBytes e.format).getD 0)) / 256 ≤ sl.ob.castCache
         ∧ ownerOf sl e.chunk = some (selfId s) ∧ sl.servable.contains e.chunk = true
         ∧ (match (poolRequest s (tileOfChunk e.chunk) 0 3 ((chunkImageBytes e.format).getD 0) (ownerFetch 0)).1 with
            | .ok _ => true
            | .quota => false
            | .empty => false) = true) := by
  unfold TakesFrames; decide +kernel

theorem wit_BuffersAreReleasedOnce :
    ∀ d ∈ [(⟨false, 5, 0, 1, [], false, 512⟩ : BufDesc), ⟨true, 5, 0, 1, [], true, 512⟩, ⟨true, 5, 0, 1, [], false, 512⟩,
        ⟨true, 5, 0, 1, [9], false, 512⟩, ⟨true, 5, 0, 1, [5], true, 512⟩, ⟨true, 5, 0, 1, [5], false, 512⟩, ⟨true, 5, 0, 1, [5, 9], false, 512⟩],
      tget? ({ State.reset.fab with bufs := [(16384, d)] }).bufs 16384 = some d ∧ tget? State.reset.fab.bufs 16384 = none
        ∧ d.owner = 5 ∧ d.owner ≠ 6 ∧ d.cls < (getSlot (dryFit id) d.slot).pools.length ∧ 6 ∉ d.holders
        ∧ (d.shared = false ∨ d.holders = [] ∨ d.holders ≠ []) ∧ (5 ∈ d.holders → d.holders.erase 5 = [] ∨ d.holders.erase 5 = [9]) := by
  decide

/-! ### The tandem mirror -/

/-- The header of a STATE frame of a kind about a plane of a chunk. -/
def stHdr (k pl g : Nat) : Hdr := { classHdr true 6 4 with ts := k + 16 * pl + 256 * g }

/-- A STATE frame with a row of zeros. -/
def rowRx (k pl g : Nat) : RxFrame := zeroRx (stHdr k pl g) 4096

/-- Its header bits. -/
def rowBits (k pl g : Nat) : BitVec 512 := hdrEncode { stHdr k pl g with len := 4096 }

/-- The job whose shard is one whole extent of a device and one chunk, 1024, of another; its slot changed further. -/
def tanState (far near : Nat) (f : Slot → Slot) : State :=
  world true 0 (fun sl => f { sl with shard := { sl.shard with l := 1048576 + 1024, map := [BitVec.ofNat 32 (0x10000 + near), BitVec.ofNat 32 (0x10000 + far)] } })

/-- What admission leaves when a row has come. -/
def rowTo (s : State) (k pl g : Nat) : State := admittedTo s 8 (rowBits k pl g) 0 4096

theorem row_admitted (s : State) (k pl g : Nat) (hp : passes 6 s 8 (rowBits k pl g) 0 4096 = true) :
    Admitted tState s (rowRx k pl g) (hdrDecode (rowBits k pl g)) 0 (rowTo s k pl g) :=
  zeroRx_admitted 6 s (stHdr k pl g) 4096 0 (.inr rfl) hp

theorem row_length (k pl g : Nat) : (rowRx k pl g).payload.length = 4096 := zeros_length 4096

/-- The tandem and step records of the slot changed. -/
def tanWith (f : Tandem → Tandem) (g : StepRec → StepRec) (sl : Slot) : Slot := { sl with tan := f sl.tan, step := g sl.step }

theorem wit_StateFramesReachTheMirror_checks :
    (∀ k ∈ [0, 9], let s1 := rowTo (tanState 4 3 id) k 0 0
      passes 6 (tanState 4 3 id) 8 (rowBits k 0 0) 0 4096 = true ∧ hStateKind (hdrDecode (rowBits k 0 0)) = k
        ∧ (getPort s1 8).cfg.trunk = true ∧ (getSlot s1 0).step.st = .dryFit)
    ∧ (let s := tanState 4 3 (tanWith id (fun r => { r with st := .sealed }))
       let s1 := rowTo s 1 0 0
       let h := hdrDecode (rowBits 1 0 0)
       passes 6 s 8 (rowBits 1 0 0) 0 4096 = true ∧ stateMalformed s1 (getSlot s1 0) h 8 = true ∧ (getSlot s1 0).step.st ≠ .dryFit)
    ∧ (let s := tanState 4 3 (tanWith (fun t => { t with passRunning := true }) id)
       let s1 := rowTo s 1 0 1024
       let h := hdrDecode (rowBits 1 0 1024)
       passes 6 s 8 (rowBits 1 0 1024) 0 4096 = true ∧ stateMalformed s1 (getSlot s1 0) h 8 = false ∧ (getSlot s1 0).tan.passRunning = true)
    ∧ (∀ e ∈ [(4, Age.newer), (5, Age.same), (6, Age.older)], ∀ k ∈ [1, 2, 3],
       let s := tanState 4 3 (tanWith id (fun r => { r with num := e.1 }))
       let s1 := rowTo s k 0 1024
       let h := hdrDecode (rowBits k 0 1024)
       let sl := getSlot s1 0
       passes 6 s 8 (rowBits k 0 1024) 0 4096 = true ∧ stateMalformed s1 sl h 8 = false ∧ sl.tan.passRunning = false
         ∧ hStateKind h = k ∧ stateAge sl h = e.2 ∧ sl.step.partnerReport = none ∧ sl.step.st = .dryFit
         ∧ sl.tan.shipRows ≤ (sl.tan.shipped.filter (fun e => tileOfChunk e.1 == tileOfChunk (hStateChunk h))).length)
    ∧ (let s := tanState 4 3 (tanWith (fun t => { t with shipRows := 1 }) id)
       let s1 := rowTo s 3 1 1024
       let h := hdrDecode (rowBits 3 1 1024)
       let sl := getSlot s1 0
       passes 6 s 8 (rowBits 3 1 1024) 0 4096 = true ∧ stateMalformed s1 sl h 8 = false ∧ hStateKind h = 3 ∧ stateAge sl h = .same
         ∧ (sl.tan.shipped.filter (fun e => tileOfChunk e.1 == tileOfChunk (hStateChunk h))).length < sl.tan.shipRows) := by
  decide +kernel

/-- A PARTNER_REPORT of some chunks, rows and a gradient digest. -/
def reportRx (chunks rows digest : Nat) : RxFrame :=
  frame 8 (stHdr 7 0 0) (leBytes 4 chunks ++ leBytes 4 rows ++ leBytes 8 digest ++ leBytes 16 0)

/-- A SEGMENT_REPORT of some frames and a digest. -/
def segmentRx (n digest : Nat) : RxFrame := frame 8 (stHdr 8 0 0) (leBytes 8 n ++ leBytes 8 digest)

set_option maxRecDepth 20000 in
theorem wit_StateFramesReachTheMirror_partner :
    (∀ e ∈ [(4, Age.newer), (5, Age.same), (6, Age.older)],
      let s := tanState 4 3 (tanWith id (fun r => { r with num := e.1 }))
      let rx := reportRx 1 0 0
      let a := admitFrame tState s rx
      let h := hdrDecode rx.hdr
      let sl := getSlot a.2 0
      let w := leNat rx.payload
      a.1 = some (h, 0) ∧ hStateKind h = 7 ∧ stateMalformed a.2 sl h 8 = false ∧ stateAge sl h = e.2 ∧ sl.tan.mirrorOf = some 4
        ∧ sl.step.partnerReport = none ∧ sl.step.partnerAgreed = false ∧ sl.tan.pending.length < bitsOf w 0 32
        ∧ sl.tan.pendingEmem.length ≤ bitsOf w 32 32)
    ∧ (∀ digest ∈ [0, 1], let s := tanState 4 3 id
       let rx := reportRx 0 0 digest
       let a := admitFrame tState s rx
       let h := hdrDecode rx.hdr
       let sl := getSlot a.2 0
       let w := leNat rx.payload
       a.1 = some (h, 0) ∧ hStateKind h = 7 ∧ stateMalformed a.2 sl h 8 = false ∧ stateAge sl h = .same ∧ sl.tan.pending.length = bitsOf w 0 32
         ∧ sl.tan.pendingEmem.length = bitsOf w 32 32 ∧ (mirroredBuckets sl).all bucketDone = true
         ∧ (gradDigest a.2 sl 4 = BitVec.ofNat 64 (bitsOf w 64 64) ↔ digest = 0) ∧ sl.step.st = .dryFit)
    ∧ (let s := tanState 4 3 (tanWith (fun t => { t with pending := [(1024, 0)] }) id)
       let rx := reportRx 0 0 0
       let a := admitFrame tState s rx
       a.1 = some (hdrDecode rx.hdr, 0) ∧ bitsOf (leNat rx.payload) 0 32 < (getSlot a.2 0).tan.pending.length)
    ∧ (∀ n ∈ [0, 1], let w0 := BitVec.ofNat 256 n
       let s := tanState 4 3 (tanWith id (fun r => { r with partnerReport := some w0 }))
       let rx := reportRx 0 0 0
       let a := admitFrame tState s rx
       a.1 = some (hdrDecode rx.hdr, 0) ∧ (getSlot a.2 0).step.partnerReport = some w0 ∧ BitVec.ofNat 256 (leNat rx.payload) = 0) := by
  decide +kernel

/-- The step's ring port 8 changed. -/
def ringState (f : SegPort → SegPort) : State := tanState 4 3 (tanWith id (fun r => { r with ringPorts := [(8, f segInit)] }))

set_option maxRecDepth 20000 in
theorem wit_StateFramesReachTheMirror_segment :
    (∀ got ∈ [0, 1, 2], let s := ringState (fun q => { q with got := got, gotDigest := 7 })
      let rx := segmentRx 1 7
      let a := admitFrame tState s rx
      let h := hdrDecode rx.hdr
      let q := tget segInit (getSlot a.2 0).step.ringPorts 8
      a.1 = some (h, 0) ∧ hStateKind h = 8 ∧ stateMalformed a.2 (getSlot a.2 0) h 8 = false ∧ stateAge (getSlot a.2 0) h = .same
        ∧ q.report = none ∧ q.got = got ∧ leAt rx.payload 0 4 = 1 ∧ BitVec.ofNat 64 (leAt rx.payload 8 8) = q.gotDigest
        ∧ (getSlot a.2 0).step.st = .dryFit)
    ∧ (∀ v ∈ [(1, (7 : W64)), (2, 7)], let s := ringState (fun q => { q with got := 1, gotDigest := 8, report := some v })
       let rx := segmentRx 1 7
       let a := admitFrame tState s rx
       let q := tget segInit (getSlot a.2 0).step.ringPorts 8
       a.1 = some (hdrDecode rx.hdr, 0) ∧ q.report = some v ∧ q.gotDigest ≠ 7) := by
  decide +kernel

theorem wit_StateFramesReachTheMirror :
    ∃ h s1, Admitted tState (tanState 4 3 id) (rowRx 1 0 1024) h 0 s1 ∧ (rowRx 1 0 1024).payload.length = 4096 :=
  ⟨_, _, row_admitted _ 1 0 1024 (by decide +kernel), row_length 1 0 1024⟩

/-- Whether a grant gave a buffer. -/
def granted (r : PoolRes × State) : Bool :=
  match r.1 with
  | .ok _ => true
  | .quota => false
  | .empty => false

set_option synthInstance.maxSize 1000 in
theorem wit_RowsAreRestoredAndResynced_rows :
    (∀ last ∈ [some 5, some 4], let s := tanState 4 3 (tanWith (fun t => { t with dirty := [(0, 1), (0, 0)], restoring := true }) (fun r => { r with lastGlued := last }))
      let s1 := rowTo s 4 1 0
      let h := hdrDecode (rowBits 4 1 0)
      passes 6 s 8 (rowBits 4 1 0) 0 4096 = true ∧ stateMalformed s1 (getSlot s1 0) h 8 = false ∧ hStateKind h = 4
        ∧ (hStateChunk h, hStatePlane h) ∈ (getSlot s1 0).tan.dirty ∧ h.step = 5 ∧ (getSlot s1 0).step.lastGlued = last)
    ∧ (∀ e ∈ [(MirrorSt.empty, 0), (.syncing, 0), (.syncing, 1), (.current, 6), (.lagging, 6)],
       let s := tanState 4 3 (tanWith (fun t => { t with mirrorSt := e.1, syncGot := List.replicate e.2 (1024, 0), mirrorStep := e.2 }) id)
       let s1 := rowTo s 5 1 1024
       let h := hdrDecode (rowBits 5 1 1024)
       let sl := getSlot s1 0
       passes 6 s 8 (rowBits 5 1 1024) 0 4096 = true ∧ stateMalformed s1 sl h 8 = false ∧ hStateKind h = 5 ∧ sl.tan.passRunning = false
         ∧ ownerOf sl (hStateChunk h) ≠ some (selfId s1) ∧ shardRows sl (sl.tan.mirrorOf.getD 0) = 2 ∧ sl.tan.mirrorSt = e.1
         ∧ (hStateChunk h, hStatePlane h) ∉ sl.tan.syncGot ∧ sl.tan.syncGot.length = e.2 ∧ (e.2 = 6 → h.step < sl.tan.mirrorStep))
    ∧ (∀ n ∈ [0, 1],
       let s := tanState 3 4 (tanWith (fun t => { t with spareFrom := some (9, 4), spareGot := List.replicate n (1024, 0) }) id)
       let s1 := rowTo s 5 1 1024
       let h := hdrDecode (rowBits 5 1 1024)
       let sl := getSlot s1 0
       passes 6 s 8 (rowBits 5 1 1024) 0 4096 = true ∧ stateMalformed s1 sl h 8 = false ∧ hStateKind h = 5
         ∧ ownerOf sl (hStateChunk h) = some (selfId s1) ∧ (hStateChunk h, hStatePlane h) ∉ sl.tan.spareGot
         ∧ sl.tan.spareGot.length = n ∧ shardRows sl (selfId s1) = 2)
    ∧ (∀ spare ∈ [none, some (9, 4)], ∀ st ∈ [some 4, none],
       let s := tanState 4 3 (tanWith (fun t => { t with spareFrom := spare }) (fun r => { r with lastGlued := st }))
       let s1 := rowTo s 6 0 1024
       let h := hdrDecode (rowBits 6 0 1024)
       passes 6 s 8 (rowBits 6 0 1024) 0 4096 = true ∧ stateMalformed s1 (getSlot s1 0) h 8 = false ∧ hStateKind h = 6
         ∧ (getSlot s1 0).tan.passRunning = false ∧ h.step ≠ 0 ∧ h.step % 2 = 1 ∧ portPeerDev s1 8 = 4) := by
  decide +kernel

/-- A LINK_CTRL frame about the job from device 4. -/
def requestRx (kind step : Nat) (payload : Bytes) : RxFrame :=
  linkRx 8 { hdrZero with typ := 0xE, ts := kind, job := 7, step := step } payload

set_option maxRecDepth 20000 in
set_option synthInstance.maxSize 1000 in
theorem wit_RowsAreRestoredAndResynced_requests :
    (∀ e ∈ [(MirrorSt.current, some 4), (.lagging, some 4), (.empty, some 4), (.broken, some 4), (.current, some 5), (.current, none)],
      let s := tanState 4 3 (tanWith (fun t => { t with mirrorSt := e.1, mirrorStep := 5, mirrorNone := false, mirrorOf := e.2 }) id)
      let rx := requestRx 7 5 (leBytes 1 1 ++ leBytes 8 1024 ++ leBytes 4 1 ++ leBytes 4 3)
      let a := tandemRequest 0x07 rx s
      let sl := getSlot a.2 0
      a.1 = some (hdrDecode rx.hdr, 0, 4) ∧ sl.tan.mirrorOf = e.2 ∧ sl.tan.restores = [] ∧ sl.tan.mirrorSt = e.1 ∧ mirrorHolds sl 5 = true
        ∧ upTrunk a.2 4 = [8] ∧ (getPort a.2 8).helloSent = true ∧ restoreRuns sl.ob.w rx.payload = [(1024, 0), (1024, 1)])
    ∧ (∀ e ∈ [(some 4, true, false), (some 4, true, true), (some 4, false, false), (none, true, false)],
      let s := tanState 4 3 (tanWith (fun t => { t with partner := e.1, restoring := e.2.1, lost := e.2.2 }) id)
      let rx := requestRx 9 5 [0]
      let a := tandemRequest 0x09 rx s
      let t := (getSlot a.2 0).tan
      a.1 = some (hdrDecode rx.hdr, 0, 4) ∧ t.partner = e.1 ∧ t.restoring = e.2.1 ∧ t.lost = e.2.2)
    ∧ (∀ e ∈ [(some 4, some 4), (none, some 4), (none, none)],
      let s := tanState 4 3 (tanWith (fun t => { t with partner := e.1, mirrorOf := e.2 }) id)
      let rx := requestRx 8 5 []
      let a := tandemRequest 0x08 rx s
      let t := (getSlot a.2 0).tan
      a.1 = some (hdrDecode rx.hdr, 0, 4) ∧ t.partner = e.1 ∧ t.mirrorOf = e.2) := by
  decide +kernel

set_option synthInstance.maxSize 1000 in
theorem wit_RowsAreRestoredAndResynced_sends :
    (∀ rows ∈ [[], [(1024, 0)], [(1024, 0), (1024, 1)]], let j : RestoreJob := ⟨rows, true, 5, 0, false⟩
      let s := tanState 4 3 (tanWith (fun t => { t with mirrorSt := .current, mirrorStep := 5, mirrorNone := false, restores := [j] }) id)
      let sl := getSlot s 0
      sl.tan.restores = [j] ∧ j.deferred = false ∧ serveNow sl j = .serve ∧ sl.tan.mirrorOf = some 4 ∧ partnerPort s 4 1024 = some 8
        ∧ TakesFrames s 8 0 ∧ granted (poolRequest (settleRestores s 0) (tileOfChunk 1024) 0 4 4096 (ownerState 0)) = true)
    ∧ (∀ e ∈ [([], []), ([(0, 0)], [7]), ([(0, 0), (0, 1)], [])], let j : ResyncJob := ⟨false, 4, e.1, e.2⟩
      let s := tanState 4 3 (tanWith (fun t => { t with resyncs := [j] }) id)
      let sl := getSlot s 0
      sl.tan.resyncs = [j] ∧ resyncRuns sl j = true ∧ j.emem = e.2 ∧ j.rows = e.1 ∧ partnerPort s j.dest 7 = some 8 ∧ TakesFrames s 8 0
        ∧ resyncNext s sl j = e.1.head? ∧ partnerPort s j.dest 0 = some 8
        ∧ granted (poolRequest s (tileOfChunk 7) 0 4 4096 (ownerState 0)) = true ∧ granted (poolRequest s (tileOfChunk 0) 0 4 4096 (ownerState 0)) = true)
    ∧ (let j : ResyncJob := ⟨true, 4, [(0, 0)], []⟩
       let s := tanState 4 3 (tanWith (fun t => { t with mirrorSt := .lagging, resyncs := [j] }) id)
       ∀ j ∈ (getSlot s 0).tan.resyncs, resyncRuns (getSlot s 0) j = false) := by
  unfold TakesFrames; decide +kernel

/-! ### The step transaction -/

/-- A member's STEP_DONE of its group and attempt. -/
def doneRx (attempt : Nat) : RxFrame := frame 0 { classHdr false 7 0 with group := 1, attempt := attempt } []

theorem wit_StepsAreSealed_done :
    ∀ attempt ∈ [0, 1], let a := admitFrame tStepDone (world true 0 id) (doneRx attempt)
      let h := hdrDecode (doneRx attempt).hdr
      a.1 = some (h, 0) ∧ (stepDoneCheck a.2 (getSlot a.2 0) 0 h 0).isNone = decide (attempt = 0) ∧ (getPort a.2 0).cfg.trunk = false := by
  decide +kernel

/-- The job with every condition of READY held, but for what is changed further. -/
def sealState (root : Bool) (kids : Nat) (f : StepRec → StepRec) : State :=
  world root kids (fun sl => { sl with
    tan := { sl.tan with partner := none, mirrorOf := none }
    step := f { sl.step with last := true, programEnd := true, stepDone := [0], deadline := 1000 } })

theorem wit_StepsAreSealed_reports :
    (let s := world true 0 (fun sl => { sl with step := { sl.step with programEnd := true } })
     let sl := getSlot s 0
     sl.step.st = .dryFit ∧ sl.step.partnerReportSent = false ∧ sl.step.programEnd = true ∧ (armedBuckets sl).all bucketDone = true
       ∧ downPorts s sl = [] ∧ sl.tan.partner = some 4 ∧ trunkTo s 4 = [8] ∧ TakesFrames s 8 0 ∧ reportRoom s 0 8 32 = true)
    ∧ (let c := chunkInit .released
       let s := modSlot (sealState true 0 id) 0 (fun sl => { sl with buckets := [(6, bucketOf farDesc c)] })
       let sl := getSlot s 0
       sl.step.st = .dryFit ∧ sl.tan.partner = none ∧ downPorts s sl = [8] ∧ (tget segInit sl.step.ringPorts 8).reportSent = false
         ∧ segmentSettled s sl 8 = true ∧ TakesFrames s 8 0 ∧ reportRoom s 0 8 16 = true)
    ∧ (getSlot (sealState true 0 (fun r => { r with st := .sealed })) 0).step.st ≠ .dryFit := by
  unfold TakesFrames; decide +kernel

/-- A READY that a child has sent, with its two words. -/
def kidReady (a o : W64) : ReadyWord := ⟨1, 5, 0, a, o⟩

set_option synthInstance.maxSize 1000 in
theorem wit_StepsAreSealed_seal :
    (let s := sealState true 0 (fun r => { r with last := false })
     (getSlot s 0).step.partnerReport = none ∧ (getSlot s 0).step.ringPorts = [] ∧ (readyConds s 0).all id = false)
    ∧ (let s := { sealState true 0 id with time := 1000 }
       (getSlot s 0).step.st = .dryFit ∧ (readyConds s 0).all id = true ∧ stepWindowEnd (getSlot s 0) ≤ s.time)
    ∧ (∀ root ∈ [true, false], let s := sealState root 2 id
       (readyConds s 0).all id = true ∧ s.time < stepWindowEnd (getSlot s 0) ∧ controlGroup (getSlot s 0) = some (ver root 2)
         ∧ (getSlot s 0).step.readySent = false ∧ geCadRoot (ver root 2) = root ∧ (getSpoke s (geCadParent (ver root 2))).st = 2
         ∧ readyAll (ver root 2) (readyWords (getSlot s 0) 5 0) = false)
    ∧ (∀ root ∈ [true, false], let s := sealState root 2 (fun r => { r with readyKids := [kidReady 0 0xFFFFFFFFFFFFFFFF] })
       (readyConds s 0).all id = true ∧ s.time < stepWindowEnd (getSlot s 0) ∧ controlGroup (getSlot s 0) = some (ver root 2)
         ∧ readyWords (getSlot s 0) 5 0 = [kidReady 0 0xFFFFFFFFFFFFFFFF] ∧ readyAll (ver root 2) (readyWords (getSlot s 0) 5 0) = true)
    ∧ (let s := { sealState false 2 id with spokes := [] }
       (readyConds s 0).all id = true ∧ controlGroup (getSlot s 0) = some (ver false 2) ∧ geCadRoot (ver false 2) = false
         ∧ (getSpoke s (geCadParent (ver false 2))).st ≠ 2 ∧ (getSlot s 0).step.decisionLost = false
         ∧ readyAll (ver false 2) (readyWords (getSlot s 0) 5 0) = false) := by
  decide +kernel

/-- The words of a root alone agree; a child's words 0 and all ones never agree with any word. -/
theorem wit_StepsAreSealed_agree (mine : W64) :
    ([] : List ReadyWord).foldl (fun x w => x &&& w.andW) mine = ([] : List ReadyWord).foldl (fun x w => x ||| w.orW) mine
    ∧ readyAll (ver true 0) [] = true
    ∧ [kidReady 0 0xFFFFFFFFFFFFFFFF].foldl (fun x w => x &&& w.andW) mine
        ≠ [kidReady 0 0xFFFFFFFFFFFFFFFF].foldl (fun x w => x ||| w.orW) mine := by
  refine ⟨rfl, by decide +kernel, ?_⟩
  simp only [kidReady, List.foldl_cons, List.foldl_nil]
  intro h
  have h1 := congrArg (fun w : W64 => w.getLsbD 0) h
  simp at h1

/-- The job with its step in a state, on a slot in a state. -/
def decState (root : Bool) (kids : Nat) (relay : Bool) (slot : SlotSt) (st : StepSt) (f : StepRec → StepRec) : State :=
  let v := ver root kids
  let v := if relay then { v with entry := v.entry ||| BitVec.ofNat 1024 (2 ^ 536) } else v
  world root kids (fun sl => { sl with st := slot, step := f { sl.step with st := st, deadline := 1000 }, groups := [(1, ⟨some v, none, some v, 0⟩)] })

theorem wit_DecisionsEndSteps_slots :
    (∀ st ∈ [StepSt.dryFit, .sealed, .rollingBack, .glued], let s := decState true 0 false .open_ st id
      (getSlot s 0).step.st = st ∧ controlGroup (getSlot s 0) = some (ver true 0) ∧ geCadRoot (ver true 0) = true ∧ (getSlot s 0).st ≠ .draining)
    ∧ (let s := decState true 0 false .draining .none id
       (getSlot s 0).st = .draining ∧ (getSlot s 0).drainTimeoutPosted = false)
    ∧ (getSlot (modSlot (decState true 0 false .draining .none id) 0 (fun sl => { sl with drainTimeoutPosted := true })) 0).drainTimeoutPosted = true := by
  decide +kernel

/-- A control sequence of the job's step and an attempt on a link. -/
def ctlRx (link : LinkId) (sym : Nat) (attempt : Nat) (more : Bytes) : SpokeRx :=
  ⟨link, BitVec.ofNat 8 sym, 0, leBytes 2 7 ++ leBytes 4 5 ++ leBytes 1 attempt ++ more, true⟩

theorem wit_DecisionsEndSteps_ready :
    (∀ st ∈ [StepSt.dryFit, .sealed], ∀ agree ∈ [7, 8],
      let s := decState true 2 false .open_ st (fun r => { r with agreement := 7 })
      let rx := ctlRx 1 0x1C 0 (leBytes 8 agree ++ leBytes 8 7)
      let a := takeControl rx 0x1C 23 s
      let sl := getSlot a.2 0
      let ws := readyWords { sl with step := { sl.step with readyKids := sl.step.readyKids ++
        [⟨1, 5, 0, BitVec.ofNat 64 (leAt rx.body 7 8), BitVec.ofNat 64 (leAt rx.body 15 8)⟩] } } sl.step.num sl.step.attempt
      a.1 = some (0, 5, 0) ∧ controlGroup sl = some (ver true 2) ∧ 1 ∈ cadKids (ver true 2) ∧ geRelay (ver true 2) = false
        ∧ sl.step.readyKids = [] ∧ sl.step.st = st ∧ geCadRoot (ver true 2) = true ∧ sl.step.readySent = false
        ∧ readyAll (ver true 2) ws = true ∧ a.2.time < stepWindowEnd sl
        ∧ (ws.foldl (fun x w => x &&& w.andW) sl.step.agreement = ws.foldl (fun x w => x ||| w.orW) sl.step.agreement ↔ agree = 7)) := by
  decide +kernel

set_option synthInstance.maxSize 1000 in
theorem wit_DecisionsEndSteps_decisions :
    (∀ st ∈ [StepSt.sealed, .dryFit], ∀ attempt ∈ [0, 1],
      let s := decState true 2 false .open_ st id
      let g := takeControl (ctlRx 1 0x7C attempt []) 0x7C 7 s
      let b := takeControl (ctlRx 1 0x5C attempt [3, 0, 1]) 0x5C 10 s
      g.1 = some (0, 5, attempt) ∧ isControlRelay (getSlot g.2 0) = false ∧ (getSlot g.2 0).step.st = st
        ∧ (CurrentStep (getSlot g.2 0) 5 attempt ↔ attempt = 0)
        ∧ b.1 = some (0, 5, attempt) ∧ isControlRelay (getSlot b.2 0) = false ∧ (getSlot b.2 0).step.st = st
        ∧ (CurrentStep (getSlot b.2 0) 5 attempt ↔ attempt = 0))
    ∧ (let s := decState true 2 false .open_ .rollingBack (fun r => { r with attempt := 1 })
       let b := takeControl (ctlRx 1 0x5C 0 [3, 0, 1]) 0x5C 10 s
       b.1 = some (0, 5, 0) ∧ isRolledBack (getSlot b.2 0) 5 0 = true ∧ ¬ CurrentStep (getSlot b.2 0) 5 0)
    ∧ (let s := decState true 2 true .open_ .sealed id
       let g := takeControl (ctlRx 1 0x7C 0 []) 0x7C 7 s
       let b := takeControl (ctlRx 1 0x5C 0 [3, 0, 1]) 0x5C 10 s
       g.1 = some (0, 5, 0) ∧ isControlRelay (getSlot g.2 0) = true ∧ b.1 = some (0, 5, 0) ∧ isControlRelay (getSlot b.2 0) = true) := by
  unfold CurrentStep; decide +kernel

theorem wit_DecisionsEndSteps_leave :
    ∀ flags ∈ [0, 3, 4, 8], ∀ st ∈ [StepSt.sealed, .dryFit],
      let s := decState true 2 false .open_ st id
      let rx : SpokeRx := ⟨1, 0x9C, 0, leBytes 2 9 ++ [1, 1] ++ leBytes 2 7 ++ leBytes 4 5 ++ leBytes 1 0 ++ leBytes 1 flags, true⟩
      let a := spokeTake s rx
      rx.ksym.toNat = 0x9C ∧ a.1 = true ∧ rx.body.length = 12 ∧ leAt rx.body 3 1 = 1 ∧ openSlotOf a.2 (leAt rx.body 4 2) = some 0
        ∧ CurrentStep (getSlot a.2 0) (leAt rx.body 6 4) (leAt rx.body 10 1) ∧ 1 ∈ controlLinks (getSlot a.2 0)
        ∧ leAt rx.body 11 1 = flags ∧ (getSlot a.2 0).step.st = st := by
  unfold CurrentStep; decide +kernel

/-! ### Incidents and health -/

/-- An incident of the job about member port 0, opened at a time. -/
def incidentAt (opened : Nat) : Incident :=
  { slot := 0, job := 7, kind := 0, suspect := 0x00030000, symptom := 2, step := 5, rehearsal := false, continuation := false, aborted := false
    attempt := 0, cause := 0, detail := 0, hops := 0, accusers := 1, reports := 1, devices := 1, firstAccuser := 0, firstTime := 0
    opened := opened, seen := [] }

/-- A child's record of an incident of a job, at link 1. -/
def incidentRx (job suspect : Nat) : SpokeRx :=
  ⟨1, 0xFE, 0, leBytes 64 (77 + 2 * 2 ^ 32 + job * 2 ^ 48 + suspect * 2 ^ 64 + 5 * 2 ^ 96 + 2 ^ 192 + 2 ^ 224), true⟩

theorem wit_IncidentsGoUpAndHealthRecovers_close :
    firstToClose State.reset = none
    ∧ firstToClose { world true 2 id with incidents := [incidentAt 9, incidentAt 8] } = some (incidentAt 8)
    ∧ (let s := { world false 2 id with incidents := [incidentAt 8] }
       firstToClose s = some (incidentAt 8) ∧ controlGroup (getSlot s 0) = some (ver false 2) ∧ geCadRoot (ver false 2) = false
         ∧ (getSpoke s (geCadParent (ver false 2))).st = 2) := by
  decide +kernel

set_option maxRecDepth 20000 in
theorem wit_IncidentsGoUpAndHealthRecovers_records :
    (∀ job ∈ [7, 8], let rx := incidentRx job 0x00030000
      let s := { world true 2 id with incidents := [incidentAt 0] }
      let a := spokeTake s rx
      rx.ksym.toNat = 0xFE ∧ a.1 = true ∧ rx.body.length = 64
        ∧ (bitsOf (leNat rx.body) 0 32, bitsOf (leNat rx.body) 96 64, bitsOf (leNat rx.body) 272 16) ∉ (getSpoke a.2 1).incTaken
        ∧ openSlotOf a.2 (bitsOf (leNat rx.body) 48 16) = (if job = 7 then some 0 else none)
        ∧ (let x := incidentOfRecord 0 a.2.time rx.body
           job = 7 → incidentTakes a.2 0 x.kind x.suspect x.symptom x.step (incidentAt 0) = true))
    ∧ (let rx := incidentRx 7 0x00030001
       let s := { world true 2 id with incidents := [incidentAt 0] }
       let a := spokeTake s rx
       let x := incidentOfRecord 0 a.2.time rx.body
       a.1 = true ∧ incidentTakes a.2 0 x.kind x.suspect x.symptom x.step (incidentAt 0) = false)
    ∧ (let rx := incidentRx 7 0x00030000
       let key := (bitsOf (leNat rx.body) 0 32, bitsOf (leNat rx.body) 96 64, bitsOf (leNat rx.body) 272 16)
       let s := modSpoke (world true 2 id) 1 (fun l => { l with incTaken := [key] })
       let a := spokeTake s rx
       a.1 = true ∧ key ∈ (getSpoke a.2 1).incTaken) := by
  decide +kernel

/-- LINKCTL ACK of SSEQ 4 with a status, at link 1. -/
def ackRx (status : Byte) : SpokeRx := ⟨1, 0x3C, 0, [2, 4, status], true⟩

theorem wit_IncidentsGoUpAndHealthRecovers_links :
    (∀ n ∈ [0, 1], ∀ hello ∈ [some 4, none],
      let s := modSpoke (world true 2 id) 1 (fun l => { l with helloSseq := hello })
      let rx := ackRx (BitVec.ofNat 8 n)
      let a := spokeTake s rx
      rx.ksym.toNat = 0x3C ∧ a.1 = true ∧ rx.body.length = 3 ∧ leAt rx.body 0 1 = 2 ∧ leAt rx.body 1 1 = 4 ∧ leAt rx.body 2 1 = n
        ∧ (getSpoke a.2 1).helloSseq = hello ∧ (getSpoke a.2 1).helloAcked = false)
    ∧ (∀ sends ∈ [7, 8], let x : IncTx := ⟨0, some 3, 90, sends, false⟩
      let s := modSpoke (world true 2 id) 1 (fun l => { l with inc := [x] })
      (getSpoke s 1).inc = [x] ∧ (getSpoke s 1).st = 2)
    ∧ (getSpoke State.reset 1).inc = [] := by
  decide +kernel

/-- The job with one subject, of a score, HELD, and brake settings of members. -/
def healthState (score rate spares reserve : Nat) : State :=
  world true 0 (fun sl => { sl with health := { sl.health with
    subjects := [⟨0, 0x00030000, score, 1, 0, 3, 0⟩], threshold := 512, recover := 128
    members := { sl.health.members with rate := rate, spares := spares, reserve := reserve } } })

theorem wit_IncidentsGoUpAndHealthRecovers_slots :
    (getSlot State.reset 0).st ≠ .open_
    ∧ (getSlot (world true 0 id) 0).st = .open_ ∧ (∀ u ∈ (getSlot (world true 0 id) 0).health.subjects, u.st ≠ 1)
    ∧ (∀ e ∈ [(640, 1, 1, 0), (639, 1, 1, 0), (639, 0, 1, 0), (639, 1, 1, 1)],
       let h := (getSlot (healthState e.1 e.2.1 e.2.2.1 e.2.2.2) 0).health
       h.subjects = [⟨0, 0x00030000, e.1, 1, 0, 3, 0⟩] ∧ h.threshold + h.recover = 640 ∧ h.members.rate = e.2.1
         ∧ h.members.spares = e.2.2.1 ∧ h.members.reserve = e.2.2.2) := by
  decide +kernel

/-! ### HBM, slices, die links, rehearsals -/

/-- The job with one granule of each area on tile 0. -/
def hbmState (f : Slot → Slot) : State :=
  world true 0 (fun sl => f { sl with shard := { sl.shard with grPrimary := [(0, [0])], grMirror := [(0, [1])], grScratch := [(0, [2])] } })

set_option synthInstance.maxSize 1000 in
theorem wit_MemoryErrorsAreContained_sectors :
    (getChan (modChan State.reset 3 (fun x => { x with st := 2 })) 3).st ≠ 0
    ∧ (getChan State.reset 1023).st = 0 ∧ sectorFrame State.reset 1023 0 = some 0 ∧ frameOwner State.reset 127 0 = none
    ∧ (∀ st ∈ [StepSt.dryFit, .sealed], let s := hbmState (fun sl => { sl with step := { sl.step with st := st } })
       (getChan s 0).st = 0 ∧ sectorFrame s 0 32 = some 0 ∧ frameOwner s 0 0 = some (0, .primary, 0)
         ∧ (chunkOfRow (getSlot s 0) (selfId s) 0 0).isSome = true ∧ (getSlot s 0).step.st = st)
    ∧ (let s := hbmState (fun sl => { sl with tan := { sl.tan with mirrorSt := .current } })
       sectorFrame s 0 (512 * 512) = some 512 ∧ frameOwner s 0 512 = some (0, .mirror, 0) ∧ (getSlot s 0).tan.mirrorSt ≠ .empty
         ∧ sectorFrame s 0 (1024 * 512) = some 1024 ∧ frameOwner s 0 1024 = some (0, .scratch, 0) ∧ (getSlot s 0).step.st = .dryFit) := by
  decide +kernel

set_option synthInstance.maxSize 1000 in
theorem wit_MemoryErrorsAreContained_channels :
    (hbmState id).pwr.awake.testBit (42 + 1023 / 128) = true ∧ State.reset.pwr.awake.testBit 49 = false
    ∧ (∀ r, r < 3 → let s := modChan { world true 0 id with pwr := { State.reset.pwr with phase := if r = 2 then 8 else 4 } } 9 (fun x => { x with uncInWindow := 4 })
       mapoutDue s 9 (r + 1) = true ∧ (getChan s 9).st = 0 ∧ (liveChannels s 1).length = 8 ∧ mappedOut s < 32)
    ∧ mapoutDue State.reset 9 3 = false
    ∧ (let s := modChan (modChan { State.reset with pwr := { State.reset.pwr with phase := 4 } } 8 (fun x => { x with st := 1 })) 9 (fun x => { x with uncInWindow := 4 })
       (getChan s 9).st = 0 ∧ mapoutDue s 9 1 = true ∧ (liveChannels s 1).length < 8 ∧ s.host.fatal = false)
    ∧ 9 ∉ State.reset.hbm.moving ∧ (∀ i, i < 64 → (getSlot State.reset i).st ≠ .open_)
    ∧ (let m := ({ State.reset.hbm with moving := [9, 10] }).moving
       9 ∈ m ∧ m.filter (· != 9) ≠ []) := by
  decide +kernel

theorem wit_FailuresAndRehearsals_fails :
    State.reset.fab.sliceOut.contains 5 = false ∧ ({ State.reset.fab with sliceOut := [5] }).sliceOut.contains 5 = true
    ∧ (let s := { State.reset with fab := { State.reset.fab with sliceOut := [4, 6, 7] } }
       ∀ d, d < 4 → s.fab.sliceOut.contains (5 ^^^ d) = true ∨ d = 0)
    ∧ 3 ∉ State.reset.fab.dieFailed ∧ 3 ∈ ({ State.reset.fab with dieFailed := [3] }).dieFailed
    ∧ (∀ e ∈ diePairs, (dieHops [3] e.1 e.2).isSome = true) ∧ (∀ i, i < 64 → (getSlot State.reset i).step.st ≠ .dryFit)
    ∧ (∃ e ∈ diePairs, dieHops (List.range 16) e.1 e.2 = none) ∧ State.reset.host.fatal = false := by
  decide +kernel

/-- The job with rehearsals of some kinds every second, and an OPEN line. -/
def rehearsalState (kinds : Nat) (fired : Option Nat) : State :=
  world true 0 (fun sl => { sl with
    buckets := [(6, bucketOf (desc 2 0) (chunkInit .open_))]
    health := { sl.health with reI := 1, reKinds := kinds, reFired := fired } })

theorem wit_FailuresAndRehearsals_rehearsals :
    ∀ kind, kind < 4 → ∀ fired ∈ [none, some 0],
      let s := rehearsalState (2 ^ kind) fired
      let sl := getSlot s 0
      let x := rehearsalDraw sl.health sl.ob.jobId 0
      let kinds := setBitsBelow 4 sl.health.reKinds
      sl.st = .open_ ∧ 0 < sl.health.reI * 1000000000 ∧ kinds ≠ [] ∧ s.time / (sl.health.reI * 1000000000) = 0 ∧ sl.health.reFired = fired
        ∧ sl.step.st = .dryFit ∧ sl.step.attempt = 0 ∧ natAt kinds (x / 2 ^ 32 % kinds.length) = kind
        ∧ slotMemberPorts sl = [0] ∧ (openLineTile sl (x / 2 ^ 16 % 128)).isSome = true := by
  decide +kernel

/-! ### Lanes, spoke links and device time -/

/-- The job's world with lane 0, of port 0, changed. -/
def laneState (f : Lane → Lane) : State := modLane (world true 0 id) 0 f

/-- Lane 0 in a state. -/
def laneIn (st : LaneState) : State := laneState (fun l => { l with st := st })

set_option synthInstance.maxSize 1000 in
theorem wit_LanesTrainAndPortsIdle_lanes :
    (∀ st ∈ [LaneState.down, .training, .locking, .up, .idle], let s := laneIn st
      portOfLane s 0 = some 0 ∧ (getLane s 0).st = st ∧ (getLane s 0).loopback = 0 ∧ (getPort s 0).failed = false ∧ lanesRun s 0 = true
        ∧ (getLane s 0).failRun + 1 < 8 ∧ (laneCarries (getLane s 0) = true ↔ st = .locking ∨ st = .up ∨ st = .idle)
        ∧ (getLane s 0).readyRx < 64)
    ∧ (let s := laneState (fun l => { l with st := .training, failRun := 7, readyRx := 64, readyTx := 64 })
       (getLane s 0).st = .training ∧ 8 ≤ (getLane s 0).failRun + 1 ∧ 64 ≤ (getLane s 0).readyRx ∧ 64 ≤ (getLane s 0).readyTx) := by
  decide +kernel

set_option synthInstance.maxSize 1000 in
theorem wit_LanesTrainAndPortsIdle_requests :
    (∀ e ∈ [(0, 0, 0), (0, 1, 0), (4, 2, 0), (5, 1, 0), (0, 3, 0), (0, 0, 1), (0, 0, 5), (0, 0, 6)],
      let r : W32 := BitVec.ofNat 32 (e.1 + e.2.1 * 8 + e.2.2 * 32)
      bitsOf r.toNat 0 3 = e.1 ∧ bitsOf r.toNat 3 2 = e.2.1 ∧ bitsOf r.toNat 5 3 = e.2.2)
    ∧ (getLane (laneIn .training) 0).resp = 0
    ∧ (let l := getLane (laneState (fun l => { l with st := .training, resp := 1, request := 8 })) 0
       l.st = .training ∧ l.resp ≠ 0 ∧ bitsOf l.request.toNat 3 2 ≠ 0)
    ∧ bitsOf (getLane (laneIn .training) 0).request.toNat 3 2 = 0 ∧ bitsOf (getLane (laneIn .training) 0).request.toNat 5 3 = 0
    ∧ bitsOf (1 : W32).toNat 0 2 ≠ 0 ∧ bitsOf (4 : W32).toNat 0 2 = 0 := by
  decide +kernel

/-- A tap's value is within its limits or beyond one of them, whatever the limits are. -/
theorem wit_LanesTrainAndPortsIdle_limits (lo hi v : Int) : (lo ≤ v ∧ v ≤ hi) ∨ v < lo ∨ hi < v := by omega

/-- The job's world with port 0 changed and its lane locked and aligned. -/
def deskewState (f : Port → Port) : State :=
  modPort (laneState (fun l => { l with st := .locking, locked := true, skew := 18000, rxLane := 0 })) 0 f

set_option synthInstance.maxSize 1000 in
theorem wit_LanesTrainAndPortsIdle_ports :
    (let s := deskewState (fun q => { q with helloSent := false })
     let q := getPort s 0
     q.cfg.enable = true ∧ q.failed = false ∧ q.helloSent = false
       ∧ (∀ n ∈ portLanes q 0, (getLane s n).st = .locking ∧ (getLane s n).locked = true ∧ (getLane s n).loopback = 0 ∧ (getLane s n).skew ≤ 18000)
       ∧ (∀ k, k < 2 ^ q.cfg.width → ∃ n ∈ portLanes q 0, (getLane s n).rxLane = k))
    ∧ (let s := deskewState (fun q => { q with helloSent := false })
       ∃ n ∈ portLanes (getPort s 0) 0, (getLane s n).locked = false ∨ 17999 < (getLane s n).skew ∨ (getLane s n).loopback ≠ 0)
    ∧ (let q := getPort (deskewState (fun q => { q with cfg := { q.cfg with idleEn := true } })) 0
       q.up = true ∧ q.cfg.idleEn = true ∧ q.idleTx = false ∧ q.tx.unacked = [] ∧ q.tx.linkUnacked = [] ∧ ¬ HasToSend q)
    ∧ (let q := getPort (deskewState (fun q => { q with idleTx := true, rx := { q.rx with ackOwed := true } })) 0
       q.idleTx = true ∧ HasToSend q) := by
  unfold HasToSend; decide +kernel

/-- A LINKCTL HELLO of device 9, at link 1. -/
def helloSeq : SpokeRx := ⟨1, 0x3C, 4, [1] ++ leBytes 2 9 ++ [1], true⟩

/-- The job's world with spoke link 1 changed. -/
def linkState (f : Spoke → Spoke) : State := modSpoke (world true 0 id) 1 f

set_option synthInstance.maxSize 1000 in
theorem wit_SpokesComeUpAndTimeIsKept_links :
    (let s := linkState (fun l => { l with st := 0 })
     (getSpoke s 1).st = 0 ∧ spokesRun s = true ∧ spokesRun { s with pwr := { s.pwr with phase := 4 } } = false)
    ∧ (let s := { linkState (fun l => { l with st := 2 }) with timeRec := { timeRecInit with parent := 1, st := 1 } }
       (getSpoke s 1).st ≠ 0 ∧ s.timeRec.parent = 1 ∧ s.timeRec.st ≠ 3 ∧ (getSpoke s 1).st = 2)
    ∧ (∀ e ∈ [(1, 0), (2, 9), (2, 8)], let a := spokeTake (linkState (fun l => { l with st := e.1, peer := BitVec.ofNat 16 e.2 })) helloSeq
       helloSeq.ksym.toNat = 0x3C ∧ a.1 = true ∧ helloSeq.body.length = 4 ∧ leAt helloSeq.body 0 1 = 1 ∧ leAt helloSeq.body 1 2 = 9
         ∧ (getSpoke a.2 1).st = e.1 ∧ (getSpoke a.2 1).peer.toNat = e.2) := by
  decide +kernel

/-- A TIME RESP of exchange 3 from a parent at depth 0, at link 1, with two instants in 1/256 ns. -/
def timeSeq (tseq t2 t3 : Nat) : SpokeRx :=
  ⟨1, 0xDC, 4, [2] ++ leBytes 2 tseq ++ leBytes 8 (t2 / 256) ++ leBytes 1 (t2 % 256) ++ leBytes 8 (t3 / 256) ++ leBytes 1 (t3 % 256), true⟩

/-- The job's world with the time record locked to link 1, exchange 3 sent at 1000/256 ns. -/
def timeState (f : TimeRec → TimeRec) : State :=
  { world true 0 id with timeRec := f { timeRecInit with st := 1, parent := 1, tseq := 3, t1 := some 1000 } }

set_option synthInstance.maxSize 1000 in
theorem wit_SpokesComeUpAndTimeIsKept_time :
    (let s := timeState id
     s.timeRec.st ≠ 3 ∧ (getSpoke s s.timeRec.parent).st = 2)
    ∧ (timeState (fun t => { t with st := 3 })).timeRec.st = 3
    ∧ (let rx : SpokeRx := ⟨1, 0xDC, 4, [1, 3, 0], true⟩
       let a := spokeTake (timeState id) rx
       rx.ksym.toNat = 0xDC ∧ a.1 = true ∧ leAt rx.body 0 1 % 4 = 1 ∧ rx.body.length = 3)
    ∧ leAt ([3, 3, 0] : Bytes) 0 1 % 4 = 3 ∧ ([1, 3] : Bytes).length ≠ 3 ∧ leAt ([2, 3, 0] : Bytes) 0 1 % 4 = 2
    ∧ (∀ tseq ∈ [3, 4], let rx := timeSeq tseq 5000 6000
       let a := spokeTake (timeState id) rx
       let u := a.2.timeRec
       rx.ksym.toNat = 0xDC ∧ a.1 = true ∧ leAt rx.body 0 1 % 4 = 2 ∧ rx.body.length = 21 ∧ u.st ≠ 3 ∧ u.parent = 1 ∧ u.t1 = some 1000
         ∧ (leAt rx.body 1 2 = u.tseq ↔ tseq = 3) ∧ stampAt rx.body 3 = 5000 ∧ stampAt rx.body 12 = 6000)
    ∧ (1000 ≤ 4000 ∧ 4000 ≤ 1000 + 2560000 ∧ 1000 + 2560000 < 2561001)
    ∧ (((((60000 : Int) - 1000) - ((4000 : Int) - 60000)).tdiv 2).natAbs > 25600 ∧ ((((3000 : Int) - 1000) - ((4000 : Int) - 3000)).tdiv 2).natAbs ≤ 512) := by
  decide +kernel

/-! ### The block as a whole -/

theorem wit_AnEmptyQueueLetsTimePass :
    State.reset.pending = [] ∧ State.reset.timeRec.hold = 0 ∧ State.reset.timeRec.slew = 0 ∧ State.reset.timeRec.frac < 25600000 := by
  decide

/-- The invariant holds of a memory that holds something, and fails of one out of order or with a listed zero. -/
theorem wit_EveryStepAnswersAndKeepsTheInvariant :
    Inv { State.reset with hbm := { State.reset.hbm with mem := [(3, 1), (4, 255)] } }
    ∧ ¬ Inv { State.reset with hbm := { State.reset.hbm with mem := [(4, 1), (3, 1)] } }
    ∧ ¬ Inv { State.reset with hbm := { State.reset.hbm with mem := [(3, 0)] } } := by
  unfold Inv; decide

/-- A header with every field at its largest, and one with every field at its least. -/
theorem wit_HeadersReadBackAsTheyWereFormed :
    HdrFits ⟨15, 7, true, 15, 15, 65535, 2 ^ 32 - 1, 2 ^ 32 - 1, 2 ^ 32 - 1, 65535, 65535, 2 ^ 14 - 1, 3, 65535, 65535, 15, 7, 1,
      65535, 255, 65535, 2 ^ 64 - 1, 2 ^ 128 - 1, 2 ^ 32 - 1⟩
    ∧ HdrFits { hdrZero with ver := 0 } := by
  unfold HdrFits; decide

theorem wit_FramesReadBackAsTheyWereWritten :
    (FrameInReach State.reset 0 0 ∧ FrameInReach State.reset 127 (2 ^ 22 - 1) ∧ ¬ FrameInReach State.reset 127 (2 ^ 22)
      ∧ 0 < (liveChannels State.reset 127).length) ∧ (List.replicate 4096 (7 : Byte)).length = 4096 :=
  ⟨by unfold FrameInReach; decide, List.length_replicate⟩

/-- A command that answers a next state, and a piece of the device that is not listed for it. -/
theorem wit_CommandsChangeOnlyTheirPieces :
    exec (.hostRead (readReq 0 4)) State.reset = .next (effHostRead (readReq 0 4) State.reset) ∧ Piece.hbm ∉ mayChange (.hostRead (readReq 0 4)) :=
  ⟨rfl, by decide⟩

/-! ### Values the spec works out -/

/-- The check values of the two polynomials over the characters 1 to 9 (R92, R352). -/
theorem test_crc_check_values :
    let nine : Bytes := [0x31, 0x32, 0x33, 0x34, 0x35, 0x36, 0x37, 0x38, 0x39]
    crc64 nine = 0x995DC9BBDF1939FA ∧ crc32c nine = 0xE3069283 := by decide +kernel

/-- The conversions of 02's worked examples out of FP32, by source, target, rounding and random word. -/
theorem test_conversions_from_fp32 :
    (convertFp fmtFp32 fmtB16 .rne 0 false 0x3F808000).1 = 0x3F80 ∧ (convertFp fmtFp32 fmtB16 .rne 0 false 0x3F818000).1 = 0x3F82
    ∧ (convertFp fmtFp32 fmtB16 .sr 0x12345678 false 0x3F808000).1 = 0x3F81 ∧ (convertFp fmtFp32 fmtB16 .sr 0x9ABCDEF0 false 0x3F808000).1 = 0x3F80
    ∧ (convertFp fmtFp32 fmtB16 .rne 0 false 0x7F7FFFFF).1 = 0x7F7F
    ∧ (convertFp fmtFp32 fmtH16 .rne 0 false 0x3DCCCCCD).1 = 0x2E66 ∧ (convertFp fmtFp32 fmtH16 .rne 0 false 0x47800000).1 = 0x7BFF
    ∧ (convertFp fmtFp32 fmtH16 .rne 0 false 0x33800000).1 = 1 ∧ (convertFp fmtFp32 fmtH16 .rne 0 true 0x33800000).1 = 0
    ∧ (convertFp fmtFp32 fmtQ8A .rne 0 false 0xBDCCCCCD).1 = 0x9D ∧ (convertFp fmtFp32 fmtQ8A .rne 0 false 0x43FA0000).1 = 0x7F
    ∧ (convertFp fmtFp32 fmtQ8B .rne 0 false 0x40400000).1 = 0x42 ∧ (convertFp fmtFp32 fmtQ4 .rne 0 false 0x40200000).1 = 4
    ∧ (convertFp fmtFp32 fmtQ4 .rne 0 false 0x40A00000).1 = 6 := by decide +kernel

/-- The conversions of 02's worked examples into FP32. -/
theorem test_conversions_to_fp32 :
    (convertFp fmtFp64 fmtFp32 .rne 0 false 0x3FB999999999999A).1 = 0x3DCCCCCD
    ∧ (convertFp fmtFp64 fmtFp32 .rtz 0 false 0x3FB999999999999A).1 = 0x3DCCCCCC
    ∧ (convertFp fmtQ8A fmtFp32 .rne 0 false 0x80).1 = 0x7FC00000 ∧ (convertFp fmtB16 fmtFp32 .rne 0 false 0x0040).1 = 0x00400000
    ∧ (convertFp fmtB16 fmtFp32 .rne 0 true 0x0040).1 = 0 := by decide +kernel

/-- 02's worked bucket: Emax −3 puts the base at −113; the third contribution loses half a grid step and the sum rounds to
0x3DA00000. -/
theorem test_worked_bucket :
    windowBase (-3) = -113
    ∧ placeVal (-113) (decodeFp fmtB16 false 0x3E00).1 = ⟨2 ^ 110, false, false, false⟩
    ∧ placeVal (-113) (decodeFp fmtB16 false 0xBD40).1 = ⟨-(3 * 2 ^ 107), false, false, false⟩
    ∧ placeVal (-113) (decodeFp fmtB16 false 0x0740).1 = ⟨1, true, false, false⟩
    ∧ (roundW128 (w128Add (w128Add (w128Add 0 (2 ^ 110)) (-(3 * 2 ^ 107))) 1) (-113) fmtFp32 .rne 0 false).1 = 0x3DA00000 := by
  decide +kernel

/-- 07's reciprocal of 3: the seed and its two refinements. -/
theorem test_reciprocal_of_three :
    (rcpSeed false 0x40400000).1 = 0x3EAA0000 ∧ (refine false false 0x3EAA0000 0x40400000).1 = 0x3EAAAA00
    ∧ (refine false false 0x3EAAAA00 0x40400000).1 = 0x3EAAAAAB := by decide +kernel

/-- 02's scale bytes of a Q8A block whose largest magnitude is 0.75, and whose largest is 0.99. -/
theorem test_block_scales :
    chooseScale fmtQ8A [(decodeFp fmtFp32 false 0x3F400000).1] = 0x76 ∧ chooseScale fmtQ8A [(decodeFp fmtFp32 false 0x3F7D70A4).1] = 0x77 := by
  decide +kernel

/-- 02's Kerf block of two elements that are not zero. -/
theorem test_kerf_block :
    kerfBlock ([2 ^ 109 + 2 ^ 107, -(2 ^ 108)] ++ List.replicate 14 0) = [0x04, 0x6B, 0xE5, 0, 0, 0, 0, 0, 0, 0] := by decide +kernel

theorem test_reset_runs : StepsOn State.reset := ⟨_, rfl⟩

end Sys2Proof.Tests
end

section
/-! PROOFS. What LOOP does: how a loop counter reads after a write, the two ends of an instruction of the context alone, and the three
ends of LOOP itself (06). -/

namespace Sys2Proof.Proofs

open Sys2Proof Sys2Proof.Machine Sys2Proof.Laws

/-! ### Loop counters (R157) -/

/-- The LC field names one of the four loop counters. -/
theorem jLC_lt (w : W64) : jLC w < 4 := Nat.mod_lt _ (by decide)

theorem jL_setL (j : Jig) {n k : Nat} (v : W32) (hk : k < 4) : jL (setL j n v) k = if k = n then v else jL j k := by
  simp [jL, setL, Vector.getD, hk, Array.getElem_setIfInBounds, eq_comm]

/-! ### An instruction that ends with an exception -/

/-- Bringing device time forward first does not change what a fault of the jig leaves behind. -/
theorem jigFault_atCycle_taken (s : State) (i c cause detail : Nat) :
    FaultTaken s (jigFault (atCycle s i c) i cause detail) i (jigFaultInfo s i cause detail) :=
  scheduleFault_taken (atCycle s i c) i (jigFaultInfo s i cause detail)

/-- An instruction of the context alone that ends with an exception faults at its clock (R177). -/
theorem jigRow_fault {s : State} {slot : SlotId} {w used : W64} {op c : Nat} {f : Slot → W64 → JigEnd}
    (h : JigAt s slot.val w) (hr : (jigOf s slot.val).rep = none) (ho : jOp w = op) (hu : w &&& ~~~used = 0)
    (hf : f (getSlot s slot.val) w = .fault c) :
    ∃ u, (.next (jigRow op used f slot s) : Out) = .next (settled u slot.val)
      ∧ FaultTaken s u slot.val (jigFaultInfo s slot.val c 0) := by
  refine ⟨_, ?_, jigFault_atCycle_taken s slot.val (benchOf s slot.val).clock c 0⟩
  have hn : jigRefuses (jigOf s slot.val) w used = none := by simp [jigRefuses, hr, hu]
  simp only [jigOf] at hn
  simp only [jigRow, jigNext_at h ho, getSlot_atCycle, hn, hf, benchOf]

/-! ### Branch targets (R164) -/

/-- A taken branch goes in two cycles to the instruction word that its offset names. -/
theorem branchTo_instr {sl : Slot} {w : W64} {dest : Nat} (j : Jig) (hd : (dest : Int) = sl.bench.jig.pc + jOff w)
    (hi : (fetchWord sl dest 1).isSome = true) : branchTo sl j w = .done j dest 2 := by
  simp [branchTo, ← hd, Option.isNone_eq_false_iff.mpr hi]

/-! ### The ends of LOOP (R165) -/

theorem loopBranch_zero {sl : Slot} {w : W64} (h0 : jL sl.bench.jig (jLC w) = 0) : loopBranch sl w = .fault sfLoopZero := by
  simp [loopBranch, h0]

theorem loopBranch_last {sl : Slot} {w : W64} (h1 : jL sl.bench.jig (jLC w) = 1) :
    loopBranch sl w = .done (setL sl.bench.jig (jLC w) 0) (sl.bench.jig.pc + 1) 1 := by
  simp [loopBranch, h1, setL]

theorem loopBranch_again {sl : Slot} {w : W64} (h0 : jL sl.bench.jig (jLC w) ≠ 0) (h1 : jL sl.bench.jig (jLC w) ≠ 1) :
    loopBranch sl w = branchTo sl (setL sl.bench.jig (jLC w) (jL sl.bench.jig (jLC w) - 1)) w := by
  have hv : jL sl.bench.jig (jLC w) - 1 ≠ 0 := by bv_omega
  exact (if_neg h0).trans (if_pos (bne_iff_ne.mpr hv))

theorem loopBranch_counts {sl : Slot} {w : W64} {dest n : Nat} (h0 : jL sl.bench.jig (jLC w) ≠ 0)
    (hd : if jL sl.bench.jig (jLC w) = 1 then dest = sl.bench.jig.pc + 1 ∧ n = 1
      else (dest : Int) = sl.bench.jig.pc + jOff w ∧ n = 2)
    (hi : (fetchWord sl dest 1).isSome = true) :
    loopBranch sl w = .done (setL sl.bench.jig (jLC w) (jL sl.bench.jig (jLC w) - 1)) dest n := by
  by_cases h1 : jL sl.bench.jig (jLC w) = 1
  · obtain ⟨rfl, rfl⟩ := (if_pos h1).mp hd
    simpa [h1] using loopBranch_last h1
  · obtain ⟨hdest, rfl⟩ := (if_neg h1).mp hd
    rw [loopBranch_again h0 h1, branchTo_instr _ hdest hi]

/-- Settles O11: LOOP is an instruction of the context alone, and R165's three ends of it are `loopBranch_zero` and
`loopBranch_counts`. -/
theorem loopCountsDown : Obligations.LoopCountsDown := by
  unfold Obligations.LoopCountsDown
  intro s slot w hat hrep hop hused
  refine ⟨fun h0 => jigRow_fault hat hrep hop hused (loopBranch_zero h0), fun h0 dest n hd hi => ?_⟩
  obtain ⟨t, hexec, hgoes, hjig⟩ := jigRow_done hat hrep hop hused (loopBranch_counts h0 hd hi) hi
  refine ⟨t, hexec, hgoes, by rw [hjig]; rfl, fun k hk => ?_⟩
  rw [hjig]
  exact jL_setL (jigOf s slot.val) _ hk

end Sys2Proof.Proofs
end

section
/-! PROOFS. Lane vectors: what each lane reads of the operations on all of them. -/

namespace Sys2Proof.Proofs

open Sys2Proof Sys2Proof.Machine Sys2Proof.Laws

theorem mem_keysMerge {xs ys : List Nat} {i : Nat} : i ∈ keysMerge xs ys ↔ i ∈ xs ∨ i ∈ ys := by
  induction xs generalizing ys with
  | nil => simp [keysMerge]
  | cons x xs ih =>
    have hsplit : i ∈ ys ↔ i ∈ ys.takeWhile (· < x) ∨ i ∈ ys.dropWhile (· < x) := by
      rw [← List.mem_append, List.takeWhile_append_dropWhile]
    have hrest : (i ∈ (if (ys.dropWhile (· < x)).head? = some x then (ys.dropWhile (· < x)).drop 1 else ys.dropWhile (· < x))
        ∨ i = x) ↔ (i ∈ ys.dropWhile (· < x) ∨ i = x) := by
      split
      · next h =>
        obtain ⟨zs, hz⟩ := List.head?_eq_some_iff.mp h
        rw [hz]
        simp only [List.drop_succ_cons, List.drop_zero, List.mem_cons]
        grind
      · rfl
    simp only [keysMerge, List.mem_append, List.mem_cons, ih, hsplit]
    grind

theorem tget?_unlisted {α : Type} {t : Tbl α} {i : Nat} (h : i ∉ t.map Prod.fst) : tget? t i = none := by
  induction t with
  | nil => rfl
  | cons e t ih =>
    simp only [List.map_cons, List.mem_cons, not_or] at h
    simp [tget?, Ne.symm h.1, ih h.2]

theorem tget?_mapValues {α β : Type} (t : Tbl α) (f : α → β) (i : Nat) :
    tget? (t.map (fun e => (e.1, f e.2))) i = (tget? t i).map f := by
  induction t with
  | nil => rfl
  | cons e t ih =>
    simp only [List.map_cons, tget?, ih]
    split <;> rfl

/-- A list of places, each listed with what a function gives for it or left out. -/
theorem tget?_filterMap {α : Type} {f : Nat → Option (Nat × α)} (hf : ∀ k e, f k = some e → e.1 = k) (ks : List Nat) (i : Nat) :
    tget? (ks.filterMap f) i = if i ∈ ks then (f i).map Prod.snd else none := by
  induction ks with
  | nil => rfl
  | cons k ks ih =>
    by_cases hk : k = i
    · subst hk
      cases h : f k with
      | none => simp [h, ih]
      | some e => simp [h, tget?, hf k e h]
    · cases h : f k with
      | none => simp [h, ih, Ne.symm hk]
      | some e => simp [h, tget?, hf k e h, hk, ih, Ne.symm hk]

theorem tget?_ofKeys {α : Type} (g : Nat → α) (ks : List Nat) (i : Nat) :
    tget? (ks.map (fun k => (k, g k))) i = if i ∈ ks then some (g i) else none := by
  have h := tget?_filterMap (f := fun k => some (k, g k)) (by rintro k _ ⟨⟩; rfl) ks i
  simpa [List.filterMap_eq_map] using h

theorem lget_unlisted {α : Type} {l : Lanes α} {i : Nat} (h : i ∉ l.exc.map Prod.fst) : lget l i = l.base := by
  simp [lget, tget, tget?_unlisted h]

@[simp] theorem lget_lconst {α : Type} (v : α) (i : Nat) : lget (lconst v) i = v := rfl

@[simp] theorem lget_lmap {α β : Type} (f : α → β) (l : Lanes α) (i : Nat) : lget (lmap f l) i = f (lget l i) := by
  simp only [lget, tget, lmap, tget?_mapValues]
  cases tget? l.exc i <;> rfl

theorem lget_ofKeys {α : Type} (d : α) (g : Nat → α) (ks : List Nat) (i : Nat) :
    lget ⟨d, ks.map (fun k => (k, g k))⟩ i = if i ∈ ks then g i else d := by
  simp only [lget, tget, tget?_ofKeys]
  split <;> rfl

/-- A lane that neither vector lists has both bases. -/
@[simp] theorem lget_lzip {α β γ : Type} (f : α → β → γ) (a : Lanes α) (b : Lanes β) (i : Nat) :
    lget (lzip f a b) i = f (lget a i) (lget b i) := by
  rw [lzip, lget_ofKeys]
  split
  · rfl
  · next h =>
    rw [mem_keysMerge, not_or] at h
    rw [lget_unlisted h.1, lget_unlisted h.2]

/-- A result that does not depend on the lane's place. -/
theorem lget_laneResults (f : LaneIn → Flagged Nat) (l : Lanes LaneIn) (k : Nat) :
    lget (laneResults (fun _ => f) l) k = if (lget l k).on then some (f (lget l k)) else none :=
  lget_lmap (fun x : LaneIn => if x.on then some (f x) else none) l k

/-- The lanes of some tiles. -/
theorem mem_lanesOfTiles {ts : List Nat} {k : Nat} : k ∈ ts.flatMap (fun t => (List.range 256).map (256 * t + ·)) ↔ k / 256 ∈ ts := by
  simp only [List.mem_flatMap, List.mem_map, List.mem_range]
  constructor
  · rintro ⟨t, ht, j, hj, rfl⟩
    rwa [show (256 * t + j) / 256 = t by omega]
  · exact fun h => ⟨k / 256, h, k % 256, by omega, by omega⟩

end Sys2Proof.Proofs
end

section
/-! PROOFS. Registers of the bench: what a register field reads and what writing a destination leaves (07). -/

namespace Sys2Proof.Proofs

open Sys2Proof Sys2Proof.Machine Sys2Proof.Laws

@[simp] theorem lget_useLanes (b : Bench) (u : Use) (n k : Nat) : lget (useLanes b u n) k = regLane b u n k := by
  cases u <;> simp [useLanes, regLane, b2n]

theorem lget_vData_putV (b : Bench) (n ready : Nat) (r : Lanes (Option Nat)) (k : Nat) :
    lget (vData (putV b n ready r) n) k = ((lget r k).map (BitVec.ofNat 32)).getD (lget (vData b n) k) := by
  simp [vData, putV, tget?_tset]

theorem vData_putV_ne (b : Bench) {m n : Nat} (ready : Nat) (r : Lanes (Option Nat)) (h : m ≠ n) :
    vData (putV b n ready r) m = vData b m := by
  simp [vData, putV, tget?_tset_ne h]

theorem lget_pData_putP (b : Bench) (n ready : Nat) (r : Lanes (Option Nat)) (k : Nat) :
    lget (pData (putP b n ready r) n) k = ((lget r k).map (· == 1)).getD (lget (pData b n) k) := by
  simp [pData, putP, tget?_tset]

theorem regLane_d (b : Bench) (n k : Nat) :
    regLane b .d n k = (lget (vData b n) k).toNat + (lget (vData b (n + 1)) k).toNat * 2 ^ 32 := rfl

theorem lowWord_add_highWord (v : Nat) : v % 2 ^ 32 + v / 2 ^ 32 % 2 ^ 32 * 2 ^ 32 = v % 2 ^ 64 := by omega

/-- A register or pair read after it is written: a lane without a result keeps its value. -/
theorem regLane_putUse (b : Bench) (u : Use) (n ready : Nat) (r : Lanes (Option Nat)) (k : Nat) :
    regLane (putUse b u n ready r) u n k = ((lget r k).map (fitUse u)).getD (regLane b u n k) := by
  cases u with
  | none | e | w => cases lget r k <;> rfl
  | v => cases h : lget r k <;> simp [regLane, putUse, lget_vData_putV, h, fitUse]
  | p => cases h : lget r k <;> simp [regLane, putUse, lget_pData_putP, h, fitUse]
  | d =>
    have hlo : lget (vData (putUse b .d n ready r) n) k = ((lget r k).map (BitVec.ofNat 32)).getD (lget (vData b n) k) := by
      rw [putUse, vData_putV_ne _ _ _ (Nat.ne_of_lt n.lt_succ_self), lget_vData_putV]
    have hhi : lget (vData (putUse b .d n ready r) (n + 1)) k
        = ((lget r k).map (fun v => BitVec.ofNat 32 (v / 2 ^ 32))).getD (lget (vData b (n + 1)) k) := by
      rw [putUse, lget_vData_putV, vData_putV_ne _ _ _ (Nat.succ_ne_self n), lget_lmap, Option.map_map, Function.comp_def]
    cases h : lget r k with
    | none =>
      rw [h, Option.map_none, Option.getD_none] at hlo hhi
      rw [regLane_d, hlo, hhi, Option.map_none, Option.getD_none, regLane_d]
    | some v =>
      rw [h, Option.map_some, Option.getD_some] at hlo hhi
      rw [regLane_d, hlo, hhi]
      exact lowWord_add_highWord v

/-- What a bench holds beyond its registers and staging rows. -/
def beyondRegisters (b : Bench) : Bench := { b with v := [], p := [], srows := [] }

theorem eq_of_beyondRegisters {b c : Bench} (h : beyondRegisters c = beyondRegisters b) :
    c = { b with v := c.v, p := c.p, srows := c.srows } :=
  congrArg (fun d : Bench => { d with v := c.v, p := c.p, srows := c.srows }) h

theorem beyondRegisters_putUse (b : Bench) (u : Use) (n ready : Nat) (r : Lanes (Option Nat)) :
    beyondRegisters (putUse b u n ready r) = beyondRegisters b := by
  cases u <;> rfl

theorem putUse_srows (b : Bench) (u : Use) (n ready : Nat) (r : Lanes (Option Nat)) : (putUse b u n ready r).srows = b.srows := by
  cases u <;> rfl

theorem vReg_putUse {b : Bench} {p : Sep} {w : W64} {ready : Nat} {r : Lanes (Option Nat)} :
    (∀ n ∈ destV p w, (tget? (putUse b p.d (cD w) ready r).v n).map (fun x => x.ready) = some ready)
      ∧ ∀ n, n ∉ destV p w → tget? (putUse b p.d (cD w) ready r).v n = tget? b.v n := by
  unfold destV
  cases p.d with
  | none | e | w | p => simp [putUse, putP]
  | v =>
    simp only [List.mem_singleton, putUse, putV]
    exact ⟨by rintro n rfl; rw [tget?_tset]; rfl, fun n hn => tget?_tset_ne hn⟩
  | d =>
    simp only [List.mem_cons, List.not_mem_nil, or_false, not_or, putUse, putV]
    refine ⟨?_, fun n ⟨hlo, hhi⟩ => (tget?_tset_ne hhi).trans (tget?_tset_ne hlo)⟩
    rintro n (rfl | rfl)
    · rw [tget?_tset_ne (Nat.ne_of_lt (cD w).lt_succ_self), tget?_tset]; rfl
    · rw [tget?_tset]; rfl

theorem pReg_putUse {b : Bench} {p : Sep} {w : W64} {ready : Nat} {r : Lanes (Option Nat)} :
    (∀ n ∈ destP p w, (tget? (putUse b p.d (cD w) ready r).p n).map (fun x => x.ready) = some ready)
      ∧ ∀ n, n ∉ destP p w → tget? (putUse b p.d (cD w) ready r).p n = tget? b.p n := by
  unfold destP
  cases p.d with
  | none | e | w | v | d => simp [putUse, putV]
  | p =>
    simp only [if_true, List.mem_singleton, putUse, putP]
    exact ⟨by rintro n rfl; rw [tget?_tset]; rfl, fun n hn => tget?_tset_ne hn⟩

end Sys2Proof.Proofs
end

section
/-! PROOFS. A Septone command as it issues: the state that its meaning starts from, the operands of its lanes, what it leaves (05, 07). -/

namespace Sys2Proof.Proofs

open Sys2Proof Sys2Proof.Machine Sys2Proof.Laws

/-- The bench once an issue of a latency has left its queue. -/
def issuedBench (b : Bench) (x : Issue) (lat : Nat) : Bench := { takeIssue b x with flightEnd := max b.flightEnd (x.cycle + lat) }

/-- The state that a command's meaning starts from: its cycle has come and its issue has left the queue. -/
def issuedAt (s : State) (i : Nat) (x : Issue) (lat : Nat) : State := issued (atCycle s i x.cycle) i x lat

/-- What a command's meaning is given when its issue comes next. -/
def issuedIn (s : State) (i : Nat) (x : Issue) (w : W64) (scalar : Option W64) (p : Sep) : BenchIn :=
  ⟨i, getSlot (issuedAt s i x (classTimes p.cls).2) i, x, w, p, scalar, x.cycle + (classTimes p.cls).2⟩

@[simp] theorem getSlot_issuedAt (s : State) (i : Nat) (x : Issue) (lat : Nat) :
    getSlot (issuedAt s i x lat) i = { getSlot s i with bench := issuedBench (benchOf s i) x lat } := getSlot_modBench ..

theorem benchOf_modBench (s : State) (i : Nat) (g : Bench → Bench) : benchOf (modBench s i g) i = g (benchOf s i) := by
  simp [benchOf]

@[simp] theorem benchOf_issuedAt (s : State) (i : Nat) (x : Issue) (lat : Nat) :
    benchOf (issuedAt s i x lat) i = issuedBench (benchOf s i) x lat := by
  simp [benchOf]

/-- A command that comes next and that the audit passes has its effect. -/
theorem benchRow_at {s : State} {slot : SlotId} {x : Issue} {w : W64} {scalar : Option W64} {p : Sep} {op : Nat}
    (h : SepAt s slot.val x w scalar p) (ho : cOp w = op) (f : BenchIn → State → State) :
    benchRow op f slot s
      = settled (f (issuedIn s slot.val x w scalar p) (issuedAt s slot.val x (classTimes p.cls).2)) slot.val := by
  obtain ⟨hnext, hop, hrow, haudit⟩ := h
  simp only [benchOf] at haudit
  simp [benchRow, hnext, hop, hrow, ho, haudit, issuedIn, issuedAt]

theorem sepRan_modBench (s : State) (i : Nat) (x : Issue) (lat : Nat) {g : Bench → Bench}
    (hg : ∀ b, beyondRegisters (g b) = beyondRegisters b) : SepRan s (modBench (issuedAt s i x lat) i g) i x lat := by
  have hb : benchOf (modBench (issuedAt s i x lat) i g) i = g (issuedBench (benchOf s i) x lat) := by
    rw [benchOf_modBench, benchOf_issuedAt]
  have hframe := hg (issuedBench (benchOf s i) x lat)
  refine ⟨rfl, rfl, fun k hk => ?_, ?_, ?_, ?_⟩
  · exact (getSlot_modBench_ne _ _ hk).trans (getSlot_modBench_ne _ _ hk)
  · simp [benchOf]
  · rw [hb, eq_of_beyondRegisters hframe]
    rfl
  · rw [hb]
    exact (congrArg Bench.flightEnd hframe :)

theorem setFlags_none (s : State) (i : Nat) :
    setFlags s i nfNone = modSlot s i (fun sl => { sl with flags := sl.flags ||| nfNone }) := by
  simp [setFlags, nfNone]

theorem benchOf_setFlags_none (s : State) (i : Nat) : benchOf (setFlags s i nfNone) i = benchOf s i := by
  simp [setFlags_none, benchOf]

/-- A command that sets no flag. -/
theorem sepRan_setFlags_none {s u : State} {i : Nat} {x : Issue} {lat : Nat} (h : SepRan s u i x lat) :
    SepRan s (setFlags u i nfNone) i x lat := by
  obtain ⟨hrest, htime, hslots, hslot, hbench, hend⟩ := h
  rw [setFlags_none]
  refine ⟨hrest, htime, fun k hk => (getSlot_modSlot_ne _ _ hk).trans (hslots k hk), ?_, ?_, ?_⟩
  · rw [getSlot_modSlot, hslot]; simp [benchOf]
  · simpa [benchOf] using hbench
  · simpa [benchOf] using hend

theorem nfJoin_none {fs : List NFlags} (h : ∀ f ∈ fs, f = nfNone) : nfJoin fs = nfNone := by
  rw [List.eq_replicate_of_mem h]
  generalize fs.length = n
  induction n with
  | zero => rfl
  | succ n ih => exact ih

theorem laneFlags_none (g : LaneIn → Nat) (l : Lanes LaneIn) : laneFlags (laneResults (fun _ x => (g x, nfNone)) l) = nfNone := by
  refine nfJoin_none fun f hf => ?_
  obtain ⟨o, ho, rfl⟩ := List.mem_map.mp hf
  have hres : ∃ a : LaneIn, o = if a.on then some (g a, nfNone) else none := by
    rcases List.mem_append.mp ho with ho | ho
    · simp only [laneResults, lmapAt, List.map_map, List.mem_map] at ho
      obtain ⟨e, -, rfl⟩ := ho
      exact ⟨e.2, rfl⟩
    · split at ho
      · exact ⟨l.base, List.mem_singleton.mp ho⟩
      · cases ho
  obtain ⟨a, rfl⟩ := hres
  split <;> rfl

/-- The operands of each lane, as the registers stand when the command comes. -/
theorem lget_laneIns (s : State) (i : Nat) (x : Issue) {w : W64} (scalar : Option W64) (p : Sep) (h : cOp w ≠ 0x17) (k : Nat) :
    lget (laneIns (issuedIn s i x w scalar p)) k = laneArg s i w scalar p k := by
  have hreg (u : Use) (n : Nat) : regLane (issuedIn s i x w scalar p).sl.bench u n k = regLane (benchOf s i) u n k := by
    simp only [issuedIn, getSlot_issuedAt]
    cases u <;> rfl
  have hb : lget (bLanes (issuedIn s i x w scalar p)) k = (laneArg s i w scalar p k).b := by
    cases scalar with
    | none => exact (lget_useLanes ..).trans (hreg ..)
    | some v => rfl
  have hon : lget (if cGE w then pData (issuedIn s i x w scalar p).sl.bench (cPG w) else lconst true) k
      = (laneArg s i w scalar p k).on := by
    simp only [issuedIn, getSlot_issuedAt, laneArg]
    cases cGE w <;> rfl
  have hcmd : (issuedIn s i x w scalar p).cmd = w := rfl
  have hsep : (issuedIn s i x w scalar p).sep = p := rfl
  simp only [laneIns, hcmd, hsep, if_neg h, lget_lzip, lget_useLanes, hreg, hb, hon]
  rfl

/-- A destination written is all that a command's bench has changed of its registers. -/
theorem destWritten_putUse {s u : State} {i : Nat} {x : Issue} {w : W64} {p : Sep} {lat ready : Nat} {r : Lanes (Option Nat)}
    {on : Nat → Bool} {f : Nat → Nat} (hu : benchOf u i = putUse (issuedBench (benchOf s i) x lat) p.d (cD w) ready r)
    (hr : ∀ k, k < 32768 → lget r k = if on k then some (f k) else none) : DestWritten s u i w p ready on f := by
  have hframe := beyondRegisters_putUse (issuedBench (benchOf s i) x lat) p.d (cD w) ready r
  obtain ⟨hvReady, hvKept⟩ := vReg_putUse (b := issuedBench (benchOf s i) x lat) (p := p) (w := w) (ready := ready) (r := r)
  obtain ⟨hpReady, hpKept⟩ := pReg_putUse (b := issuedBench (benchOf s i) x lat) (p := p) (w := w) (ready := ready) (r := r)
  rw [DestWritten, hu]
  refine ⟨fun k hk => ?_, hvReady, hpReady, hvKept, hpKept, putUse_srows .., (congrArg Bench.e hframe :),
    (congrArg Bench.w hframe :), (congrArg Bench.flight hframe :)⟩
  rw [regLane_putUse, hr k hk]
  have hold : regLane (issuedBench (benchOf s i) x lat) p.d (cD w) k = regLane (benchOf s i) p.d (cD w) k := by cases p.d <;> rfl
  split
  · rfl
  · exact hold

end Sys2Proof.Proofs
end

section
/-! PROOFS. Staging rows as LOAD, LOAD.D, STORE and STORE.D read and write them (R189, R190). -/

namespace Sys2Proof.Proofs

open Sys2Proof Sys2Proof.Machine Sys2Proof.Laws

/-! ### Staging read (R189, R190) -/

theorem swPart_lt (w : W64) : swPart w < 4 := Nat.mod_lt _ (by decide)

/-- A lane that no part of a row lists reads the part's base. -/
theorem lget_rowPart_unlisted {b : Bench} {row q k : Nat} (h : ∀ l ∈ (sRow b row).parts, ∀ e ∈ l.exc, e.1 ≠ k) :
    lget (rowPart b row q) k = (rowPart b row q).base := by
  unfold rowPart
  rw [List.getD_eq_getElem?_getD]
  cases hq : (sRow b row).parts[q]? with
  | none => rfl
  | some l =>
    refine lget_unlisted fun hk => ?_
    obtain ⟨e, he, hek⟩ := List.mem_map.mp hk
    exact h l (List.mem_of_getElem? hq) e he hek

theorem mem_pairLanes {b : Bench} {row k : Nat} : k ∈ pairLanes b row
    ↔ ∃ l ∈ (sRow b row).parts ++ (sRow b ((row + 1) % 64)).parts, ∃ e ∈ l.exc, e.1 / 256 = k / 256 := by
  unfold pairLanes
  rw [mem_lanesOfTiles]
  simp only [List.mem_eraseDups, List.mem_mergeSort, List.mem_flatMap, List.mem_map]

/-- A word of the two-row array on a tile that neither row lists. -/
theorem pairWord_unlisted {b : Bench} {row n k : Nat} (h : k ∉ pairLanes b row) :
    pairWord b row n k = (rowPart b (if n < 1024 then row else (row + 1) % 64) (n % 1024 / 256)).base := by
  refine lget_rowPart_unlisted fun l hl e he hek => h (mem_pairLanes.mpr ⟨l, List.mem_append.mpr ?_, e, he, by omega⟩)
  split at hl
  · exact .inl hl
  · exact .inr hl

theorem arrayElement_eq_pairElement (b : Bench) (row q k : Nat) : arrayElement b row q k = pairElement b row q k := rfl

/-- Where every part of either row has one base, so has the element of a tile that neither row lists. -/
theorem pairElement_unlisted {b : Bench} {row q k : Nat} (hq : q < 4) (h : k ∉ pairLanes b row)
    (hbase : ∀ a < 4, (rowPart b row a).base = (rowPart b row 0).base
      ∧ (rowPart b ((row + 1) % 64) a).base = (rowPart b ((row + 1) % 64) 0).base) :
    pairElement b row q k = (rowPart b (if q < 2 then row else (row + 1) % 64) 0).base.toNat
      + (rowPart b (if q < 2 then row else (row + 1) % 64) 0).base.toNat * 2 ^ 32 := by
  have hword (n : Nat) (hn : n / 512 = q) :
      pairWord b row n k = (rowPart b (if q < 2 then row else (row + 1) % 64) 0).base := by
    rw [pairWord_unlisted h]
    obtain ⟨hfirst, hsecond⟩ := hbase (n % 1024 / 256) (by omega)
    by_cases hhalf : q < 2
    · rw [if_pos hhalf, if_pos (by omega), hfirst]
    · rw [if_neg hhalf, if_neg (by omega), hsecond]
  rw [pairElement, hword _ (by omega), hword _ (by omega)]

theorem lget_loadLanes (b : Bench) (w : W64) (k : Nat) :
    lget (loadLanes 0x60 b w) k = (lget (rowPart b (swRow w) (swPart w)) k).toNat := lget_lmap ..

theorem lget_loadLanes_pair (b : Bench) (w : W64) {k : Nat} (hk : k < 32768) :
    lget (loadLanes 0x61 b w) k = arrayElement b (swRow w) (swPart w) k := by
  simp only [loadLanes, if_neg (show ¬ (0x61 = 0x60) by decide), lget_ofKeys, arrayElement_eq_pairElement]
  refine ite_eq_left_iff.mpr fun hkeys => ?_
  split at hkeys
  · next hall =>
    simp only [List.all_eq_true, List.mem_range, Bool.and_eq_true, beq_iff_eq] at hall
    rw [pairElement_unlisted (swPart_lt w) hkeys hall]
  · exact absurd (List.mem_range.mpr hk) hkeys

/-! ### Staging written (R189, R190) -/

theorem sRow_putPart (b : Bench) (row q ready : Nat) (v : Lanes (Option Nat)) (r : Nat) :
    sRow (putPart b row q ready v) r = if r = row then
      { sRow b row with
        parts := (sRow b row).parts.set q (lzip (fun o x => (x.map (BitVec.ofNat 32)).getD o) (rowPart b row q) v), ready := ready }
      else sRow b r := by
  split
  · next h => subst h; exact tget_tset ..
  · next h => exact tget_tset_ne h

theorem length_parts_putPart (b : Bench) (row q ready : Nat) (v : Lanes (Option Nat)) (r : Nat) :
    (sRow (putPart b row q ready v) r).parts.length = (sRow b r).parts.length := by
  rw [sRow_putPart]
  split
  · next h => subst h; exact List.length_set
  · rfl

/-- A staging word after part q of a row is written: a lane without a value keeps its word. -/
theorem lget_rowPart_putPart {b : Bench} {row q : Nat} (hq : q < (sRow b row).parts.length) (ready : Nat) (v : Lanes (Option Nat))
    (r a k : Nat) : lget (rowPart (putPart b row q ready v) r a) k
      = if r = row ∧ a = q then ((lget v k).map (BitVec.ofNat 32)).getD (lget (rowPart b row q) k) else lget (rowPart b r a) k := by
  rw [rowPart, sRow_putPart]
  by_cases hr : r = row
  · subst hr
    by_cases ha : a = q
    · subst ha
      simp [List.getD_eq_getElem?_getD, hq]
    · simp [List.getD_eq_getElem?_getD, List.getElem?_set_ne (Ne.symm ha), ha, rowPart]
  · simp [hr, rowPart]

theorem lget_rowPart_putPart_none {b : Bench} {row q : Nat} (hq : q < (sRow b row).parts.length) (ready r a k : Nat) :
    lget (rowPart (putPart b row q ready (lconst none)) r a) k = lget (rowPart b r a) k := by
  rw [lget_rowPart_putPart hq]
  exact ite_eq_right_iff.mpr fun ⟨hr, ha⟩ => by rw [hr, ha]; rfl

theorem ready_putPart (b : Bench) (row q ready : Nat) (v : Lanes (Option Nat)) (r : Nat) :
    (tget? (putPart b row q ready v).srows r).map (fun x => x.ready)
      = if r = row then some ready else (tget? b.srows r).map (fun x => x.ready) := by
  split
  · next h => simp [h, putPart, tget?_tset]
  · next h => exact congrArg (Option.map _) (tget?_tset_ne h)

/-- Part a, 0 to 7, of the two-row array at a row: its row. -/
def pairRow (row a : Nat) : Nat := if a < 4 then row else (row + 1) % 64

/-- STORE.D's change of the bench: the ready tags of both rows, and the two parts of the array that hold its elements. -/
def storePair (b : Bench) (row q ready : Nat) (v : Lanes (Option Nat)) : Bench :=
  [2 * q, 2 * q + 1].foldl (fun b a => putPart b (pairRow row a) (a % 4) ready (storeHalves q v a))
    (putPart (putPart b row 0 ready (lconst none)) ((row + 1) % 64) 0 ready (lconst none))

/-- Word n of a lane's section of the array lies in part n / 256 of its eight. -/
theorem pairWord_eq {b : Bench} {row n : Nat} (hn : n < 2048) (k : Nat) :
    pairWord b row n k = lget (rowPart b (pairRow row (n / 256)) (n / 256 % 4)) (k / 256 * 256 + n % 256) := by
  simp only [pairWord, pairRow, show n % 1024 / 256 = n / 256 % 4 by omega]
  congr 2
  by_cases h : n < 1024
  · rw [if_pos h, if_pos (by omega)]
  · rw [if_neg h, if_neg (by omega)]

theorem pairRow_part_inj {row a c : Nat} (ha : a < 8) (hc : c < 8) :
    (pairRow row a = pairRow row c ∧ a % 4 = c % 4) ↔ a = c := by
  refine ⟨fun ⟨hr, hm⟩ => ?_, by rintro rfl; exact ⟨rfl, rfl⟩⟩
  unfold pairRow at hr
  split at hr <;> split at hr <;> omega

/-- The half of an element that word n of the array holds. -/
def halfOf (n v : Nat) : Nat := if n % 2 = 0 then v % 2 ^ 32 else v / 2 ^ 32

/-- What STORE.D writes to word n of a lane's section: half of the element that lies there, where its lane has one. -/
def storedWord (q : Nat) (v : Lanes (Option Nat)) (n k : Nat) : Option Nat :=
  if n / 2 / 256 = q then (lget v (k / 256 * 256 + n / 2 % 256)).map (halfOf n) else none

theorem lget_storeHalves (q : Nat) (v : Lanes (Option Nat)) (a : Nat) {k : Nat} (hk : k < 32768) :
    lget (storeHalves q v a) k = storedWord q v (256 * a + k % 256) k := by
  simp only [lget, tget, storeHalves, storedWord]
  rw [tget?_filterMap, if_pos (List.mem_range.mpr hk)]
  · by_cases hq : (256 * a + k % 256) / 2 / 256 = q
    · simp only [hq, bne_self_eq_false, if_true, Bool.false_eq_true, if_false]
      cases (tget? v.exc (k / 256 * 256 + (256 * a + k % 256) / 2 % 256)).getD v.base <;> rfl
    · simp [hq]
  · intro k e he
    split at he
    · cases he
    · split at he <;> cases he
      rfl

/-- Part a of the array after part c of it is written. -/
theorem lget_pairPart_putPart {b : Bench} {row a c : Nat} (ha : a < 8) (hc : c < 8)
    (hlen : (sRow b (pairRow row c)).parts.length = 4) (ready : Nat) (v : Lanes (Option Nat)) (k : Nat) :
    lget (rowPart (putPart b (pairRow row c) (c % 4) ready v) (pairRow row a) (a % 4)) k
      = if a = c then ((lget v k).map (BitVec.ofNat 32)).getD (lget (rowPart b (pairRow row a) (a % 4)) k)
        else lget (rowPart b (pairRow row a) (a % 4)) k := by
  rw [lget_rowPart_putPart (by omega)]
  simp only [pairRow_part_inj ha hc]
  split
  · next h => rw [h]
  · rfl

theorem length_pairRow {b : Bench} {row : Nat} (h0 : (sRow b row).parts.length = 4) (h1 : (sRow b ((row + 1) % 64)).parts.length = 4)
    (a : Nat) : (sRow b (pairRow row a)).parts.length = 4 := by
  unfold pairRow
  split <;> assumption

theorem pairWord_storePair {b : Bench} {row q : Nat} (hq : q < 4) (h0 : (sRow b row).parts.length = 4)
    (h1 : (sRow b ((row + 1) % 64)).parts.length = 4) (ready : Nat) (v : Lanes (Option Nat)) {n k : Nat} (hn : n < 2048)
    (hk : k < 32768) : pairWord (storePair b row q ready v) row n k
      = ((storedWord q v n k).map (BitVec.ofNat 32)).getD (pairWord b row n k) := by
  have hlane : k / 256 * 256 + n % 256 < 32768 := by omega
  have hstored : storedWord q v (256 * (n / 256) + (k / 256 * 256 + n % 256) % 256) (k / 256 * 256 + n % 256) = storedWord q v n k := by
    simp only [storedWord, show 256 * (n / 256) + (k / 256 * 256 + n % 256) % 256 = n by omega,
      show (k / 256 * 256 + n % 256) / 256 = k / 256 by omega]
  have hnew (c : Nat) (hc : n / 256 = c) : lget (storeHalves q v c) (k / 256 * 256 + n % 256) = storedWord q v n k := by
    rw [lget_storeHalves q v c hlane, ← hc, hstored]
  rw [pairWord_eq hn, pairWord_eq hn]
  simp only [storePair, List.foldl_cons, List.foldl_nil]
  rw [lget_pairPart_putPart (by omega) (by omega) (by simp only [length_parts_putPart, length_pairRow h0 h1]),
    lget_pairPart_putPart (by omega) (by omega) (by simp only [length_parts_putPart, length_pairRow h0 h1]),
    lget_rowPart_putPart_none (by rw [length_parts_putPart, h1]; decide), lget_rowPart_putPart_none (by rw [h0]; decide)]
  by_cases hhi : n / 256 = 2 * q + 1
  · rw [if_pos hhi, if_neg (by omega), hnew _ hhi]
  · rw [if_neg hhi]
    by_cases hlo : n / 256 = 2 * q
    · rw [if_pos hlo, hnew _ hlo]
    · rw [if_neg hlo, storedWord, if_neg (by omega)]
      rfl

/-- STORE.D writes the element of each lane that has a value, and no other element of the array. -/
theorem arrayElement_storePair {b : Bench} {row q : Nat} (hq : q < 4) (h0 : (sRow b row).parts.length = 4)
    (h1 : (sRow b ((row + 1) % 64)).parts.length = 4) (ready : Nat) {v : Lanes (Option Nat)} {c k : Nat} (hc : c < 4)
    (hk : k < 32768) (hv : ∀ x ∈ lget v k, x < 2 ^ 64) :
    arrayElement (storePair b row q ready v) row c k = (if c = q then lget v k else none).getD (arrayElement b row c k) := by
  have hword (n : Nat) (hn : n / 2 = 256 * c + k % 256) : pairWord (storePair b row q ready v) row n k
      = (((if c = q then lget v k else none).map (halfOf n)).map (BitVec.ofNat 32)).getD (pairWord b row n k) := by
    rw [pairWord_storePair hq h0 h1 ready v (by omega) hk, storedWord, hn, show (256 * c + k % 256) / 256 = c by omega,
      show k / 256 * 256 + (256 * c + k % 256) % 256 = k by omega]
    split <;> rfl
  have heven : 2 * (256 * c + k % 256) / 2 = 256 * c + k % 256 := by omega
  have hodd : (2 * (256 * c + k % 256) + 1) / 2 = 256 * c + k % 256 := by omega
  rw [arrayElement_eq_pairElement, arrayElement_eq_pairElement]
  cases hx : (if c = q then lget v k else none) with
  | none =>
    have hold (n : Nat) (hn : n / 2 = 256 * c + k % 256) : pairWord (storePair b row q ready v) row n k = pairWord b row n k := by
      rw [hword n hn, hx]; rfl
    rw [Option.getD_none, pairElement, pairElement, hold _ heven, hold _ hodd]
  | some x =>
    have hnew (n : Nat) (hn : n / 2 = 256 * c + k % 256) :
        pairWord (storePair b row q ready v) row n k = BitVec.ofNat 32 (halfOf n x) := by
      rw [hword n hn, hx]; rfl
    have hlt : x < 2 ^ 64 := hv x (by split at hx <;> simp_all)
    rw [Option.getD_some, pairElement, hnew _ heven, hnew _ hodd, halfOf, halfOf, if_pos (by omega), if_neg (by omega),
      BitVec.toNat_ofNat, BitVec.toNat_ofNat, Nat.mod_mod, lowWord_add_highWord, Nat.mod_eq_of_lt hlt]

theorem lget_rowPart_storePair_ne {b : Bench} {row q : Nat} (h0 : (sRow b row).parts.length = 4)
    (h1 : (sRow b ((row + 1) % 64)).parts.length = 4) (ready : Nat) (v : Lanes (Option Nat)) {r : Nat} (hr : r ≠ row)
    (hr1 : r ≠ (row + 1) % 64) (a k : Nat) : lget (rowPart (storePair b row q ready v) r a) k = lget (rowPart b r a) k := by
  have hne (c : Nat) : r ≠ pairRow row c := by unfold pairRow; split <;> assumption
  simp only [storePair, List.foldl_cons, List.foldl_nil]
  rw [lget_rowPart_putPart, if_neg (fun h => hne _ h.1), lget_rowPart_putPart, if_neg (fun h => hne _ h.1),
    lget_rowPart_putPart_none (by rw [length_parts_putPart, h1]; decide), lget_rowPart_putPart_none (by rw [h0]; decide)]
  all_goals simp only [length_parts_putPart, length_pairRow h0 h1]; omega

theorem ready_storePair (b : Bench) (row q ready : Nat) (v : Lanes (Option Nat)) {r : Nat} (hr : r = row ∨ r = (row + 1) % 64) :
    (tget? (storePair b row q ready v).srows r).map (fun x => x.ready) = some ready := by
  simp only [storePair, List.foldl_cons, List.foldl_nil, ready_putPart]
  grind

end Sys2Proof.Proofs
end

section
/-! PROOFS. The staging commands LOAD, LOAD.D, STORE, STORE.D and SHSEL, lane by lane (R189, R190, R205). -/

namespace Sys2Proof.Proofs

open Sys2Proof Sys2Proof.Machine Sys2Proof.Laws

/-! ### What a store leaves -/

theorem regLane_d_lt (b : Bench) (n k : Nat) : regLane b .d n k < 2 ^ 64 := by
  rw [regLane_d]
  have hlo := (lget (vData b n) k).isLt
  have hhi := (lget (vData b (n + 1)) k).isLt
  omega

/-- What a bench holds beyond its staging rows. -/
def beyondStaging (b : Bench) : Bench := { b with srows := [] }

theorem beyondRegisters_of_beyondStaging {b c : Bench} (h : beyondStaging c = beyondStaging b) : beyondRegisters c = beyondRegisters b :=
  congrArg (fun d : Bench => { d with v := [], p := [] }) h

theorem beyondStaging_putPart (b : Bench) (row q ready : Nat) (v : Lanes (Option Nat)) :
    beyondStaging (putPart b row q ready v) = beyondStaging b := rfl

theorem beyondStaging_storePair (b : Bench) (row q ready : Nat) (v : Lanes (Option Nat)) :
    beyondStaging (storePair b row q ready v) = beyondStaging b := by
  simp only [storePair, List.foldl_cons, List.foldl_nil, beyondStaging_putPart]

@[simp] theorem rowPart_issuedBench (b : Bench) (x : Issue) (lat r q : Nat) : rowPart (issuedBench b x lat) r q = rowPart b r q := rfl

@[simp] theorem arrayElement_issuedBench (b : Bench) (x : Issue) (lat row q k : Nat) :
    arrayElement (issuedBench b x lat) row q k = arrayElement b row q k := by
  simp only [arrayElement_eq_pairElement, pairElement, pairWord, rowPart_issuedBench]

/-! ### The commands -/

/-- A lane operation that sets no flag, finished: its results are in the destination of the lanes that take part. -/
theorem finishLanes_at (s : State) (i : Nat) (x : Issue) (w : W64) (scalar : Option W64) (p : Sep) (g : LaneIn → Nat)
    (l : Lanes LaneIn) {on : Nat → Bool} {f : Nat → Nat}
    (hl : ∀ k, k < 32768 → (lget l k).on = on k ∧ g (lget l k) = f k) :
    let lat := (classTimes p.cls).2
    let u := finishLanes (issuedIn s i x w scalar p) (laneResults (fun _ a => (g a, nfNone)) l) (issuedAt s i x lat)
    SepRan s u i x lat ∧ DestWritten s u i w p (x.cycle + lat) on f := by
  intro lat u
  have hu : u = setFlags (modBench (issuedAt s i x lat) i fun b => putUse b p.d (cD w) (x.cycle + lat)
      (lmap (fun o => o.map Prod.fst) (laneResults (fun _ a => (g a, nfNone)) l))) i nfNone :=
    congrArg (setFlags _ i) (laneFlags_none g l)
  have hb : benchOf u i = putUse (issuedBench (benchOf s i) x lat) p.d (cD w) (x.cycle + lat)
      (lmap (fun o => o.map Prod.fst) (laneResults (fun _ a => (g a, nfNone)) l)) := by
    rw [hu, benchOf_setFlags_none, benchOf_modBench, benchOf_issuedAt]
  refine ⟨?_, destWritten_putUse hb fun k hk => ?_⟩
  · rw [hu]
    exact sepRan_setFlags_none (sepRan_modBench s i x lat (fun b => beyondRegisters_putUse b ..))
  · obtain ⟨hon, hg⟩ := hl k hk
    rw [lget_lmap, lget_laneResults (fun a => (g a, nfNone)), hon, hg]
    split <;> rfl

/-- What STORE and STORE.D write in each lane: A, where the lane takes part. -/
def storeValues (y : BenchIn) : Lanes (Option Nat) := lmap (fun a => if a.on then some a.a else none) (laneIns y)

theorem lget_storeValues (s : State) (i : Nat) (x : Issue) {w : W64} (scalar : Option W64) (p : Sep) (h : cOp w ≠ 0x17) (k : Nat) :
    lget (storeValues (issuedIn s i x w scalar p)) k
      = if (laneArg s i w scalar p k).on then some (laneArg s i w scalar p k).a else none := by
  rw [storeValues, lget_lmap, lget_laneIns s i x scalar p h k]

theorem storeValues_lt (s : State) (i : Nat) (x : Issue) {w : W64} (scalar : Option W64) {p : Sep} (h : cOp w ≠ 0x17) (hp : p.a = .d)
    (k : Nat) : ∀ v ∈ lget (storeValues (issuedIn s i x w scalar p)) k, v < 2 ^ 64 := by
  intro v hv
  rw [lget_storeValues s i x scalar p h, Option.mem_def, Option.ite_none_right_eq_some, Option.some_inj] at hv
  obtain ⟨-, rfl⟩ := hv
  simp only [laneArg, hp]
  exact regLane_d_lt ..

/-- From b to c STORE or STORE.D has changed staging and no register, accumulator or effect in flight. -/
def StagingAlone (b c : Bench) : Prop := c.v = b.v ∧ c.p = b.p ∧ c.e = b.e ∧ c.w = b.w ∧ c.flight = b.flight

theorem stagingAlone_of_beyondStaging {b c : Bench} {x : Issue} {lat : Nat} (h : beyondStaging c = beyondStaging (issuedBench b x lat)) :
    StagingAlone b c :=
  ⟨(congrArg Bench.v h :), (congrArg Bench.p h :), (congrArg Bench.e h :), (congrArg Bench.w h :), (congrArg Bench.flight h :)⟩

section Commands

variable {s : State} {slot : SlotId} {x : Issue} {w : W64} {p : Sep}

/-- LOAD and LOAD.D: the values f of the lanes that take part are in the destination. -/
theorem loadRow_at (hat : SepAt s slot.val x w none p) {op : Nat} (hop : cOp w = op) (hne : op ≠ 0x17) {f : Nat → Nat}
    (hf : ∀ k, k < 32768 → lget (loadLanes op (issuedBench (benchOf s slot.val) x (classTimes p.cls).2) w) k = f k) :
    ∃ u, loadRow op slot s = settled u slot.val ∧ SepRan s u slot.val x (classTimes p.cls).2
      ∧ DestWritten s u slot.val w p (x.cycle + (classTimes p.cls).2) (fun k => (laneArg s slot.val w none p k).on) f := by
  refine ⟨_, benchRow_at hat hop _, finishLanes_at s slot.val x w none p LaneIn.a _ fun k hk => ?_⟩
  rw [lget_lzip, lget_laneIns s slot.val x none p (hop ▸ hne) k, ← hf k hk]
  simp only [issuedIn, getSlot_issuedAt, and_self]

/-- The row of R184 is that of the opcode. -/
theorem sepInfo_of_sepAt {op : Nat} (hat : SepAt s slot.val x w none p) (hop : cOp w = op) : sepInfo op (cDbl w) (cRM w) = some p := by
  obtain ⟨-, -, hrow, -⟩ := hat
  rw [← hrow, sepOf, hop]

theorem exec_sepLoad (hat : SepAt s slot.val x w none p) (hop : cOp w = 0x60) :
    ∃ u, exec (.sepLoad slot) s = .next (settled u slot.val) ∧ SepRan s u slot.val x 3
      ∧ DestWritten s u slot.val w p (x.cycle + 3) (fun k => (laneArg s slot.val w none p k).on)
        (fun k => (lget (rowPart (benchOf s slot.val) (swRow w) (swPart w)) k).toNat) := by
  obtain rfl := Option.some.inj (sepInfo_of_sepAt hat hop)
  obtain ⟨u, hu, hran, hdest⟩ := loadRow_at hat hop (by decide) fun k _ => lget_loadLanes _ w k
  exact ⟨u, congrArg Host.Outcome.next hu, hran, hdest⟩

theorem exec_sepLoadD (hat : SepAt s slot.val x w none p) (hop : cOp w = 0x61) :
    ∃ u, exec (.sepLoadD slot) s = .next (settled u slot.val) ∧ SepRan s u slot.val x 3
      ∧ DestWritten s u slot.val w p (x.cycle + 3) (fun k => (laneArg s slot.val w none p k).on)
        (fun k => arrayElement (benchOf s slot.val) (swRow w) (swPart w) k) := by
  obtain rfl := Option.some.inj (sepInfo_of_sepAt hat hop)
  obtain ⟨u, hu, hran, hdest⟩ := loadRow_at hat hop (by decide) fun k hk => lget_loadLanes_pair _ w hk
  exact ⟨u, congrArg Host.Outcome.next hu, hran, hdest⟩

theorem exec_sepStore (hat : SepAt s slot.val x w none p) (hop : cOp w = 0x62)
    (hlen : (sRow (benchOf s slot.val) (swRow w)).parts.length = 4) :
    ∃ u, exec (.sepStore slot) s = .next (settled u slot.val) ∧ SepRan s u slot.val x 3
      ∧ StagingAlone (benchOf s slot.val) (benchOf u slot.val)
      ∧ (∀ r q k, q < 4 → k < 32768 → lget (rowPart (benchOf u slot.val) r q) k
          = if r = swRow w ∧ q = swPart w ∧ (laneArg s slot.val w none p k).on = true
            then BitVec.ofNat 32 (laneArg s slot.val w none p k).a else lget (rowPart (benchOf s slot.val) r q) k)
      ∧ (tget? (benchOf u slot.val).srows (swRow w)).map (fun r => r.ready) = some (x.cycle + 3) := by
  have hv := lget_storeValues s slot.val x none p (w := w) (by rw [hop]; decide)
  obtain rfl := Option.some.inj (sepInfo_of_sepAt hat hop)
  have hrun : storeRow 0x62 slot s = settled (modBench (issuedAt s slot.val x 3) slot.val fun b =>
      putPart b (swRow w) (swPart w) (x.cycle + 3) (storeValues (issuedIn s slot.val x w none _))) slot.val := benchRow_at hat hop _
  refine ⟨_, congrArg Host.Outcome.next hrun,
    sepRan_modBench s slot.val x 3 fun b => beyondRegisters_of_beyondStaging (beyondStaging_putPart b ..), ?_⟩
  rw [benchOf_modBench, benchOf_issuedAt]
  refine ⟨stagingAlone_of_beyondStaging (beyondStaging_putPart ..), fun r q k _ _ => ?_, (ready_putPart ..).trans (if_pos rfl)⟩
  rw [lget_rowPart_putPart (hlen ▸ swPart_lt w), hv, rowPart_issuedBench, rowPart_issuedBench]
  grind

theorem exec_sepStoreD (hat : SepAt s slot.val x w none p) (hop : cOp w = 0x63)
    (hlen0 : (sRow (benchOf s slot.val) (swRow w)).parts.length = 4)
    (hlen1 : (sRow (benchOf s slot.val) ((swRow w + 1) % 64)).parts.length = 4) :
    ∃ u, exec (.sepStoreD slot) s = .next (settled u slot.val) ∧ SepRan s u slot.val x 3
      ∧ StagingAlone (benchOf s slot.val) (benchOf u slot.val)
      ∧ (∀ q k, q < 4 → k < 32768 → arrayElement (benchOf u slot.val) (swRow w) q k
          = if q = swPart w ∧ (laneArg s slot.val w none p k).on = true then (laneArg s slot.val w none p k).a
            else arrayElement (benchOf s slot.val) (swRow w) q k)
      ∧ (∀ r q k, r ≠ swRow w → r ≠ (swRow w + 1) % 64 →
          lget (rowPart (benchOf u slot.val) r q) k = lget (rowPart (benchOf s slot.val) r q) k)
      ∧ (tget? (benchOf u slot.val).srows (swRow w)).map (fun r => r.ready) = some (x.cycle + 3)
      ∧ (tget? (benchOf u slot.val).srows ((swRow w + 1) % 64)).map (fun r => r.ready) = some (x.cycle + 3) := by
  have hv := lget_storeValues s slot.val x none p (w := w) (by rw [hop]; decide)
  obtain rfl := Option.some.inj (sepInfo_of_sepAt hat hop)
  have hrun : storeRow 0x63 slot s = settled (modBench (issuedAt s slot.val x 3) slot.val fun b =>
      storePair b (swRow w) (swPart w) (x.cycle + 3) (storeValues (issuedIn s slot.val x w none _))) slot.val := benchRow_at hat hop _
  refine ⟨_, congrArg Host.Outcome.next hrun,
    sepRan_modBench s slot.val x 3 fun b => beyondRegisters_of_beyondStaging (beyondStaging_storePair b ..), ?_⟩
  rw [benchOf_modBench, benchOf_issuedAt]
  refine ⟨stagingAlone_of_beyondStaging (beyondStaging_storePair ..), fun q k hq hk => ?_,
    fun r q k hr hr1 => lget_rowPart_storePair_ne hlen0 hlen1 _ _ hr hr1 q k,
    ready_storePair _ _ _ _ _ (.inl rfl), ready_storePair _ _ _ _ _ (.inr rfl)⟩
  rw [arrayElement_storePair (swPart_lt w) (b := issuedBench _ _ _) hlen0 hlen1 _ hq hk
    (storeValues_lt s slot.val x none (by rw [hop]; decide) rfl k), hv, arrayElement_issuedBench]
  grind

/-- SHSEL's bits: one in every lane of a tile that is sampled, zero in the others. -/
def sampleBits (sampled : Nat → Bool) : Lanes (Option Nat) :=
  ⟨some 0, ((List.range 128).filter sampled).flatMap (fun t => (List.range 256).map (fun j => (256 * t + j, some 1)))⟩

theorem lget_sampleBits (sampled : Nat → Bool) {k : Nat} (hk : k < 32768) :
    lget (sampleBits sampled) k = some (if sampled (k / 256) then 1 else 0) := by
  have hkeys : sampleBits sampled
      = ⟨some 0, (((List.range 128).filter sampled).flatMap (fun t => (List.range 256).map (256 * t + ·))).map (fun k => (k, some 1))⟩ := by
    simp [sampleBits, List.map_flatMap, Function.comp_def]
  have hmem : k / 256 ∈ (List.range 128).filter sampled ↔ sampled (k / 256) = true := by
    rw [List.mem_filter, List.mem_range]
    exact and_iff_right (by omega)
  rw [hkeys, lget_ofKeys _ (fun _ => some 1)]
  simp only [mem_lanesOfTiles, hmem]
  split <;> rfl

/-- Whether the chunk that a row of a source has on a tile is in the shadow sample (R205). -/
def chunkSampled (s : State) (sl : Slot) (src : RowSrc) (t : Nat) : Bool :=
  match srcChunk s sl src t with
  | none => false
  | some g => shadowSample sl.ob.jobId (progStep sl) g sl.ob.shadowRate

theorem exec_sepShsel (hat : SepAt s slot.val x w none p) (hop : cOp w = 0x64) :
    ∃ u, exec (.sepShsel slot) s = .next (settled u slot.val) ∧ SepRan s u slot.val x 4
      ∧ DestWritten s u slot.val w p (x.cycle + 4) (fun _ => true)
        (fun k => if chunkSampled (atCycle s slot.val x.cycle) (getSlot s slot.val) (sRow (benchOf s slot.val) (swRow w)).src (k / 256)
          then 1 else 0) := by
  obtain rfl := Option.some.inj (sepInfo_of_sepAt hat hop)
  have hrun : shselRow slot s = settled (modBench (issuedAt s slot.val x 4) slot.val fun b => putUse b .p (cD w) (x.cycle + 4)
      (sampleBits (chunkSampled (atCycle s slot.val x.cycle) (getSlot s slot.val) (sRow (benchOf s slot.val) (swRow w)).src)))
      slot.val := by
    refine (benchRow_at hat hop _).trans ?_
    simp only [issuedIn, getSlot_issuedAt]
    rfl
  refine ⟨_, congrArg Host.Outcome.next hrun, sepRan_modBench s slot.val x 4 fun b => beyondRegisters_putUse b .., ?_⟩
  exact destWritten_putUse ((benchOf_modBench ..).trans (by rw [benchOf_issuedAt])) fun k hk => lget_sampleBits _ hk

end Commands

/-- Settles O18: each command runs as `exec_sepLoad` to `exec_sepShsel` say; SHSEL's bit of a tile is that of `chunkSampled`. -/
theorem stagingCommandsMoveEachLane : Obligations.StagingCommandsMoveEachLane := by
  unfold Obligations.StagingCommandsMoveEachLane
  intro s slot x w p hat
  refine ⟨exec_sepLoad hat, exec_sepLoadD hat, exec_sepStore hat, exec_sepStoreD hat, fun hop => ?_⟩
  obtain ⟨u, hu, hran, hdest⟩ := exec_sepShsel hat hop
  refine ⟨u, hu, hran, (congrArg (DestWritten s u slot.val w p (x.cycle + 4) fun _ => true) (funext fun k => ?_)).mpr hdest⟩
  unfold chunkSampled
  cases srcChunk (atCycle s slot.val x.cycle) (getSlot s slot.val) (sRow (benchOf s slot.val) (swRow w)).src (k / 256) <;> rfl

end Sys2Proof.Proofs
end

section
/-! PROOFS. HBM's bytes: what one byte and a span of them read after a byte string is written (R411). -/

namespace Sys2Proof.Proofs

open Sys2Proof Sys2Proof.Machine Sys2Proof.Laws

theorem length_fitBytes (k : Nat) (bs : Bytes) : (fitBytes k bs).length = k := by
  simp only [fitBytes, List.length_append, List.length_take, List.length_replicate]
  omega

theorem fitBytes_of_le {k : Nat} {bs : Bytes} (h : k ≤ bs.length) : fitBytes k bs = bs.take k := by
  simp [fitBytes, Nat.sub_eq_zero_of_le h]

/-! ### One byte -/

/-- Dropping cells of other keys does not change what a byte reads. -/
theorem memByte_filter_keep {m : List Host.Cell} {p : Host.Cell → Bool} {x : Nat} (h : ∀ c, c.1 = x → p c = true) :
    memByte (m.filter p) x = memByte m x := by
  have hp : (fun c : Host.Cell => decide (p c = true ∧ (c.1 == x) = true)) = fun c => c.1 == x := by
    funext c
    by_cases hc : c.1 = x
    · simp [hc, h c hc]
    · simp [hc]
  rw [memByte, memByte, List.find?_filter, hp]

theorem find?_key_unlisted {m : List Host.Cell} {x : Nat} (h : ∀ c ∈ m, c.1 ≠ x) : m.find? (fun c => c.1 == x) = none :=
  List.find?_eq_none.mpr fun c hc => by simp [h c hc]

/-- A byte that no cell lists reads zero (log entry 3). -/
theorem memByte_unlisted {m : List Host.Cell} {x : Nat} (h : ∀ c ∈ m, c.1 ≠ x) : memByte m x = 0 := by
  simp [memByte, find?_key_unlisted h]

theorem memByte_append_right {m m' : List Host.Cell} {x : Nat} (h : ∀ c ∈ m, c.1 ≠ x) : memByte (m ++ m') x = memByte m' x := by
  simp [memByte, List.find?_append, find?_key_unlisted h]

theorem memByte_append_left {m m' : List Host.Cell} {x : Nat} (h : ∀ c ∈ m', c.1 ≠ x) : memByte (m ++ m') x = memByte m x := by
  simp [memByte, List.find?_append, find?_key_unlisted h]

theorem memByte_cons (c : Host.Cell) (m : List Host.Cell) (x : Nat) : memByte (c :: m) x = if c.1 = x then c.2 else memByte m x := by
  by_cases h : c.1 = x
  · simp [memByte, h]
  · simp [memByte, h]

theorem memByte_cellsOf_cons (a : Nat) (b : Byte) (bs : Bytes) (x : Nat) :
    memByte (cellsOf a (b :: bs)) x = if a = x then b else memByte (cellsOf (a + 1) bs) x := by
  by_cases hb : b = 0
  · rw [cellsOf, if_pos hb]
    split
    · next hx =>
      rw [hb]
      exact memByte_unlisted fun c hc => by have := mem_cellsOf hc; omega
    · rfl
  · rw [cellsOf, if_neg hb, memByte_cons]

theorem memByte_cellsOf (a : Nat) (bs : Bytes) (k : Nat) : memByte (cellsOf a bs) (a + k) = bs.getD k 0 := by
  induction bs generalizing a k with
  | nil => rfl
  | cons b rest ih =>
    rw [memByte_cellsOf_cons]
    cases k with
    | zero => simp
    | succ k => rw [if_neg (by omega), show a + (k + 1) = a + 1 + k by omega, ih, List.getD_cons_succ]

/-- The cells that a write keeps from below it list none of the bytes from its first on. -/
theorem key_ne_of_below {m : List Host.Cell} {a x : Nat} (hx : a ≤ x) : ∀ c ∈ m.filter (fun c => c.1 < a), c.1 ≠ x := fun c hc => by
  have := of_decide_eq_true (List.mem_filter.mp hc).2
  omega

/-- The cells that a write keeps from above it list none of the bytes before its end. -/
theorem key_ne_of_above {m : List Host.Cell} {e x : Nat} (hx : x < e) : ∀ c ∈ m.filter (fun c => e ≤ c.1), c.1 ≠ x := fun c hc => by
  have := of_decide_eq_true (List.mem_filter.mp hc).2
  omega

theorem memByte_memWrite_inside (m : List Host.Cell) (a : Nat) {bs : Bytes} {k : Nat} (hk : k < bs.length) :
    memByte (memWrite m a bs) (a + k) = bs.getD k 0 := by
  rw [memWrite, memByte_append_left (key_ne_of_above (by omega)), memByte_append_right (key_ne_of_below (by omega)), memByte_cellsOf]

theorem memByte_memWrite_outside (m : List Host.Cell) {a x : Nat} {bs : Bytes} (hx : x < a ∨ a + bs.length ≤ x) :
    memByte (memWrite m a bs) x = memByte m x := by
  have hcells : ∀ c ∈ cellsOf a bs, c.1 ≠ x := fun c hc => by
    have := mem_cellsOf hc
    omega
  rw [memWrite]
  rcases hx with hx | hx
  · rw [memByte_append_left (key_ne_of_above (by omega)), memByte_append_left hcells]
    exact memByte_filter_keep fun c hc => decide_eq_true (hc ▸ hx)
  · rw [List.append_assoc, memByte_append_right (key_ne_of_below (by omega)), memByte_append_right hcells]
    exact memByte_filter_keep fun c hc => decide_eq_true (hc ▸ hx)

/-! ### A span of bytes -/

/-- A span reads byte by byte: that only the cells near it are searched is no difference. -/
theorem memRead_eq_map (m : List Host.Cell) (a n : Nat) : memRead m a n = (List.range n).map (fun k => memByte m (a + k)) := by
  have hnear : ∀ k ∈ List.range n, memByte (m.filter fun c => a ≤ c.1 && c.1 < a + n) (a + k) = memByte m (a + k) := by
    intro k hk
    have := List.mem_range.mp hk
    refine memByte_filter_keep fun c hc => ?_
    simp only [hc, Bool.and_eq_true, decide_eq_true_eq]
    omega
  simp only [memRead]
  split
  · next hempty =>
    refine (List.eq_replicate_iff.mpr ⟨by simp, fun b hb => ?_⟩).symm
    obtain ⟨k, hk, rfl⟩ := List.mem_map.mp hb
    rw [← hnear k hk, List.isEmpty_iff.mp hempty]
    rfl
  · exact List.map_congr_left hnear

@[simp] theorem length_memRead (m : List Host.Cell) (a n : Nat) : (memRead m a n).length = n := by
  simp [memRead_eq_map]

theorem memRead_memWrite_same (m : List Host.Cell) (a : Nat) (bs : Bytes) : memRead (memWrite m a bs) a bs.length = bs := by
  refine List.ext_getElem (length_memRead ..) fun k _ hk => ?_
  simp only [memRead_eq_map, List.getElem_map, List.getElem_range, memByte_memWrite_inside m a hk]
  exact (List.getElem_eq_getD 0).symm

theorem memRead_memWrite_apart (m : List Host.Cell) {a b n : Nat} {bs : Bytes} (h : a + bs.length ≤ b ∨ b + n ≤ a) :
    memRead (memWrite m a bs) b n = memRead m b n := by
  simp only [memRead_eq_map]
  refine List.map_congr_left fun k hk => memByte_memWrite_outside m ?_
  have := List.mem_range.mp hk
  omega

end Sys2Proof.Proofs
end

section
/-! PROOFS. Where the pieces of a frame lie, and that no two of them share a byte (R411, R415). -/

namespace Sys2Proof.Proofs

open Sys2Proof Sys2Proof.Machine Sys2Proof.Laws

/-! ### Live channels (R411) -/

theorem tile_of_liveChannel {s : State} {t c : Nat} (h : c ∈ liveChannels s t) : c / 8 = t := by
  simp only [liveChannels, List.mem_filterMap, List.mem_range, Option.ite_none_right_eq_some, Option.some.injEq] at h
  obtain ⟨k, hk, -, rfl⟩ := h
  omega

theorem liveChannels_nodup (s : State) (t : Nat) : (liveChannels s t).Nodup := by
  refine List.Pairwise.filterMap _ (fun k k' hne c hk c' hk' => ?_) List.nodup_range
  simp only [Option.ite_none_right_eq_some, Option.some.injEq] at hk hk'
  omega

/-! ### Pieces -/

theorem pieceKey_eq_some_iff {s : State} {t f i k : Nat} :
    pieceKey s t f i = some k ↔ ∃ c, (liveChannels s t)[(8 * f + i) % (liveChannels s t).length]? = some c
      ∧ memKey c ((8 * f + i) / (liveChannels s t).length * 512) = k := by
  by_cases hm : (liveChannels s t).length = 0
  · simp [pieceKey, List.length_eq_zero_iff.mp hm]
  · simp [pieceKey, hm]

theorem exists_pieceKey {s : State} {t : Nat} (hm : 0 < (liveChannels s t).length) (f i : Nat) : ∃ k, pieceKey s t f i = some k :=
  ⟨_, pieceKey_eq_some_iff.mpr ⟨_, List.getElem?_eq_getElem (Nat.mod_lt _ hm), rfl⟩⟩

/-- No byte belongs to both of two pieces. -/
def PiecesApart (s : State) (t f i t' g j : Nat) : Prop :=
  ∀ k k', pieceKey s t f i = some k → pieceKey s t' g j = some k' → k + 512 ≤ k' ∨ k' + 512 ≤ k

/-- A piece of a frame in reach ends within its channel's 2 GiB. -/
theorem piece_end_le {s : State} {t f i : Nat} (h : FrameInReach s t f) (hi : i < 8) :
    (8 * f + i) / (liveChannels s t).length * 512 + 512 ≤ 2 ^ 31 := by
  have hrow : (8 * f + i) / (liveChannels s t).length < 2 ^ 22 := Nat.div_lt_of_lt_mul (by unfold FrameInReach at h; omega)
  omega

/-- The channel of a piece names its tile, and with the address in it the number of the piece (R415). -/
theorem piecesApart {s : State} {t f i t' g j : Nat} (hf : FrameInReach s t f) (hg : FrameInReach s t' g) (hi : i < 8) (hj : j < 8)
    (hne : t' = t → 8 * f + i ≠ 8 * g + j) : PiecesApart s t f i t' g j := by
  intro k k' hk hk'
  have hend := piece_end_le hf hi
  have hend' := piece_end_le hg hj
  obtain ⟨c, hc, rfl⟩ := pieceKey_eq_some_iff.mp hk
  obtain ⟨c', hc', rfl⟩ := pieceKey_eq_some_iff.mp hk'
  unfold memKey
  rcases Nat.lt_trichotomy c c' with hlt | rfl | hlt
  · omega
  · have htile : t' = t := by
      rw [← tile_of_liveChannel (List.mem_of_getElem? hc), ← tile_of_liveChannel (List.mem_of_getElem? hc')]
    subst htile
    have hindex : (8 * f + i) % (liveChannels s t').length = (8 * g + j) % (liveChannels s t').length :=
      (List.getElem?_inj (List.getElem?_eq_some_iff.mp hc).1 (liveChannels_nodup s t')).mp (hc.trans hc'.symm)
    have hrow : (8 * f + i) / (liveChannels s t').length ≠ (8 * g + j) / (liveChannels s t').length := fun hrow =>
      hne rfl (by rw [← Nat.div_add_mod (8 * f + i) (liveChannels s t').length, hrow, hindex, Nat.div_add_mod])
    omega
  · omega

end Sys2Proof.Proofs
end

section
/-! PROOFS. Frames piece by piece: reading one is reading its eight pieces, writing one is writing them one after another (R415). -/

namespace Sys2Proof.Proofs

open Sys2Proof Sys2Proof.Machine Sys2Proof.Laws

/-! ### Byte strings cut into pieces of 512 bytes -/

theorem length_flatMap_pieces {h : Nat → Bytes} (hlen : ∀ i, (h i).length = 512) (n : Nat) :
    ((List.range n).flatMap h).length = 512 * n := by
  simp only [List.length_flatMap, hlen, List.map_const', List.length_range, List.sum_replicate_nat]
  exact Nat.mul_comm n 512

theorem take_drop_flatMap_pieces {h : Nat → Bytes} (hlen : ∀ i, (h i).length = 512) {i n : Nat} (hi : i < n) :
    (((List.range n).flatMap h).drop (512 * i)).take 512 = h i := by
  induction n with
  | zero => omega
  | succ n ih =>
    have hn := length_flatMap_pieces hlen n
    rw [List.range_succ, List.flatMap_append, List.drop_append_of_le_length (by omega)]
    rcases Nat.lt_succ_iff_lt_or_eq.mp hi with hlt | rfl
    · rw [List.take_append_of_le_length (by rw [List.length_drop]; omega), ih hlt]
    · rw [List.drop_eq_nil_of_le (Nat.le_of_eq hn)]
      simp [List.take_of_length_le (Nat.le_of_eq (hlen i))]

theorem flatMap_pieces_eq_take {h : Nat → Bytes} {bs : Bytes} {n : Nat} (hp : ∀ i < n, h i = (bs.drop (512 * i)).take 512) :
    (List.range n).flatMap h = bs.take (512 * n) := by
  induction n with
  | zero => rfl
  | succ n ih =>
    rw [List.range_succ, List.flatMap_append, ih fun i hi => hp i (Nat.lt_succ_of_lt hi), Nat.mul_succ, List.take_add]
    simp [hp n (Nat.lt_succ_self n)]

/-! ### Reading -/

/-- The 512 bytes of a piece; zeros on a tile without live channels. -/
def pieceRead (s : State) (t f i : Nat) : Bytes := (pieceKey s t f i).elim (List.replicate 512 0) (memRead s.hbm.mem · 512)

theorem length_pieceRead (s : State) (t f i : Nat) : (pieceRead s t f i).length = 512 := by
  unfold pieceRead
  cases pieceKey s t f i with
  | none => exact List.length_replicate
  | some k => exact length_memRead ..

theorem pieceRead_of_key {s : State} {t f i k : Nat} (hk : pieceKey s t f i = some k) :
    pieceRead s t f i = memRead s.hbm.mem k 512 := by
  simp [pieceRead, hk]

theorem frameRead_eq_flatMap (s : State) (t f : Nat) : frameRead s t f = (List.range 8).flatMap (pieceRead s t f) := by
  refine congrArg (fun h => List.flatMap h (List.range 8)) (funext fun i => ?_)
  unfold pieceRead
  cases pieceKey s t f i <;> rfl

theorem length_frameRead (s : State) (t f : Nat) : (frameRead s t f).length = 4096 :=
  frameRead_eq_flatMap s t f ▸ length_flatMap_pieces (length_pieceRead s t f) 8

theorem take_drop_frameRead (s : State) (t f : Nat) {i : Nat} (hi : i < 8) :
    ((frameRead s t f).drop (512 * i)).take 512 = pieceRead s t f i :=
  frameRead_eq_flatMap s t f ▸ take_drop_flatMap_pieces (length_pieceRead s t f) hi

theorem frameRead_congr {s u : State} {t f : Nat} (h : ∀ i < 8, pieceRead u t f i = pieceRead s t f i) :
    frameRead u t f = frameRead s t f := by
  rw [frameRead_eq_flatMap, frameRead_eq_flatMap]
  simp only [List.flatMap_def]
  exact congrArg List.flatten (List.map_congr_left fun i hi => h i (List.mem_range.mp hi))

/-! ### What a write leaves -/

/-- Two states that agree in everything but HBM's bytes and the sectors that are uncorrectable. -/
def SameBeyondBytes (s u : State) : Prop := { u with hbm := { u.hbm with mem := s.hbm.mem, bad := s.hbm.bad } } = s

theorem SameBeyondBytes.trans {s u v : State} (h : SameBeyondBytes s u) (h' : SameBeyondBytes u v) : SameBeyondBytes s v := by
  unfold SameBeyondBytes at *
  conv => rhs; rw [← h]
  rw [← h']

/-- Which channels are live, and so where a piece lies, does not depend on HBM's bytes. -/
theorem SameBeyondBytes.pieceKey_eq {s u : State} (h : SameBeyondBytes s u) (t f i : Nat) : pieceKey u t f i = pieceKey s t f i := by
  rw [← h]
  rfl

/-! ### Writing -/

/-- Piece i of a byte string written as piece i of a frame. -/
def piecePut (s : State) (t f : Nat) (bs : Bytes) (i : Nat) : State :=
  (pieceKey s t f i).elim s (fun k => pieceWrite s k (fitBytes 512 (bs.drop (512 * i))))

/-- The first n pieces of a byte string written as those of a frame. -/
def piecesPut (s : State) (t f : Nat) (bs : Bytes) (n : Nat) : State := (List.range n).foldl (fun s i => piecePut s t f bs i) s

theorem frameWrite_eq_piecesPut (s : State) (t f : Nat) (bs : Bytes) : frameWrite s t f bs = piecesPut s t f bs 8 := by
  refine congrArg (fun put => List.foldl put s (List.range 8)) (funext fun u => funext fun i => ?_)
  unfold piecePut
  cases pieceKey u t f i <;> rfl

theorem piecesPut_succ (s : State) (t f : Nat) (bs : Bytes) (n : Nat) :
    piecesPut s t f bs (n + 1) = piecePut (piecesPut s t f bs n) t f bs n := by
  simp [piecesPut, List.range_succ]

theorem piecePut_sameBeyondBytes (s : State) (t f : Nat) (bs : Bytes) (i : Nat) : SameBeyondBytes s (piecePut s t f bs i) := by
  unfold piecePut
  cases pieceKey s t f i <;> rfl

theorem piecesPut_sameBeyondBytes (s : State) (t f : Nat) (bs : Bytes) (n : Nat) : SameBeyondBytes s (piecesPut s t f bs n) := by
  induction n with
  | zero => rfl
  | succ n ih => exact piecesPut_succ s t f bs n ▸ ih.trans (piecePut_sameBeyondBytes ..)

theorem pieceRead_piecePut_same {s : State} {t f i k : Nat} (bs : Bytes) (hk : pieceKey s t f i = some k) :
    pieceRead (piecePut s t f bs i) t f i = fitBytes 512 (bs.drop (512 * i)) := by
  rw [pieceRead_of_key (((piecePut_sameBeyondBytes s t f bs i).pieceKey_eq t f i).trans hk)]
  simp only [piecePut, hk, Option.elim_some, pieceWrite]
  have h := memRead_memWrite_same s.hbm.mem k (fitBytes 512 (bs.drop (512 * i)))
  rwa [length_fitBytes] at h

theorem pieceRead_piecePut_apart {s : State} {t f i t' g j : Nat} (bs : Bytes) (h : PiecesApart s t f i t' g j) :
    pieceRead (piecePut s t f bs i) t' g j = pieceRead s t' g j := by
  unfold pieceRead
  rw [(piecePut_sameBeyondBytes s t f bs i).pieceKey_eq]
  cases hk' : pieceKey s t' g j with
  | none => rfl
  | some k' =>
    cases hk : pieceKey s t f i with
    | none => simp [piecePut, hk]
    | some k =>
      simp only [piecePut, hk, Option.elim_some, pieceWrite]
      exact memRead_memWrite_apart _ (by rw [length_fitBytes]; exact h k k' hk hk')

theorem pieceRead_piecePut_piecesPut_apart {s : State} {t f i t' g j : Nat} (bs : Bytes) (n : Nat)
    (h : PiecesApart s t f i t' g j) :
    pieceRead (piecePut (piecesPut s t f bs n) t f bs i) t' g j = pieceRead (piecesPut s t f bs n) t' g j := by
  refine pieceRead_piecePut_apart bs ?_
  have hs := piecesPut_sameBeyondBytes s t f bs n
  simpa only [PiecesApart, hs.pieceKey_eq] using h

/-- A piece that shares no byte with the pieces written reads as before. -/
theorem pieceRead_piecesPut_apart {s : State} {t f t' g j n : Nat} (bs : Bytes) (h : ∀ i < n, PiecesApart s t f i t' g j) :
    pieceRead (piecesPut s t f bs n) t' g j = pieceRead s t' g j := by
  induction n with
  | zero => rfl
  | succ n ih =>
    rw [piecesPut_succ, pieceRead_piecePut_piecesPut_apart bs n (h n (Nat.lt_succ_self n)), ih fun i hi => h i (Nat.lt_succ_of_lt hi)]

/-- A piece that was written reads back: the pieces written after it share no byte with it. -/
theorem pieceRead_piecesPut_same {s : State} {t f i n : Nat} (bs : Bytes) (hm : 0 < (liveChannels s t).length)
    (hf : FrameInReach s t f) (hi : i < n) (hn : n ≤ 8) :
    pieceRead (piecesPut s t f bs n) t f i = fitBytes 512 (bs.drop (512 * i)) := by
  induction n with
  | zero => omega
  | succ n ih =>
    rw [piecesPut_succ]
    rcases Nat.lt_succ_iff_lt_or_eq.mp hi with hlt | rfl
    · have hapart : PiecesApart s t f n t f i := piecesApart hf hf (by omega) (by omega) fun _ => by omega
      rw [pieceRead_piecePut_piecesPut_apart bs n hapart, ih hlt (by omega)]
    · obtain ⟨k, hk⟩ := exists_pieceKey hm f i
      exact pieceRead_piecePut_same bs (((piecesPut_sameBeyondBytes s t f bs i).pieceKey_eq t f i).trans hk)

/-! ### Frames -/

theorem frameRead_frameWrite_same {s : State} {t f : Nat} {bs : Bytes} (hlen : bs.length = 4096) (hf : FrameInReach s t f)
    (hm : 0 < (liveChannels s t).length) : frameRead (frameWrite s t f bs) t f = bs := by
  have hpiece : ∀ i < 8, pieceRead (frameWrite s t f bs) t f i = (bs.drop (512 * i)).take 512 := fun i hi => by
    rw [frameWrite_eq_piecesPut, pieceRead_piecesPut_same bs hm hf hi (Nat.le_refl 8)]
    exact fitBytes_of_le (by rw [List.length_drop]; omega)
  rw [frameRead_eq_flatMap, flatMap_pieces_eq_take hpiece, List.take_of_length_le (Nat.le_of_eq hlen)]

/-- Another frame, of this tile or of another, keeps its bytes. -/
theorem frameRead_frameWrite_other {s : State} {t f t' g : Nat} (bs : Bytes) (hf : FrameInReach s t f) (hg : FrameInReach s t' g)
    (hne : t' = t → g ≠ f) : frameRead (frameWrite s t f bs) t' g = frameRead s t' g := by
  rw [frameWrite_eq_piecesPut]
  exact frameRead_congr fun j hj => pieceRead_piecesPut_apart bs fun i hi => piecesApart hf hg hi hj fun ht => by
    have := hne ht
    omega

/-- Settles O8: a frame's pieces are `pieceRead`s at R415's keys, and the two laws of `frameRead` after `frameWrite` rest on
`piecesApart`. -/
theorem framesReadBackAsTheyWereWritten : Obligations.FramesReadBackAsTheyWereWritten := by
  unfold Obligations.FramesReadBackAsTheyWereWritten
  intro s tile f bs hlen hf hm
  refine ⟨length_frameRead s tile f, fun i hi => ?_, frameRead_frameWrite_same hlen hf hm,
    fun g hne hg => frameRead_frameWrite_other bs hf hg fun _ => hne,
    fun tile' g hne hg => frameRead_frameWrite_other bs hf hg fun h => absurd h hne,
    frameWrite_eq_piecesPut s tile f bs ▸ piecesPut_sameBeyondBytes s tile f bs 8⟩
  obtain ⟨k, hk⟩ := exists_pieceKey hm f i
  obtain ⟨c, hc, rfl⟩ := pieceKey_eq_some_iff.mp hk
  exact ⟨c, hc, (take_drop_frameRead s tile f hi).trans (pieceRead_of_key hk)⟩

end Sys2Proof.Proofs
end

section
/-! PROOFS. Packed records: what a field reads of a number that is packed from fields (R6, R14). -/

namespace Sys2Proof.Proofs

open Sys2Proof Sys2Proof.Machine Sys2Proof.Laws

/-- The bits that fields take together. -/
def fieldBits (fs : List (Nat × Nat)) : Nat := (fs.map Prod.fst).sum

theorem packFields_lt (fs : List (Nat × Nat)) : packFields fs < 2 ^ fieldBits fs := by
  induction fs with
  | nil => exact Nat.one_pos
  | cons e fs ih =>
    obtain ⟨w, v⟩ := e
    have hv : v % 2 ^ w < 2 ^ w := Nat.mod_lt _ (Nat.two_pow_pos w)
    calc packFields ((w, v) :: fs) < (packFields fs + 1) * 2 ^ w := by
          rw [packFields, Nat.succ_mul, Nat.add_comm]
          exact Nat.add_lt_add_left hv _
      _ ≤ 2 ^ fieldBits fs * 2 ^ w := Nat.mul_le_mul_right _ ih
      _ = 2 ^ fieldBits ((w, v) :: fs) := by
          rw [show fieldBits ((w, v) :: fs) = w + fieldBits fs from List.sum_cons, Nat.pow_add, Nat.mul_comm]

/-- A word as wide as its fields holds them all. -/
theorem toNat_packFields {fs : List (Nat × Nat)} {w : Nat} (hw : fieldBits fs = w) :
    (BitVec.ofNat w (packFields fs)).toNat = packFields fs :=
  Nat.mod_eq_of_lt (hw ▸ packFields_lt fs)

/-- Past the bits of the first fields stand the other fields. -/
theorem packFields_append_shiftRight (pre fs : List (Nat × Nat)) :
    packFields (pre ++ fs) >>> fieldBits pre = packFields fs := by
  induction pre with
  | nil => rfl
  | cons e pre ih =>
    obtain ⟨w, v⟩ := e
    have hfirst : packFields ((w, v) :: (pre ++ fs)) >>> w = packFields (pre ++ fs) := by
      rw [packFields, Nat.shiftRight_eq_div_pow, Nat.add_mul_div_right _ _ (Nat.two_pow_pos w),
        Nat.div_eq_of_lt (Nat.mod_lt _ (Nat.two_pow_pos w)), Nat.zero_add]
    rw [List.cons_append, show fieldBits ((w, v) :: pre) = w + fieldBits pre from List.sum_cons, Nat.shiftRight_add, hfirst, ih]

/-- A field reads back with the low bits of what was packed. -/
theorem bitsOf_packFields (pre post : List (Nat × Nat)) (w v : Nat) :
    bitsOf (packFields (pre ++ (w, v) :: post)) (fieldBits pre) w = v % 2 ^ w := by
  rw [bitsOf, packFields_append_shiftRight, packFields, Nat.add_mul_mod_self_right, Nat.mod_mod]

theorem foldl_orBit_lt {n v : Nat} {is : List Nat} (hv : v < 2 ^ n) (h : ∀ i ∈ is, i < n) : is.foldl orBit v < 2 ^ n := by
  induction is generalizing v with
  | nil => exact hv
  | cons i is ih =>
    rw [List.forall_mem_cons] at h
    refine ih (Nat.or_lt_two_pow hv ?_) h.2
    rw [Nat.one_shiftLeft]
    exact Nat.pow_lt_pow_right Nat.one_lt_two h.1

end Sys2Proof.Proofs
end

section
/-! PROOFS. What the device has put on its pins stays there: the operations of an abort only add to it (log entry 7). In each lemma o is
a list that the pins begin with before the operation, and begin with after it. -/

namespace Sys2Proof.Proofs

open Sys2Proof Sys2Proof.Machine Sys2Proof.Laws

/-- Every piece but one, as a mask. -/
abbrev allBut (p : Piece) : Nat := 2 ^ 57 - 2 - 2 ^ pieceNum p

section
variable {o : List Emit} {s : State}

theorem sent_foldl {α : Type} {g : State → α → State} (hg : ∀ s a, o <+: s.out → o <+: (g s a).out) (l : List α)
    (h : o <+: s.out) : o <+: (l.foldl g s).out := by
  induction l generalizing s with
  | nil => exact h
  | cons a l ih => exact ih (hg s a h)

/-- An operation whose pieces do not name the pins sends nothing. -/
theorem sent_of_kept {t : State} (hk : Kept (allBut .out) s t) (h : o <+: s.out) : o <+: t.out := by
  rwa [show t.out = s.out from same_of_kept hk .out]

theorem sent_emit (e : Emit) (h : o <+: s.out) : o <+: (emit s e).out := h.trans (List.prefix_append ..)

/-! ### Events (R450) -/

theorem sent_evtWrite (code slot : Nat) (payload : Bytes) (h : o <+: s.out) : o <+: (evtWrite s code slot payload).out := by
  unfold evtWrite
  dsimp only
  split
  · exact sent_emit _ h
  · exact h

theorem sent_evtOverflow (h : o <+: s.out) : o <+: (evtOverflow s).out := by
  unfold evtOverflow
  split
  · exact sent_evtWrite _ _ _ h
  · exact h

theorem sent_postEvent (code slot : Nat) (payload : Bytes) (h : o <+: s.out) : o <+: (postEvent s code slot payload).out := by
  unfold postEvent
  split
  · exact h
  · split
    · exact h
    · dsimp only
      split
      · exact sent_evtWrite _ _ _ (sent_evtOverflow h)
      · exact sent_evtOverflow h

theorem sent_powerEvent (kind domain value : Nat) (h : o <+: s.out) : o <+: (powerEvent s kind domain value).out :=
  sent_postEvent evPower devEvent _ h

/-! ### Reports (R287 to R297) -/

theorem sent_escalate (i reason kind suspect : Nat) (h : o <+: s.out) : o <+: (escalate s i reason kind suspect).out := by
  unfold escalate
  dsimp only
  split
  · exact h
  · exact sent_postEvent _ _ _ h

theorem sent_subjectEnters (i : Nat) (u : Subject) (st : Nat) (h : o <+: s.out) : o <+: (subjectEnters s i u st).out :=
  sent_postEvent _ _ _ h

theorem sent_requestExpulsion (i : Nat) (u : Subject) (h : o <+: s.out) : o <+: (requestExpulsion s i u).out := by
  have hheld : o <+: (if u.st = 1 then s else subjectEnters s i u 1).out := by
    split
    · exact h
    · exact sent_subjectEnters i u 1 h
  unfold requestExpulsion
  dsimp only
  split
  · exact sent_subjectEnters _ _ _ h
  · split
    · exact sent_escalate _ _ _ _ hheld
    · exact hheld

theorem sent_applyPenalty (i kind suspect symptom step : Nat) (rehearsal continuation : Bool) (id : Nat) (h : o <+: s.out) :
    o <+: (applyPenalty s i kind suspect symptom step rehearsal continuation id).out := by
  unfold applyPenalty
  dsimp only
  split
  · exact h
  · split
    · exact sent_requestExpulsion _ _ h
    · exact h

theorem sent_countEscalations (i kind suspect : Nat) (aborted rehearsal : Bool) (h : o <+: s.out) :
    o <+: (countEscalations s i kind suspect aborted rehearsal).out := by
  unfold countEscalations
  dsimp only
  split
  · exact h
  · split
    · split
      · exact sent_escalate _ _ _ _ h
      · exact h
    · split
      · split
        · exact sent_escalate _ _ _ _ h
        · exact h
      · exact h

theorem sent_openIncident (i : Nat) (n : Incident) (h : o <+: s.out) : o <+: (openIncident s i n).out := by
  unfold openIncident
  split
  · exact sent_escalate _ _ _ _ h
  · exact sent_countEscalations _ _ _ _ _ (sent_applyPenalty _ _ _ _ _ _ _ _ h)

theorem sent_mergeReport (i : Nat) (r : Report) (h : o <+: s.out) : o <+: (mergeReport s i r).out := by
  unfold mergeReport
  dsimp only
  split
  · exact h
  · exact sent_openIncident _ _ h

theorem sent_reportFault (i : Nat) (r : Report) (h : o <+: s.out) : o <+: (reportFault s i r).out := by
  have hmerged := sent_mergeReport i r h
  unfold reportFault
  dsimp only
  split
  · exact hmerged
  · split
    · exact sent_mergeReport _ _ h
    · split
      · exact hmerged
      · split
        · split
          · exact sent_escalate _ _ _ _ (sent_mergeReport _ _ hmerged)
          · exact sent_mergeReport _ _ hmerged
        · exact hmerged

theorem sent_ownIncident (i kind suspect symptom detail : Nat) (h : o <+: s.out) :
    o <+: (ownIncident s i kind suspect symptom detail).out := sent_reportFault _ _ h

theorem sent_reportAll (i step attempt cause : Nat) (aborted : Bool) (rs : List Accusation) (h : o <+: s.out) :
    o <+: (reportAll s i step attempt cause aborted rs).out :=
  sent_foldl (fun _ _ h => sent_reportFault _ _ h) rs h

/-! ### Buffers (R345 to R347) -/

theorem sent_poolError (b : Nat) (foreign : Bool) (slot : Option Nat) (h : o <+: s.out) : o <+: (poolError s b foreign slot).out := by
  unfold poolError
  dsimp only
  exact sent_foldl (fun s i h => sent_ownIncident i _ _ _ _ h) _ (sent_postEvent _ _ _ h)

theorem sent_freeBuf (b : Nat) (d : BufDesc) (h : o <+: s.out) : o <+: (freeBuf s b d).out := h

theorem sent_modBuf (b : Nat) (f : BufDesc → BufDesc) (h : o <+: s.out) : o <+: (modBuf s b f).out :=
  sent_of_kept (kept_modBuf (by decide) (kept_refl _ s)) h

theorem sent_releaseBuf (b holder : Nat) (h : o <+: s.out) : o <+: (releaseBuf s b holder).out := by
  unfold releaseBuf
  split
  · exact sent_poolError _ _ _ h
  · split
    · exact sent_poolError _ _ _ h
    · split
      · exact sent_freeBuf _ _ h
      · split
        · exact sent_poolError _ _ _ h
        · split
          · exact sent_freeBuf _ _ h
          · exact sent_modBuf _ _ h

theorem sent_unlinkBuf (b holder : Nat) (h : o <+: s.out) : o <+: (unlinkBuf s b holder).out := by
  unfold unlinkBuf
  split
  · exact sent_poolError _ _ _ h
  · split
    · exact sent_poolError _ _ _ h
    · split
      · exact sent_poolError _ _ _ h
      · dsimp only
        split
        · exact sent_modBuf _ _ h
        · split
          · exact sent_freeBuf _ _ h
          · exact sent_modBuf _ _ h

theorem sent_dropFrameBufs (p : Nat) (bufs : List Nat) (h : o <+: s.out) : o <+: (dropFrameBufs s p bufs).out := by
  unfold dropFrameBufs
  refine sent_foldl (fun s b h => ?_) bufs h
  split
  · exact h
  · split
    · exact sent_unlinkBuf _ _ h
    · exact sent_releaseBuf _ _ h

/-! ### An abort (R272) -/

theorem sent_unlinkSlotFrames (i : Nat) (h : o <+: s.out) : o <+: (unlinkSlotFrames s i).out := by
  unfold unlinkSlotFrames
  dsimp only
  exact sent_foldl (g := fun s e => modTx _ _ _) (fun s e h => sent_foldl (fun _ f h => sent_dropFrameBufs e.1 f.bufs h) _ h) s.ports h

theorem sent_abandonFetch (i : Nat) (h : o <+: s.out) : o <+: (abandonFetch s i).out := by
  unfold abandonFetch
  dsimp only
  refine sent_foldl (g := fun s e => modRx _ _ _) (fun s e h => h) _ ?_
  refine sent_foldl (fun s e h => ?_) (getSlot s i).fetch h
  split
  · exact h
  · exact sent_releaseBuf _ _ h

theorem sent_loseSlot (i : Nat) (h : o <+: s.out) : o <+: (loseSlot s i).out := by
  unfold loseSlot
  dsimp only
  split
  · exact h
  · exact sent_postEvent _ _ _ h

theorem sent_startRestore (i : Nat) (h : o <+: s.out) : o <+: (startRestore s i).out := by
  unfold startRestore
  dsimp only
  split
  · exact h
  · split
    · exact h
    · split
      · exact sent_loseSlot _ h
      · split
        · exact sent_loseSlot _ h
        · exact sent_of_kept (kept_sendRestoreReqs (by decide) (kept_refl _ _)) h

theorem sent_enterRollback (i cause origin : Nat) (h : o <+: s.out) : o <+: (enterRollback s i cause origin).out := by
  unfold enterRollback
  extract_lets sl s1 s2 s3 s4 s5 s6 s7 s8 s9 s10
  have h2 : o <+: s2.out := sent_of_kept (kept_releaseParked (by decide) (kept_refl _ s1)) (sent_unlinkSlotFrames i h)
  have h3 : o <+: s3.out := sent_abandonFetch i h2
  have h6 : Kept (allBut .out) s3 s6 :=
    kept_leaveBench (by decide) (kept_releaseHeld (by decide) (kept_dropSlotWaiters (by decide) (kept_refl _ s3)))
  have h8 : Kept (allBut .out) s3 s8 :=
    kept_foldl (kept_modSlot h6 fun _ => sold_rollbackSlot (by decide) sold_refl) fun _ _ h => kept_slotLinkCtrl (by decide) h
  have h10 : o <+: s10.out :=
    sent_foldl (fun _ _ h => sent_postEvent _ _ _ h) _ (sent_postEvent _ _ _ (sent_of_kept h8 h3))
  exact sent_startRestore i h10

theorem sent_abortLocal (i cause : Nat) (rs : List Accusation) (h : o <+: s.out) : o <+: (abortLocal s i cause rs).out := by
  unfold abortLocal
  dsimp only
  split
  · exact sent_reportAll _ _ _ _ _ _ (sent_enterRollback _ _ _ h)
  · exact h

end

end Sys2Proof.Proofs
end

section
/-! PROOFS. What every DRY_FIT step aborted on this device alone leaves of each slot's step (R467). -/

namespace Sys2Proof.Proofs

open Sys2Proof Sys2Proof.Machine Sys2Proof.Laws

/-- What an abort with a cause makes of a step: of one in DRY_FIT a step that rolls back, with the next attempt; nothing of any other. -/
def AbortedHere (cause : Nat) (r r' : StepRec) : Prop :=
  (r.st = .dryFit → r'.st = .rollingBack ∧ r'.abortCause = cause ∧ r'.attempt = (r.attempt + 1) % 256)
    ∧ (r.st ≠ .dryFit → r' = r)

theorem enterRollback_step_ne (s : State) (cause origin : Nat) {i k : Nat} (hk : k ≠ i) :
    (getSlot (enterRollback s i cause origin) k).step = (getSlot s k).step := by
  unfold enterRollback
  extract_lets sl s1 s2 s3 s4 s5 s6 s7 s8 s9 s10
  have h6 : Kept (allBut .slotStep) s s6 :=
    kept_leaveBench (by decide) (kept_releaseHeld (by decide) (kept_dropSlotWaiters (by decide) (kept_abandonFetch (by decide)
      (kept_releaseParked (by decide) (kept_unlinkSlotFrames (by decide) (kept_refl _ s))))))
  have h7 : getSlot s7 k = getSlot s6 k := getSlot_modSlot_ne s6 _ hk
  have h10 : Kept (allBut .slotStep) s7 s10 :=
    kept_foldl (kept_postEvent (by decide) (kept_foldl (kept_refl _ s7) fun _ _ h => kept_slotLinkCtrl (by decide) h))
      fun _ _ h => kept_postEvent (by decide) h
  have hend : Kept (allBut .slotStep) s7 (startRestore s10 i) := kept_startRestore (by decide) h10
  rw [same_of_kept hend .slotStep rfl k, h7, same_of_kept h6 .slotStep rfl k]

theorem reportAll_step (s : State) (i step attempt cause : Nat) (aborted : Bool) (rs : List Accusation) (k : Nat) :
    (getSlot (reportAll s i step attempt cause aborted rs) k).step = (getSlot s k).step :=
  same_of_kept (kept_reportAll (W := allBut .slotStep) (by decide) (kept_refl _ s)) .slotStep rfl k

theorem abortLocal_step_ne (s : State) (cause : Nat) (rs : List Accusation) {i k : Nat} (hk : k ≠ i) :
    (getSlot (abortLocal s i cause rs) k).step = (getSlot s k).step := by
  unfold abortLocal
  dsimp only
  split
  · rw [reportAll_step, enterRollback_step_ne s cause _ hk]
  · rfl

theorem abortLocal_step (s : State) (i cause : Nat) (rs : List Accusation) :
    AbortedHere cause (getSlot s i).step (getSlot (abortLocal s i cause rs) i).step := by
  unfold abortLocal
  dsimp only
  split
  · next hst =>
    obtain ⟨hstep, _⟩ := enterRollback_slot s i cause (selfId s)
    rw [reportAll_step, hstep]
    exact ⟨fun _ => ⟨rfl, rfl, rfl⟩, fun h => absurd (eq_of_beq hst) h⟩
  · next hst => exact ⟨fun h => absurd (beq_iff_eq.mpr h) hst, fun _ => rfl⟩

/-- The slots of a list aborted in turn, each once. -/
theorem foldl_abortLocal_step (cause : Nat) (rs : State → List Accusation) {is : List Nat} (hnodup : is.Nodup) (s : State) (k : Nat) :
    (k ∉ is → (getSlot (is.foldl (fun s i => abortLocal s i cause (rs s)) s) k).step = (getSlot s k).step)
      ∧ (k ∈ is → AbortedHere cause (getSlot s k).step
          (getSlot (is.foldl (fun s i => abortLocal s i cause (rs s)) s) k).step) := by
  induction is generalizing s with
  | nil => exact ⟨fun _ => rfl, fun h => absurd h List.not_mem_nil⟩
  | cons i is ih =>
    obtain ⟨hi, hnodup⟩ := List.nodup_cons.mp hnodup
    obtain ⟨hout, hin⟩ := ih hnodup (abortLocal s i cause (rs s))
    by_cases hk : k = i
    · subst hk
      refine ⟨fun h => absurd List.mem_cons_self h, fun _ => ?_⟩
      rw [List.foldl_cons, hout hi]
      exact abortLocal_step s k cause (rs s)
    · rw [abortLocal_step_ne s cause (rs s) hk] at hout hin
      exact ⟨fun h => hout fun hmem => h (List.mem_cons_of_mem i hmem),
        fun h => hin ((List.mem_cons.mp h).resolve_left hk)⟩

end Sys2Proof.Proofs
end

section
/-! PROOFS. What a leave notice puts on the spoke links (R398, R401). -/

namespace Sys2Proof.Proofs

open Sys2Proof Sys2Proof.Machine Sys2Proof.Laws

theorem spokeSend_of_up {s : State} {link : Nat} (k : Nat) (body : Bytes) (h : (getSpoke s link).st = 2) :
    spokeSend s link k body = modSpoke (emit s (.spoke link k (getSpoke s link).nextSseq body (spokeCopies k))) link
      (fun l => { l with nextSseq := (l.nextSseq + 1) % 256, seqSent := inc32 l.seqSent }) := by
  simp [spokeSend, h]

/-- A sequence sent on links that are all up, each once. -/
theorem spokeSendAll_out {links : List Nat} (hnodup : links.Nodup) (k : Nat) (body : Bytes) {s : State}
    (hup : ∀ l ∈ links, (getSpoke s l).st = 2) :
    (spokeSendAll s links k body).out
      = s.out ++ links.map (fun l => .spoke l k (getSpoke s l).nextSseq body (spokeCopies k)) := by
  induction links generalizing s with
  | nil => simp [spokeSendAll]
  | cons link links ih =>
    obtain ⟨hlink, hnodup⟩ := List.nodup_cons.mp hnodup
    obtain ⟨hfirst, hrest⟩ := List.forall_mem_cons.mp hup
    have hother : ∀ l ∈ links, getSpoke (spokeSend s link k body) l = getSpoke s l := fun l hl => by
      rw [spokeSend_of_up k body hfirst, getSpoke_modSpoke_ne _ _ (ne_of_mem_of_not_mem hl hlink)]
      rfl
    have hsent : (spokeSend s link k body).out = s.out ++ [.spoke link k (getSpoke s link).nextSseq body (spokeCopies k)] := by
      rw [spokeSend_of_up k body hfirst, modSpoke_out, emit_out]
    calc (spokeSendAll s (link :: links) k body).out
        = (spokeSendAll (spokeSend s link k body) links k body).out := rfl
      _ = (spokeSend s link k body).out
          ++ links.map (fun l => .spoke l k (getSpoke (spokeSend s link k body) l).nextSseq body (spokeCopies k)) :=
          ih hnodup fun l hl => (congrArg Spoke.st (hother l hl)).trans (hrest l hl)
      _ = _ := by
        rw [hsent, List.append_assoc, List.map_congr_left fun l hl => by rw [hother l hl]]
        rfl

theorem sendLeave_out (s : State) (reason : Nat) : (sendLeave s reason).out = s.out ++ leavesSent s reason :=
  spokeSendAll_out (List.nodup_range.filter _) kLeave _ fun _ hl => eq_of_beq (List.mem_filter.mp hl).2

/-- A leave notice is formed from the slots, the links and the device's number alone. -/
theorem leavesSent_congr {s t : State} (hslots : t.slots = s.slots) (hspokes : t.spokes = s.spokes) (hhost : t.host = s.host)
    (reason : Nat) : leavesSent t reason = leavesSent s reason := by
  simp only [leavesSent, slotsWhere, getSlot, getSpoke, selfId, hslots, hspokes, hhost]

end Sys2Proof.Proofs
end

section
/-! PROOFS. An event posted: what becomes of the ring, and that nothing else changes but the pins (R28, R450, R487). -/

namespace Sys2Proof.Proofs

open Sys2Proof Sys2Proof.Machine Sys2Proof.Laws

theorem evtWrite_evt (s : State) (code slot : Nat) (payload : Bytes) :
    (evtWrite s code slot payload).evt = { s.evt with
      issued := s.evt.issued + 1
      flight := s.evt.flight ++ [⟨freeTag s.evt.flight, deviceModule s,
        s.evt.base.toNat / 4096 * 4096 + 128 * (s.evt.issued.toNat % 2 ^ s.evt.sizeLog2.toNat),
        evtRecord code slot s.evt.issued.toNat s.time payload, false⟩] } := by
  unfold evtWrite
  dsimp only
  split <;> rfl

/-- From s to t only the event ring and the pins change. -/
def OnlyEvents (s t : State) : Prop := ∃ e o, t = { s with evt := e, out := o }

theorem OnlyEvents.trans {s t u : State} (h : OnlyEvents s t) (h' : OnlyEvents t u) : OnlyEvents s u := by
  obtain ⟨_, _, rfl⟩ := h
  obtain ⟨e, o, rfl⟩ := h'
  exact ⟨e, o, rfl⟩

theorem OnlyEvents.frame {s t : State} (h : OnlyEvents s t) :
    t.pwr = s.pwr ∧ t.time = s.time ∧ t.slots = s.slots ∧ t.host = s.host := by
  obtain ⟨_, _, rfl⟩ := h
  exact ⟨rfl, rfl, rfl, rfl⟩

theorem onlyEvents_evtWrite (s : State) (code slot : Nat) (payload : Bytes) : OnlyEvents s (evtWrite s code slot payload) := by
  unfold evtWrite
  dsimp only
  split <;> exact ⟨_, _, rfl⟩

theorem onlyEvents_evtOverflow (s : State) : OnlyEvents s (evtOverflow s) := by
  unfold evtOverflow
  split
  · exact OnlyEvents.trans ⟨_, s.out, rfl⟩ (onlyEvents_evtWrite _ _ _ _)
  · exact ⟨s.evt, s.out, rfl⟩

theorem onlyEvents_postEvent (s : State) (code slot : Nat) (payload : Bytes) : OnlyEvents s (postEvent s code slot payload) := by
  unfold postEvent
  split
  · exact ⟨_, _, rfl⟩
  · split
    · exact ⟨_, _, rfl⟩
    · refine (onlyEvents_evtOverflow s).trans ?_
      dsimp only
      split
      · exact onlyEvents_evtWrite _ _ _ _
      · exact ⟨_, _, rfl⟩

theorem onlyEvents_powerEvent (s : State) (kind domain value : Nat) : OnlyEvents s (powerEvent s kind domain value) :=
  onlyEvents_postEvent _ _ _ _

theorem postEvent_posts (s : State) (code slot : Nat) (payload : Bytes) :
    EventPosted s (postEvent s code slot payload) code slot payload := by
  refine ⟨fun hdown => ?_, fun hup hdis => ?_, fun hup hen howed hroom => ?_, fun hup hen hfull => ?_⟩
  · simp [postEvent, hdown]
  · simp [postEvent, hup, hdis]
  · have hwritten : postEvent s code slot payload = evtWrite s code slot payload := by
      simp [postEvent, evtOverflow, hup, hen, howed, hroom]
    obtain ⟨_, htime, _⟩ := (onlyEvents_evtWrite s code slot payload).frame
    rw [hwritten, htime]
    exact ⟨_, evtWrite_evt s code slot payload, rfl, rfl, rfl⟩
  · simp [postEvent, evtOverflow, hup, hen, hfull]

/-- A POWER event after a change of the always-on block. -/
theorem powerEvent_modPwr (s : State) (f : Power → Power) (kind domain value : Nat) :
    PowerEvent s (powerEvent (modPwr s f) kind domain value) (f s.pwr) kind domain value := by
  obtain ⟨hpwr, htime, hslots, hhost⟩ := (onlyEvents_powerEvent (modPwr s f) kind domain value).frame
  exact ⟨hpwr, htime, hslots, hhost, postEvent_posts (modPwr s f) _ _ _⟩

end Sys2Proof.Proofs
end

section
/-! PROOFS. The supply: what dropouts, the input's return, surges and a last gasp do (R463 to R468). -/

namespace Sys2Proof.Proofs

open Sys2Proof Sys2Proof.Machine Sys2Proof.Laws

/-! ### Riding through (R463 to R466) -/

section
variable {s : State}

theorem exec_inputDropout_of_normal (h : s.pwr.inputState = 0) : exec .inputDropout s = .next (enterRide s) :=
  congrArg Host.Outcome.next (if_pos h)

theorem exec_inputDropout_of_not_normal (h : s.pwr.inputState ≠ 0) : exec .inputDropout s = .next s :=
  congrArg Host.Outcome.next (if_neg h)

theorem exec_inputRecover_in_time (hride : s.pwr.inputState = 1) (hclosed : s.pwr.switchOpen = false) (htime : s.time < rideEnd s) :
    exec .inputRecover s = .next (powerEvent
      (modPwr s fun p => { p with inputState := 0, rideThroughs := inc16 p.rideThroughs }) 0x01 noDomain (dropoutUs s)) :=
  congrArg Host.Outcome.next (if_pos (by simp [hride, hclosed, htime]))

/-- The input's return comes too late at the window's end, and in no other state than RIDE_THROUGH (R464, R466). -/
theorem exec_inputRecover_stays (h : s.pwr.inputState = 1 → rideEnd s ≤ s.time) : exec .inputRecover s = .next s := by
  refine congrArg Host.Outcome.next (if_neg fun hc => ?_)
  simp only [Bool.and_eq_true, decide_eq_true_eq] at hc
  obtain ⟨⟨hride, _⟩, htime⟩ := hc
  exact Nat.not_lt.mpr (h hride) htime

theorem exec_surgeOpen_of_normal (hclosed : s.pwr.switchOpen = false) (hnormal : s.pwr.inputState = 0) :
    exec .surgeOpen s = .next (enterRide
      (modPwr s fun p => { p with switchOpen := true, switchSince := s.time, surges := inc16 p.surges })) := by
  refine congrArg Host.Outcome.next ((if_neg ?_).trans (if_pos hnormal))
  simp [hclosed, hnormal]

theorem exec_surgeClose_in_time (hopen : s.pwr.switchOpen = true) (hride : s.pwr.inputState = 1) (htime : s.time < rideEnd s) :
    exec .surgeClose s = .next (powerEvent
      (modPwr s fun p => { p with switchOpen := false, inputState := 0 }) 0x02 noDomain ((s.time - s.pwr.switchSince) / 1000)) :=
  congrArg Host.Outcome.next (if_pos (by simp [hopen, hride, htime]))

/-- The end of a surge, too, comes too late at the window's end (R465, R466). -/
theorem exec_surgeClose_stays (h : s.pwr.inputState = 1 → rideEnd s ≤ s.time) : exec .surgeClose s = .next s := by
  refine congrArg Host.Outcome.next (if_neg fun hc => ?_)
  simp only [Bool.and_eq_true, decide_eq_true_eq] at hc
  obtain ⟨⟨_, hride⟩, htime⟩ := hc
  exact Nat.not_lt.mpr (h hride) htime

end

/-! ### The last gasp (R466 to R468) -/

theorem exec_lastGasp_of_not_riding {s : State} (cause : GaspCause) (h : s.pwr.inputState ≠ 1) :
    exec (.lastGasp cause) s = .next s :=
  congrArg Host.Outcome.next (if_pos (by rw [bne_iff_ne.mpr h, Bool.true_or]))

/-- A last-gasp record is formed from device time and the slots alone. -/
theorem gaspRecord_congr {s t : State} (htime : t.time = s.time) (hslots : t.slots = s.slots) (samples cause : Nat) :
    gaspRecord t samples cause = gaspRecord s samples cause := by
  simp only [gaspRecord, openCount, sealedMask, slotsWhere, getSlot, htime, hslots]

/-- At the trigger device time has come to the window's end, or is as it was when the store is at its reserve (R466). -/
def gaspTime (cause : GaspCause) (s : State) : State :=
  { s with time := if cause.val = 1 then timeMask (max s.time (rideEnd s)) else s.time }

theorem timeTo_rideEnd_eq_gaspTime (cause : GaspCause) (s : State) :
    (if cause.val = 1 then timeTo s (rideEnd s) else s) = gaspTime cause s := by
  unfold gaspTime
  split <;> rfl

/-- The record of a last gasp, as it is formed at the trigger (R468, R518; log entry 88). -/
def triggerRecord (cause : GaspCause) (s : State) : BitVec 512 :=
  gaspRecord (gaspTime cause s) (Config.inputSamples s.freeCount).toNat cause.val

/-- The device at the trigger (R466, R467). -/
def gaspTriggered (cause : GaspCause) (s : State) : State :=
  modPwr (drawFree (gaspTime cause s)).2 fun p => { p with
    inputState := 2, phase := 9, gaspActive := true, lastGasps := inc16 p.lastGasps, gaspRecord := some (triggerRecord cause s) }

/-- Every DRY_FIT step aborted on this device alone, in a last gasp (R467). -/
def abortAllHere (s : State) : State :=
  (List.range 64).foldl (fun s i => abortLocal s i caLastGasp [accDevice (selfId s) syPower]) s

/-- What a last gasp does once it has been triggered: the leave notice, the aborts, the event (R467, R487). -/
def afterTrigger (s : State) (cause : Nat) : State := powerEvent (abortAllHere (sendLeave s 1)) 0x03 noDomain cause

theorem exec_lastGasp_of_riding {cause : GaspCause} {s : State} (hride : s.pwr.inputState = 1)
    (hcause : cause.val = 1 ∨ cause.val = 2) :
    exec (.lastGasp cause) s = .next (afterTrigger (gaspTriggered cause s) cause.val) := by
  have hgo : (s.pwr.inputState != 1 || !(decide (cause.val = 1) || decide (cause.val = 2))) = false := by
    rcases hcause with h | h <;> simp [hride, h]
  have hrecord : gaspRecord (drawFree (gaspTime cause s)).2 (Config.inputSamples s.freeCount).toNat cause.val
      = triggerRecord cause s := gaspRecord_congr rfl rfl _ _
  refine congrArg Host.Outcome.next ?_
  unfold effLastGasp gaspTriggered
  dsimp only
  rw [if_neg (Bool.eq_false_iff.mp hgo), timeTo_rideEnd_eq_gaspTime, ← hrecord]
  rfl

/-! ### The record (R518) -/

theorem openCount_lt (s : State) : openCount s < 2 ^ 7 :=
  Nat.lt_of_le_of_lt (List.length_filter_le _ _) (by rw [List.length_range]; decide)

theorem sealedMask_lt (s : State) : sealedMask s < 2 ^ 64 :=
  foldl_orBit_lt (Nat.two_pow_pos 64) fun _ hi => List.mem_range.mp (List.mem_filter.mp hi).1

/-- The fields of a last-gasp record (R518). -/
def gaspFields (s : State) (samples cause : Nat) : List (Nat × Nat) :=
  [(64, s.time), (320, samples), (8, cause), (7, openCount s), (1, 0), (64, sealedMask s), (48, 0)]

theorem gaspRecord_toNat (s : State) (samples cause : Nat) :
    (gaspRecord s samples cause).toNat = packFields (gaspFields s samples cause) :=
  toNat_packFields (fs := gaspFields s samples cause) rfl

theorem gaspRecord_time (s : State) (samples cause : Nat) :
    bitsOf (gaspRecord s samples cause).toNat 0 64 = s.time % 2 ^ 64 := by
  rw [gaspRecord_toNat]
  exact bitsOf_packFields [] _ 64 s.time

theorem gaspRecord_cause (s : State) (samples : Nat) (cause : GaspCause) :
    bitsOf (gaspRecord s samples cause.val).toNat 384 8 = cause.val := by
  rw [gaspRecord_toNat]
  exact (bitsOf_packFields [(64, s.time), (320, samples)] _ 8 cause.val).trans (Nat.mod_eq_of_lt (by omega))

theorem gaspRecord_open (s : State) (samples cause : Nat) :
    bitsOf (gaspRecord s samples cause).toNat 392 7 = openCount s := by
  rw [gaspRecord_toNat]
  exact (bitsOf_packFields [(64, s.time), (320, samples), (8, cause)] _ 7 (openCount s)).trans
    (Nat.mod_eq_of_lt (openCount_lt s))

theorem gaspRecord_sealed (s : State) (samples cause : Nat) :
    bitsOf (gaspRecord s samples cause).toNat 400 64 = sealedMask s := by
  rw [gaspRecord_toNat]
  exact (bitsOf_packFields [(64, s.time), (320, samples), (8, cause), (7, openCount s), (1, 0)] _ 64 (sealedMask s)).trans
    (Nat.mod_eq_of_lt (sealedMask_lt s))

/-! ### What follows the trigger -/

theorem kept_abortAllHere {W : Nat} {s0 s : State} (hW : 110690306250114692 &&& W = 110690306250114692) (h : Kept W s0 s) :
    Kept W s0 (abortAllHere s) :=
  kept_foldl h fun _ _ h => kept_abortLocal hW h

theorem abortAllHere_step (s : State) {k : Nat} (hk : k < 64) :
    AbortedHere caLastGasp (getSlot s k).step (getSlot (abortAllHere s) k).step :=
  (foldl_abortLocal_step caLastGasp (fun s => [accDevice (selfId s) syPower]) List.nodup_range s k).2 (List.mem_range.mpr hk)

theorem sent_abortAllHere {o : List Emit} {s : State} (h : o <+: s.out) : o <+: (abortAllHere s).out :=
  sent_foldl (fun s i h => sent_abortLocal i caLastGasp [accDevice (selfId s) syPower] h) (List.range 64) h

theorem kept_afterTrigger {W : Nat} (hW : 110690306250118788 &&& W = 110690306250118788) (s : State) (cause : Nat) :
    Kept W s (afterTrigger s cause) :=
  kept_powerEvent (msub hW) (kept_abortAllHere (msub hW) (kept_sendLeave (msub hW) (kept_refl W s)))

theorem afterTrigger_time (s : State) (cause : Nat) : (afterTrigger s cause).time = s.time :=
  same_of_kept (kept_afterTrigger (W := allBut .time) (by decide) s cause) .time

theorem afterTrigger_pwr (s : State) (cause : Nat) : (afterTrigger s cause).pwr = s.pwr :=
  same_of_kept (kept_afterTrigger (W := allBut .pwr) (by decide) s cause) .pwr

theorem afterTrigger_sent (s : State) (cause : Nat) : s.out ++ leavesSent s 1 <+: (afterTrigger s cause).out := by
  have hleave : s.out ++ leavesSent s 1 <+: (sendLeave s 1).out :=
    ⟨[], (List.append_nil _).trans (sendLeave_out s 1).symm⟩
  exact sent_powerEvent _ _ _ (sent_abortAllHere hleave)

theorem afterTrigger_aborts (s : State) (cause : Nat) : AllDryFitsAborted s (afterTrigger s cause) caLastGasp := by
  intro k hk
  have hleave : (getSlot (sendLeave s 1) k).step = (getSlot s k).step :=
    same_of_kept (kept_sendLeave (W := allBut .slotStep) (by decide) (kept_refl _ s)) .slotStep rfl k
  have hevent : (getSlot (afterTrigger s cause) k).step = (getSlot (abortAllHere (sendLeave s 1)) k).step :=
    same_of_kept (kept_powerEvent (W := allBut .slotStep) (by decide) (kept_refl _ _)) .slotStep rfl k
  rw [hevent, ← hleave]
  exact abortAllHere_step (sendLeave s 1) hk

/-- Settles O38: each occurrence of the supply is a lemma above; the last gasp is `exec_lastGasp_of_riding`, and what follows its trigger
leaves device time and the always-on block, begins with the leave notice and aborts every DRY_FIT step. The length of a dropout and the
states that an occurrence leaves alone are the model's choices (log entries 6, 87, 88). -/
theorem supplyLossIsRiddenThrough : Obligations.SupplyLossIsRiddenThrough := by
  unfold Obligations.SupplyLossIsRiddenThrough
  intro s cause
  refine ⟨fun hnormal => ⟨_, exec_inputDropout_of_normal hnormal, rfl⟩, exec_inputDropout_of_not_normal,
    fun hride hclosed htime => ⟨_, exec_inputRecover_in_time hride hclosed htime, powerEvent_modPwr s _ _ _ _⟩,
    fun hlate => ⟨exec_inputRecover_stays fun _ => hlate, exec_surgeClose_stays fun _ => hlate⟩, fun hgasp => ?_,
    fun hclosed hnormal => ⟨_, exec_surgeOpen_of_normal hclosed hnormal, rfl⟩,
    fun hopen hride htime => ⟨_, exec_surgeClose_in_time hopen hride htime, powerEvent_modPwr s _ _ _ _⟩, fun hride hcause => ?_⟩
  · have hnot : s.pwr.inputState ≠ 1 := by rw [hgasp]; decide
    exact ⟨exec_inputRecover_stays fun h => absurd h hnot, exec_surgeClose_stays fun h => absurd h hnot,
      exec_lastGasp_of_not_riding cause hnot⟩
  · obtain ⟨l, hout⟩ := afterTrigger_sent (gaspTriggered cause s) cause.val
    rw [leavesSent_congr rfl rfl rfl] at hout
    have htime : (afterTrigger (gaspTriggered cause s) cause.val).time = (gaspTime cause s).time := afterTrigger_time _ _
    exact ⟨_, triggerRecord cause s, exec_lastGasp_of_riding hride hcause, htime, afterTrigger_pwr _ _,
      (gaspRecord_time _ _ _).trans (congrArg (· % 2 ^ 64) htime.symm), gaspRecord_cause _ _ _, gaspRecord_open _ _ _,
      gaspRecord_sealed _ _ _, afterTrigger_aborts (gaspTriggered cause s) cause.val, l, hout.symm⟩

end Sys2Proof.Proofs
end
